-- ==== Sys2Proof/Word.lean ====
section
/-! DEFINITION. The numbers of things in the part (00_scope.md section 5.2), bytes and 16-bit frame words. -/

namespace Sys2Proof

/-- One byte of a port frame or a dock-line frame. -/
abbrev Byte := BitVec 8

/-- A two-byte number of a frame (R188: most significant byte first). -/
abbrev Half := BitVec 16

/-- The 64-bit identity a tablet reports (R2). -/
abbrev TabletId := BitVec 64

/-- The index of a roster record, 0 to 63 (R1). -/
abbrev RecordIx := Fin 64

/-- A bay number, 0 to 35 (R25). -/
abbrev BayNo := Fin 36

/-- A lane number, 0 to 3 (R114). -/
abbrev LaneNo := Fin 4

/-- A latch drive slot, 0 or 1 (R136). -/
abbrev SlotNo := Fin 2

/-- A Key Table entry number, 0 to 7 (R156). -/
abbrev KeyIx := Fin 8

/-- A Period Table entry number, 0 to 15 (R170). -/
abbrev PeriodIx := Fin 16

/-- An event source number, 0 to 17 (R181). -/
abbrev SourceNo := Fin 18

/-- A minute of day, 0 to 1439 (R168). -/
abbrev Minute := Fin 1440

/-- A day of week, 0 to 6 (R168). -/
abbrev Day := Fin 7

/-- A dock-line rate step, 0 to 3 (R46). -/
abbrev RateStep := Fin 4

/-- A sample tap within a dock-line bit, 0 to 31 (R46). -/
abbrev Tap := Fin 32

end Sys2Proof
end

