-- ==== Sys2Proof/Config.lean ====
section
/-! DEFINITION. What the manual fixes once for the part: identity bytes, patterns and the durations in whole seconds.
No value of the manual is left undefined for an operation that goes on, so there is no opaque constant here. -/

namespace Sys2Proof.Config

/-- The class marker of a cart tablet (R30, R193). -/
def classMarker : Byte := 0xD7

/-- The fixed eight-byte training pattern of TRAIN (R193), first byte most significant. -/
def trainingPattern : BitVec 64 := 0x55AA0FF033CC6996

/-- SELF_TEST's pass pattern, family identity and revision identity (R179). -/
def selfTestData : List Byte := [0xA5, 0x5A, 0xC3, 0x3C, 0x0C, 0x36, 0x01]

/-- The learn timer, in seconds (R157). -/
def learnSeconds : Nat := 30

/-- The lockout timer, in seconds (R161). -/
def lockoutSeconds : Nat := 120

/-- The tap in the middle of the bit, used until a sweep chooses another (R46, R50). -/
def middleTap : Tap := 16

/-- The span of the deadline search and of the window look back, in minutes (R173, R174). -/
def weekMinutes : Nat := 10080

/-- The longest parameter list of a request frame (R178, R190). -/
def maxParameters : Nat := 60

end Sys2Proof.Config
end

