-- ==== Sys2Proof/Syntax.lean ====
section
/-! DEFINITION. The commands of the part: one constructor of Instr per row of spec/opcode_table.json, with the operands
the rule of that row names. A request carries its parameters as its frame carries them (R188): an index is a byte and
may be out of range, an enumeration is a byte and may name nothing, an optional field is an Option (the port has judged
its presence byte), a mark is a Bool (the port has judged its byte). -/

namespace Sys2Proof

/-- The parameters of ENROL (R14). A holder tag of 0 stands for none. -/
structure EnrolParams where
  tabletId : TabletId
  initial : Byte
  holder : Half
  homeBay : Option Byte
  target : Option Half
  readyBy : Option Half
  profileTarget : Byte
  flags : Byte
deriving DecidableEq, Repr

/-- FILL's template (R20, R188): an absent field is not selected; ready-by and home bay may be selected as absent. -/
structure FillTemplate where
  target : Option Half
  readyBy : Option (Option Half)
  homeBay : Option (Option Byte)
  profileTarget : Option Byte
  flags : Option Byte
deriving DecidableEq, Repr

/-- The five values of a LINK_SETTINGS write (R51); the tap offset is a signed byte (R188). -/
structure LinkSettingsParams where
  maxStep : Byte
  minWindow : Byte
  tapOffset : Byte
  retrainInterval : Byte
  telemetryInterval : Half
deriving DecidableEq, Repr

/-- The eleven values of a BUDGET_SETTINGS write (R69). -/
structure BudgetSettingsParams where
  supplyRating : Half
  foldback : Half
  overhead : Half
  floorF : Half
  deliveryK : Byte
  bayCeiling : Half
  defaultTarget : Half
  checkoutMinimum : Half
  wakeReserve : Half
  driveReserve : Half
  foreignPolicy : Byte
deriving DecidableEq, Repr

/-- The three values of a LANE_SETTINGS write (R112). -/
structure LaneSettingsParams where
  failureLimit : Byte
  sessionLimit : Byte
  windowPolicy : Byte
deriving DecidableEq, Repr

/-- The five values of a CUSTODY_SETTINGS write (R128). -/
structure CustodySettingsParams where
  authority : Byte
  autoLock : Byte
  teacherLength : Half
  serviceLength : Half
  releaseLength : Half
deriving DecidableEq, Repr

/-- The three values of a KEY_SETTINGS write (R153). -/
structure KeySettingsParams where
  invert : Byte
  period : Byte
  gapLimit : Byte
deriving DecidableEq, Repr

/-- The parameters of SET_KEY (R159). -/
structure SetKeyParams where
  role : Byte
  depth : Byte
  tolerance : Byte
  ignored : List Byte
deriving DecidableEq, Repr

/-- What SET_PERIOD WRITE takes beside the entry index and the operation (R171). -/
structure PeriodParams where
  minute : Half
  days : Byte
  kind : Byte
deriving DecidableEq, Repr

/-- What the part reads back in LINE_TEST's four checks (R67), true for a high reading: the clock driven high, the clock
driven low, the data line released, the data line driven low. -/
structure LineReadings where
  clockHigh : Bool
  clockLow : Bool
  dataReleased : Bool
  dataLow : Bool
deriving DecidableEq, Repr

/-- The payload of an IDENT reply as it came, before clamping (R48, R193). -/
structure IdentReply where
  classMarker : Byte
  classVersion : Byte
  tabletId : TabletId
  capacity : Half
  acceptance : Half
  maxStep : Byte
  profileHeld : Byte
  charge : Half
deriving DecidableEq, Repr

/-- The payload of a TELEMETRY reply as it came, before clamping (R48, R193); the temperature is a signed byte. -/
structure TelemetryReply where
  charge : Half
  temperature : Byte
  profileHeld : Byte
deriving DecidableEq, Repr

/-- The commands of the part, one per row of spec/opcode_table.json. -/
inductive Instr where
  /-- RESET_N or power-on (R24); the straps are sampled at it, STRAP1 the more significant (R26). -/
  | coldReset (straps : BitVec 2)
  /-- The assertion of CS_N (R177). -/
  | csNAsserted
  /-- A transaction that carries no request: no byte, or a first byte of 0 (R178). -/
  | emptyTransaction (shifted : List Byte)
  /-- A transaction whose frame the port refuses (R178). -/
  | malformedRequest (shifted : List Byte)
  | enrol (p : EnrolParams)
  | find (tabletId : TabletId)
  | readRecord (index : Byte)
  | list (custody : Byte) (start : Byte)
  /-- AMEND's value is a presence and a two-byte number, whatever the field (R188). -/
  | amend (index : Byte) (field : Byte) (value : Option Half)
  | flagSwap (index : Byte) (flags : Byte)
  | flagAnd (index : Byte) (flags : Byte)
  | flagOr (index : Byte) (flags : Byte)
  | fill (first : Byte) (count : Byte) (template : FillTemplate)
  | hold (index : Byte)
  | unhold (index : Byte)
  | retire (index : Byte)
  | bayDisable (bay : Byte)
  | bayEnable (bay : Byte)
  | readBay (bay : Byte)
  | linkSettings (p : Option LinkSettingsParams)
  | linkReset (bay : Byte)
  | lineTest (bay : Byte) (readings : LineReadings)
  | budgetSettings (p : Option BudgetSettingsParams)
  | budgetRead (bay : Option Byte)
  | laneSettings (p : Option LaneSettingsParams)
  | laneDone (lane : Byte) (claimed : Byte)
  | laneCancel (lane : Byte)
  | laneRead
  | queueRead (start : Byte)
  | custodySettings (p : Option CustodySettingsParams)
  | checkout (index : Byte) (holder : Half) (preempt : Bool) (overrideMinimum : Bool)
  | cancelRelease (index : Byte)
  | latch (bay : Byte) (direction : Byte)
  | custodyRead (start : Byte)
  | keySettings (p : Option KeySettingsParams)
  | learnKey (entry : Byte) (role : Byte) (tolerance : Byte)
  | setKey (entry : Byte) (p : SetKeyParams)
  | eraseKey (entry : Byte)
  | keyRead (entry : Byte)
  | setTime (minute : Half) (day : Byte)
  | setPeriod (entry : Byte) (operation : Byte) (p : Option PeriodParams)
  | clockRead
  | periodRead
  | selfTest
  | partReset
  | eventSummary
  | eventRead (source : Byte)
  | eventAck (source : Byte) (subjects : BitVec 64)
  | eventEnable (enables : Option (BitVec 24))
  /-- The raw contact signal of a bay changes to present or absent (R27). -/
  | rawContactChange (bay : BayNo) (present : Bool)
  | contactArrival (bay : BayNo)
  | contactLoss (bay : BayNo)
  | restEnd (bay : BayNo)
  | identTaken (bay : BayNo) (reply : IdentReply)
  /-- An ECHO with its eight payload bytes, the first most significant (R55). -/
  | echoTaken (bay : BayNo) (payload : BitVec 64)
  | telemetryTaken (bay : BayNo) (reply : TelemetryReply)
  | ackTaken (bay : BayNo)
  | nakTaken (bay : BayNo) (reason : Byte)
  /-- A reply that fails its exchange, with the bytes that came (R47). -/
  | badFrame (bay : BayNo) (reply : List Byte)
  | replyTimeout (bay : BayNo)
  | pollInstant (bay : BayNo)
  | supplyLimitChange (asserted : Bool)
  /-- A settled report naming the setpoint the stage has reached (R96). -/
  | settledReport (bay : BayNo) (value : Half)
  | settleTimeout (bay : BayNo)
  | stageFaultSignal (bay : BayNo)
  | energyAccountingTick
  | wakeTimeout (lane : LaneNo)
  | sessionTimeout (lane : LaneNo)
  | teacherWindowExpiry
  | serviceWindowExpiry
  | serviceInputChange (asserted : Bool)
  | serviceEdge
  | releaseWindowExpiry (bay : BayNo)
  /-- The levels of a bay's two position switches after a change of either, true for closed (R134). -/
  | latchSwitchChange (bay : BayNo) (locked : Bool) (unlocked : Bool)
  | driveTimeout (slot : SlotNo)
  | irinEdge (high : Bool)
  /-- The change that ends a stretch is confirmed; the operand is the ended stretch's duration in nanoseconds (R154). -/
  | stretchTaken (durationNs : Nat)
  | gapReached
  | learnTimeout
  | lockoutExpiry
  | minuteStep
  | secondsCountTick
deriving DecidableEq, Repr

end Sys2Proof
end

