-- ==== Sys2Proof/Machine/State.lean ====
section
/-! DEFINITION. Every piece of state the manual gives the part, as plain data, and its value right after reset.
The constructors of each enumeration stand in the order in which the rule that defines the field lists its values, so
that ctorIdx is the code the frames carry (R188). INVENTORY.md lists each field with its rule and reset value. -/

namespace Sys2Proof.Machine

/-- The nine custody states (R2, R8). -/
inductive CustodyState where
  | free | away | inCart | releasing | loaned | overdue | adrift | held | retiring
deriving DecidableEq, Repr

/-- Why a record is HELD (R2, R9). -/
inductive HoldReason where
  | collision | link | host
deriving DecidableEq, Repr

/-- How a tablet left without a release (R2, R141). -/
inductive AdriftReason where
  | forced | service
deriving DecidableEq, Repr

/-- A roster record (R2). Its host flags are one byte, bits as in byte 28 of the record image (R191). -/
structure Record where
  custody : CustodyState
  tabletId : TabletId
  homeBay : Option BayNo
  currentBay : Option BayNo
  holder : Option Nat
  target : Nat
  readyBy : Option Minute
  lastCharge : Option Nat
  lastTemp : Option Int
  capacity : Option Nat
  acceptance : Option Nat
  profileTarget : Byte
  profileHeld : Option Byte
  flags : Byte
  failureCount : Nat
  provStuck : Bool
  unsecured : Bool
  orderUndelivered : Bool
  misplaced : Bool
  holdReason : Option HoldReason
  adriftReason : Option AdriftReason
  energy : Nat
deriving DecidableEq, Repr

/-- The FREE image of R1. -/
def Record.freeImage : Record where
  custody := .free
  tabletId := 0
  homeBay := none
  currentBay := none
  holder := none
  target := 900
  readyBy := none
  lastCharge := none
  lastTemp := none
  capacity := none
  acceptance := none
  profileTarget := 0
  profileHeld := none
  flags := 0
  failureCount := 0
  provStuck := false
  unsecured := false
  orderUndelivered := false
  misplaced := false
  holdReason := none
  adriftReason := none
  energy := 0

/-- The bay states (R25). -/
inductive BayState where
  | disabled | empty | bringup | identified | foreign | collided | fault
deriving DecidableEq, Repr

/-- Why a bay is FOREIGN (R25, R30). -/
inductive ForeignCause where
  | unknownId | badClass
deriving DecidableEq, Repr

/-- Why a bay is in FAULT (R25). -/
inductive FaultReason where
  | link | output
deriving DecidableEq, Repr

/-- The latch positions (R134). -/
inductive LatchPosition where
  | locked | unlocked | moving | unknown
deriving DecidableEq, Repr

/-- The charge states (R95, R106). -/
inductive ChargeState where
  | off | waiting | charging | topped | pausedHot | cut
deriving DecidableEq, Repr

/-- The lamp patterns, in the order of R25. -/
inductive Lamp where
  | off | green | greenBlink | amber | blueBlink | whiteBlink | red
deriving DecidableEq, Repr

/-- A bay entry (R25), but for the link context, the output state and the allocation entry, which stand in tables of
their own. The arrival timer of R27 runs exactly while contact is clear and rawContact set, the departure timer exactly
while contact is set and rawContact clear (in a populated bay); rawContact and the two switches are input levels. -/
structure Bay where
  populated : Bool
  state : BayState
  hostDisabled : Bool
  contact : Bool
  rawContact : Bool
  record : Option RecordIx
  reportedId : Option TabletId
  foreignCause : Option ForeignCause
  partner : Option BayNo
  faultReason : Option FaultReason
  recovery : Bool
  latch : LatchPosition
  lockedSwitch : Bool
  unlockedSwitch : Bool
  grant : Nat
  lane : Option LaneNo
  lamp : Lamp
deriving DecidableEq, Repr

/-- The link states (R50). -/
inductive LinkState where
  | down | rest | helloWait | training | up | failed
deriving DecidableEq, Repr

/-- The orders of the custody slot (R48, R62). -/
inductive CustodyOrder where
  | lock | release (holder : Nat)
deriving DecidableEq, Repr

/-- The orders of the lane slot (R48, R62). -/
inductive LaneOrder where
  | wake (lane : LaneNo) | quiet
deriving DecidableEq, Repr

/-- An order slot (R62): the order awaiting delivery, the order carried by the exchange in progress, and whether the
waiting order is due to be sent now (newly placed, or retried at a poll instant or an entry to UP) or waits for the
next poll instant (R58, R63). -/
structure Slot (α : Type) where
  waiting : Option α
  inFlight : Option α
  due : Bool
deriving DecidableEq, Repr

/-- The exchange in progress on a link (R47, R48). -/
inductive Exchange where
  | hello | train | query | custodyOrder | laneOrder
deriving DecidableEq, Repr

/-- A training sweep in progress (R55, R60): the first tap that passed, whether the sweep is a retrain sweep, and the
minimum window and the tap offset in force when it began: a write of either acts at the next sweep (R51). -/
structure Sweep where
  start : Option Tap
  retrain : Bool
  minWindow : Nat
  tapOffset : Int
deriving DecidableEq, Repr

/-- A link context (R50), with the exchange and the sweep in progress and the exchanges that are due (R58): the QUERY of an
entry to UP (queryDue), the QUERY of a verification request (verifyDue), and the poll of a poll instant that was taken
(pollDue), which sweepDue makes a retrain sweep. instantPending holds a poll instant that fell during an exchange, with
the retrain interval in force when it fell (R51). -/
structure Link where
  state : LinkState
  step : RateStep
  ceiling : RateStep
  advertised : Option RateStep
  tap : Tap
  window : Option (Tap × Tap)
  helloAttempts : Nat
  failedExchanges : Nat
  failedBringups : Nat
  retrain : Nat
  pollRunning : Bool
  pollLast : Nat
  verify : Bool
  custody : Slot CustodyOrder
  lane : Slot LaneOrder
  exchange : Option Exchange
  sweep : Option Sweep
  queryDue : Bool
  verifyDue : Bool
  pollDue : Bool
  sweepDue : Bool
  instantPending : Option Nat
deriving DecidableEq, Repr

/-- The down values of R50. -/
def Link.downValues : Link where
  state := .down
  step := 0
  ceiling := 3
  advertised := none
  tap := Config.middleTap
  window := none
  helloAttempts := 0
  failedExchanges := 0
  failedBringups := 0
  retrain := 0
  pollRunning := false
  pollLast := 0
  verify := false
  custody := ⟨none, none, false⟩
  lane := ⟨none, none, false⟩
  exchange := none
  sweep := none
  queryDue := false
  verifyDue := false
  pollDue := false
  sweepDue := false
  instantPending := none

/-- The link settings (R51). -/
structure LinkSettings where
  maxStep : RateStep
  minWindow : Nat
  tapOffset : Int
  retrainInterval : Nat
  telemetryInterval : Nat
deriving DecidableEq, Repr

/-- The link settings after a cold reset (R51). -/
def LinkSettings.defaults : LinkSettings := ⟨2, 4, 0, 32, 10⟩

/-- The foreign policy (R69). -/
inductive ForeignPolicy where
  | off | floor
deriving DecidableEq, Repr

/-- The eleven budget settings (R69). -/
structure BudgetSettings where
  supplyRating : Nat
  foldback : Nat
  overhead : Nat
  floorF : Nat
  deliveryK : Nat
  bayCeiling : Nat
  defaultTarget : Nat
  checkoutMinimum : Nat
  wakeReserve : Nat
  driveReserve : Nat
  foreignPolicy : ForeignPolicy
deriving DecidableEq, Repr

/-- The budget settings after a cold reset (R69). -/
def BudgetSettings.defaults : BudgetSettings := ⟨6000, 3000, 150, 15, 110, 450, 900, 300, 40, 50, .floor⟩

/-- The temperature bands (R74). -/
inductive Band where
  | normal | derated
deriving DecidableEq, Repr

/-- What a pass made of a bay (R73, R79). -/
inductive Disposition where
  | full | floor | topped | hot | out | none
deriving DecidableEq, Repr

/-- A bay's allocation entry (R73). -/
structure AllocEntry where
  hot : Bool
  chargeSeen : Option Nat
  bandSeen : Option Band
  disposition : Disposition
  limit : Option Nat
  energy : Option Nat
  minutes : Option Nat
  required : Option Nat
  rank : Option Nat
deriving DecidableEq, Repr

/-- An allocation entry after either reset (R73). -/
def AllocEntry.initial : AllocEntry := ⟨false, none, none, .none, none, none, none, none, none⟩

/-- Whose a reservation is (R89): a latch drive slot's or a lane's. -/
inductive Owner where
  | latch (slot : SlotNo) | lane (lane : LaneNo)
deriving DecidableEq, Repr

/-- The states of a reservation (R89). -/
inductive ReservationState where
  | pending | admitted | active
deriving DecidableEq, Repr

/-- An entry of the reservation list (R89). -/
structure Reservation where
  owner : Owner
  amount : Nat
  state : ReservationState
deriving DecidableEq, Repr

/-- What a pass records (R88, R93). -/
inductive PassResult where
  | empty | floorsShort | allMet | scaled
deriving DecidableEq, Repr

/-- The figures of the latest pass (R88, R93): B, n, D, the result, and the bays of the pass granted 0. -/
structure PassFigures where
  budget : Nat
  count : Nat
  demand : Nat
  result : PassResult
  zeroGrants : Nat
deriving DecidableEq, Repr

/-- The phases of the Output Sequencer (R97). IDLE is the allocator's pass state IDLE, the other two are APPLYING. -/
inductive Phase where
  | idle | decreasing | increasing
deriving DecidableEq, Repr

/-- A bay's output state (R95). The settle timer runs exactly while inMotion is set. -/
structure Output where
  closed : Bool
  issued : Nat
  settled : Nat
  inMotion : Bool
  target : Option Nat
  charge : ChargeState
  remainder : Nat
deriving DecidableEq, Repr

/-- An output state after either reset (R108). -/
def Output.initial : Output := ⟨false, 0, 0, false, none, .off, 0⟩

/-- The window policy (R112). -/
inductive WindowPolicy where
  | always | period
deriving DecidableEq, Repr

/-- The lane settings (R112). -/
structure LaneSettings where
  failureLimit : Nat
  sessionLimit : Nat
  windowPolicy : WindowPolicy
deriving DecidableEq, Repr

/-- The lane settings after a cold reset (R112). -/
def LaneSettings.defaults : LaneSettings := ⟨3, 30, .period⟩

/-- The states of a lane session but IDLE (R114). The WAKE timer runs exactly in WAKING, and the session timer exactly
in CONNECTED, where its limit in minutes stands; the claimed generation stands in CLOSING. -/
inductive SessionPhase where
  | admitting | waking | connected (limit : Nat) | closing (claimed : Byte)
deriving DecidableEq, Repr

/-- A lane session that is not IDLE (R114). -/
structure Session where
  phase : SessionPhase
  bay : BayNo
  record : RecordIx
  sought : Byte
  started : Option (Minute × Day)
deriving DecidableEq, Repr

/-- The results of a lane session (R114). -/
inductive SessionResult where
  | success | mismatch | timedOut | wakeFailed | unverified | aborted | cancelled | preempted
deriving DecidableEq, Repr

/-- The fields of a lane's last session (R114). -/
structure LastSession where
  result : SessionResult
  record : RecordIx
  claimed : Option Byte
deriving DecidableEq, Repr

/-- A lane (R114): its session (none is IDLE), its last session, and the bay its switch is closed to (R115). -/
structure Lane where
  session : Option Session
  last : Option LastSession
  switch : Option BayNo
deriving DecidableEq, Repr

/-- The authority modes (R128). -/
inductive Authority where
  | host | key
deriving DecidableEq, Repr

/-- The custody settings (R128); lengths in seconds. -/
structure CustodySettings where
  authority : Authority
  autoLock : Bool
  teacherLength : Nat
  serviceLength : Nat
  releaseLength : Nat
deriving DecidableEq, Repr

/-- The custody settings after a cold reset (R128). -/
def CustodySettings.defaults : CustodySettings := ⟨.host, true, 120, 300, 60⟩

/-- A custody window that is open (R130, R131): the CLK32 second of its expiry, and, while an expiry that the latest restart
has overtaken may still be on its way, the CLK32 second of that restart (notes/assumptions/3.md). -/
structure Window where
  expiry : Nat
  restartedAt : Option Nat
deriving DecidableEq, Repr

/-- The directions of a latch request (R135). -/
inductive Direction where
  | lock | unlock
deriving DecidableEq, Repr

/-- A latch request (R135). -/
structure LatchRequest where
  bay : BayNo
  direction : Direction
deriving DecidableEq, Repr

/-- A drive slot (R136). The 600 ms drive timer runs exactly in DRIVING (R137). -/
inductive DriveSlot where
  | free | reserving (request : LatchRequest) | driving (request : LatchRequest)
deriving DecidableEq, Repr

/-- The outcome of a release's RELEASE order (R142). -/
inductive OrderOutcome where
  | waiting | delivered | refused
deriving DecidableEq, Repr

/-- The phases of a release (R142). The expiry of an OPEN release is a CLK32 second. -/
inductive ReleasePhase where
  | unlocking | opened (expiry : Nat) (outcome : OrderOutcome)
deriving DecidableEq, Repr

/-- A release entry (R142). -/
structure Release where
  record : RecordIx
  phase : ReleasePhase
deriving DecidableEq, Repr

/-- The roles of a key (R156). -/
inductive KeyRole where
  | teacher | technician
deriving DecidableEq, Repr

/-- A sample: MARK or SPACE and a length of 1 to 127 sample periods (R154). -/
structure Sample where
  mark : Bool
  length : Nat
deriving DecidableEq, Repr

/-- The state of a Key Table entry with the fields present in it (R156). The learn timer's expiry is a CLK32 second. -/
inductive KeyState where
  | empty
  | learning (role : KeyRole) (tolerance : Nat) (expiry : Nat)
  | valid (role : KeyRole) (pattern : List Sample) (depth : Nat) (tolerance : Nat) (ignored : List Nat)
deriving DecidableEq, Repr

/-- The last learn results (R156). -/
inductive LearnResult where
  | learned | tooLong | timedOut | erased
deriving DecidableEq, Repr

/-- A Key Table entry (R156). -/
structure KeyEntry where
  state : KeyState
  lastResult : Option LearnResult
deriving DecidableEq, Repr

/-- The sample periods (R153). -/
inductive SamplePeriod where
  | us20 | us50 | us100 | us200
deriving DecidableEq, Repr

/-- The states of the burst logic (R155). -/
inductive BurstState where
  | waitingGap | idle | inBurst
deriving DecidableEq, Repr

/-- To whom the burst in progress is handed (R155). -/
inductive Taker where
  | learner | matcher
deriving DecidableEq, Repr

/-- The Key Receiver (chapter 8): settings (R153), the input (R154), the burst logic (R155), the matcher (R161) and the
Key Table (R156). A change of level awaits its confirmation exactly while irinHigh differs from stretchHigh. samples
holds what the learner has taken of the burst in progress. The lockout's end is a CLK32 second. gapOvertaken is the model's
own: KEY_SETTINGS has changed the measurement, or raised the gap limit, during the SPACE in progress (R153) while the SPACE's
GAP_REACHED waited to be taken, which thus fell under the settings before (R167; DESIGN CHOICE, notes/assumptions/3.md). -/
structure Receiver where
  invert : Bool
  period : SamplePeriod
  gapLimit : Nat
  irinHigh : Bool
  stretchHigh : Bool
  burst : BurstState
  gapOvertaken : Bool
  count : Nat
  taker : Option Taker
  samples : List Sample
  candidates : List KeyIx
  judged : Bool
  matched : Bool
  failures : Nat
  lockout : Option Nat
  entries : Vector KeyEntry 8
deriving DecidableEq, Repr

/-- The kinds of a Period Table entry (R170). -/
inductive PeriodKind where
  | deadline | provOpen | provClose | loanDue
deriving DecidableEq, Repr

/-- A VALID Period Table entry (R170); bit d of the day mask is day d (R188). -/
structure PeriodEntry where
  minute : Minute
  days : BitVec 7
  kind : PeriodKind
deriving DecidableEq, Repr

/-- The Day Clock (R168, R173) with its Period Table (R170; none is EMPTY). -/
structure DayClock where
  seconds : Fin 60
  minute : Minute
  day : Day
  timeValid : Bool
  windowOpen : Bool
  periods : Vector (Option PeriodEntry) 16
deriving DecidableEq, Repr

/-- The statuses of a response (section 10.2). -/
inductive Status where
  | done | accepted | clamped | badRequest | badIndex | outOfRange | wrongState | duplicate | full | notFound
  | notAuthorised | lowCharge | laneActive | wrongBay | stale
deriving DecidableEq, Repr

/-- The response buffer (R177, R190). The attention summary byte is absent until the assertion of CS_N fills it in. -/
structure Response where
  status : Status
  attention : Option Byte
  data : List Byte
deriving DecidableEq, Repr

/-- The Command Port (chapter 10): the response buffer, the subject sets and enables of the 18 sources (R182; bit m of a
set is member m), and the level of ATTN (R183). -/
structure Port where
  response : Response
  subjects : Vector (BitVec 64) 18
  enables : BitVec 18
  attn : Bool
deriving DecidableEq, Repr

/-- The whole part. clk32, reallocRequest and pending are the model's own fields: the whole seconds counted against CLK32
since the cold reset, those of ENERGY_ACCOUNTING_TICK (R107; DESIGN CHOICE, notes/assumptions/2.md), a reallocation request
raised in the present change and not yet served (R75, R76), and the queue of commands waiting. -/
structure State where
  roster : Vector Record 64
  bays : Vector Bay 36
  links : Vector Link 36
  linkSettings : LinkSettings
  budget : BudgetSettings
  supplyLimit : Bool
  effective : Nat
  passPending : Bool
  figures : PassFigures
  entries : Vector AllocEntry 36
  reservations : List Reservation
  phase : Phase
  outputs : Vector Output 36
  laneSettings : LaneSettings
  laneWindow : Bool
  queue : List RecordIx
  lanes : Vector Lane 4
  custodySettings : CustodySettings
  teacher : Option Window
  service : Option Window
  serviceInput : Bool
  serviceLevel : Bool
  latchQueue : List LatchRequest
  slots : Vector DriveSlot 2
  releases : Vector (Option Release) 36
  keys : Receiver
  clock : DayClock
  port : Port
  clk32 : Nat
  reallocRequest : Bool
  pending : List Instr
deriving DecidableEq, Repr

/-- The part has no fault: whatever command comes, the manual gives its effect. No constructor. -/
inductive Fault where
deriving DecidableEq, Repr

/-- Why a command has no meaning. -/
inductive Refusal where
  /-- Raised by an arm of exec whose command has no meaning yet; no arm answers it now. Safe: the machine stops. -/
  | notModelled (mnemonic : String)
deriving DecidableEq, Repr

/-- A bay entry after a reset that finds the given populated mark, raw contact, latch position and switches (R45). -/
def Bay.afterReset (populated rawContact lockedSwitch unlockedSwitch : Bool) (latch : LatchPosition) : Bay where
  populated := populated
  state := if populated then .empty else .disabled
  hostDisabled := false
  contact := false
  rawContact := rawContact
  record := none
  reportedId := none
  foreignCause := none
  partner := none
  faultReason := none
  recovery := false
  latch := latch
  lockedSwitch := lockedSwitch
  unlockedSwitch := unlockedSwitch
  grant := 0
  lane := none
  lamp := .off

/-- The Key Receiver after a cold reset with IRIN at the given level (R153, R155, R156, R161). DESIGN CHOICE: that level is
the level of the stretch in progress at once, and no change awaits its confirmation (R154; notes/assumptions/18.md). -/
def Receiver.afterReset (irinHigh : Bool) : Receiver where
  invert := false
  period := .us100
  gapLimit := 60
  irinHigh := irinHigh
  stretchHigh := irinHigh
  burst := .waitingGap
  gapOvertaken := false
  count := 0
  taker := none
  samples := []
  candidates := []
  judged := false
  matched := false
  failures := 0
  lockout := none
  entries := Vector.replicate 8 ⟨.empty, none⟩

/-- The Day Clock and Period Table after a cold reset (R168, R170, R173). -/
def DayClock.initial : DayClock := ⟨0, 0, 0, false, false, Vector.replicate 16 none⟩

/-- The Command Port after a cold reset (R180): the empty response, every set empty, every enable clear. -/
def Port.initial : Port := ⟨⟨.done, none, []⟩, Vector.replicate 18 0, 0, false⟩

/-- The part right after a cold reset (R24, R45, R50, R51, R69, R75, R108, R110, R112, R114, R128 to R136, R142, R153 to
R161, R168 to R173, R180). DESIGN CHOICE, unsafe: the levels of the input pins (strap value 0, no contact, position
switches open, SUPPLY_LIMIT and SERVICE deasserted, IRIN high), notes/assumptions/1.md. -/
def State.reset : State where
  roster := Vector.replicate 64 Record.freeImage
  bays := Vector.ofFn fun b => Bay.afterReset (decide (b.val < 24)) false false false .unknown
  links := Vector.replicate 36 Link.downValues
  linkSettings := LinkSettings.defaults
  budget := BudgetSettings.defaults
  supplyLimit := false
  effective := 5850
  passPending := false
  figures := ⟨0, 0, 0, .empty, 0⟩
  entries := Vector.replicate 36 AllocEntry.initial
  reservations := []
  phase := .idle
  outputs := Vector.replicate 36 Output.initial
  laneSettings := LaneSettings.defaults
  laneWindow := false
  queue := []
  lanes := Vector.replicate 4 ⟨none, none, none⟩
  custodySettings := CustodySettings.defaults
  teacher := none
  service := none
  serviceInput := false
  serviceLevel := false
  latchQueue := []
  slots := Vector.replicate 2 .free
  releases := Vector.replicate 36 none
  keys := Receiver.afterReset true
  clock := DayClock.initial
  port := Port.initial
  clk32 := 0
  reallocRequest := false
  pending := []

end Sys2Proof.Machine
end

