-- ==== Sys2Proof/Machine/Flags.lean ====
section
/-! DEFINITION. The marks the manual keeps equal to a condition (MISPLACED, the lamps, ATTN, the attention summary), the
host flags of a record, and the small reading functions of the enumerations. -/

namespace Sys2Proof.Machine

/-! ## Host flags (R6; bits of record image byte 28, R191) -/

/-- CHARGE_INHIBIT is set. -/
def Record.chargeInhibit (r : Record) : Bool := r.flags.getLsbD 0
/-- URGENT is set. -/
def Record.urgent (r : Record) : Bool := r.flags.getLsbD 1
/-- LOAN_BLOCK is set. -/
def Record.loanBlock (r : Record) : Bool := r.flags.getLsbD 2
/-- PROV_SKIP is set. -/
def Record.provSkip (r : Record) : Bool := r.flags.getLsbD 3
/-- HOME_STRICT is set. -/
def Record.homeStrict (r : Record) : Bool := r.flags.getLsbD 4

/-- A record in any state but FREE is enrolled (R1). -/
def Record.enrolled (r : Record) : Bool := r.custody != .free

/-- A record is docked while its current bay is present (R2). -/
def Record.docked (r : Record) : Bool := r.currentBay.isSome

/-- A record is behind while profile held is present and differs from profile target (R2). -/
def Record.behind (r : Record) : Bool :=
  match r.profileHeld with
  | some g => g != r.profileTarget
  | none => false

/-- The condition MISPLACED is kept equal to (R7). -/
def Record.misplacedNow (r : Record) : Bool :=
  r.homeStrict &&
    match r.homeBay, r.currentBay with
    | some h, some c => h != c
    | _, _ => false

/-- The record with MISPLACED re-evaluated (R7). -/
def Record.remark (r : Record) : Record := { r with misplaced := r.misplacedNow }

/-! ## Temperature bands (R74) -/

/-- The band of a last temperature: DERATED from 45 degrees, NORMAL below or absent (R74). -/
def bandOf : Option Int → Band
  | some t => if 45 ≤ t then .derated else .normal
  | none => .normal

/-- The hot mark after a TELEMETRY of temperature t: set from 55, cleared below 50, kept between (R74). -/
def hotAfter (hot : Bool) (t : Int) : Bool := if 55 ≤ t then true else if t < 50 then false else hot

/-! ## Lamps (R43) -/

/-- The lamp pattern of a bay in the state b, naming a record in custody state c if any, with charge state ch: the
first pattern of R43's list whose condition holds. -/
def lampOf (b : Bay) (c : Option CustodyState) (ch : ChargeState) : Lamp :=
  if b.state = .fault ∨ b.state = .collided ∨ b.state = .foreign ∨ c = some .held then .red
  else if c = some .releasing then .whiteBlink
  else if b.lane.isSome then .blueBlink
  else
    match ch with
    | .waiting | .pausedHot | .cut => .amber
    | .charging => .greenBlink
    | .topped => .green
    | .off => .off

/-- The custody state of the record a bay names (R42, R43). -/
def State.namedCustody (s : State) (b : BayNo) : Option CustodyState :=
  (s.bays[b.val]).record.map fun i => (s.roster[i.val]).custody

/-- The lamp pattern bay b must show (R43). -/
def State.lampFor (s : State) (b : BayNo) : Lamp :=
  lampOf s.bays[b.val] (s.namedCustody b) (s.outputs[b.val]).charge

/-- Every lamp is re-chosen (R43). -/
def State.relamp (s : State) : State :=
  { s with bays := Vector.ofFn fun b => { s.bays[b.val] with lamp := s.lampFor b } }

/-! ## ATTN and the attention summary (R183) -/

/-- A source is non-empty while its set holds a member (R182). -/
def Port.nonEmpty (p : Port) (n : SourceNo) : Bool := p.subjects[n.val] != 0

/-- A source that is both enabled and non-empty (R183). -/
def Port.calling (p : Port) (n : SourceNo) : Bool := p.enables.getLsbD n.val && p.nonEmpty n

/-- ATTN is asserted while at least one source is both enabled and non-empty (R183). -/
def Port.attnNow (p : Port) : Bool := (List.finRange 18).any p.calling

/-- The attention summary: the lowest-numbered calling source, or 0xFF for none (R183, R189). -/
def Port.summary (p : Port) : Byte :=
  match (List.finRange 18).find? p.calling with
  | some n => BitVec.ofNat 8 n.val
  | none => 0xFF

/-- ATTN is re-derived (R183). -/
def Port.reAttn (p : Port) : Port := { p with attn := p.attnNow }

/-- ATTN is re-derived (R183). -/
def State.reAttn (s : State) : State := { s with port := s.port.reAttn }

end Sys2Proof.Machine
end

