-- ==== Sys2Proof/Machine/Operands.lean ====
section
/-! DEFINITION. Every operand form of the requests: numbers that may be out of range, enumerations that may name nothing,
settings that are clamped (R13, R51, R69, R112, R128, R153, R178), and the clamping of tablet replies (R49). -/

namespace Sys2Proof.Machine

/-- A byte as a number below n, or none where it is out of range. -/
def index? (n : Nat) (b : Byte) : Option (Fin n) := if h : b.toNat < n then some ⟨b.toNat, h⟩ else none

/-- A record index, 0 to 63 (R13). -/
def recordIx? : Byte → Option RecordIx := index? 64
/-- A bay number, 0 to 35. -/
def bayNo? : Byte → Option BayNo := index? 36
/-- A lane number, 0 to 3. -/
def laneNo? : Byte → Option LaneNo := index? 4
/-- A Key Table entry, 0 to 7. -/
def keyIx? : Byte → Option KeyIx := index? 8
/-- A Period Table entry, 0 to 15. -/
def periodIx? : Byte → Option PeriodIx := index? 16
/-- An event source, 0 to 17. -/
def sourceNo? : Byte → Option SourceNo := index? 18
/-- A day of week, 0 to 6. -/
def day? : Byte → Option Day := index? 7

/-- A minute of day, 0 to 1439. -/
def minute? (v : Half) : Option Minute := if h : v.toNat < 1440 then some ⟨v.toNat, h⟩ else none

/-- A target charge, 200 to 1000 (R2). -/
def target? (v : Half) : Option Nat := if 200 ≤ v.toNat ∧ v.toNat ≤ 1000 then some v.toNat else none

/-- A populated bay (R18). -/
def State.populatedBay? (s : State) (v : Nat) : Option BayNo :=
  if h : v < 36 then if (s.bays[v]).populated then some ⟨v, h⟩ else none else none

/-- An optional operand: absent, or present with a value the form accepts; none where the value is out of range. -/
def optional? {α β : Type} (form : α → Option β) : Option α → Option (Option β)
  | none => some none
  | some v => (form v).map some

/-! ## Enumerations (R188: coded in the order the defining rule lists them) -/

/-- The value of an enumeration that a byte codes, from the values in order. -/
def enum? {α : Type} (values : List α) (b : Byte) : Option α := values[b.toNat]?

/-- The nine custody states (R2). -/
def custody? : Byte → Option CustodyState :=
  enum? [.free, .away, .inCart, .releasing, .loaned, .overdue, .adrift, .held, .retiring]

/-- LOCK or UNLOCK (R135). -/
def direction? : Byte → Option Direction := enum? [.lock, .unlock]

/-- TEACHER or TECHNICIAN (R156). -/
def keyRole? : Byte → Option KeyRole := enum? [.teacher, .technician]

/-- OFF or FLOOR (R69). -/
def foreignPolicy? : Byte → Option ForeignPolicy := enum? [.off, .floor]

/-- ALWAYS or PERIOD (R112). -/
def windowPolicy? : Byte → Option WindowPolicy := enum? [.always, .period]

/-- HOST or KEY (R128). -/
def authority? : Byte → Option Authority := enum? [.host, .key]

/-- ON or OFF, in the order R128 lists them. -/
def autoLock? : Byte → Option Bool := enum? [true, false]

/-- OFF or ON, in the order R153 lists them. -/
def invert? : Byte → Option Bool := enum? [false, true]

/-- 20, 50, 100 or 200 microseconds (R153). -/
def samplePeriod? : Byte → Option SamplePeriod := enum? [.us20, .us50, .us100, .us200]

/-- DEADLINE, PROV_OPEN, PROV_CLOSE or LOAN_DUE (R170). -/
def periodKind? : Byte → Option PeriodKind := enum? [.deadline, .provOpen, .provClose, .loanDue]

/-- The fields AMEND writes, in the order R18 lists them. -/
inductive AmendField where
  | target | readyBy | homeBay | profileTarget | holder
deriving DecidableEq, Repr

/-- A field of AMEND (R18). -/
def amendField? : Byte → Option AmendField := enum? [.target, .readyBy, .homeBay, .profileTarget, .holder]

/-! ## Clamping -/

/-- v clamped to the range lo to hi. -/
def clampNat (lo hi v : Nat) : Nat := if v < lo then lo else if hi < v then hi else v

/-- v clamped to the range lo to hi. -/
def clampInt (lo hi v : Int) : Int := if v < lo then lo else if hi < v then hi else v

/-- A rate step clamped to 0 to 3 (R49, R51). -/
def clampStep (b : Byte) : RateStep := ⟨min b.toNat 3, by omega⟩

/-- A whole number clamped to the taps 0 to 31 (R56). -/
def clampTap (v : Int) : Tap := ⟨min v.toNat 31, by omega⟩

/-- The five link settings clamped to their ranges (R51). -/
def LinkSettings.clamp (p : LinkSettingsParams) : LinkSettings where
  maxStep := clampStep p.maxStep
  minWindow := clampNat 2 16 p.minWindow.toNat
  tapOffset := clampInt (-8) 7 p.tapOffset.toInt
  retrainInterval := p.retrainInterval.toNat
  telemetryInterval := clampNat 1 60 p.telemetryInterval.toNat

/-- Whether the written link settings are the values given: no value was clamped (R51). -/
def LinkSettings.exact (t : LinkSettings) (p : LinkSettingsParams) : Bool :=
  t.maxStep.val == p.maxStep.toNat && t.minWindow == p.minWindow.toNat && t.tapOffset == p.tapOffset.toInt &&
    t.telemetryInterval == p.telemetryInterval.toNat

/-- The budget settings clamped to their ranges (R69); the foldback budget against the supply rating written with it. -/
def BudgetSettings.clamp (p : BudgetSettingsParams) (policy : ForeignPolicy) : BudgetSettings where
  supplyRating := clampNat 500 20000 p.supplyRating.toNat
  foldback := clampNat 0 (clampNat 500 20000 p.supplyRating.toNat) p.foldback.toNat
  overhead := clampNat 0 2000 p.overhead.toNat
  floorF := clampNat 5 25 p.floorF.toNat
  deliveryK := clampNat 100 150 p.deliveryK.toNat
  bayCeiling := clampNat 50 1000 p.bayCeiling.toNat
  defaultTarget := clampNat 200 1000 p.defaultTarget.toNat
  checkoutMinimum := clampNat 0 1000 p.checkoutMinimum.toNat
  wakeReserve := clampNat 10 100 p.wakeReserve.toNat
  driveReserve := clampNat 20 100 p.driveReserve.toNat
  foreignPolicy := policy

/-- Whether the written budget settings are the values given: no value was clamped (R69). -/
def BudgetSettings.exact (t : BudgetSettings) (p : BudgetSettingsParams) : Bool :=
  t.supplyRating == p.supplyRating.toNat && t.foldback == p.foldback.toNat && t.overhead == p.overhead.toNat &&
    t.floorF == p.floorF.toNat && t.deliveryK == p.deliveryK.toNat && t.bayCeiling == p.bayCeiling.toNat &&
    t.defaultTarget == p.defaultTarget.toNat && t.checkoutMinimum == p.checkoutMinimum.toNat &&
    t.wakeReserve == p.wakeReserve.toNat && t.driveReserve == p.driveReserve.toNat

/-- The lane settings clamped to their ranges (R112). -/
def LaneSettings.clamp (p : LaneSettingsParams) (policy : WindowPolicy) : LaneSettings :=
  ⟨clampNat 1 7 p.failureLimit.toNat, clampNat 1 120 p.sessionLimit.toNat, policy⟩

/-- Whether no lane setting was clamped (R112). -/
def LaneSettings.exact (t : LaneSettings) (p : LaneSettingsParams) : Bool :=
  t.failureLimit == p.failureLimit.toNat && t.sessionLimit == p.sessionLimit.toNat

/-- The custody settings clamped to their ranges (R128). -/
def CustodySettings.clamp (p : CustodySettingsParams) (mode : Authority) (autoLock : Bool) : CustodySettings :=
  ⟨mode, autoLock, clampNat 10 600 p.teacherLength.toNat, clampNat 30 1800 p.serviceLength.toNat,
    clampNat 10 300 p.releaseLength.toNat⟩

/-- Whether no custody setting was clamped (R128). -/
def CustodySettings.exact (t : CustodySettings) (p : CustodySettingsParams) : Bool :=
  t.teacherLength == p.teacherLength.toNat && t.serviceLength == p.serviceLength.toNat &&
    t.releaseLength == p.releaseLength.toNat

/-- The gap limit clamped to 16 to 127 (R153). -/
def clampGap (b : Byte) : Nat := clampNat 16 127 b.toNat

/-! ## Replies of tablets (R49) -/

/-- An IDENT after clamping (R49). The class version and the charge are read and not used (R5, R49). -/
structure Ident where
  cartClass : Bool
  tabletId : TabletId
  capacity : Nat
  acceptance : Nat
  maxStep : RateStep
  profileHeld : Byte
deriving DecidableEq, Repr

/-- The clamping of an IDENT (R49). -/
def Ident.ofReply (p : IdentReply) : Ident where
  cartClass := p.classMarker == Config.classMarker
  tabletId := p.tabletId
  capacity := clampNat 50 1000 p.capacity.toNat
  acceptance := clampNat 25 1000 p.acceptance.toNat
  maxStep := clampStep p.maxStep
  profileHeld := p.profileHeld

/-- A TELEMETRY after clamping (R49). -/
structure Telemetry where
  charge : Nat
  temperature : Int
  profileHeld : Byte
deriving DecidableEq, Repr

/-- The clamping of a TELEMETRY (R49); the temperature is a signed byte. -/
def Telemetry.ofReply (p : TelemetryReply) : Telemetry where
  charge := clampNat 0 1000 p.charge.toNat
  temperature := clampInt (-20) 85 p.temperature.toInt
  profileHeld := p.profileHeld

end Sys2Proof.Machine
end

