-- ==== Sys2Proof/Machine/Ops.lean ====
section
/-! DEFINITION. The named reads and writes of the tables, event subjects, responses, reallocation requests and the
reservation list: the operations every block's rules are written over. -/

namespace Sys2Proof.Machine

/-- The outcome of a command. -/
abbrev Result := Host.Outcome State Fault Refusal

/-- The numbers 0 to 35 in order. -/
def allBays : List BayNo := List.finRange 36
/-- The numbers 0 to 63 in order. -/
def allRecords : List RecordIx := List.finRange 64
/-- The numbers 0 to 3 in order. -/
def allLanes : List LaneNo := List.finRange 4

/-! ## Reads -/

def State.record (s : State) (i : RecordIx) : Record := s.roster[i.val]
def State.bay (s : State) (b : BayNo) : Bay := s.bays[b.val]
def State.link (s : State) (b : BayNo) : Link := s.links[b.val]
def State.output (s : State) (b : BayNo) : Output := s.outputs[b.val]
def State.entry (s : State) (b : BayNo) : AllocEntry := s.entries[b.val]
def State.lane (s : State) (l : LaneNo) : Lane := s.lanes[l.val]
def State.slot (s : State) (k : SlotNo) : DriveSlot := s.slots[k.val]
def State.release (s : State) (b : BayNo) : Option Release := s.releases[b.val]
def State.keyEntry (s : State) (e : KeyIx) : KeyEntry := s.keys.entries[e.val]
def State.period (s : State) (e : PeriodIx) : Option PeriodEntry := s.clock.periods[e.val]
def State.subjectsOf (s : State) (n : SourceNo) : BitVec 64 := s.port.subjects[n.val]

/-! ## Writes -/

/-- A record is written as it stands. -/
def State.putRecord (s : State) (i : RecordIx) (r : Record) : State := { s with roster := s.roster.set i.val r }
/-- A record is written with MISPLACED re-evaluated in the same change: the form of every write of a field that MISPLACED
reads (R7). -/
def State.setRecord (s : State) (i : RecordIx) (r : Record) : State := s.putRecord i r.remark
/-- A record is rewritten with MISPLACED re-evaluated (R7). -/
def State.modRecord (s : State) (i : RecordIx) (f : Record → Record) : State := s.setRecord i (f (s.record i))
/-- A record is rewritten in fields that MISPLACED does not read (R7). -/
def State.editRecord (s : State) (i : RecordIx) (f : Record → Record) : State := s.putRecord i (f (s.record i))
def State.setBay (s : State) (b : BayNo) (x : Bay) : State := { s with bays := s.bays.set b.val x }
def State.modBay (s : State) (b : BayNo) (f : Bay → Bay) : State := s.setBay b (f (s.bay b))
def State.setLink (s : State) (b : BayNo) (x : Link) : State := { s with links := s.links.set b.val x }
def State.modLink (s : State) (b : BayNo) (f : Link → Link) : State := s.setLink b (f (s.link b))
def State.setOutput (s : State) (b : BayNo) (x : Output) : State := { s with outputs := s.outputs.set b.val x }
def State.modOutput (s : State) (b : BayNo) (f : Output → Output) : State := s.setOutput b (f (s.output b))
def State.setEntry (s : State) (b : BayNo) (x : AllocEntry) : State := { s with entries := s.entries.set b.val x }
def State.modEntry (s : State) (b : BayNo) (f : AllocEntry → AllocEntry) : State := s.setEntry b (f (s.entry b))
def State.setLane (s : State) (l : LaneNo) (x : Lane) : State := { s with lanes := s.lanes.set l.val x }
def State.setSlot (s : State) (k : SlotNo) (x : DriveSlot) : State := { s with slots := s.slots.set k.val x }
def State.setRelease (s : State) (b : BayNo) (x : Option Release) : State :=
  { s with releases := s.releases.set b.val x }
def State.setKeyEntry (s : State) (e : KeyIx) (x : KeyEntry) : State :=
  { s with keys := { s.keys with entries := s.keys.entries.set e.val x } }

/-! ## Event sources (R181, R182) -/

def Source.dock : SourceNo := 0
def Source.undock : SourceNo := 1
def Source.foreign : SourceNo := 2
def Source.collision : SourceNo := 3
def Source.linkFault : SourceNo := 4
def Source.outputFault : SourceNo := 5
def Source.latchFault : SourceNo := 6
def Source.returned : SourceNo := 7
def Source.loanStart : SourceNo := 8
def Source.releaseLapsed : SourceNo := 9
def Source.overdue : SourceNo := 10
def Source.adrift : SourceNo := 11
def Source.laneReady : SourceNo := 12
def Source.laneEnd : SourceNo := 13
def Source.key : SourceNo := 14
def Source.boundary : SourceNo := 15
def Source.budgetShort : SourceNo := 16
def Source.service : SourceNo := 17

/-- The LOCKOUT marker's member number in the KEY source (R181). -/
def lockoutMember : Nat := 8

/-- The members a source may hold, as a mask (R181). -/
def Source.members (n : SourceNo) : BitVec 64 :=
  if n.val ≤ 6 then BitVec.ofNat 64 (2 ^ 36 - 1)
  else if n.val ≤ 11 then BitVec.allOnes 64
  else if n.val ≤ 13 then 0xF
  else if n.val = 14 then 0x1FF
  else if n.val = 15 then 0xFFFF
  else 1

/-- The set with the one member m. -/
def memberMask (m : Nat) : BitVec 64 := BitVec.ofNat 64 (2 ^ m)

/-- A subject joins the set of a source (R182). ATTN is re-derived where the change closes (R183). -/
def State.addSubject (s : State) (n : SourceNo) (m : Nat) : State :=
  { s with port := { s.port with subjects := s.port.subjects.set n.val (s.subjectsOf n ||| memberMask m) } }

/-! ## Responses (R177, R178) -/

/-- The response buffer is replaced; the attention summary byte awaits the next assertion of CS_N (R177). -/
def State.respond (s : State) (status : Status) (data : List Byte) : State :=
  { s with port := { s.port with response := ⟨status, none, data⟩ } }

/-- A refused request answers with its status and no data, and changes nothing else (R178). -/
def State.refuse (s : State) (status : Status) : State := s.respond status []

/-! ## Reallocation requests and reservations (R75, R76, R89, R92) -/

/-- A reallocation request is raised (R76). It is served where the change closes, so that the requests of one change
count as one (R76) and the pass reads the state the change leaves. -/
def State.requestPass (s : State) : State := { s with reallocRequest := true }

/-- A reallocation request is raised if c holds. -/
def State.requestPassIf (s : State) (c : Bool) : State := if c then s.requestPass else s

/-- A reservation joins the list at the tail as PENDING, which is a reallocation request (R89). -/
def State.raiseReservation (s : State) (o : Owner) (amount : Nat) : State :=
  State.requestPass { s with reservations := s.reservations ++ [Reservation.mk o amount .pending] }

/-- An owner's reservation leaves the list, by its end or by withdrawal, which is a reallocation request (R92). -/
def State.dropReservation (s : State) (o : Owner) : State :=
  State.requestPass { s with reservations := s.reservations.filter fun e => e.owner != o }

/-! ## Whole seconds -/

/-- The second that has passed is counted. DESIGN CHOICE: the part's count of whole CLK32 seconds counts the free-running
second of R107, which no SET_TIME starts afresh (R168; notes/assumptions/2.md). -/
def State.countSecond (s : State) : State := { s with clk32 := s.clk32 + 1 }

/-! ## Custody authority and windows (R129 to R131) -/

/-- The service window is open (R131). -/
def State.serviceOpen (s : State) : Bool := s.service.isSome

/-- The teacher window is open (R130). -/
def State.teacherOpen (s : State) : Bool := s.teacher.isSome

/-- Authority for CHECKOUT (R129). -/
def State.checkoutAuthorised (s : State) : Bool :=
  s.custodySettings.authority == .host || s.teacherOpen || s.serviceOpen

/-- Authority for UNHOLD and LATCH (R129). -/
def State.serviceAuthorised (s : State) : Bool := s.custodySettings.authority == .host || s.serviceOpen

/-- A window that opens at a moment for a length, or restarts if it stands open (R130, R131). -/
def Window.start (now length : Nat) (old : Option Window) : Window :=
  ⟨now + length, if old.isSome then some now else none⟩

/-- The teacher window opens or restarts (R130). -/
def State.openTeacher (s : State) : State :=
  { s with teacher := some (Window.start s.clk32 s.custodySettings.teacherLength s.teacher) }

/-- The service window opens or restarts (R131). -/
def State.openService (s : State) : State :=
  { s with service := some (Window.start s.clk32 s.custodySettings.serviceLength s.service) }

/-- An expiry taken now is that of the window before its latest restart: the restart fell at this moment, so that the
window does not close in between (R130, R152, R167). DESIGN CHOICE: the moment is the CLK32 second of the restart or the
next one, by the count clk32, which no SET_TIME holds still; the window's own expiry falls 10 s or more after the restart,
and is not put away where the world has sent ENERGY_ACCOUNTING_TICK every second (notes/assumptions/2.md, 3.md). -/
def Window.overtaken (now : Nat) (w : Window) : Bool :=
  match w.restartedAt with
  | some r => decide (now ≤ r + 1)
  | none => false

/-- The window with its overtaken expiry put away: the next expiry is its own. -/
def Window.kept (w : Window) : Window := { w with restartedAt := none }

/-! ## Lookups -/

/-- The enrolled record that holds a tablet ID (R3, R16). -/
def State.findTablet (s : State) (x : TabletId) : Option RecordIx :=
  allRecords.find? fun i => (s.record i).enrolled && (s.record i).tabletId == x

/-- The lane whose session belongs to record i (R114). -/
def State.laneOf (s : State) (i : RecordIx) : Option LaneNo :=
  allLanes.find? fun l =>
    match (s.lane l).session with
    | some x => x.record == i
    | none => false

/-- The lane whose session is in bay b (R114). -/
def State.laneAt (s : State) (b : BayNo) : Option LaneNo :=
  allLanes.find? fun l =>
    match (s.lane l).session with
    | some x => x.bay == b
    | none => false

/-- The request a slot holds, if any (R136). -/
def DriveSlot.request : DriveSlot → Option LatchRequest
  | .free => none
  | .reserving q => some q
  | .driving q => some q

/-- A slot holds a request for bay b (R136). -/
def State.slotHolds (s : State) (b : BayNo) : Bool :=
  (List.finRange 2).any fun k => (s.slot k).request.any fun q => q.bay == b

/-- The slot that awaits its reservation with a request for bay b (R135). -/
def State.reservingSlot (s : State) (b : BayNo) : Option SlotNo :=
  (List.finRange 2).find? fun k =>
    match s.slot k with
    | .reserving q => q.bay == b
    | _ => false

/-- The slot that drives bay b's latch (R137). -/
def State.drivingSlot (s : State) (b : BayNo) : Option SlotNo :=
  (List.finRange 2).find? fun k =>
    match s.slot k with
    | .driving q => q.bay == b
    | _ => false

/-- The lowest-numbered FREE slot (R136). -/
def State.freeSlot (s : State) : Option SlotNo := (List.finRange 2).find? fun k => s.slot k == .free

end Sys2Proof.Machine
end

