-- ==== Sys2Proof/Machine/Calendar.lean ====
section
/-! DEFINITION. Moments of the week, the deadline query and the provisioning window worked out from the Period Table
(chapter 9). -/

namespace Sys2Proof.Machine

/-- An entry occurs at a moment of the given minute of day and day of week (R170). -/
def PeriodEntry.occursAt (e : PeriodEntry) (minute day : Nat) : Bool := e.minute.val == minute && e.days.getLsbD day

/-- The table holds a VALID entry of a wanted kind (R170). -/
def DayClock.hasKind (c : DayClock) (wanted : PeriodKind) : Bool :=
  c.periods.toList.any fun e => e.any fun x => x.kind == wanted

/-- A VALID entry of the wanted kind occurs at the given minute and day (R170). -/
def DayClock.occurs (c : DayClock) (wanted : PeriodKind) (minute day : Nat) : Bool :=
  c.periods.toList.any fun e => e.any fun x => x.kind == wanted && x.occursAt minute day

/-- A DEADLINE occurs t minutes from now: the minute of day wraps at midnight and the day goes on with it (R174). -/
def DayClock.deadlineAt (c : DayClock) (t : Nat) : Bool :=
  c.occurs .deadline ((c.minute.val + t) % 1440) ((c.day.val + (c.minute.val + t) / 1440) % 7)

/-- The first offset from t on, within fuel offsets, at which a DEADLINE occurs (R174). -/
def DayClock.searchDeadline (c : DayClock) : Nat → Nat → Option Nat
  | 0, _ => none
  | fuel + 1, t => if c.deadlineAt t then some t else c.searchDeadline fuel (t + 1)

/-- The deadline query (R174): none stands for NONE. -/
def DayClock.nextDeadline (c : DayClock) : Option Nat :=
  if c.timeValid && c.hasKind .deadline then c.searchDeadline Config.weekMinutes 1 else none

/-- A VALID entry of the wanted kind occurred t minutes ago (R173). -/
def DayClock.occurredAgo (c : DayClock) (wanted : PeriodKind) (t : Nat) : Bool :=
  let moment := (c.day.val * 1440 + c.minute.val + Config.weekMinutes - t) % Config.weekMinutes
  c.occurs wanted (moment % 1440) (moment / 1440)

/-- The last word of the PROV entries, looking back from t minutes ago over fuel minutes (R173): a PROV_CLOSE at a
minute closes whatever PROV_OPEN occurs with it. -/
def DayClock.lookBack (c : DayClock) : Nat → Nat → Bool
  | 0, _ => false
  | fuel + 1, t =>
    if c.occurredAgo .provClose t then false
    else if c.occurredAgo .provOpen t then true
    else c.lookBack fuel (t + 1)

/-- The window recomputed from the timetable (R173). -/
def DayClock.windowNow (c : DayClock) : Bool := c.timeValid && c.hasKind .provOpen && c.lookBack Config.weekMinutes 0

/-- The Day Clock with its window recomputed (R173). -/
def DayClock.rewindow (c : DayClock) : DayClock := { c with windowOpen := c.windowNow }

/-- The window state is handed to the Lane Scheduler (R113). -/
def State.handWindow (s : State) : State := { s with laneWindow := s.clock.windowOpen }

end Sys2Proof.Machine
end

