-- ==== Sys2Proof/Machine/Allocation.lean ====
section
/-! DEFINITION. The arithmetic of an allocation pass (sections 4.4 and 4.5): classification, limits, needs, deadlines,
the urgency order, the three ways of sharing out the budget, and the admission of reservations. Every quantity is a
natural number; division rounds as the rule says. -/

namespace Sys2Proof.Machine

/-- a divided by b, rounded up. -/
def ceilDiv (a b : Nat) : Nat := (a + b - 1) / b

/-- Stage 2 (R81): the energy still needed, in 0.1 Wh. -/
def energyNeeded (capacity target charge k : Nat) : Nat :=
  if target ≤ charge then 0 else ceilDiv (capacity * (target - charge) * k) 100000

/-- Stage 1 (R80): the per-bay limit of a full-class bay. -/
def bayLimit (F ceiling acceptance : Nat) (band : Band) : Nat :=
  max F (min (min acceptance ceiling) (match band with | .normal => acceptance | .derated => acceptance / 2))

/-- Stage 3 (R82): the minutes left for a record with the given ready-by, clamped to 5 to 720. -/
def DayClock.minutesLeft (c : DayClock) (readyBy : Option Minute) : Nat :=
  if c.timeValid then
    match readyBy with
    | some y => clampNat 5 720 (if c.minute.val < y.val then y.val - c.minute.val else y.val + 1440 - c.minute.val)
    | none => clampNat 5 720 (c.nextDeadline.getD 720)
  else 720

/-- Stage 4 (R83): the required power of a full-class bay. -/
def requiredPower (F a E m : Nat) : Nat := clampNat F a (ceilDiv (E * 60) m)

/-! ## Classification (R79) -/

/-- The three fields a full-class bay needs: last charge, capacity and acceptance (R79). -/
def Record.chargeFields (r : Record) : Option (Nat × Nat × Nat) :=
  match r.lastCharge, r.capacity, r.acceptance with
  | some x, some y, some z => some (x, y, z)
  | _, _, _ => none

/-- The disposition of an IDENTIFIED bay that names record r (R79). -/
def dispositionOfRecord (hot : Bool) (k : Nat) (r : Record) : Disposition :=
  if hot then .hot
  else if r.chargeInhibit then .out
  else
    match r.custody with
    | .held | .retiring => .floor
    | .inCart | .releasing =>
      match r.chargeFields with
      | some (charge, capacity, _) => if energyNeeded capacity r.target charge k = 0 then .topped else .full
      | none => .out
    | .free | .away | .loaned | .overdue | .adrift => .out

/-- The disposition of bay b (R79). -/
def State.disposition (s : State) (b : BayNo) : Disposition :=
  match (s.bay b).state with
  | .disabled | .empty | .bringup | .fault => .none
  | .foreign | .collided =>
    match s.budget.foreignPolicy with
    | .off => .out
    | .floor => .floor
  | .identified =>
    match (s.bay b).record with
    | some i => dispositionOfRecord (s.entry b).hot s.budget.deliveryK (s.record i)
    | none => .none

/-! ## The bays of a pass -/

/-- A bay of the pass with the figures of stages 1 to 4 (R80 to R83). A floor-class bay has energy 0 and minutes 720
for ranking (R84), limit and requirement F. -/
structure PassBay where
  bay : BayNo
  full : Bool
  urgent : Bool
  limit : Nat
  energy : Nat
  minutes : Nat
  required : Nat
deriving DecidableEq, Repr

/-- The figures of a floor-class bay (R80, R83, R84). -/
def PassBay.floorClass (b : BayNo) (urgent : Bool) (F : Nat) : PassBay := ⟨b, false, urgent, F, 0, 720, F⟩

/-- The figures of a full-class bay that names record r (R80 to R83). -/
def PassBay.fullClass (b : BayNo) (set : BudgetSettings) (c : DayClock) (r : Record) (charge capacity acceptance : Nat) :
    PassBay :=
  let a := bayLimit set.floorF set.bayCeiling acceptance (bandOf r.lastTemp)
  let E := energyNeeded capacity r.target charge set.deliveryK
  let m := c.minutesLeft r.readyBy
  ⟨b, true, r.urgent, a, E, m, requiredPower set.floorF a E m⟩

/-- Bay b as a bay of the pass, if its disposition is FULL or FLOOR (R79). -/
def State.passBay (s : State) (b : BayNo) : Option PassBay :=
  match s.disposition b with
  | .floor =>
    some (PassBay.floorClass b (((s.bay b).record.map fun i => (s.record i).urgent).getD false) s.budget.floorF)
  | .full =>
    match (s.bay b).record with
    | some i =>
      match (s.record i).chargeFields with
      | some (charge, capacity, acceptance) =>
        some (PassBay.fullClass b s.budget s.clock (s.record i) charge capacity acceptance)
      | none => none
    | none => none
  | .topped | .hot | .out | .none => none

/-- The bays of the pass, in ascending bay order (R79). -/
def State.passBays (s : State) : List PassBay := allBays.filterMap s.passBay

/-! ## The urgency order (R84) -/

/-- x comes before y in the urgency order (R84). -/
def PassBay.before (x y : PassBay) : Bool :=
  if x.urgent != y.urgent then x.urgent
  else if x.minutes != y.minutes then x.minutes < y.minutes
  else if x.energy != y.energy then y.energy < x.energy
  else x.bay < y.bay

/-- x put into a ranked list at its place. -/
def insertRanked (x : PassBay) : List PassBay → List PassBay
  | [] => [x]
  | y :: rest => if x.before y then x :: y :: rest else y :: insertRanked x rest

/-- The bays of the pass in the urgency order (R84). -/
def rankBays : List PassBay → List PassBay
  | [] => []
  | x :: rest => insertRanked x (rankBays rest)

/-! ## Sharing out the budget (R85 to R87) -/

/-- A bay of the pass with its grant. -/
abbrev Share := PassBay × Nat

/-- What is left is handed out in order: each bay is raised by the smaller of its room and what remains (R86, R87). -/
def handOut (room : PassBay → Nat → Nat) : Nat → List Share → List Share
  | _, [] => []
  | left, (x, g) :: rest => (x, g + min (room x g) left) :: handOut room (left - min (room x g) left) rest

/-- Stage 5 (R85): F to the first floor(B / F) bays, 0 to the rest. -/
def shareFloors (F : Nat) : Nat → List PassBay → List Share
  | _, [] => []
  | 0, x :: rest => (x, 0) :: shareFloors F 0 rest
  | k + 1, x :: rest => (x, F) :: shareFloors F k rest

/-- The room of a bay in stage 6 (R86): up to its limit, for a full-class bay. -/
def surplusRoom (x : PassBay) (g : Nat) : Nat := if x.full then x.limit - g else 0

/-- Stage 6 (R86): every requirement, and the surplus in the urgency order. -/
def shareMet (surplus : Nat) (ranked : List PassBay) : List Share :=
  handOut surplusRoom surplus (ranked.map fun x => (x, x.required))

/-- The room of a bay in stage 7 (R87): up to its requirement. -/
def scaledRoom (x : PassBay) (g : Nat) : Nat := x.required - g

/-- The scaled grant of a bay in stage 7 (R87). -/
def scaledGrant (F above span : Nat) (x : PassBay) : Nat := F + (x.required - F) * above / span

/-- Stage 7 (R87): the requirement above the floor scaled, and the leftover in the urgency order. -/
def shareScaled (F B D : Nat) (ranked : List PassBay) : List Share :=
  let n := ranked.length
  let scaled := ranked.map fun x => (x, scaledGrant F (B - n * F) (D - n * F) x)
  handOut scaledRoom (B - (scaled.map Prod.snd).sum) scaled

/-- D: the sum of the requirements of the bays of the pass (R83). -/
def demand (bays : List PassBay) : Nat := (bays.map PassBay.required).sum

/-- The sharing out of B among the ranked bays of the pass, with the result recorded (section 4.5). -/
def share (F B : Nat) (ranked : List PassBay) : List Share × PassResult :=
  let n := ranked.length
  let D := demand ranked
  if n = 0 then ([], .empty)
  else if B < n * F then (shareFloors F (B / F) ranked, .floorsShort)
  else if D ≤ B then (shareMet (B - D) ranked, .allMet)
  else (shareScaled F B D ranked, .scaled)

/-- The grant of bay b in a sharing out; 0 for a bay out of the pass (R88). -/
def grantOf (shares : List Share) (b : BayNo) : Nat :=
  match shares.find? fun x => x.1.bay == b with
  | some x => x.2
  | none => 0

/-! ## Reservations (R89, R90) -/

/-- An entry that is ADMITTED or ACTIVE counts against the budget (R90). -/
def Reservation.counted (e : Reservation) : Bool := e.state != .pending

/-- The sum of the ADMITTED and ACTIVE amounts (R90, R93). -/
def countedAmount (list : List Reservation) : Nat := ((list.filter Reservation.counted).map Reservation.amount).sum

/-- A LATCH entry (R89). -/
def Owner.isLatch : Owner → Bool
  | .latch _ => true
  | .lane _ => false

/-- How many LATCH entries are ADMITTED or ACTIVE (R90). -/
def countedLatches (list : List Reservation) : Nat := (list.filter fun e => e.counted && e.owner.isLatch).length

/-- Whether a PENDING entry fits (R90), given the amounts and the LATCH entries that count so far. -/
def Reservation.fits (effective floors amounts latches : Nat) (e : Reservation) : Bool :=
  match e.owner with
  | .latch _ => latches < 2 && amounts + e.amount ≤ effective
  | .lane _ => amounts + e.amount + floors ≤ effective

/-- The admission walk (R90): every PENDING entry is judged once, in list order, the entries admitted earlier in the
walk counting. floors is n times F. -/
def admitWalk (effective floors : Nat) : Nat → Nat → List Reservation → List Reservation
  | _, _, [] => []
  | amounts, latches, e :: rest =>
    if e.counted then e :: admitWalk effective floors amounts latches rest
    else if e.fits effective floors amounts latches then
      { e with state := .admitted } ::
        admitWalk effective floors (amounts + e.amount) (latches + if e.owner.isLatch then 1 else 0) rest
    else e :: admitWalk effective floors amounts latches rest

/-- The reservation list after the admission of a pass (R90). -/
def admitAll (effective floors : Nat) (list : List Reservation) : List Reservation :=
  admitWalk effective floors (countedAmount list) (countedLatches list) list

end Sys2Proof.Machine
end

