-- ==== Sys2Proof/Machine/Links.lean ====
section
/-! DEFINITION. The Dock Link Engine's operations on one link (chapter 3): bring-up, training, the choice of the next
exchange, order slots and the fate of orders. -/

namespace Sys2Proof.Machine

/-! ## Order slots (R62 to R64) -/

/-- The empty slot. -/
def Slot.empty {α : Type} : Slot α := ⟨none, none, false⟩

/-- An order is placed: it becomes the waiting order, due at once; an older waiting order is replaced (R62). -/
def Slot.place {α : Type} (t : Slot α) (o : α) : Slot α := { t with waiting := some o, due := true }

/-- The waiting order is sent: it is now the order in flight (R58, R62). -/
def Slot.launch {α : Type} (t : Slot α) : Slot α := ⟨none, t.waiting, false⟩

/-- The exchange that carried the order ended with an ACK or a NAK: the order ends (R63). -/
def Slot.ended {α : Type} (t : Slot α) : Slot α := { t with inFlight := none }

/-- The exchange that carried the order failed: the order waits for the next poll instant, unless a newer order waits,
which replaces it (R63). -/
def Slot.failed {α : Type} (t : Slot α) : Slot α :=
  match t.waiting, t.inFlight with
  | none, some o => ⟨some o, none, false⟩
  | _, _ => { t with inFlight := none }

/-- What is in flight is abandoned: the order stays as a waiting order (R52). DEDUCED: unless a newer one waits, which
replaces it (notes/assumptions/12.md). -/
def Slot.recall {α : Type} (t : Slot α) : Slot α :=
  match t.waiting, t.inFlight with
  | none, some o => ⟨some o, none, true⟩
  | _, _ => { t with inFlight := none }

/-- The waiting order is due to be sent again (R57, R58). -/
def Slot.retry {α : Type} (t : Slot α) : Slot α := { t with due := true }

/-- An order waits and is due (R58). -/
def Slot.ready {α : Type} (t : Slot α) : Bool := t.due && t.waiting.isSome

/-- The custody slot holds a RELEASE, waiting or in flight, that has not been acknowledged (R64). -/
def Slot.holdsRelease (t : Slot CustodyOrder) : Bool :=
  (match t.waiting with | some (.release _) => true | _ => false) ||
    (match t.inFlight with | some (.release _) => true | _ => false)

/-! ## Bring-up (R52, R53) -/

/-- A bring-up begins (R52). With fresh, asked for by the Dock Supervisor or by LINK_RESET, failed bring-ups become 0. -/
def Link.beginBringup (fresh : Bool) (l : Link) : Link :=
  { l with
    state := .rest
    step := 0
    ceiling := 3
    tap := Config.middleTap
    window := none
    helloAttempts := 0
    failedExchanges := 0
    failedBringups := if fresh then 0 else l.failedBringups
    retrain := 0
    pollRunning := false
    custody := l.custody.recall
    lane := l.lane.recall
    exchange := none
    sweep := none
    queryDue := false
    verifyDue := false
    pollDue := false
    sweepDue := false
    instantPending := none }

/-- The link rests before a HELLO at step v, with its tap and window given up and HELLO attempts 0 (R53, R54, R56). -/
def Link.restAt (v : RateStep) (l : Link) : Link :=
  { l with
    state := .rest, step := v, tap := Config.middleTap, window := none, helloAttempts := 0, exchange := none,
    sweep := none }

/-- The step and the ceiling both become one less than the present step, and the link rests (R53, R56). -/
def Link.stepDown (l : Link) : Link :=
  let v : RateStep := ⟨l.step.val - 1, by omega⟩
  { l.restAt v with ceiling := v }

/-- The link is brought down to a lowered cart max step (R51): what it has in flight is abandoned as R52 describes. -/
def Link.bringDown (v : RateStep) (l : Link) : Link :=
  if v < l.step then
    { l.restAt v with ceiling := v, custody := l.custody.recall, lane := l.lane.recall }
  else l

/-- REST ends: HELLO is sent at the rate step (R53). -/
def Link.sendHello (l : Link) : Link := { l with state := .helloWait, exchange := some .hello }

/-! ## UP (R57, R58, R60) -/

/-- The link enters UP at the end of a bring-up (R57): the orders waiting and a QUERY are due. DESIGN CHOICE: the poll timer
starts afresh here even where it was running through a failed retrain sweep or a lowered cart max step (R51, R56, R68), so
that the next poll instant is a telemetry interval from this entry (notes/assumptions/9.md). -/
def Link.enterUp (now : Nat) (l : Link) : Link :=
  { l with
    state := .up
    helloAttempts := 0
    failedExchanges := 0
    failedBringups := 0
    pollRunning := true
    pollLast := now
    custody := l.custody.retry
    lane := l.lane.retry
    exchange := none
    sweep := none
    queryDue := true }

/-- The link returns to UP after a good retrain sweep (R57, R60): the orders that waited are due, no QUERY is added. -/
def Link.returnUp (l : Link) : Link :=
  { l with state := .up, custody := l.custody.retry, lane := l.lane.retry, exchange := none, sweep := none }

/-- A training sweep begins at tap 0 (R55), with the minimum window and the tap offset now in force (R51). -/
def Link.beginSweep (set : LinkSettings) (retrain : Bool) (l : Link) : Link :=
  { l with
    state := .training, tap := 0, sweep := some ⟨none, retrain, set.minWindow, set.tapOffset⟩, exchange := some .train,
    helloAttempts := 0, pollDue := false, sweepDue := false }

/-- A retrain is due (R58): at step 2 or 3, the interval is not 0 and the count has reached it. -/
def Link.retrainDue (interval : Nat) (l : Link) : Bool := 2 ≤ l.step.val && interval != 0 && interval ≤ l.retrain

/-- A poll instant is taken: the waiting orders and the poll are due, a retrain sweep in its place where one is due at the
retrain interval in force when the instant fell (R51, R58). -/
def Link.takeInstant (l : Link) : Link :=
  match l.instantPending with
  | some interval =>
    { l with
      custody := l.custody.retry, lane := l.lane.retry, pollDue := true, sweepDue := l.retrainDue interval,
      instantPending := none }
  | none => l

/-- The next exchange of an UP link with none in progress (R58): the custody-slot order due, then the lane-slot order
due, then a QUERY, or a retrain sweep in place of a poll's QUERY unless a verification request is pending. DEDUCED: the poll
instant's retries of failed orders go first here too (notes/assumptions/9.md). -/
def Link.next (set : LinkSettings) (l : Link) : Link :=
  if l.custody.ready then { l with exchange := some .custodyOrder, custody := l.custody.launch }
  else if l.lane.ready then { l with exchange := some .laneOrder, lane := l.lane.launch }
  else if l.pollDue && l.sweepDue && !l.queryDue && !l.verify then l.beginSweep set true
  else if l.queryDue || l.verifyDue || l.pollDue then
    { l with exchange := some .query, queryDue := false, verifyDue := false, pollDue := false, sweepDue := false }
  else l

/-- An UP link with no exchange in progress makes its next exchange, if one is due (R58). -/
def Link.pump (set : LinkSettings) (l : Link) : Link :=
  if l.state = .up ∧ l.exchange = none then l.takeInstant.next set else l

/-- The poll timer reaches a poll instant (R58); below UP the instant passes and no poll is taken (R68). -/
def Link.pollInstant (set : LinkSettings) (now : Nat) (l : Link) : Link :=
  { l with pollLast := now, instantPending := if l.state = .up then some set.retrainInterval else l.instantPending }

/-- The Lane Scheduler asks for a verification poll (R58): any waiting lane-slot order and then a QUERY are due. -/
def Link.requestVerify (l : Link) : Link := { l with verify := true, verifyDue := true, lane := l.lane.retry }

/-- A pending verification request ends, answered or discarded (R59, R64): no QUERY is owed to it any more. -/
def Link.endVerify (l : Link) : Link := { l with verify := false, verifyDue := false }

/-- A successful ORDER or QUERY exchange ends: failed exchanges return to 0 (R61). -/
def Link.exchangeDone (l : Link) : Link := { l with exchange := none, failedExchanges := 0 }

/-- A failed ORDER or QUERY exchange ends (R61, R63); the third in a row begins a bring-up. -/
def Link.exchangeFailed (l : Link) : Link :=
  let l := { l with
    exchange := none
    failedExchanges := l.failedExchanges + 1
    custody := if l.exchange = some .custodyOrder then l.custody.failed else l.custody
    lane := if l.exchange = some .laneOrder then l.lane.failed else l.lane }
  if 3 ≤ l.failedExchanges then l.beginBringup false else l

/-- A TELEMETRY is counted towards retraining at step 2 or 3; the count stays at 255 (R59). -/
def Link.countTelemetry (l : Link) : Link :=
  { l with retrain := if 2 ≤ l.step.val then min 255 (l.retrain + 1) else l.retrain }

/-! ## The target step after an IDENT (R54) -/

/-- The smallest of the cart max step, the advertised step and the step ceiling (R54). -/
def Link.targetStep (maxStep : RateStep) (advertised : RateStep) (l : Link) : RateStep :=
  min maxStep (min advertised l.ceiling)

/-- What the link does after an IDENT that advertised a max rate step (R54). -/
def Link.afterIdent (set : LinkSettings) (advertised : RateStep) (now : Nat) (l : Link) : Link :=
  let l := { l with advertised := some advertised, exchange := none }
  let v := l.targetStep set.maxStep advertised
  if v ≠ l.step then l.restAt v
  else if 2 ≤ l.step.val then l.beginSweep set false
  else { l with tap := Config.middleTap, window := none }.enterUp now

/-! ## Training (R55, R56) -/

/-- A sweep that found the run first to last is judged against the minimum window it began with (R51, R56). -/
def Link.judgeRun (now : Nat) (w : Sweep) (first last : Tap) (l : Link) : Link :=
  if w.minWindow ≤ last.val + 1 - first.val then
    let l := { l with
      tap := clampTap (((first.val + last.val) / 2 : Nat) + w.tapOffset)
      window := some (first, last)
      retrain := 0 }
    if w.retrain then l.returnUp else l.enterUp now
  else l.stepDown

/-- The tap after k. -/
def nextTap (k : Tap) : Tap := ⟨min (k.val + 1) 31, by omega⟩

/-- The tap before k. -/
def prevTap (k : Tap) : Tap := ⟨k.val - 1, by omega⟩

/-- The tap in use has passed or failed, and the sweep moves to the next tap or ends (R55, R56). -/
def Link.judgeTap (now : Nat) (passed : Bool) (l : Link) : Link :=
  match l.sweep with
  | none => l
  | some w =>
    match passed, w.start with
    | true, start =>
      let first := start.getD l.tap
      if l.tap = 31 then l.judgeRun now w first 31
      else { l with tap := nextTap l.tap, sweep := some { w with start := some first }, exchange := some .train }
    | false, some first => l.judgeRun now w first (prevTap l.tap)
    | false, none =>
      if l.tap = 31 then l.stepDown
      else { l with tap := nextTap l.tap, exchange := some .train }

/-! ## The same, on the state -/

/-- Bay b's link makes its next exchange, if it is UP and idle and one is due (R58). -/
def State.pumpLink (s : State) (b : BayNo) : State := s.modLink b (Link.pump s.linkSettings)

/-- An order is placed in bay b's custody slot and sent at once if the link is free; a DOWN link keeps none (R58, R62). -/
def State.placeCustodyOrder (s : State) (b : BayNo) (o : CustodyOrder) : State :=
  if (s.link b).state = .down then s
  else (s.modLink b fun l => { l with custody := l.custody.place o }).pumpLink b

/-- An order is placed in bay b's lane slot and sent at once if the link is free; a DOWN link keeps none (R58, R62). -/
def State.placeLaneOrder (s : State) (b : BayNo) (o : LaneOrder) : State :=
  if (s.link b).state = .down then s
  else (s.modLink b fun l => { l with lane := l.lane.place o }).pumpLink b

/-- Both slots are emptied and a pending verification request is discarded with the QUERY it asked for (R64). An exchange in
flight runs on, and so does what else is due: the QUERY of an entry to UP and the poll of a poll instant. -/
def Link.emptySlots (l : Link) : Link := { l.endVerify with custody := Slot.empty, lane := Slot.empty }

/-- Bay b's slots are emptied (R64). -/
def State.emptySlots (s : State) (b : BayNo) : State := s.modLink b Link.emptySlots

end Sys2Proof.Machine
end

