-- ==== Sys2Proof/Machine/Latches.lean ====
section
/-! DEFINITION. The Custody Controller's operations on latches and releases: requests, slot service, drives and their
ends, and the opening and the ends of a release (chapter 7). -/

namespace Sys2Proof.Machine

/-- The position a direction drives to (R135). -/
def Direction.target : Direction → LatchPosition
  | .lock => .locked
  | .unlock => .unlocked

/-- The latch position the two switches give while no drive is under way (R134), true for closed. -/
def positionOf (lockedSwitch unlockedSwitch : Bool) : LatchPosition :=
  match lockedSwitch, unlockedSwitch with
  | true, false => .locked
  | false, true => .unlocked
  | false, false => .unknown
  | true, true => .unknown

/-- The switch of a direction's target is closed (R138). -/
def Bay.targetClosed (x : Bay) : Direction → Bool
  | .lock => x.lockedSwitch
  | .unlock => x.unlockedSwitch

/-- Bay b's latch position is written. -/
def State.setLatch (s : State) (b : BayNo) (p : LatchPosition) : State := s.modBay b fun x => { x with latch := p }

/-! ## The release a drive's end is handed to (R138, R145) -/

/-- Bay b names a RELEASING record whose release is UNLOCKING: that record (R138). -/
def State.unlockingRecord (s : State) (b : BayNo) : Option RecordIx :=
  match (s.bay b).record, s.release b with
  | some i, some e => if (s.record i).custody = .releasing ∧ e.phase = .unlocking then some i else none
  | _, _ => none

/-- The release of bay b opens (R145). -/
def State.openRelease (s : State) (b : BayNo) (i : RecordIx) : State :=
  let expiry := s.clk32 + s.custodySettings.releaseLength
  let s := s.setRelease b (some ⟨i, .opened expiry .waiting⟩)
  s.placeCustodyOrder b (.release ((s.record i).holder.getD 0))

/-- A request for bay b completed successfully, by a drive or without one: its effect by direction (R138). -/
def State.latchSuccess (s : State) (b : BayNo) : Direction → State
  | .lock =>
    match (s.bay b).record with
    | some i => s.editRecord i fun r => { r with unsecured := false }
    | none => s
  | .unlock =>
    match s.unlockingRecord b with
    | some i => s.openRelease b i
    | none => s

/-! ## Slot service (R136) -/

/-- Slot service at one request of the queue (R136). -/
def State.serviceOne (s : State) (q : LatchRequest) : State :=
  if s.slotHolds q.bay then s
  else if (s.bay q.bay).latch = q.direction.target then
    State.latchSuccess { s with latchQueue := s.latchQueue.erase q } q.bay q.direction
  else
    match s.freeSlot with
    | some k =>
      (State.setSlot { s with latchQueue := s.latchQueue.erase q } k (.reserving q)).raiseReservation (.latch k)
        s.budget.driveReserve
    | none => s

/-- Slot service: the queue is walked from head to tail once (R136). -/
def State.slotService (s : State) : State := s.latchQueue.foldl State.serviceOne s

/-! ## Placing a request (R135) -/

/-- A slot leaves RESERVING before its drive: it becomes FREE and withdraws its reservation (R137). -/
def State.freeReserving (s : State) (k : SlotNo) : State := (s.setSlot k .free).dropReservation (.latch k)

/-- The queue with a request for bay b in direction d: a queued request takes the direction and keeps its place,
otherwise a new one joins at the tail (R135). -/
def queueRequest (b : BayNo) (d : Direction) (queue : List LatchRequest) : List LatchRequest :=
  if queue.any fun q => q.bay == b then queue.map fun q => if q.bay = b then ⟨b, d⟩ else q
  else queue ++ [⟨b, d⟩]

/-- A request for bay b in direction d is placed (R135), and slot service runs (R136). DESIGN CHOICE: it runs after each
request placed, also where one change places several (notes/assumptions/17.md). -/
def State.placeRequest (s : State) (b : BayNo) (d : Direction) : State :=
  match s.reservingSlot b with
  | some k =>
    if (s.bay b).latch = d.target then ((s.freeReserving k).latchSuccess b d).slotService
    else (s.setSlot k (.reserving ⟨b, d⟩)).slotService
  | none => State.slotService { s with latchQueue := queueRequest b d s.latchQueue }

/-- A LOCK request for bay b is placed unless the service window is open (R147, R148). -/
def State.lockUnlessService (s : State) (b : BayNo) : State := if s.serviceOpen then s else s.placeRequest b .lock

/-! ## The ends of a release (R147, R148) -/

/-- The record of bay b's release returns to IN_CART with RELEASE_LAPSED, LOCK in the custody slot and a LOCK request
unless the service window is open (R147, R148). -/
def State.lapseRelease (s : State) (b : BayNo) (i : RecordIx) : State :=
  let s := s.editRecord i fun r => { r with custody := .inCart, holder := none }
  let s := s.addSubject Source.releaseLapsed i.val
  let s := s.setRelease b none
  let s := s.placeCustodyOrder b .lock
  s.lockUnlessService b

/-- A drive of bay b failed: its effect by direction (R138, R148). -/
def State.latchFailure (s : State) (b : BayNo) : Direction → State
  | .lock =>
    match (s.bay b).record with
    | some i => if (s.record i).custody = .inCart then s.editRecord i fun r => { r with unsecured := true } else s
    | none => s
  | .unlock =>
    match s.unlockingRecord b with
    | some i => s.lapseRelease b i
    | none => s

/-! ## Drives (R137, R138) -/

/-- The slot becomes FREE and its reservation leaves the list by its end (R138). -/
def State.endSlot (s : State) (k : SlotNo) : State := (s.setSlot k .free).dropReservation (.latch k)

/-- The drive of slot k for request q succeeds (R138). -/
def State.driveSuccess (s : State) (k : SlotNo) (q : LatchRequest) : State :=
  (((s.endSlot k).setLatch q.bay q.direction.target).latchSuccess q.bay q.direction).slotService

/-- The drive of slot k for request q fails (R138). -/
def State.driveFailure (s : State) (k : SlotNo) (q : LatchRequest) : State :=
  ((((s.endSlot k).setLatch q.bay .unknown).addSubject Source.latchFault q.bay.val).latchFailure q.bay
    q.direction).slotService

/-- Slot k's reservation has become ACTIVE (R137): the request completes at once if the latch stands at its target;
otherwise the drive starts, and it succeeds at once if the target's switch is already closed (R138). -/
def State.startDrive (s : State) (k : SlotNo) : State :=
  match s.slot k with
  | .reserving q =>
    if (s.bay q.bay).latch = q.direction.target ∨ (s.bay q.bay).targetClosed q.direction = true then s.driveSuccess k q
    else (s.setSlot k (.driving q)).setLatch q.bay .moving
  | .free => s
  | .driving _ => s

/-! ## Undocks and holds (R141, R149) -/

/-- The waiting requests of bay b in direction d leave the queue. -/
def State.dropQueued (s : State) (b : BayNo) (d : Direction) : State :=
  { s with latchQueue := s.latchQueue.filter fun q => !(q.bay == b && q.direction == d) }

/-- A slot in RESERVING with a request for bay b in direction d becomes FREE and withdraws its reservation, and slot
service runs (R137, R141, R149). -/
def State.dropReserving (s : State) (b : BayNo) (d : Direction) : State :=
  match s.reservingSlot b with
  | some k => if s.slot k = .reserving ⟨b, d⟩ then (s.freeReserving k).slotService else s
  | none => s

/-- The LOCK requests of a bay that a contact loss or BAY_DISABLE empties (R141). -/
def State.dropLocks (s : State) (b : BayNo) : State := (s.dropQueued b .lock).dropReserving b .lock

/-- A release ends by a hold: its entry and its UNLOCK request go (R149). -/
def State.endReleaseByHold (s : State) (b : BayNo) : State :=
  ((s.setRelease b none).dropQueued b .unlock).dropReserving b .unlock

/-- What a release ended by a link failure places in its bay (R149). -/
def State.relockAfterHold (s : State) (b : BayNo) : State :=
  let s := s.placeCustodyOrder b .lock
  if s.serviceOpen || ((s.bay b).latch == .locked && (s.drivingSlot b).isNone) then s else s.placeRequest b .lock

/-- A record has reached IN_CART in bay b by a dock or an UNHOLD: the LOCK order, and the LOCK request under auto-lock
while the service window is closed (R140). -/
def State.receiveInCart (s : State) (b : BayNo) : State :=
  let s := s.placeCustodyOrder b .lock
  if s.custodySettings.autoLock && !s.serviceOpen then s.placeRequest b .lock else s

/-! ## Reports of custody orders (R145) -/

/-- The outcome of the RELEASE order of bay b's open release is written. DEDUCED: a newer RELEASE still waiting in the
slot means that the report is of an earlier release's order (notes/assumptions/11.md). -/
def State.releaseReported (s : State) (b : BayNo) (outcome : OrderOutcome) : State :=
  match s.release b, (s.link b).custody.waiting with
  | some ⟨_, .opened _ _⟩, some (.release _) => s
  | some ⟨i, .opened expiry _⟩, _ => s.setRelease b (some ⟨i, .opened expiry outcome⟩)
  | _, _ => s

end Sys2Proof.Machine
end

