-- ==== Sys2Proof/Machine/Sessions.lean ====
section
/-! DEFINITION. The Lane Scheduler's operations: queue membership, lane grants, a session's wake and its end (chapter 6). -/

namespace Sys2Proof.Machine

/-! ## The Provisioning Queue (R110, R111) -/

/-- The conditions under which a record is in the queue (R110). -/
def State.eligible (s : State) (i : RecordIx) : Bool :=
  let r := s.record i
  r.custody == .inCart && r.behind && !r.provStuck && !r.provSkip && (s.laneOf i).isNone

/-- Membership is re-evaluated at the close of a change (R111): those that fail a condition leave, those outside that
meet them all join at the tail in ascending index order, the others keep their places (R110). -/
def State.requeue (s : State) : State :=
  let kept := s.queue.filter s.eligible
  { s with queue := kept ++ allRecords.filter fun i => s.eligible i && !kept.contains i }

/-! ## Grants (R113, R116) -/

/-- Lanes may be granted (R113). -/
def State.grantsPermitted (s : State) : Bool := s.laneSettings.windowPolicy == .always || s.laneWindow

/-- The lowest-numbered IDLE lane (R116). -/
def State.idleLane (s : State) : Option LaneNo := allLanes.find? fun l => (s.lane l).session.isNone

/-- The start time of a session granted now (R114). -/
def DayClock.stamp (c : DayClock) : Option (Minute × Day) := if c.timeValid then some (c.minute, c.day) else none

/-- A grant of lane l to record i in bay b (R116). -/
def State.grantLane (s : State) (l : LaneNo) (i : RecordIx) (b : BayNo) : State :=
  let s := { s with queue := s.queue.erase i }
  let s := s.setLane l { s.lane l with
    session := some ⟨.admitting, b, i, (s.record i).profileTarget, s.clock.stamp⟩ }
  let s := s.modBay b fun x => { x with lane := some l }
  s.raiseReservation (.lane l) s.budget.wakeReserve

/-- Grant evaluation (R116), at most one grant for each of fuel rounds; four lanes need no more than four. -/
def State.grantLanes : Nat → State → State
  | 0, s => s
  | fuel + 1, s =>
    if s.grantsPermitted then
      match s.queue, s.idleLane with
      | i :: _, some l =>
        match (s.record i).currentBay with
        | some b => State.grantLanes fuel (s.grantLane l i b)
        | none => s
      | _, _ => s
    else s

/-! ## Wake (R117) -/

/-- Lane l's reservation has become ACTIVE: the switch closes, WAKE is placed, the session is WAKING (R117). -/
def State.wakeLane (s : State) (l : LaneNo) : State :=
  match (s.lane l).session with
  | some x =>
    if x.phase = .admitting then
      let s := s.setLane l { s.lane l with session := some { x with phase := .waking }, switch := some x.bay }
      s.placeLaneOrder x.bay (.wake l)
    else s
  | none => s

/-! ## The end of a session (R125) -/

/-- A session in WAKING or CONNECTED has its switch closed (R115). -/
def SessionPhase.onLane : SessionPhase → Bool
  | .waking | .connected _ => true
  | .admitting | .closing _ => false

/-- The claimed generation of a session in CLOSING (R114). -/
def SessionPhase.claimed : SessionPhase → Option Byte
  | .closing g => some g
  | .admitting | .waking | .connected _ => none

/-- The results that count as failures (section 6.6). -/
def SessionResult.isFailure : SessionResult → Bool
  | .mismatch | .unverified | .wakeFailed | .timedOut => true
  | .success | .aborted | .cancelled | .preempted => false

/-- The failure count and PROV_STUCK of a record after a session's end (R125, step 5). -/
def Record.afterSession (limit : Nat) (result : SessionResult) (r : Record) : Record :=
  if r.custody = .free then r
  else if result = .success then { r with failureCount := 0 }
  else if result.isFailure then
    let n := min 7 (r.failureCount + 1)
    { r with failureCount := n, provStuck := r.provStuck || limit ≤ n }
  else r

/-- QUIET for a session that was on its lane while its bay still names its record (R125, step 2). -/
def State.quietFor (s : State) (x : Session) : State :=
  if x.phase.onLane && (s.bay x.bay).record == some x.record then s.placeLaneOrder x.bay .quiet else s

/-- The session on lane l, if any, ends with a result (R125, steps 1 to 6). Queue membership and grant evaluation, steps
7 and 8, follow where the change closes. -/
def State.endSession (s : State) (l : LaneNo) (result : SessionResult) : State :=
  match (s.lane l).session with
  | none => s
  | some x =>
    let s := s.setLane l ⟨none, some ⟨result, x.record, x.phase.claimed⟩, none⟩
    let s := s.quietFor x
    let s := s.dropReservation (.lane l)
    let s := s.modBay x.bay fun y => { y with lane := none }
    let s := s.editRecord x.record (Record.afterSession s.laneSettings.failureLimit result)
    s.addSubject Source.laneEnd l.val

/-- The session of record i, if it holds one, ends with a result. -/
def State.endSessionOf (s : State) (i : RecordIx) (result : SessionResult) : State :=
  match s.laneOf i with
  | some l => s.endSession l result
  | none => s

/-- The session in bay b, if any, is in CLOSING with this claimed generation (R121). -/
def State.closingAt (s : State) (b : BayNo) : Option (LaneNo × Byte) :=
  match s.laneAt b with
  | some l =>
    match (s.lane l).session with
    | some x => x.phase.claimed.map fun g => (l, g)
    | none => none
  | none => none

/-- The verification of bay b is answered with the generation the tablet holds (R121). -/
def State.verificationAnswered (s : State) (b : BayNo) (held : Byte) : State :=
  match s.closingAt b with
  | some (l, g) => s.endSession l (if held = g then .success else .mismatch)
  | none => s

/-- The verification of bay b is reported unanswered (R121). -/
def State.verificationUnanswered (s : State) (b : BayNo) : State :=
  match s.closingAt b with
  | some (l, _) => s.endSession l .unverified
  | none => s

/-- The session that a report about a WAKE for lane l from bay b reaches: lane l in WAKING with that bay (R118), unless
that session's own WAKE still waits in the slot. The report is then of the older order that was in flight (R62, R68), an
ended session's, and is ignored (R127). -/
def State.wakingAt (s : State) (b : BayNo) (l : LaneNo) : Option Session :=
  match (s.lane l).session with
  | some x => if x.phase = .waking ∧ x.bay = b ∧ (s.link b).lane.waiting ≠ some (.wake l) then some x else none
  | none => none

/-- WAKE is reported delivered (R118). -/
def State.wakeDelivered (s : State) (b : BayNo) (l : LaneNo) : State :=
  match s.wakingAt b l with
  | some x =>
    (s.setLane l { s.lane l with
      session := some { x with phase := .connected s.laneSettings.sessionLimit } }).addSubject Source.laneReady l.val
  | none => s

/-- WAKE is reported refused (R118). -/
def State.wakeRefused (s : State) (b : BayNo) (l : LaneNo) : State :=
  match s.wakingAt b l with
  | some _ => s.endSession l .wakeFailed
  | none => s

end Sys2Proof.Machine
end

