-- ==== Sys2Proof/Machine/Passes.lean ====
section
/-! DEFINITION. Taking a pass at the allocator (R78), applying it at the Output Sequencer (R97 to R99), cuts and removals
of setpoints (R100, R103), a fall in the budget (R104), and the close of a change, which serves the reallocation
requests raised in it (R75, R76). -/

namespace Sys2Proof.Machine

/-! ## The effective budget (R71) -/

/-- B_eff from the settings and the level of SUPPLY_LIMIT (R71). -/
def effectiveBudget (set : BudgetSettings) (limited : Bool) : Nat :=
  (if limited then min set.supplyRating set.foldback else set.supplyRating) - set.overhead

/-! ## Issuing setpoints (R95, R96) -/

/-- The commitment: the larger of the issued and settled setpoints (R95). -/
def Output.commitment (o : Output) : Nat := max o.issued o.settled

/-- A setpoint is issued (R96). -/
def Output.issue (v : Nat) (o : Output) : Output :=
  { o with issued := v, inMotion := true, closed := o.closed || decide (0 < v) }

/-- A settled report is taken (R96): it confirms the issued setpoint in motion, or is discarded. -/
def Output.report (v : Nat) (o : Output) : Output :=
  if o.inMotion && v == o.issued then { o with settled := v, inMotion := false } else o

/-- The setpoints become 0, the switch opens, and the bay leaves the applying pass (R100, R103). -/
def Output.drop (charge : ChargeState) (o : Output) : Output :=
  { o with closed := false, issued := 0, settled := 0, inMotion := false, target := none, charge := charge }

/-- Bay b's output is dropped and its grant becomes 0 (R88, R100, R103). -/
def State.dropOutput (s : State) (b : BayNo) (charge : ChargeState) : State :=
  (s.modOutput b (Output.drop charge)).modBay b fun x => { x with grant := 0 }

/-! ## Handing a pass on (R97) -/

/-- The charge state a hand-off shows for a disposition and a grant (R97, R106). -/
def chargeFor (d : Disposition) (grant : Nat) (before : ChargeState) : ChargeState :=
  match d with
  | .full | .floor => if 0 < grant then .charging else .waiting
  | .topped => .topped
  | .hot => .pausedHot
  | .out => .waiting
  | .none => before

/-- A bay's output at a hand-off (R97): the pass target and the charge state, and the decrease unless the setpoint in
motion already is the target. A NONE bay is left alone. DESIGN CHOICE: R97 step 3 is followed also where the target lies
between the issued and the settled setpoint of an unfinished decrease carried from a pass that ended early, although the issue
then raises the issued setpoint, against R98 and R105 (notes/assumptions/19.md). -/
def Output.handOff (d : Disposition) (grant : Nat) (o : Output) : Output :=
  if d = .none then o
  else
    let o := { o with target := some grant, charge := chargeFor d grant o.charge }
    if grant < o.commitment ∧ ¬(o.inMotion = true ∧ o.issued = grant) then o.issue grant else o

/-- A bay's output when the increasing phase begins (R98): the target above the settled setpoint is issued. -/
def Output.increase (o : Output) : Output :=
  match o.target with
  | some v => if o.settled < v then o.issue v else o
  | none => o

/-! ## Taking a pass (R78) -/

/-- The entry of bay b after a pass (R73, R78 step 5). x is the bay as a bay of the pass, rank its place. -/
def AllocEntry.afterPass (d : Disposition) (x : Option PassBay) (rank : Option Nat) (seen : Option (Nat × Band))
    (toppedLimit : Option Nat) (e : AllocEntry) : AllocEntry where
  hot := e.hot
  chargeSeen := seen.map Prod.fst
  bandSeen := seen.map Prod.snd
  disposition := d
  limit := match d with | .topped => toppedLimit | _ => x.map PassBay.limit
  energy := match d with | .topped => some 0 | .full => x.map PassBay.energy | _ => none
  minutes := match d with | .full => x.map PassBay.minutes | _ => none
  required := x.map PassBay.required
  rank := rank

/-- What a pass sees of the record bay b names (R78): its last charge and band, where last charge is present. -/
def State.seenAt (s : State) (b : BayNo) : Option (Nat × Band) :=
  match (s.bay b).record with
  | some i => (s.record i).lastCharge.map fun c => (c, bandOf (s.record i).lastTemp)
  | none => none

/-- The limit a TOPPED bay keeps (R73). -/
def State.toppedLimitAt (s : State) (b : BayNo) : Option Nat :=
  match (s.bay b).record with
  | some i =>
    (s.record i).chargeFields.map fun f =>
      bayLimit s.budget.floorF s.budget.bayCeiling f.2.2 (bandOf (s.record i).lastTemp)
  | none => none

/-- The place of bay b in a ranked list, counting from 1 (R84). -/
def rankOf (ranked : List PassBay) (b : BayNo) : Option Nat := (ranked.findIdx? fun x => x.bay == b).map (· + 1)

/-- The reservation list a pass leaves (R78 step 2, R90). -/
def State.passReservations (s : State) : List Reservation :=
  admitAll s.effective (s.passBays.length * s.budget.floorF) s.reservations

/-- The charging budget B of a pass (R78 step 3). -/
def State.passBudget (s : State) : Nat := s.effective - countedAmount s.passReservations

/-- The ranked bays of a pass (R84). -/
def State.passRanked (s : State) : List PassBay := rankBays s.passBays

/-- The sharing out of a pass (R85 to R87). -/
def State.passShare (s : State) : List Share × PassResult := share s.budget.floorF s.passBudget s.passRanked

/-- A pass is taken and handed on, in one change (R78, R97). -/
def State.takePass (s : State) : State :=
  let bays := s.passBays
  let ranked := s.passRanked
  let B := s.passBudget
  let out := s.passShare
  let t : State := { s with
    reservations := s.passReservations
    figures := ⟨B, bays.length, demand ranked, out.2, (out.1.filter fun x => x.2 == 0).length⟩
    bays := Vector.ofFn fun b => { s.bay b with grant := grantOf out.1 b }
    entries := Vector.ofFn fun b =>
      (s.entry b).afterPass (s.disposition b) (s.passBay b) (rankOf ranked b) (s.seenAt b) (s.toppedLimitAt b)
    outputs := Vector.ofFn fun b => (s.output b).handOff (s.disposition b) (grantOf out.1 b)
    phase := .decreasing }
  if out.2 = .floorsShort then t.addSubject Source.budgetShort 0 else t

/-! ## The phases (R91, R98, R99) -/

/-- Some bay has in motion set (R98). -/
def State.moving (s : State) : Bool := allBays.any fun b => (s.output b).inMotion

/-- The owners of the ADMITTED entries, in list order (R91). -/
def State.admittedOwners (s : State) : List Owner :=
  (s.reservations.filter fun e => e.state == .admitted).map Reservation.owner

/-- An owner is told that its reservation is ACTIVE (R91). -/
def State.tellActive (s : State) : Owner → State
  | .latch k => s.startDrive k
  | .lane l => s.wakeLane l

/-- The decreasing phase ends (R98): the admitted reservations become ACTIVE, the increases are issued, and the owners
are told (R91). -/
def State.endDecreasing (s : State) : State :=
  let owners := s.admittedOwners
  let s : State := { s with
    reservations := s.reservations.map fun e => if e.state = .admitted then { e with state := .active } else e
    outputs := Vector.ofFn fun b => (s.output b).increase
    phase := .increasing }
  owners.foldl State.tellActive s

/-- The pass ends (R99): every pass target is removed, and a pending pass is wanted at once (R75). -/
def State.endPass (s : State) : State :=
  { s with
    outputs := Vector.ofFn fun b => { s.output b with target := none }
    phase := .idle
    passPending := false
    reallocRequest := s.reallocRequest || s.passPending }

/-- The request raised in the change is served (R75): IDLE takes a pass at once, APPLYING sets pass pending. -/
def State.serveRequest (s : State) : State :=
  if s.reallocRequest then
    let s := { s with reallocRequest := false }
    match s.phase with
    | .idle => s.takePass
    | .decreasing | .increasing => { s with passPending := true }
  else s

/-- The allocator and the sequencer run until a bay is in motion or the allocator is IDLE with no request (R75, R98,
R99). Each round ends one phase. -/
def State.settle : Nat → State → State
  | 0, s => s
  | fuel + 1, s =>
    let s := s.serveRequest
    match s.phase with
    | .idle => s
    | .decreasing => if s.moving then s else State.settle fuel s.endDecreasing
    | .increasing => if s.moving then s else State.settle fuel s.endPass

/-- Rounds enough for settle. Within one change a further pass is called for only when a latch request completes
without a drive, so each pass after the second uses up one request of the queue or of a slot
(notes/assumptions/4.md). -/
def State.settleFuel (s : State) : Nat := 3 * s.latchQueue.length + 15

/-- The close of a change, in the order of notes/assumptions/4.md (DESIGN CHOICE): queue membership and grants (R111,
R116), the reallocation requests (R75), the lamps (R43) and ATTN (R183). -/
def State.closeChange (s : State) : State :=
  let s := State.grantLanes 4 s.requeue
  (State.settle s.settleFuel s).relamp.reAttn

/-- An accepted request ends: its change closes, and its response is formed from the state the change left (R13, R178). -/
def State.finish (s : State) (status : Status) (data : State → List Byte) : State :=
  s.closeChange.respond status (data s.closeChange)

/-! ## A fall in the budget (R104) -/

/-- A bay's output when B_eff falls in the increasing phase (R104): an increase in motion is re-issued at the settled
setpoint. -/
def Output.restore (o : Output) : Output := if o.inMotion then o.issue o.settled else o

/-- An ADMITTED entry returns to PENDING (R91). -/
def Reservation.readmit (e : Reservation) : Reservation :=
  if e.state = .admitted then { e with state := .pending } else e

/-- B_eff has fallen: an applying pass is ended early, and the pass that follows serves the request (R91, R104). -/
def State.budgetFall (s : State) : State :=
  match s.phase with
  | .idle => s
  | .decreasing => { s.endPass with reservations := s.reservations.map Reservation.readmit }
  | .increasing => State.endPass { s with outputs := Vector.ofFn fun b => (s.output b).restore }

/-- B_eff is recomputed; a change of its value is a reallocation request, and a fall ends an applying pass (R71). -/
def State.recomputeBudget (s : State) : State :=
  let v := effectiveBudget s.budget s.supplyLimit
  if v = s.effective then s
  else
    let t := State.requestPass { s with effective := v }
    if v < s.effective then t.budgetFall else t

end Sys2Proof.Machine
end

