-- ==== Sys2Proof/Machine/Images.lean ====
section
/-! DEFINITION. The bytes of responses (R177, R188 to R192): numbers, marks, enumerations, the record image, the bay image,
the event snapshot, and the data of every reading request. The data of a request with no layout table follow R188 in
the order of its own rule; what R188 leaves open of them is a DESIGN CHOICE, unsafe, set out in notes/assumptions/6.md. -/

namespace Sys2Proof.Machine

/-! ## Numbers, marks and sets (R188) -/

/-- A number in one byte. -/
def byte (n : Nat) : Byte := BitVec.ofNat 8 n

/-- A number in two bytes, most significant first (R188). -/
def be16 (n : Nat) : List Byte := [byte (n / 256), byte n]

/-- A mask of three bytes, the last byte holding bits 7 to 0 (R188). -/
def be24 (v : BitVec 24) : List Byte := [v.extractLsb' 16 8, v.extractLsb' 8 8, v.extractLsb' 0 8]

/-- Eight bytes, most significant first (R188). -/
def be64 (v : BitVec 64) : List Byte :=
  [v.extractLsb' 56 8, v.extractLsb' 48 8, v.extractLsb' 40 8, v.extractLsb' 32 8,
    v.extractLsb' 24 8, v.extractLsb' 16 8, v.extractLsb' 8 8, v.extractLsb' 0 8]

/-- A mark: 1 for set, 0 for clear (R188). -/
def mark (b : Bool) : Byte := if b then 1 else 0

/-- The marks of a list as bits 0, 1, 2 and on (R188). -/
def bitField : List Bool → Nat
  | [] => 0
  | b :: rest => b.toNat + 2 * bitField rest

/-- An optional one-byte field of an image; absent reads 0 (R188). -/
def optByte {α : Type} (f : α → Byte) (o : Option α) : Byte := (o.map f).getD 0

/-- An optional two-byte field of an image; absent reads 0 (R188). -/
def opt16 {α : Type} (f : α → Nat) (o : Option α) : List Byte := be16 ((o.map f).getD 0)

/-- A list of varying length: its count and its members (R188). -/
def listBytes {α : Type} (f : α → List Byte) (l : List α) : List Byte := byte l.length :: l.flatMap f

/-- A signed byte in two's complement (R188). -/
def signedByte (v : Int) : Byte := BitVec.ofInt 8 v

/-! ## Status codes (R189) and the response frame (R177, R190) -/

/-- The status codes (R189). -/
def Status.code : Status → Byte
  | .done => 0x00
  | .accepted => 0x01
  | .clamped => 0x02
  | .badRequest => 0x10
  | .badIndex => 0x11
  | .outOfRange => 0x12
  | .wrongState => 0x13
  | .duplicate => 0x14
  | .full => 0x15
  | .notFound => 0x16
  | .notAuthorised => 0x17
  | .lowCharge => 0x18
  | .laneActive => 0x19
  | .wrongBay => 0x1A
  | .stale => 0x1B

/-- The response frame (R190). Before the assertion of CS_N the summary byte is not filled in; it stands here as the
summary at the moment asked. -/
def Port.responseFrame (p : Port) : List Byte :=
  p.response.status.code :: p.response.attention.getD p.summary :: byte p.response.data.length :: p.response.data

/-- The first n bytes a transaction shifts out: the response frame, then 0xFF (R177). -/
def Port.shiftedOut (p : Port) (n : Nat) : List Byte :=
  p.responseFrame.take n ++ List.replicate (n - p.responseFrame.length) 0xFF

/-! ## The record image (R191) -/

/-- The presence field of the record image (R191). -/
def Record.presence (r : Record) : Nat :=
  bitField [r.homeBay.isSome, r.currentBay.isSome, r.holder.isSome, r.readyBy.isSome, r.lastCharge.isSome,
    r.lastTemp.isSome, r.capacity.isSome, r.acceptance.isSome, r.profileHeld.isSome, r.holdReason.isSome,
    r.adriftReason.isSome]

/-- The conditions byte of the record image (R191). -/
def Record.conditions (r : Record) : Nat :=
  r.failureCount % 8 + 8 * bitField [r.provStuck, r.unsecured, r.orderUndelivered, r.misplaced]

/-- The 34-byte record image (R191). -/
def Record.image (r : Record) : List Byte :=
  [byte r.custody.ctorIdx] ++ be16 r.presence ++ be64 r.tabletId ++
    [optByte (fun b => byte b.val) r.homeBay, optByte (fun b => byte b.val) r.currentBay] ++
    opt16 id r.holder ++ be16 r.target ++ opt16 Fin.val r.readyBy ++ opt16 id r.lastCharge ++
    [optByte signedByte r.lastTemp] ++ opt16 id r.capacity ++ opt16 id r.acceptance ++
    [r.profileTarget, optByte id r.profileHeld, r.flags, byte r.conditions,
      optByte (fun x => byte x.ctorIdx) r.holdReason, optByte (fun x => byte x.ctorIdx) r.adriftReason] ++
    be16 r.energy

/-! ## The bay image (R42, R192) -/

/-- The 32-byte bay image (R192). -/
def State.bayImage (s : State) (b : BayNo) : List Byte :=
  let x := s.bay b
  let l := s.link b
  let o := s.output b
  [byte b.val, byte (bitField [x.populated, x.hostDisabled, x.contact, x.recovery]),
      byte (bitField [x.record.isSome, x.reportedId.isSome, x.foreignCause.isSome, x.partner.isSome,
        x.faultReason.isSome, l.window.isSome, x.lane.isSome]),
      byte x.state.ctorIdx, optByte (fun i => byte i.val) x.record] ++
    be64 (x.reportedId.getD 0) ++
    [optByte (fun c => byte c.ctorIdx) x.foreignCause, optByte (fun p => byte p.val) x.partner,
      optByte (fun f => byte f.ctorIdx) x.faultReason, byte l.state.ctorIdx, byte l.step.val, byte l.tap.val,
      optByte (fun w => byte w.1.val) l.window, optByte (fun w => byte w.2.val) l.window, byte x.latch.ctorIdx,
      byte o.charge.ctorIdx] ++
    be16 x.grant ++ be16 o.issued ++ be16 o.settled ++
    [optByte (fun l => byte l.val) x.lane, byte x.lamp.ctorIdx,
      optByte (fun c => byte c.ctorIdx) (s.namedCustody b)]

/-! ## The event snapshot and the summary (R184, R190) -/

/-- The event snapshot of a source (R190). -/
def Port.snapshot (p : Port) (n : SourceNo) : List Byte :=
  [byte n.val, mark (p.enables.getLsbD n.val)] ++ be64 p.subjects[n.val]

/-- The set of non-empty sources, as a mask (R184). -/
def Port.nonEmptySet (p : Port) : Nat := bitField ((List.finRange 18).map p.nonEmpty)

/-- The data of EVENT_SUMMARY (R184, R190). -/
def Port.eventSummary (p : Port) : List Byte :=
  be24 (p.enables.zeroExtend 24) ++ be24 (BitVec.ofNat 24 p.nonEmptySet) ++ [p.summary]

/-! ## Settings -/

/-- The five link settings in the order of R51. -/
def LinkSettings.bytes (t : LinkSettings) : List Byte :=
  [byte t.maxStep.val, byte t.minWindow, signedByte t.tapOffset, byte t.retrainInterval] ++ be16 t.telemetryInterval

/-- The eleven budget settings in the order of R69. -/
def BudgetSettings.bytes (t : BudgetSettings) : List Byte :=
  be16 t.supplyRating ++ be16 t.foldback ++ be16 t.overhead ++ be16 t.floorF ++ [byte t.deliveryK] ++
    be16 t.bayCeiling ++ be16 t.defaultTarget ++ be16 t.checkoutMinimum ++ be16 t.wakeReserve ++
    be16 t.driveReserve ++ [byte t.foreignPolicy.ctorIdx]

/-- The three lane settings in the order of R112. -/
def LaneSettings.bytes (t : LaneSettings) : List Byte :=
  [byte t.failureLimit, byte t.sessionLimit, byte t.windowPolicy.ctorIdx]

/-- The five custody settings in the order of R128; ON is coded 0 and OFF 1. -/
def CustodySettings.bytes (t : CustodySettings) : List Byte :=
  [byte t.authority.ctorIdx, mark !t.autoLock] ++ be16 t.teacherLength ++ be16 t.serviceLength ++
    be16 t.releaseLength

/-- The three receiver settings in the order of R153; invert OFF is coded 0 and ON 1. -/
def Receiver.settingsBytes (k : Receiver) : List Byte := [mark k.invert, byte k.period.ctorIdx, byte k.gapLimit]

/-! ## Pages of a list (R17, R126, R151) -/

/-- At most n members of a list with a mark MORE, set if a further member follows them. -/
def page {α : Type} (n : Nat) (f : α → List Byte) (l : List α) : List Byte :=
  listBytes f (l.take n) ++ [mark (decide (n < l.length))]

/-! ## BUDGET_READ (R93) -/

/-- The owner's number. -/
def Owner.number : Owner → Nat
  | .latch k => k.val
  | .lane l => l.val

/-- A reservation: kind (LATCH 0, LANE 1), owner, amount, state (R89, R93). -/
def Reservation.bytes (e : Reservation) : List Byte :=
  [byte e.owner.ctorIdx, byte e.owner.number] ++ be16 e.amount ++ [byte e.state.ctorIdx]

/-- An allocation entry (R73): a presence byte for its seven optional fields in order, then its fields. -/
def AllocEntry.bytes (e : AllocEntry) : List Byte :=
  [byte (bitField [e.chargeSeen.isSome, e.bandSeen.isSome, e.limit.isSome, e.energy.isSome, e.minutes.isSome,
      e.required.isSome, e.rank.isSome]), mark e.hot] ++
    opt16 id e.chargeSeen ++ [optByte (fun b => byte b.ctorIdx) e.bandSeen, byte e.disposition.ctorIdx] ++
    opt16 id e.limit ++ opt16 id e.energy ++ opt16 id e.minutes ++ opt16 id e.required ++
    [optByte byte e.rank]

/-- The allocator is APPLYING while the sequencer is in a phase (R75, R97). -/
def Phase.applying : Phase → Bool
  | .idle => false
  | .decreasing | .increasing => true

/-- The data of BUDGET_READ (R93). DESIGN CHOICE: the level of SUPPLY_LIMIT is coded deasserted 0 and asserted 1
(notes/assumptions/6.md). -/
def State.budgetImage (s : State) (b : Option BayNo) : List Byte :=
  [mark s.phase.applying, mark s.passPending, mark s.supplyLimit] ++ be16 s.effective ++
    be16 (countedAmount s.reservations) ++ be16 s.figures.budget ++ [byte s.figures.count] ++
    be16 s.figures.demand ++ [byte s.figures.result.ctorIdx, byte s.figures.zeroGrants] ++
    listBytes Reservation.bytes s.reservations ++
    match b with
    | some b => (s.entry b).bytes ++ be16 (s.bay b).grant
    | none => []

/-! ## LANE_READ and QUEUE_READ (R126) -/

/-- The code of a session state (R114); no session is IDLE. -/
def Lane.stateCode (x : Lane) : Nat :=
  match x.session with
  | some y => y.phase.ctorIdx + 1
  | none => 0

/-- The limit of a running session timer (R119). -/
def SessionPhase.limit : SessionPhase → Option Nat
  | .connected n => some n
  | .admitting | .waking | .closing _ => none

/-- A lane as LANE_READ reports it (R126): session state, a presence byte for bay, record, generation sought, start time,
claimed generation, last result, last record and last claimed generation, then the fields. DESIGN CHOICE: the timers are
coded running 0 and stopped 1, and the state of the lane's switch open 0 and closed 1 (notes/assumptions/6.md). -/
def Lane.bytes (x : Lane) : List Byte :=
  let y := x.session
  let start := y.bind Session.started
  let claimed := y.bind fun z => z.phase.claimed
  let limit := y.bind fun z => z.phase.limit
  let lastClaimed := x.last.bind LastSession.claimed
  [byte x.stateCode,
      byte (bitField [y.isSome, y.isSome, y.isSome, start.isSome, claimed.isSome, x.last.isSome, x.last.isSome,
        lastClaimed.isSome]),
      optByte (fun z => byte z.bay.val) y, optByte (fun z => byte z.record.val) y, optByte Session.sought y] ++
    opt16 (fun t => t.1.val) start ++ [optByte (fun t => byte t.2.val) start,
      mark (x.stateCode != 2), mark limit.isNone, optByte byte limit, optByte id claimed,
      optByte (fun z => byte z.result.ctorIdx) x.last, optByte (fun z => byte z.record.val) x.last,
      optByte id lastClaimed, mark x.switch.isSome]

/-- The code of a window state: OPEN 0, CLOSED 1, in the order of R173. -/
def windowCode (opened : Bool) : Byte := mark !opened

/-- The data of LANE_READ (R126). -/
def State.laneImage (s : State) : List Byte :=
  (allLanes.flatMap fun l => (s.lane l).bytes) ++ s.laneSettings.bytes ++
    [windowCode s.laneWindow, byte s.queue.length, mark s.queue.head?.isSome,
      optByte (fun i => byte i.val) s.queue.head?]

/-- The data of QUEUE_READ from a start position (R126). -/
def State.queueImage (s : State) (start : Nat) : List Byte := page 32 (fun i => [byte i.val]) (s.queue.drop start)

/-! ## CUSTODY_READ (R151) -/

/-- The whole seconds from now to an expiry. -/
def secondsTo (now expiry : Nat) : Nat := expiry - now

/-- A window: whether it is open, and the whole seconds to its expiry, 0 where it is closed (R151). DESIGN CHOICE: the two
stand together (notes/assumptions/6.md). -/
def windowBytes (now : Nat) (w : Option Window) : List Byte :=
  mark w.isSome :: opt16 (fun x => secondsTo now x.expiry) w

/-- A latch request: its bay and its direction. -/
def LatchRequest.bytes (q : LatchRequest) : List Byte := [byte q.bay.val, byte q.direction.ctorIdx]

/-- A drive slot: its state, and outside FREE its bay and direction (R151). -/
def DriveSlot.bytes (k : DriveSlot) : List Byte := byte k.ctorIdx :: (k.request.map LatchRequest.bytes).getD [0, 0]

/-- A release entry: bay, record, phase, and in OPEN the seconds to its expiry and its order outcome (R151). -/
def Release.bytes (now : Nat) (b : BayNo) (e : Release) : List Byte :=
  [byte b.val, byte e.record.val, byte e.phase.ctorIdx] ++
    match e.phase with
    | .unlocking => [0, 0, 0]
    | .opened expiry outcome => be16 (secondsTo now expiry) ++ [byte outcome.ctorIdx]

/-- The release entries of the bays from a start bay on, in ascending order (R151). -/
def State.releasesFrom (s : State) (start : BayNo) : List (BayNo × Release) :=
  (allBays.filter fun b => start ≤ b).filterMap fun b => (s.release b).map fun e => (b, e)

/-- The data of CUSTODY_READ from a start bay (R151). DESIGN CHOICE: the teacher window's open mark and seconds come first,
then the service window's open mark and seconds, and the filtered level of SERVICE is coded deasserted 0 and asserted 1
(notes/assumptions/6.md). -/
def State.custodyImage (s : State) (start : BayNo) : List Byte :=
  s.custodySettings.bytes ++ windowBytes s.clk32 s.teacher ++ windowBytes s.clk32 s.service ++
    [mark s.serviceLevel] ++ listBytes LatchRequest.bytes s.latchQueue ++
    ((List.finRange 2).flatMap fun k => (s.slot k).bytes) ++
    page 24 (fun x => x.2.bytes s.clk32 x.1) (s.releasesFrom start)

/-! ## KEY_READ (R166) and the entry of SET_KEY (R159) -/

/-- A sample: bit 7 is 1 for MARK, bits 6 to 0 the length (R188). -/
def Sample.byte (x : Sample) : Byte := Machine.byte ((if x.mark then 128 else 0) + x.length % 128)

/-- The role of an entry, in LEARNING and VALID (R156). -/
def KeyState.role? : KeyState → Option KeyRole
  | .empty => none
  | .learning r _ _ => some r
  | .valid r _ _ _ _ => some r

/-- The tolerance of an entry, in LEARNING and VALID (R156). -/
def KeyState.tolerance? : KeyState → Option Nat
  | .empty => none
  | .learning _ t _ => some t
  | .valid _ _ _ t _ => some t

/-- The pattern, the depth and the ignore list of a VALID entry (R156). -/
def KeyState.pattern? : KeyState → Option (List Sample × Nat × List Nat)
  | .valid _ p d _ g => some (p, d, g)
  | .empty | .learning _ _ _ => none

/-- The learn timer's expiry, in LEARNING (R157). -/
def KeyState.expiry? : KeyState → Option Nat
  | .learning _ _ e => some e
  | .empty | .valid _ _ _ _ _ => none

/-- A Key Table entry (R166): state, a presence byte for role, tolerance, pattern, depth, ignore list, learn timer and last
learn result, then the fields. DESIGN CHOICE: the ignore list is a set (R156) and no rule orders its positions here; they
stand in the order in which SET_KEY gave them (notes/assumptions/6.md). -/
def KeyEntry.bytes (now : Nat) (e : KeyEntry) : List Byte :=
  let p := e.state.pattern?
  [byte e.state.ctorIdx,
      byte (bitField [e.state.role?.isSome, e.state.tolerance?.isSome, p.isSome, p.isSome, p.isSome,
        e.state.expiry?.isSome, e.lastResult.isSome]),
      optByte (fun r => byte r.ctorIdx) e.state.role?, optByte byte e.state.tolerance?] ++
    listBytes (fun x => [Sample.byte x]) ((p.map fun x => x.1).getD []) ++
    [optByte (fun x => byte x.2.1) p] ++ listBytes (fun n => [byte n]) ((p.map fun x => x.2.2).getD []) ++
    opt16 (secondsTo now) e.state.expiry? ++ [optByte (fun r => byte r.ctorIdx) e.lastResult]

/-- The data of KEY_READ (R166). -/
def State.keyImage (s : State) (e : KeyIx) : List Byte :=
  (s.keyEntry e).bytes s.clk32 ++ s.keys.settingsBytes ++
    [byte s.keys.burst.ctorIdx, byte s.keys.failures, mark s.keys.lockout.isSome] ++
    opt16 (secondsTo s.clk32) s.keys.lockout ++
    (List.finRange 8).map fun k => byte (s.keyEntry k).state.ctorIdx

/-! ## CLOCK_READ and PERIOD_READ (R175) -/

/-- The data of CLOCK_READ (R175): the seconds count takes two bytes (R188); the answer of the deadline query is a presence
byte and two bytes. -/
def DayClock.image (c : DayClock) : List Byte :=
  be16 c.minute.val ++ [byte c.day.val] ++ be16 c.seconds.val ++ [mark c.timeValid, windowCode c.windowOpen,
    mark c.nextDeadline.isSome] ++ opt16 id c.nextDeadline

/-- A Period Table entry (R170, R175): state, minute of day, day mask, kind; absent fields read 0. DESIGN CHOICE: no presence
byte; the state, EMPTY or VALID, says whether the three fields are present (notes/assumptions/6.md). -/
def periodBytes (e : Option PeriodEntry) : List Byte :=
  mark e.isSome :: opt16 (fun x => x.minute.val) e ++
    [optByte (fun x => x.days.zeroExtend 8) e, optByte (fun x => byte x.kind.ctorIdx) e]

/-- The data of PERIOD_READ (R175). -/
def DayClock.periodImage (c : DayClock) : List Byte := c.periods.toList.flatMap periodBytes

/-! ## LINE_TEST (R67) -/

/-- The results of LINE_TEST, in the order R67 lists them. -/
inductive LineResult where
  | clockStuckLow | clockStuckHigh | dataStuckLow | dataStuckHigh | pass
deriving DecidableEq, Repr

/-- The first check that fails, in the order of R67, or PASS. -/
def lineResult (r : LineReadings) : LineResult :=
  if !r.clockHigh then .clockStuckLow
  else if r.clockLow then .clockStuckHigh
  else if !r.dataReleased then .dataStuckLow
  else if r.dataLow then .dataStuckHigh
  else .pass

end Sys2Proof.Machine
end

