-- ==== Sys2Proof/Machine/LineFrames.lean ====
section
/-! DEFINITION. Dock-line frames (R47, R48, R193): the frame the part sends for each exchange, and the test of a reply's
bytes. -/

namespace Sys2Proof.Machine

/-- The sum of bytes modulo 256 (R47). -/
def byteSum (l : List Byte) : Byte := l.foldl (· + ·) 0

/-- A frame of a kind and a payload, with the check byte that makes the sum 0 (R47). -/
def lineFrame (kind : Byte) (payload : List Byte) : List Byte :=
  let body := kind :: byte payload.length :: payload
  body ++ [0 - byteSum body]

/-- The payload of an ORDER of the custody slot (R193). -/
def CustodyOrder.payload : CustodyOrder → List Byte
  | .lock => [0, 0, 0]
  | .release holder => 1 :: be16 holder

/-- The payload of an ORDER of the lane slot (R193). -/
def LaneOrder.payload : LaneOrder → List Byte
  | .wake l => [2, 0, byte l.val]
  | .quiet => [3, 0, 0]

/-- The frame a link sends for the exchange in progress (R48, R193). -/
def Link.sent (l : Link) : List Byte :=
  match l.exchange with
  | none => []
  | some .hello => lineFrame 0x11 [byte l.step.val]
  | some .train => lineFrame 0x12 (be64 Config.trainingPattern)
  | some .query => lineFrame 0x13 []
  | some .custodyOrder => ((l.custody.inFlight.map CustodyOrder.payload).map (lineFrame 0x14)).getD []
  | some .laneOrder => ((l.lane.inFlight.map LaneOrder.payload).map (lineFrame 0x14)).getD []

/-- The payload length of a reply kind (R193). -/
def replyLength (kind : Byte) : Option Nat :=
  if kind = 0x21 then some 18
  else if kind = 0x22 then some 8
  else if kind = 0x23 then some 4
  else if kind = 0x24 then some 0
  else if kind = 0x25 then some 1
  else none

/-- An exchange calls for a reply of this kind (R48). -/
def Exchange.calls (x : Exchange) (kind : Byte) : Bool :=
  match x with
  | .hello => kind == 0x21
  | .train => kind == 0x22
  | .query => kind == 0x23
  | .custodyOrder | .laneOrder => kind == 0x24 || kind == 0x25

/-- The kind and the payload of a reply whose bytes make one whole frame: its length byte is its kind's and the bytes sum
to 0 (R47, R193). -/
def wholeReply : List Byte → Option (Byte × List Byte)
  | kind :: len :: rest =>
    if replyLength kind = some len.toNat ∧ rest.length = len.toNat + 1 ∧ byteSum (kind :: len :: rest) = 0 then
      some (kind, rest.take len.toNat)
    else none
  | _ => none

/-- The bytes of a reply make the exchange succeed (R47). -/
def Exchange.succeeds (x : Exchange) (reply : List Byte) : Bool :=
  match wholeReply reply with
  | some (kind, _) => x.calls kind
  | none => false

end Sys2Proof.Machine
end

