-- ==== Sys2Proof/WellFormed.lean ====
section
/-! DEFINITION. Which commands the world can present. A request's operands are as wide as its frame carries them, so
most commands are well formed with any operand; the checks below are those the width does not settle. The machine
answers an ill-formed command all the same (notes/assumptions/3.md). -/

namespace Sys2Proof

/-- A transaction carries no request when it shifted in no byte or its first byte is 0 (R178). -/
def carriesNoRequest : List Byte → Bool
  | [] => true
  | code :: _ => code == 0

/-- SET_PERIOD's parameters fit its operation: WRITE (0) takes the entry's fields and CLEAR (1) takes none (R171). -/
def periodParamsFit (operation : Byte) (p : Option PeriodParams) : Bool :=
  if operation == 0 then p.isSome else if operation == 1 then p.isNone else true

/-- Well-formedness of a command, as a check. -/
def Instr.wellFormed : Instr → Bool
  | .emptyTransaction shifted => carriesNoRequest shifted
  | .malformedRequest shifted => !carriesNoRequest shifted
  | .setPeriod _ operation p => periodParamsFit operation p
  | .setKey _ p => p.ignored.length ≤ 55
  | .stretchTaken durationNs => 0 < durationNs
  | .latchSwitchChange _ _ _ | .coldReset _ | .csNAsserted | .enrol _ | .find _ | .readRecord _ | .list _ _
  | .amend _ _ _ | .flagSwap _ _ | .flagAnd _ _ | .flagOr _ _ | .fill _ _ _ | .hold _ | .unhold _ | .retire _
  | .bayDisable _ | .bayEnable _ | .readBay _ | .linkSettings _ | .linkReset _ | .lineTest _ _ | .budgetSettings _
  | .budgetRead _ | .laneSettings _ | .laneDone _ _ | .laneCancel _ | .laneRead | .queueRead _ | .custodySettings _
  | .checkout _ _ _ _ | .cancelRelease _ | .latch _ _ | .custodyRead _ | .keySettings _ | .learnKey _ _ _
  | .eraseKey _ | .keyRead _ | .setTime _ _ | .clockRead | .periodRead | .selfTest | .partReset | .eventSummary
  | .eventRead _ | .eventAck _ _ | .eventEnable _ | .rawContactChange _ _ | .contactArrival _ | .contactLoss _
  | .restEnd _ | .identTaken _ _ | .echoTaken _ _ | .telemetryTaken _ _ | .ackTaken _ | .nakTaken _ _
  | .badFrame _ _ | .replyTimeout _ | .pollInstant _ | .supplyLimitChange _ | .settledReport _ _ | .settleTimeout _
  | .stageFaultSignal _ | .energyAccountingTick | .wakeTimeout _ | .sessionTimeout _ | .teacherWindowExpiry
  | .serviceWindowExpiry | .serviceInputChange _ | .serviceEdge | .releaseWindowExpiry _ | .driveTimeout _
  | .irinEdge _ | .gapReached | .learnTimeout | .lockoutExpiry | .minuteStep | .secondsCountTick => true

end Sys2Proof
end

