-- ==== Sys2Proof/Decode.lean ====
section
/-! DEFINITION. From bits to commands. spec/opcode_table.json gives no row any bits, so decodeTableWord answers none. The
frames the manual does give are decoded below: a transaction's bytes into a command of the port (R178, R188 to R190), with
an encoder of request frames, and a reply's bytes into an event of the dock line (R47, R193). -/

namespace Sys2Proof

/-- The command a word spells by the table's bits: the table gives no bits to any row. -/
def decodeTableWord (_nbits _w : Nat) : Option Instr := none

/-! ## Parameters (R188) -/

/-- Two bytes as a number, most significant first (R188). -/
def half (hi lo : Byte) : Half := hi ++ lo

/-- Eight bytes as a 64-bit value, most significant first (R188). -/
def eight (a b c d e f g h : Byte) : BitVec 64 := a ++ b ++ c ++ d ++ e ++ f ++ g ++ h

/-- A mark or a presence byte: 0 or 1 (R188). -/
def flag? (b : Byte) : Option Bool := if b = 0 then some false else if b = 1 then some true else none

/-- An optional parameter: its presence byte and its value, ignored when absent (R188). -/
def present? {α : Type} (b : Byte) (v : α) : Option (Option α) :=
  (flag? b).map fun p => if p then some v else none

/-- The parameters of ENROL (R14, R188). -/
def enrolParams : List Byte → Option EnrolParams
  | [a, b, c, d, e, f, g, h, state, h1, h0, hp, hb, tp, t1, t0, rp, r1, r0, profile, flags] =>
    match present? hp hb, present? tp (half t1 t0), present? rp (half r1 r0) with
    | some home, some target, some ready =>
      some ⟨eight a b c d e f g h, state, half h1 h0, home, target, ready, profile, flags⟩
    | _, _, _ => none
  | _ => none

/-- The selection byte of FILL: bits 0 to 4 (R188). -/
def selection? (b : Byte) : Option Byte := if b.toNat < 32 then some b else none

/-- A field of FILL's template: its value if the selection names it; the encoding of a field not selected is ignored
(R188). -/
def selected {α : Type} (sel : Byte) (bit : Nat) (v : Option α) : Option (Option α) :=
  if sel.getLsbD bit then v.map some else some none

/-- FILL (R20, R188). -/
def fillRequest : List Byte → Option Instr
  | [first, count, sel, t1, t0, rp, r1, r0, hp, hb, profile, flags] =>
    match selection? sel with
    | none => none
    | some m =>
      match selected m 0 (some (half t1 t0)), selected m 1 (present? rp (half r1 r0)),
        selected m 2 (present? hp hb), selected m 3 (some profile), selected m 4 (some flags) with
      | some target, some ready, some home, some prof, some fl =>
        some (.fill first count ⟨target, ready, home, prof, fl⟩)
      | _, _, _, _, _ => none
  | _ => none

/-- LINK_SETTINGS (R51). -/
def linkSettingsParams : List Byte → Option Instr
  | [] => some (.linkSettings none)
  | [a, b, c, d, t1, t0] => some (.linkSettings (some ⟨a, b, c, d, half t1 t0⟩))
  | _ => none

/-- BUDGET_SETTINGS (R69): the delivery factor and the policy take one byte, the others two. -/
def budgetSettingsParams : List Byte → Option Instr
  | [] => some (.budgetSettings none)
  | [a1, a0, b1, b0, c1, c0, d1, d0, k, e1, e0, f1, f0, g1, g0, h1, h0, i1, i0, policy] =>
    some (.budgetSettings (some ⟨half a1 a0, half b1 b0, half c1 c0, half d1 d0, k, half e1 e0, half f1 f0,
      half g1 g0, half h1 h0, half i1 i0, policy⟩))
  | _ => none

/-- CUSTODY_SETTINGS (R128). -/
def custodySettingsParams : List Byte → Option Instr
  | [] => some (.custodySettings none)
  | [mode, auto, a1, a0, b1, b0, c1, c0] =>
    some (.custodySettings (some ⟨mode, auto, half a1 a0, half b1 b0, half c1 c0⟩))
  | _ => none

/-- SET_KEY (R159): the ignore list is a count and its positions. -/
def setKeyRequest : List Byte → Option Instr
  | entry :: role :: depth :: tolerance :: count :: ignored =>
    if ignored.length = count.toNat then some (.setKey entry ⟨role, depth, tolerance, ignored⟩) else none
  | _ => none

/-- SET_PERIOD (R171): the lengths of an operation other than WRITE and CLEAR are those of either. -/
def setPeriodRequest : List Byte → Option Instr
  | [entry, operation] => if operation = 0 then none else some (.setPeriod entry operation none)
  | [entry, operation, m1, m0, days, kind] =>
    if operation = 1 then none else some (.setPeriod entry operation (some ⟨half m1 m0, days, kind⟩))
  | _ => none

/-- CHECKOUT (R143, R188). -/
def checkoutRequest : List Byte → Option Instr
  | [index, h1, h0, preempt, override] =>
    match flag? preempt, flag? override with
    | some p, some o => some (.checkout index (half h1 h0) p o)
    | _, _ => none
  | _ => none

/-! ## Request frames (R178, R189, R190) -/

/-- A request that takes no parameters. -/
def bare (i : Instr) : List Byte → Option Instr
  | [] => some i
  | _ => none

/-- A request that takes one byte. -/
def one (f : Byte → Instr) : List Byte → Option Instr
  | [a] => some (f a)
  | _ => none

/-- A request that takes two bytes. -/
def two (f : Byte → Byte → Instr) : List Byte → Option Instr
  | [a, b] => some (f a b)
  | _ => none

/-- A request that takes nothing or three bytes. -/
def threeOrNone {α : Type} (f : Option α → Instr) (g : Byte → Byte → Byte → α) : List Byte → Option Instr
  | [] => some (f none)
  | [a, b, c] => some (f (some (g a b c)))
  | _ => none

/-- AMEND (R18, R188). -/
def amendRequest : List Byte → Option Instr
  | [index, field, p, v1, v0] => (present? p (half v1 v0)).map (.amend index field)
  | _ => none

/-- BUDGET_READ (R93, R188). -/
def budgetReadRequest : List Byte → Option Instr
  | [p, bay] => (present? p bay).map .budgetRead
  | _ => none

/-- FIND (R16). -/
def findRequest : List Byte → Option Instr
  | [a, b, c, d, e, f, g, h] => some (.find (eight a b c d e f g h))
  | _ => none

/-- LEARN_KEY (R157). -/
def learnKeyRequest : List Byte → Option Instr
  | [entry, role, tolerance] => some (.learnKey entry role tolerance)
  | _ => none

/-- SET_TIME (R169). -/
def setTimeRequest : List Byte → Option Instr
  | [m1, m0, day] => some (.setTime (half m1 m0) day)
  | _ => none

/-- EVENT_ACK (R185, R190). -/
def eventAckRequest : List Byte → Option Instr
  | [n, a, b, c, d, e, f, g, h] => some (.eventAck n (eight a b c d e f g h))
  | _ => none

/-- The request a code names, read from its parameters; none where the code names no request, or its parameters have a
length or an encoding the request does not accept (R178, R188, R189). The readings are what the lines of the bay show
if the request is a LINE_TEST (R67). -/
def decodeRequest (r : LineReadings) (code : Byte) (p : List Byte) : Option Instr :=
  match code.toNat with
  | 0x01 => (enrolParams p).map .enrol
  | 0x02 => findRequest p
  | 0x03 => one .readRecord p
  | 0x04 => two .list p
  | 0x05 => amendRequest p
  | 0x06 => two .flagSwap p
  | 0x07 => two .flagAnd p
  | 0x08 => two .flagOr p
  | 0x09 => fillRequest p
  | 0x0A => one .hold p
  | 0x0B => one .unhold p
  | 0x0C => one .retire p
  | 0x20 => one .bayDisable p
  | 0x21 => one .bayEnable p
  | 0x22 => one .readBay p
  | 0x23 => linkSettingsParams p
  | 0x24 => one .linkReset p
  | 0x25 => one (fun b => .lineTest b r) p
  | 0x30 => budgetSettingsParams p
  | 0x31 => budgetReadRequest p
  | 0x40 => threeOrNone .laneSettings (fun a b c => ⟨a, b, c⟩) p
  | 0x41 => two .laneDone p
  | 0x42 => one .laneCancel p
  | 0x43 => bare .laneRead p
  | 0x44 => one .queueRead p
  | 0x50 => custodySettingsParams p
  | 0x51 => checkoutRequest p
  | 0x52 => one .cancelRelease p
  | 0x53 => two .latch p
  | 0x54 => one .custodyRead p
  | 0x60 => threeOrNone .keySettings (fun a b c => ⟨a, b, c⟩) p
  | 0x61 => learnKeyRequest p
  | 0x62 => setKeyRequest p
  | 0x63 => one .eraseKey p
  | 0x64 => one .keyRead p
  | 0x70 => setTimeRequest p
  | 0x71 => setPeriodRequest p
  | 0x72 => bare .clockRead p
  | 0x73 => bare .periodRead p
  | 0x78 => bare .selfTest p
  | 0x79 => bare .partReset p
  | 0x7A => bare .eventSummary p
  | 0x7B => one .eventRead p
  | 0x7C => eventAckRequest p
  | 0x7D => threeOrNone .eventEnable (fun a b c => a ++ b ++ c) p
  | _ => none

/-- The command of a whole transaction, taken at the deassertion of CS_N from the bytes shifted in (R177, R178). Bytes after
the end of the frame are ignored. -/
def decodeFrame (r : LineReadings) (shifted : List Byte) : Instr :=
  if carriesNoRequest shifted then .emptyTransaction shifted
  else
    match shifted with
    | code :: len :: rest =>
      if rest.length < len.toNat ∨ Config.maxParameters < len.toNat then .malformedRequest shifted
      else (decodeRequest r code (rest.take len.toNat)).getD (.malformedRequest shifted)
    | _ => .malformedRequest shifted

/-! ## The encoder of request frames -/

/-- A 16-bit number as two bytes (R188). -/
def halfBytes (v : Half) : List Byte := [v.extractLsb' 8 8, v.extractLsb' 0 8]

/-- An optional parameter: presence byte and value (R188); an absent value is sent as zeros. -/
def optionalBytes {α : Type} (n : Nat) (f : α → List Byte) : Option α → List Byte
  | none => List.replicate (n + 1) 0
  | some v => 1 :: f v

/-- FILL's template: its selection byte and its values; a value not selected is sent as zeros (R188). -/
def FillTemplate.bytes (t : FillTemplate) : List Byte :=
  let sel := Machine.bitField [t.target.isSome, t.readyBy.isSome, t.homeBay.isSome, t.profileTarget.isSome,
    t.flags.isSome]
  [Machine.byte sel] ++ ((t.target.map halfBytes).getD [0, 0]) ++
    ((t.readyBy.map (optionalBytes 2 halfBytes)).getD [0, 0, 0]) ++
    ((t.homeBay.map (optionalBytes 1 fun b => [b])).getD [0, 0]) ++
    [t.profileTarget.getD 0, t.flags.getD 0]

/-- The code and the parameters of a request (R188, R189); none for a command that is no request. -/
def encodeRequest : Instr → Option (Byte × List Byte)
  | .enrol p =>
    some (0x01, Machine.be64 p.tabletId ++ [p.initial] ++ halfBytes p.holder ++
      optionalBytes 1 (fun b => [b]) p.homeBay ++ optionalBytes 2 halfBytes p.target ++
      optionalBytes 2 halfBytes p.readyBy ++ [p.profileTarget, p.flags])
  | .find x => some (0x02, Machine.be64 x)
  | .readRecord i => some (0x03, [i])
  | .list c i => some (0x04, [c, i])
  | .amend i f v => some (0x05, [i, f] ++ optionalBytes 2 halfBytes v)
  | .flagSwap i f => some (0x06, [i, f])
  | .flagAnd i f => some (0x07, [i, f])
  | .flagOr i f => some (0x08, [i, f])
  | .fill i n t => some (0x09, [i, n] ++ t.bytes)
  | .hold i => some (0x0A, [i])
  | .unhold i => some (0x0B, [i])
  | .retire i => some (0x0C, [i])
  | .bayDisable b => some (0x20, [b])
  | .bayEnable b => some (0x21, [b])
  | .readBay b => some (0x22, [b])
  | .linkSettings none => some (0x23, [])
  | .linkSettings (some p) =>
    some (0x23, [p.maxStep, p.minWindow, p.tapOffset, p.retrainInterval] ++ halfBytes p.telemetryInterval)
  | .linkReset b => some (0x24, [b])
  | .lineTest b _ => some (0x25, [b])
  | .budgetSettings none => some (0x30, [])
  | .budgetSettings (some p) =>
    some (0x30, halfBytes p.supplyRating ++ halfBytes p.foldback ++ halfBytes p.overhead ++ halfBytes p.floorF ++
      [p.deliveryK] ++ halfBytes p.bayCeiling ++ halfBytes p.defaultTarget ++ halfBytes p.checkoutMinimum ++
      halfBytes p.wakeReserve ++ halfBytes p.driveReserve ++ [p.foreignPolicy])
  | .budgetRead b => some (0x31, optionalBytes 1 (fun x => [x]) b)
  | .laneSettings none => some (0x40, [])
  | .laneSettings (some p) => some (0x40, [p.failureLimit, p.sessionLimit, p.windowPolicy])
  | .laneDone l g => some (0x41, [l, g])
  | .laneCancel l => some (0x42, [l])
  | .laneRead => some (0x43, [])
  | .queueRead p => some (0x44, [p])
  | .custodySettings none => some (0x50, [])
  | .custodySettings (some p) =>
    some (0x50, [p.authority, p.autoLock] ++ halfBytes p.teacherLength ++ halfBytes p.serviceLength ++
      halfBytes p.releaseLength)
  | .checkout i h p o => some (0x51, [i] ++ halfBytes h ++ [Machine.mark p, Machine.mark o])
  | .cancelRelease i => some (0x52, [i])
  | .latch b d => some (0x53, [b, d])
  | .custodyRead b => some (0x54, [b])
  | .keySettings none => some (0x60, [])
  | .keySettings (some p) => some (0x60, [p.invert, p.period, p.gapLimit])
  | .learnKey e r t => some (0x61, [e, r, t])
  | .setKey e p => some (0x62, [e, p.role, p.depth, p.tolerance, Machine.byte p.ignored.length] ++ p.ignored)
  | .eraseKey e => some (0x63, [e])
  | .keyRead e => some (0x64, [e])
  | .setTime m d => some (0x70, halfBytes m ++ [d])
  | .setPeriod e o none => some (0x71, [e, o])
  | .setPeriod e o (some p) => some (0x71, [e, o] ++ halfBytes p.minute ++ [p.days, p.kind])
  | .clockRead => some (0x72, [])
  | .periodRead => some (0x73, [])
  | .selfTest => some (0x78, [])
  | .partReset => some (0x79, [])
  | .eventSummary => some (0x7A, [])
  | .eventRead n => some (0x7B, [n])
  | .eventAck n m => some (0x7C, n :: Machine.be64 m)
  | .eventEnable none => some (0x7D, [])
  | .eventEnable (some m) => some (0x7D, Machine.be24 m)
  | .coldReset _ | .csNAsserted | .emptyTransaction _ | .malformedRequest _ | .rawContactChange _ _
  | .contactArrival _ | .contactLoss _ | .restEnd _ | .identTaken _ _ | .echoTaken _ _ | .telemetryTaken _ _
  | .ackTaken _ | .nakTaken _ _ | .badFrame _ _ | .replyTimeout _ | .pollInstant _ | .supplyLimitChange _
  | .settledReport _ _ | .settleTimeout _ | .stageFaultSignal _ | .energyAccountingTick | .wakeTimeout _
  | .sessionTimeout _ | .teacherWindowExpiry | .serviceWindowExpiry | .serviceInputChange _ | .serviceEdge
  | .releaseWindowExpiry _ | .latchSwitchChange _ _ _ | .driveTimeout _ | .irinEdge _ | .stretchTaken _ | .gapReached
  | .learnTimeout | .lockoutExpiry | .minuteStep | .secondsCountTick => none

/-- The request frame of a code and its parameters (R190). -/
def requestFrame (x : Byte × List Byte) : List Byte := x.1 :: Machine.byte x.2.length :: x.2

/-- The request frame of a command (R190); none for a command that is no request. -/
def encodeFrame (i : Instr) : Option (List Byte) := (encodeRequest i).map requestFrame

/-! ## Dock-line replies (R47, R193) -/

/-- The event that a reply's payload of a kind makes (R193). -/
def replyEvent (b : BayNo) (kind : Byte) (payload : List Byte) : Option Instr :=
  match kind.toNat, payload with
  | 0x21, [m, v, i7, i6, i5, i4, i3, i2, i1, i0, c1, c0, a1, a0, step, held, p1, p0] =>
    some (.identTaken b ⟨m, v, eight i7 i6 i5 i4 i3 i2 i1 i0, half c1 c0, half a1 a0, step, held, half p1 p0⟩)
  | 0x22, [a, b', c, d, e, f, g, h] => some (.echoTaken b (eight a b' c d e f g h))
  | 0x23, [c1, c0, t, held] => some (.telemetryTaken b ⟨half c1 c0, t, held⟩)
  | 0x24, [] => some (.ackTaken b)
  | 0x25, [reason] => some (.nakTaken b reason)
  | _, _ => none

/-- The event that a reply's bytes make at bay b: a whole frame of a reply kind is that reply, any other is a bad frame
(R47, R193). -/
def decodeReply (b : BayNo) (reply : List Byte) : Instr :=
  match Machine.wholeReply reply with
  | some (kind, payload) => (replyEvent b kind payload).getD (.badFrame b reply)
  | none => .badFrame b reply

end Sys2Proof
end

