-- ==== Sys2Proof/Machine/Docking.lean ====
section
/-! DEFINITION. The Dock Supervisor's operations (chapter 2) and the record transitions they make (chapter 1): docks,
undocks, entering HELD, collisions, partners, faults and the matching of an IDENT. -/

namespace Sys2Proof.Machine

/-! ## Entering HELD and ceasing to be named (R9, R64, R73, R107) -/

/-- The allocation entry of a bay that ceases to name its record (R73). -/
def AllocEntry.forget (e : AllocEntry) : AllocEntry := { e with hot := false, chargeSeen := none, bandSeen := none }

/-- Bay b ceases to name its record: both order slots are emptied (R64), the allocation entry forgets the record (R73)
and the energy remainder becomes 0 (R107). -/
def State.ceaseNaming (s : State) (b : BayNo) : State :=
  (((s.modBay b fun x => { x with record := none }).emptySlots b).modEntry b AllocEntry.forget).modOutput b
    fun o => { o with remainder := 0 }

/-- A record's fields on entering HELD (R9). -/
def Record.held (reason : HoldReason) (r : Record) : Record :=
  { r with custody := .held, holdReason := some reason, holder := none, adriftReason := none }

/-- A record's custody state moves its bay between full and floor class (R11). -/
def CustodyState.fullClass : CustodyState → Bool
  | .inCart | .releasing => true
  | .free | .away | .loaned | .overdue | .adrift | .held | .retiring => false

/-- Record i enters HELD by a host's HOLD (R9, R21): a session ends ABORTED; a docked record that leaves full class is a
reallocation request (R11). -/
def State.holdByHost (s : State) (i : RecordIx) : State :=
  let leaves := (s.record i).docked && (s.record i).custody.fullClass
  ((s.endSessionOf i .aborted).editRecord i (Record.held .host)).requestPassIf leaves

/-! ## Undock (R8, R29, R141) -/

/-- The FREE image is written into record i (R10). Its queue place goes where the change closes. DESIGN CHOICE: that its
CHARGE_INHIBIT and URGENT become clear raises no reallocation request (R11, R76; notes/assumptions/16.md). -/
def State.freeRecord (s : State) (i : RecordIx) : State := s.setRecord i Record.freeImage

/-- A record's fields when its bay undocks it (R7, R64): undelivered is whether a RELEASE was unacknowledged. -/
def Record.leaveBay (undelivered : Bool) (r : Record) : Record :=
  { r with currentBay := none, unsecured := false, orderUndelivered := r.orderUndelivered || undelivered }

/-- The undock transition of record i, which bay b named (R8, R141, R146). -/
def State.undockRecord (s : State) (b : BayNo) (i : RecordIx) (undelivered : Bool) : State :=
  let s := s.modRecord i (Record.leaveBay undelivered)
  match (s.record i).custody with
  | .inCart =>
    (s.editRecord i fun r => { r with
      custody := .adrift, adriftReason := some (if s.serviceOpen then .service else .forced) }).addSubject
        Source.adrift i.val
  | .releasing =>
    ((s.editRecord i fun r => { r with custody := .loaned }).addSubject Source.loanStart i.val).setRelease b none
  | .retiring => s.freeRecord i
  | .held => s.addSubject Source.adrift i.val
  | .free | .away | .loaned | .overdue | .adrift => s

/-- Bay b undocks the record it names, if any (R8, R29, R36, R40). With empties, a contact loss or BAY_DISABLE, the LOCK
requests of the bay go (R141). -/
def State.undock (s : State) (b : BayNo) (empties : Bool) : State :=
  match (s.bay b).record with
  | none => s
  | some i =>
    let undelivered := (s.link b).custody.holdsRelease
    let s := s.ceaseNaming b
    let s := s.endSessionOf i .aborted
    let s := s.undockRecord b i undelivered
    let s := if empties then s.dropLocks b else s
    s.requestPass

/-! ## Partners (R35) -/

/-- The partner of bay b is released (R35): COLLIDED, it becomes BRINGUP with a fresh bring-up; in FAULT it loses its
reported ID and partner. -/
def State.releasePartner (s : State) (b : BayNo) : State :=
  match (s.bay b).partner with
  | none => s
  | some p =>
    match (s.bay p).state with
    | .collided =>
      let s := s.modBay p fun x => { x with state := .bringup, reportedId := none, partner := none }
      ((s.modLink p (Link.beginBringup true)).dropOutput p .off).requestPass
    | .fault => s.modBay p fun x => { x with reportedId := none, partner := none }
    | .disabled | .empty | .bringup | .identified | .foreign => s

/-- Bay b stands in a collision: COLLIDED, or in FAULT with a partner (R29, R35, R36). -/
def Bay.partnered (x : Bay) : Bool := x.state == .collided || (x.state == .fault && x.partner.isSome)

/-- A bay's identity fields and fault fields removed (R29, R36). -/
def Bay.strip (x : Bay) : Bay :=
  { x with reportedId := none, foreignCause := none, partner := none, faultReason := none, recovery := false }

/-! ## A bay emptied (R29, R40) -/

/-- A bay that adds an UNDOCK subject when it is emptied (R29). -/
def BayState.occupied : BayState → Bool
  | .identified | .foreign | .collided | .fault => true
  | .disabled | .empty | .bringup => false

/-- A bay was in the latest pass (R29, R79). -/
def Disposition.inPass : Disposition → Bool
  | .full | .floor => true
  | .topped | .hot | .out | .none => false

/-- The emptying of bay b to a state raises a reallocation request: BAY_DISABLE always (R40), contact loss in a bay that was
in the latest pass or named a record (R29), and either in a bay that leaves FAULT (R76). DEDUCED: R40's words, not the
condition that R76's table puts on BAY_DISABLE (notes/assumptions/12.md). -/
def State.emptyingReallocates (s : State) (b : BayNo) (dest : BayState) : Bool :=
  dest == .disabled || (s.entry b).disposition.inPass || (s.bay b).record.isSome || (s.bay b).state == .fault

/-- Everything bound to the tablet in bay b is ended, and the bay becomes EMPTY or DISABLED (R29, R40). -/
def State.emptyBay (s : State) (b : BayNo) (dest : BayState) : State :=
  let x := s.bay b
  let wanted := s.emptyingReallocates b dest
  let s := s.undock b true
  let s := s.modLink b fun _ => Link.downValues
  let s := s.dropOutput b .off
  let s := if x.partnered then s.releasePartner b else s
  let s := s.modBay b fun y => { y.strip with state := dest }
  let s := if x.state.occupied then s.addSubject Source.undock b.val else s
  s.requestPassIf wanted

/-- Bay b becomes BRINGUP with a fresh bring-up of its link (R28, R39). -/
def State.enterBringup (s : State) (b : BayNo) : State :=
  ((s.modBay b fun x => { x.strip with state := .bringup }).modLink b (Link.beginBringup true)).dropOutput b .off

/-! ## Dock (R31) -/

/-- A record's fields when bay b docks it (R5, R7, R8, R31). -/
def Record.enterBay (b : BayNo) (r : Record) : Record :=
  let r := { r with
    currentBay := some b, lastCharge := none, lastTemp := none, energy := 0, orderUndelivered := false }
  match r.custody with
  | .away | .loaned | .overdue | .adrift => { r with custody := .inCart, holder := none, adriftReason := none }
  | .free | .inCart | .releasing | .held | .retiring => r

/-- A dock of record i into bay b (R31), with the handing on to the Custody Controller (R140). -/
def State.dock (s : State) (b : BayNo) (i : RecordIx) : State :=
  let was := (s.record i).custody
  let s := s.modBay b fun x => { x.strip with state := .identified, record := some i }
  let s := s.modEntry b AllocEntry.forget
  let s := s.modOutput b fun o => { o with remainder := 0 }
  let s := s.modRecord i (Record.enterBay b)
  let s := if was = .loaned ∨ was = .overdue then s.addSubject Source.returned i.val else s
  let s := if (s.record i).custody = .inCart then s.receiveInCart b else s
  s.requestPass

/-- The fields an IDENT writes into the record a bay names (R5). -/
def Record.takeIdent (id : Ident) (r : Record) : Record :=
  { r with capacity := some id.capacity, acceptance := some id.acceptance, profileHeld := some id.profileHeld }

/-- The record bay b names, if any, receives an IDENT's fields (R5). -/
def State.writeIdent (s : State) (b : BayNo) (id : Ident) : State :=
  match (s.bay b).record with
  | some i => s.editRecord i (Record.takeIdent id)
  | none => s

/-! ## Foreign and collided bays (R32, R33) -/

/-- Bay b becomes FOREIGN (R32). -/
def State.becomeForeign (s : State) (b : BayNo) (x : TabletId) (cause : ForeignCause) : State :=
  ((s.modBay b fun y => { y.strip with
    state := .foreign, reportedId := some x, foreignCause := some cause }).addSubject Source.foreign b.val).requestPass

/-- Record i, which bay c names, is struck by a collision (R9, R33): it leaves the bay and enters HELD(COLLISION). -/
def State.collideRecord (s : State) (c : BayNo) (i : RecordIx) : State :=
  let s := s.ceaseNaming c
  let s := s.endSessionOf i .aborted
  let releasing := (s.record i).custody = .releasing
  let s := s.modRecord i fun r => { r.held .collision with currentBay := none }
  if releasing then s.endReleaseByHold c else s

/-- The bays of a collision, struck at bay b against bay c (R33). DESIGN CHOICE: a FAULT bay c that was recovering keeps its
recovery mark, although its record has left it (R39; notes/assumptions/15.md). -/
def State.markCollision (s : State) (b c : BayNo) (x : TabletId) : State :=
  let s := s.modBay b fun y => { y.strip with state := .collided, reportedId := some x, partner := some c }
  let s := s.modBay c fun y =>
    { y with state := if y.state = .fault then .fault else .collided, reportedId := some x, partner := some b }
  ((s.addSubject Source.collision b.val).addSubject Source.collision c.val).requestPass

/-- A collision strikes at bay b over record i of ID x, which bay c names (R33). -/
def State.collide (s : State) (b c : BayNo) (i : RecordIx) (x : TabletId) : State :=
  (s.collideRecord c i).markCollision b c x

/-! ## Matching (R30, R34, R36) -/

/-- An identity is matched against the roster for bay b (R30, steps 2 to 4). -/
def State.matchId (s : State) (b : BayNo) (x : TabletId) : State :=
  match s.findTablet x with
  | none => s.becomeForeign b x .unknownId
  | some i =>
    match (s.record i).currentBay with
    | none => s.dock b i
    | some c => s.collide b c i x

/-- An IDENT is matched for bay b (R30). -/
def State.matchIdent (s : State) (b : BayNo) (id : Ident) : State :=
  let s := if id.cartClass then (s.matchId b id.tabletId).writeIdent b id
    else s.becomeForeign b id.tabletId .badClass
  (s.addSubject Source.dock b.val).requestPass

/-- The FOREIGN(UNKNOWN_ID) bays that report ID x, in ascending order (R34). -/
def State.foreignWith (s : State) (x : TabletId) : List BayNo :=
  allBays.filter fun b =>
    (s.bay b).state == .foreign && (s.bay b).foreignCause == some .unknownId && (s.bay b).reportedId == some x

/-- An accepted ENROL of record i with ID x is matched against the FOREIGN bays (R34): the lowest docks it, the next
strikes a collision, further ones stay. -/
def State.matchEnrol (s : State) (i : RecordIx) (x : TabletId) : State :=
  match s.foreignWith x with
  | [] => s
  | [b] => (s.dock b i).addSubject Source.dock b.val
  | b :: c :: _ =>
    let s := (s.dock b i).addSubject Source.dock b.val
    (s.collide c b i x).addSubject Source.dock c.val

/-- How an IDENT compares with a bay's identity (R36). -/
inductive Comparison where
  | same | other | noIdentity
deriving DecidableEq, Repr

/-- The comparison of an IDENT with bay b's identity (R36). -/
def State.compare (s : State) (b : BayNo) (id : Ident) : Comparison :=
  let x := s.bay b
  match x.record with
  | some i => if id.cartClass && id.tabletId == (s.record i).tabletId then .same else .other
  | none =>
    match x.reportedId with
    | some y =>
      if x.foreignCause = some .badClass then if !id.cartClass && id.tabletId == y then .same else .other
      else if id.cartClass && id.tabletId == y then .same
      else .other
    | none => .noIdentity

/-- A bay in FAULT recovers to IDENTIFIED (R39). -/
def State.recover (s : State) (b : BayNo) : State :=
  let x := s.bay b
  let s := if x.partnered then s.releasePartner b else s
  let s := s.modBay b fun y => { y.strip with state := .identified }
  (s.modOutput b fun o => { o with charge := .waiting }).requestPass

/-- An IDENT of the same identity is taken (R5, R34, R36, R39). DEDUCED: a FOREIGN(UNKNOWN_ID) bay whose ID is by now
enrolled is matched again (notes/assumptions/10.md). DESIGN CHOICE: a FAULT bay with the recovery mark that a collision has
left without a record does not recover and stays in FAULT (notes/assumptions/15.md). -/
def State.sameIdentity (s : State) (b : BayNo) (id : Ident) : State :=
  let x := s.bay b
  let s := s.writeIdent b id
  if x.state = .fault ∧ x.recovery = true ∧ x.record.isSome = true then s.recover b
  else if x.state = .foreign ∧ x.foreignCause = some .unknownId ∧ (s.findTablet id.tabletId).isSome = true then
    s.matchIdent b id
  else s

/-- An IDENT of another identity is taken: the bay is undocked and matched afresh in one change (R36). -/
def State.otherIdentity (s : State) (b : BayNo) (id : Ident) : State :=
  let x := s.bay b
  let s := s.undock b false
  let s := if x.partnered then s.releasePartner b else s
  let s := s.modBay b Bay.strip
  (s.addSubject Source.undock b.val).matchIdent b id

/-- The Dock Supervisor takes an IDENT of bay b (R30, R36, R54, R76). -/
def State.superviseIdent (s : State) (b : BayNo) (id : Ident) : State :=
  match (s.bay b).state with
  | .bringup => s.matchIdent b id
  | .identified | .foreign | .collided | .fault =>
    match s.compare b id with
    | .same => (s.sameIdentity b id).requestPass
    | .other => s.otherIdentity b id
    | .noIdentity => s.requestPass
  | .disabled | .empty => s

/-! ## Faults (R37, R38, R100) -/

/-- Record i, which failed bay b names, enters HELD(LINK) (R9, R37, R149). The session of a record in CLOSING has ended
already, with the result UNVERIFIED of R114 (R121). -/
def State.holdByLink (s : State) (b : BayNo) (i : RecordIx) : State :=
  let releasing := (s.record i).custody = .releasing
  let s := (s.endSessionOf i .aborted).editRecord i (Record.held .link)
  if releasing then (s.endReleaseByHold b).relockAfterHold b else s

/-- A FOREIGN or COLLIDED bay in a fault loses its identity, and a COLLIDED bay releases its partner (R37, R38). -/
def State.loseIdentity (s : State) (b : BayNo) : State :=
  match (s.bay b).state with
  | .foreign | .collided =>
    let s := if (s.bay b).state = .collided then s.releasePartner b else s
    s.modBay b fun x => { x with reportedId := none, foreignCause := none, partner := none }
  | .disabled | .empty | .bringup | .identified | .fault => s

/-- Bay b goes to FAULT(LINK) (R37). -/
def State.faultLink (s : State) (b : BayNo) : State :=
  let s := match (s.bay b).record with
    | some i => s.holdByLink b i
    | none => s
  let s := s.loseIdentity b
  let s := s.modBay b fun x => { x with state := .fault, faultReason := some .link, recovery := false }
  ((s.dropOutput b .cut).addSubject Source.linkFault b.val).requestPass

/-- Bay b is cut and goes to FAULT(OUTPUT) (R38, R100). -/
def State.cut (s : State) (b : BayNo) : State :=
  let s := s.loseIdentity b
  let s := s.modBay b fun x => { x with state := .fault, faultReason := some .output }
  ((s.dropOutput b .cut).addSubject Source.outputFault b.val).requestPass

/-! ## Failed exchanges (R47, R53, R61, R65) -/

/-- Bay b's link becomes FAILED (R65). -/
def State.linkFailed (s : State) (b : BayNo) : State :=
  let verifying := (s.link b).verify
  let s := s.modLink b fun l => { l with
    state := .failed, pollRunning := false, verify := false, verifyDue := false, exchange := none, sweep := none }
  let s := if verifying then s.verificationUnanswered b else s
  s.faultLink b

/-- A bring-up of bay b has failed (R53). -/
def State.bringupFailed (s : State) (b : BayNo) : State :=
  let s := s.modLink b fun l => { l with failedBringups := l.failedBringups + 1, exchange := none }
  if 3 ≤ (s.link b).failedBringups then s.linkFailed b else s.modLink b (Link.beginBringup false)

/-- A HELLO of bay b failed (R53). -/
def State.helloFailed (s : State) (b : BayNo) : State :=
  let s := s.modLink b fun l => { l with helloAttempts := l.helloAttempts + 1, exchange := none }
  let l := s.link b
  if l.helloAttempts < 3 then s.modLink b fun l => { l with state := .rest }
  else if l.step = 0 then s.bringupFailed b
  else s.modLink b Link.stepDown

/-- The exchange in progress on bay b's link has failed, by a timeout or a bad frame alike (R47). -/
def State.exchangeFails (s : State) (b : BayNo) : State :=
  match (s.link b).exchange with
  | none => s
  | some .hello => s.helloFailed b
  | some .train => s.modLink b (Link.judgeTap s.clk32 false)
  | some .query => s.modLink b Link.exchangeFailed
  | some .custodyOrder => s.modLink b Link.exchangeFailed
  | some .laneOrder => s.modLink b Link.exchangeFailed

end Sys2Proof.Machine
end

