-- ==== Sys2Proof/Machine/Bays.lean ====
section
/-! DEFINITION. The meanings of the three bay requests and of the contact events (R27 to R29, R40 to R42). -/

namespace Sys2Proof.Machine

/-! ## BAY_DISABLE, BAY_ENABLE, READ_BAY (R40 to R42) -/

/-- BAY_DISABLE (R40). -/
def State.bayDisable (s : State) (bay : Byte) : State :=
  match bayNo? bay with
  | none => s.refuse .badIndex
  | some b =>
    if (s.bay b).populated = false then s.refuse .wrongState
    else if (s.bay b).hostDisabled = true then s.respond .done []
    else ((s.emptyBay b .disabled).modBay b fun x => { x with hostDisabled := true }).finish .done fun _ => []

/-- BAY_DISABLE. -/
def execBayDisable (bay : Byte) (s : State) : Result := .next (s.bayDisable bay)

/-- A host-disabled bay is enabled (R41): EMPTY, and at once BRINGUP where its filtered contact is PRESENT. -/
def State.enableBay (s : State) (b : BayNo) : State :=
  let s := s.modBay b fun x => { x with hostDisabled := false, state := .empty }
  if (s.bay b).contact then s.enterBringup b else s

/-- BAY_ENABLE (R41). -/
def State.bayEnable (s : State) (bay : Byte) : State :=
  match bayNo? bay with
  | none => s.refuse .badIndex
  | some b =>
    if (s.bay b).populated = false then s.refuse .wrongState
    else if (s.bay b).hostDisabled = false then s.respond .done []
    else (s.enableBay b).finish .done fun _ => []

/-- BAY_ENABLE. -/
def execBayEnable (bay : Byte) (s : State) : Result := .next (s.bayEnable bay)

/-- READ_BAY (R42, R192). -/
def execReadBay (bay : Byte) (s : State) : Result :=
  match bayNo? bay with
  | some b => .next (s.respond .done (s.bayImage b))
  | none => .next (s.refuse .badIndex)

/-! ## Contact (R27 to R29) -/

/-- RAW_CONTACT_CHANGE: the raw level is taken; the timers of R27 follow from it (notes/assumptions/8.md). -/
def execRawContactChange (b : BayNo) (present : Bool) (s : State) : Result :=
  .next (s.modBay b fun x => { x with rawContact := present })

/-- The arrival timer of a bay runs (R27). -/
def Bay.arrivalRunning (x : Bay) : Bool := x.populated && !x.contact && x.rawContact

/-- The departure timer of a bay runs (R27). -/
def Bay.departureRunning (x : Bay) : Bool := x.populated && x.contact && !x.rawContact

/-- The filtered contact of bay b is written (R27). -/
def State.setContact (s : State) (b : BayNo) (present : Bool) : State :=
  s.modBay b fun x => { x with contact := present }

/-- CONTACT_ARRIVAL: the arrival timer expires (R27, R28). -/
def State.contactArrival (s : State) (b : BayNo) : State :=
  if (s.bay b).arrivalRunning then
    let t := s.setContact b true
    if (s.bay b).state = .empty then (t.enterBringup b).closeChange else t
  else s

/-- CONTACT_ARRIVAL. -/
def execContactArrival (b : BayNo) (s : State) : Result := .next (s.contactArrival b)

/-- CONTACT_LOSS: the departure timer expires (R27, R29). -/
def State.contactLoss (s : State) (b : BayNo) : State :=
  if (s.bay b).departureRunning then
    let t := s.setContact b false
    if (s.bay b).state = .disabled then t else (t.emptyBay b .empty).closeChange
  else s

/-- CONTACT_LOSS. -/
def execContactLoss (b : BayNo) (s : State) : Result := .next (s.contactLoss b)

end Sys2Proof.Machine
end

