-- ==== Sys2Proof/Machine/Budget.lean ====
section
/-! DEFINITION. The meanings of BUDGET_SETTINGS, BUDGET_READ and the SUPPLY_LIMIT event (R69 to R72, R93). -/

namespace Sys2Proof.Machine

/-- A write of the settings changes the floor, the delivery factor, the bay ceiling or the foreign policy (R70). -/
def BudgetSettings.reallocates (old new : BudgetSettings) : Bool :=
  old.floorF != new.floorF || old.deliveryK != new.deliveryK || old.bayCeiling != new.bayCeiling ||
    old.foreignPolicy != new.foreignPolicy

/-- The budget settings are written, and act as R70 states. -/
def State.writeBudget (s : State) (t : BudgetSettings) : State :=
  (State.recomputeBudget { s with budget := t }).requestPassIf (s.budget.reallocates t)

/-- BUDGET_SETTINGS (R69, R70). -/
def State.budgetSettingsRequest (s : State) : Option BudgetSettingsParams → State
  | none => s.respond .done s.budget.bytes
  | some p =>
    match foreignPolicy? p.foreignPolicy with
    | none => s.refuse .badRequest
    | some policy =>
      let t := BudgetSettings.clamp p policy
      (s.writeBudget t).finish (if t.exact p then .done else .clamped) fun _ => t.bytes

/-- BUDGET_SETTINGS. -/
def execBudgetSettings (p : Option BudgetSettingsParams) (s : State) : Result := .next (s.budgetSettingsRequest p)

/-- BUDGET_READ (R93). -/
def execBudgetRead (bay : Option Byte) (s : State) : Result :=
  match optional? bayNo? bay with
  | some b => .next (s.respond .done (s.budgetImage b))
  | none => .next (s.refuse .badIndex)

/-- SUPPLY_LIMIT_CHANGE (R71). -/
def execSupplyLimitChange (asserted : Bool) (s : State) : Result :=
  .next (State.recomputeBudget { s with supplyLimit := asserted }).closeChange

end Sys2Proof.Machine
end

