-- ==== Sys2Proof/Machine/Clock.lean ====
section
/-! DEFINITION. The meanings of the clock requests, of the minute step and of the second tick (R168 to R175). -/

namespace Sys2Proof.Machine

/-! ## SET_TIME, CLOCK_READ, PERIOD_READ (R169, R175) -/

/-- The clock set to a time (R169): the seconds count 0, time valid, the window recomputed. -/
def DayClock.set (minute : Minute) (day : Day) (c : DayClock) : DayClock :=
  { c with seconds := 0, minute := minute, day := day, timeValid := true }.rewindow

/-- SET_TIME (R169). -/
def State.setTime (s : State) (minute : Half) (day : Byte) : State :=
  match minute? minute, day? day with
  | some m, some d =>
    (State.handWindow { s with clock := s.clock.set m d }).requestPass.finish .done fun t => t.clock.image
  | _, _ => s.refuse .outOfRange

/-- SET_TIME. -/
def execSetTime (minute : Half) (day : Byte) (s : State) : Result := .next (s.setTime minute day)

/-- CLOCK_READ (R175). -/
def execClockRead (s : State) : Result := .next (s.respond .done s.clock.image)

/-- PERIOD_READ (R175). -/
def execPeriodRead (s : State) : Result := .next (s.respond .done s.clock.periodImage)

/-! ## SET_PERIOD (R171) -/

/-- The day mask of a byte: non-empty and naming days 0 to 6 alone (R171, check 3). -/
def dayMask? (b : Byte) : Option (BitVec 7) := if b = 0 ∨ b.getLsbD 7 then none else some (b.extractLsb' 0 7)

/-- The entry a WRITE makes, or the status that refuses it (R171, checks 2 and 3). -/
def periodWrite (p : PeriodParams) : Except Status PeriodEntry :=
  match periodKind? p.kind with
  | none => .error .badRequest
  | some kind =>
    match minute? p.minute, dayMask? p.days with
    | some minute, some days => .ok ⟨minute, days, kind⟩
    | _, _ => .error .outOfRange

/-- What a SET_PERIOD puts into its entry, or the status that refuses it (R171, checks 2 and 3). Parameters that do not fit
the operation are refused as the port refuses them (R178). -/
def periodChange (operation : Byte) (p : Option PeriodParams) : Except Status (Option PeriodEntry) :=
  if periodParamsFit operation p then
    match p with
    | some x => if operation = 0 then (periodWrite x).map some else .error .badRequest
    | none => if operation = 1 then .ok none else .error .badRequest
  else .error .badRequest

/-- Entry e of the Period Table takes a value, and the window is recomputed (R171, R173). -/
def State.writePeriod (s : State) (e : PeriodIx) (x : Option PeriodEntry) : State :=
  (State.handWindow { s with
    clock := { s.clock with periods := s.clock.periods.set e.val x }.rewindow }).requestPass

/-- SET_PERIOD (R171). -/
def State.setPeriod (s : State) (entry operation : Byte) (p : Option PeriodParams) : State :=
  match periodIx? entry with
  | none => s.refuse .badIndex
  | some e =>
    match periodChange operation p with
    | .error status => s.refuse status
    | .ok x => (s.writePeriod e x).finish .done fun t => periodBytes (t.period e)

/-- SET_PERIOD. -/
def execSetPeriod (entry operation : Byte) (p : Option PeriodParams) (s : State) : Result :=
  .next (s.setPeriod entry operation p)

/-! ## The minute step (R168, R172, R173) -/

/-- The minute and the day after a minute step (R168). -/
def DayClock.advance (c : DayClock) : DayClock :=
  { c with
    seconds := 0
    minute := if h : c.minute.val + 1 < 1440 then ⟨c.minute.val + 1, h⟩ else 0
    day := if c.minute.val + 1 < 1440 then c.day else if h : c.day.val + 1 < 7 then ⟨c.day.val + 1, h⟩ else 0 }

/-- The numbers 0 to 15 in order. -/
def allPeriods : List PeriodIx := List.finRange 16

/-- The entries that fire at the clock's present minute, with their kinds, in index order (R172). -/
def State.firing (s : State) : List (PeriodIx × PeriodKind) :=
  if s.clock.timeValid then
    allPeriods.filterMap fun e =>
      match s.period e with
      | some x => if x.occursAt s.clock.minute.val s.clock.day.val then some (e, x.kind) else none
      | none => none
  else []

/-- An entry of a kind fires (R172). -/
def firesKind (fired : List (PeriodIx × PeriodKind)) (kind : PeriodKind) : Bool := fired.any fun x => x.2 == kind

/-- The window after a step that fired these entries (R173). -/
def windowAfter (fired : List (PeriodIx × PeriodKind)) (opened : Bool) : Bool :=
  if firesKind fired .provClose then false else if firesKind fired .provOpen then true else opened

/-- Record i becomes OVERDUE if it is LOANED (R150). -/
def State.overdueRecord (s : State) (i : RecordIx) : State :=
  if (s.record i).custody = .loaned then
    (s.editRecord i fun r => { r with custody := .overdue }).addSubject Source.overdue i.val
  else s

/-- The effects of the entries that fire at a step (R150, R172, R173). -/
def State.fire (s : State) (fired : List (PeriodIx × PeriodKind)) : State :=
  let s := fired.foldl (fun t x => t.addSubject Source.boundary x.1.val) s
  let s := State.handWindow { s with clock := { s.clock with windowOpen := windowAfter fired s.clock.windowOpen } }
  let s := if firesKind fired .loanDue then allRecords.foldl State.overdueRecord s else s
  s.requestPassIf (firesKind fired .deadline)

/-- The minute step (R168, R172); a step that fires nothing has no effect beyond the clock. -/
def State.minuteStep (s : State) : State :=
  let t : State := { s with clock := s.clock.advance }
  if t.firing.isEmpty then t else (t.fire t.firing).closeChange

/-- MINUTE_STEP (R168): the seconds count wraps. At a count other than 59 no step is due, as after a SET_TIME that was taken
first (R176), and nothing changes (DESIGN CHOICE, notes/assumptions/3.md). -/
def execMinuteStep (s : State) : Result := if s.clock.seconds = 59 then .next s.minuteStep else .next s

/-- SECONDS_COUNT_TICK (R168): the seconds count rises by 1; from 59 it takes the minute step. -/
def execSecondsCountTick (s : State) : Result :=
  if h : s.clock.seconds.val + 1 < 60 then
    .next { s with clock := { s.clock with seconds := ⟨s.clock.seconds.val + 1, h⟩ } }
  else .next s.minuteStep

end Sys2Proof.Machine
end

