-- ==== Sys2Proof/Machine/Custody.lean ====
section
/-! DEFINITION. The meanings of the custody requests and of the custody events (R128 to R151). -/

namespace Sys2Proof.Machine

/-! ## CUSTODY_SETTINGS, CUSTODY_READ (R128, R151) -/

/-- CUSTODY_SETTINGS (R128). -/
def State.custodySettingsRequest (s : State) : Option CustodySettingsParams → State
  | none => s.respond .done s.custodySettings.bytes
  | some p =>
    match authority? p.authority, autoLock? p.autoLock with
    | some mode, some auto =>
      let t := CustodySettings.clamp p mode auto
      State.respond { s with custodySettings := t } (if t.exact p then .done else .clamped) t.bytes
    | _, _ => s.refuse .badRequest

/-- CUSTODY_SETTINGS. -/
def execCustodySettings (p : Option CustodySettingsParams) (s : State) : Result := .next (s.custodySettingsRequest p)

/-- CUSTODY_READ (R151). -/
def execCustodyRead (start : Byte) (s : State) : Result :=
  match bayNo? start with
  | some b => .next (s.respond .done (s.custodyImage b))
  | none => .next (s.refuse .badIndex)

/-! ## CHECKOUT (R143, R144) -/

/-- The charge check of CHECKOUT fails (R143, check 6). DEDUCED: an absent last charge fails it whatever the
marks (notes/assumptions/13.md). -/
def lowCharge (minimum : Nat) (override : Bool) : Option Nat → Bool
  | none => true
  | some c => !override && decide (c < minimum)

/-- The checks of CHECKOUT on record i, in the order of R143 from the third on: the first that fails. -/
def State.checkoutRefusal (s : State) (i : RecordIx) (preempt override : Bool) : Option Status :=
  let r := s.record i
  if r.custody ≠ .inCart then some .wrongState
  else if !s.checkoutAuthorised then some .notAuthorised
  else if r.loanBlock then some .notAuthorised
  else if r.misplaced then some .wrongBay
  else if lowCharge s.budget.checkoutMinimum override r.lastCharge then some .lowCharge
  else if (s.laneOf i).isSome && !preempt then some .laneActive
  else none

/-- An accepted CHECKOUT of record i in bay b (R144). -/
def State.beginRelease (s : State) (i : RecordIx) (b : BayNo) (holder : Half) : State :=
  let s := s.endSessionOf i .preempted
  let s := s.editRecord i fun r => { r with custody := .releasing, holder := some holder.toNat }
  (s.setRelease b (some ⟨i, .unlocking⟩)).placeRequest b .unlock

/-- CHECKOUT (R143, R144). Every IN_CART record is docked (R143); one that is not cannot arise and is refused. -/
def State.checkout (s : State) (index : Byte) (holder : Half) (preempt override : Bool) : State :=
  match recordIx? index with
  | none => s.refuse .badIndex
  | some i =>
    if holder = 0 then s.refuse .outOfRange
    else
      match s.checkoutRefusal i preempt override, (s.record i).currentBay with
      | some status, _ => s.refuse status
      | none, none => s.refuse .wrongState
      | none, some b => (s.beginRelease i b holder).finish .accepted fun _ => []

/-- CHECKOUT. -/
def execCheckout (index : Byte) (holder : Half) (preempt override : Bool) (s : State) : Result :=
  .next (s.checkout index holder preempt override)

/-! ## CANCEL_RELEASE (R147) -/

/-- CANCEL_RELEASE (R147). -/
def State.cancelRelease (s : State) (index : Byte) : State :=
  match recordIx? index with
  | none => s.refuse .badIndex
  | some i =>
    match (s.record i).custody, (s.record i).currentBay with
    | .releasing, some b => (s.lapseRelease b i).finish .done fun _ => []
    | _, _ => s.refuse .wrongState

/-- CANCEL_RELEASE. -/
def execCancelRelease (index : Byte) (s : State) : Result := .next (s.cancelRelease index)

/-! ## LATCH (R139) -/

/-- LATCH (R139). -/
def State.latchRequest (s : State) (bay direction : Byte) : State :=
  match bayNo? bay with
  | none => s.refuse .badIndex
  | some b =>
    match direction? direction with
    | none => s.refuse .badRequest
    | some d =>
      if (s.bay b).populated = false then s.refuse .wrongState
      else if s.serviceAuthorised = false then s.refuse .notAuthorised
      else if s.namedCustody b = some .releasing then s.refuse .wrongState
      else (s.placeRequest b d).finish .accepted fun _ => []

/-- LATCH. -/
def execLatch (bay direction : Byte) (s : State) : Result := .next (s.latchRequest bay direction)

/-! ## Windows (R130 to R133, R147) -/

/-- A window's expiry is taken (R130, R133): the window closes, or stays with an expiry that its restart has overtaken. -/
def Window.expire (now : Nat) (w : Window) : Option Window := if w.overtaken now then some w.kept else none

/-- TEACHER_WINDOW_EXPIRY: the window closes (R130), unless a match restarted it at this moment (R167). -/
def execTeacherWindowExpiry (s : State) : Result := .next { s with teacher := s.teacher.bind (Window.expire s.clk32) }

/-- A bay that the closing of the service window locks (R133). -/
def State.relocks (s : State) (b : BayNo) : Bool :=
  (s.namedCustody b == some .inCart || s.namedCustody b == some .held || s.namedCustody b == some .retiring) &&
    (s.bay b).latch != .locked

/-- The service window closes, and the bays of R133 get LOCK requests. DESIGN CHOICE: slot service runs after each of them
(notes/assumptions/17.md). -/
def State.closeService (s : State) : State :=
  (allBays.filter s.relocks).foldl (fun t b => t.placeRequest b .lock) { s with service := none }

/-- SERVICE_WINDOW_EXPIRY (R133): the window closes, unless it was restarted at this moment (R152). -/
def State.serviceWindowExpiry (s : State) : State :=
  match s.service with
  | none => s
  | some w => if w.overtaken s.clk32 then { s with service := some w.kept } else s.closeService.closeChange

/-- SERVICE_WINDOW_EXPIRY. -/
def execServiceWindowExpiry (s : State) : Result := .next s.serviceWindowExpiry

/-- SERVICE_INPUT_CHANGE: the raw level is taken; the 30 ms filter of R132 follows from it (notes/assumptions/8.md). -/
def execServiceInputChange (asserted : Bool) (s : State) : Result := .next { s with serviceInput := asserted }

/-- An edge of the SERVICE input (R132). DESIGN CHOICE: slot service runs after each UNLOCK request placed, so that a slot
which one of them frees is given away before the next is placed (notes/assumptions/17.md). -/
def State.serviceRise (s : State) : State :=
  let wasOpen := s.serviceOpen
  let s := s.openService.addSubject Source.service 0
  if wasOpen then s
  else
    (allBays.filter fun b => (s.bay b).populated).foldl (fun t b => t.placeRequest b .unlock)
      { s with latchQueue := [] }

/-- SERVICE_EDGE: the level that has held for 30 ms is taken (R132). -/
def State.serviceEdge (s : State) : State :=
  if s.serviceInput = s.serviceLevel then s
  else
    let t : State := { s with serviceLevel := s.serviceInput }
    if s.serviceInput then t.serviceRise.closeChange else t

/-- SERVICE_EDGE. -/
def execServiceEdge (s : State) : Result := .next s.serviceEdge

/-- RELEASE_WINDOW_EXPIRY: the window of an OPEN release ends, and the release lapses (R147). -/
def State.releaseWindowExpiry (s : State) (b : BayNo) : State :=
  match s.release b with
  | some ⟨i, .opened _ _⟩ => (s.lapseRelease b i).closeChange
  | some ⟨_, .unlocking⟩ | none => s

/-- RELEASE_WINDOW_EXPIRY. -/
def execReleaseWindowExpiry (b : BayNo) (s : State) : Result := .next (s.releaseWindowExpiry b)

/-! ## Latch switches and drives (R134, R138) -/

/-- The two switch levels of bay b are taken. -/
def State.setSwitches (s : State) (b : BayNo) (locked unlocked : Bool) : State :=
  s.modBay b fun x => { x with lockedSwitch := locked, unlockedSwitch := unlocked }

/-- The slot that drives bay b with its request (R137). -/
def State.driveAt (s : State) (b : BayNo) : Option (SlotNo × LatchRequest) :=
  match s.drivingSlot b with
  | none => none
  | some k => (s.slot k).request.map fun q => (k, q)

/-- LATCH_SWITCH_CHANGE (R134, R136, R138). -/
def State.latchSwitchChange (s : State) (b : BayNo) (locked unlocked : Bool) : State :=
  if (s.bay b).lockedSwitch = locked ∧ (s.bay b).unlockedSwitch = unlocked then s
  else
    let t := s.setSwitches b locked unlocked
    match t.driveAt b with
    | some (k, q) => if (t.bay b).targetClosed q.direction then (t.driveSuccess k q).closeChange else t
    | none => (t.setLatch b (positionOf locked unlocked)).slotService.closeChange

/-- LATCH_SWITCH_CHANGE. -/
def execLatchSwitchChange (b : BayNo) (locked unlocked : Bool) (s : State) : Result :=
  .next (s.latchSwitchChange b locked unlocked)

/-- DRIVE_TIMEOUT: the drive timer of a slot in DRIVING expires (R138). -/
def State.driveTimeout (s : State) (k : SlotNo) : State :=
  match s.slot k with
  | .driving q => (s.driveFailure k q).closeChange
  | .free | .reserving _ => s

/-- DRIVE_TIMEOUT. -/
def execDriveTimeout (k : SlotNo) (s : State) : Result := .next (s.driveTimeout k)

end Sys2Proof.Machine
end

