-- ==== Sys2Proof/Machine/DockLine.lean ====
section
/-! DEFINITION. The meanings of the dock-line requests and of the events at a link (R47, R51, R53 to R67). -/

namespace Sys2Proof.Machine

/-! ## LINK_SETTINGS (R51) -/

/-- The moment bay b's next poll instant falls at under a telemetry interval has passed (R51, notes/assumptions/2.md). -/
def State.pollOverdue (s : State) (interval : Nat) (b : BayNo) : Bool :=
  (s.link b).state == .up && (s.link b).pollRunning && decide ((s.link b).pollLast + interval ≤ s.clk32)

/-- Bay b's poll timer reaches a poll instant (R58). -/
def State.reachPoll (s : State) (b : BayNo) : State := (s.modLink b (Link.pollInstant s.linkSettings s.clk32)).pumpLink b

/-- The link settings are written, and act as R51 states. -/
def State.writeLinkSettings (s : State) (t : LinkSettings) : State :=
  let changed := t.telemetryInterval != s.linkSettings.telemetryInterval
  let s : State := { s with
    linkSettings := t
    links := Vector.ofFn fun b => (s.link b).bringDown t.maxStep }
  if changed then (allBays.filter (s.pollOverdue t.telemetryInterval)).foldl State.reachPoll s else s

/-- LINK_SETTINGS (R51). -/
def State.linkSettingsRequest (s : State) : Option LinkSettingsParams → State
  | none => s.respond .done s.linkSettings.bytes
  | some p =>
    let t := LinkSettings.clamp p
    (s.writeLinkSettings t).respond (if t.exact p then .done else .clamped) t.bytes

/-- LINK_SETTINGS. -/
def execLinkSettings (p : Option LinkSettingsParams) (s : State) : Result := .next (s.linkSettingsRequest p)

/-! ## LINK_RESET (R39, R66) -/

/-- An accepted LINK_RESET of bay b (R39, R66). -/
def State.resetLink (s : State) (b : BayNo) : State :=
  let x := s.bay b
  let s := s.modLink b (Link.beginBringup true)
  if x.state = .fault then
    match x.record with
    | some _ => s.modBay b fun y => { y with recovery := true }
    | none => ((if x.partnered then s.releasePartner b else s).enterBringup b).requestPass
  else s

/-- LINK_RESET (R66). -/
def State.linkReset (s : State) (bay : Byte) : State :=
  match bayNo? bay with
  | none => s.refuse .badIndex
  | some b =>
    if (s.link b).state = .failed ∨ (s.link b).state = .up then (s.resetLink b).finish .accepted fun _ => []
    else s.refuse .wrongState

/-- LINK_RESET. -/
def execLinkReset (bay : Byte) (s : State) : Result := .next (s.linkReset bay)

/-! ## LINE_TEST (R67) -/

/-- LINE_TEST (R67). An exchange the test cuts off is sent again afterwards, so the link stays as it is. -/
def State.lineTest (s : State) (bay : Byte) (r : LineReadings) : State :=
  match bayNo? bay with
  | none => s.refuse .badIndex
  | some b =>
    if (s.bay b).state = .empty ∨ (s.bay b).state = .fault then s.respond .done [byte (lineResult r).ctorIdx]
    else s.refuse .wrongState

/-- LINE_TEST. -/
def execLineTest (bay : Byte) (r : LineReadings) (s : State) : Result := .next (s.lineTest bay r)

/-! ## The end of REST (R53) -/

/-- REST_END (R53). -/
def execRestEnd (b : BayNo) (s : State) : Result :=
  if (s.link b).state = .rest then .next (s.modLink b Link.sendHello) else .next s

/-! ## Exchanges (R47) -/

/-- The exchange in progress on bay b's link fails (R47, R53, R55, R61), and the change closes. -/
def State.failExchange (s : State) (b : BayNo) : State := (s.exchangeFails b).closeChange.pumpLink b

/-- A whole reply comes on bay b's link: with no exchange in progress nothing reads it; where the exchange in progress
calls for another kind the exchange fails; otherwise it is taken (R47). -/
def State.takeReply (s : State) (b : BayNo) (kind : Byte) (take : Exchange → State) : State :=
  match (s.link b).exchange with
  | none => s
  | some x => if x.calls kind then take x else s.failExchange b

/-! ## IDENT (R54) -/

/-- An IDENT is taken: clamped, handed to the Dock Supervisor, and followed by the link's next step (R49, R54). -/
def State.takeIdent (s : State) (b : BayNo) (id : Ident) : State :=
  let s := (s.modLink b fun l => { l with exchange := none }).superviseIdent b id
  (s.modLink b (Link.afterIdent s.linkSettings id.maxStep s.clk32)).closeChange.pumpLink b

/-- IDENT_TAKEN. -/
def execIdentTaken (b : BayNo) (p : IdentReply) (s : State) : Result :=
  .next (s.takeReply b 0x21 fun _ => s.takeIdent b (Ident.ofReply p))

/-! ## ECHO (R55, R56) -/

/-- An ECHO is taken: the tap passes if the payload is the pattern (R55). -/
def State.takeEcho (s : State) (b : BayNo) (payload : BitVec 64) : State :=
  (s.modLink b (Link.judgeTap s.clk32 (payload == Config.trainingPattern))).pumpLink b

/-- ECHO_TAKEN. -/
def execEchoTaken (b : BayNo) (payload : BitVec 64) (s : State) : Result :=
  .next (s.takeReply b 0x22 fun _ => s.takeEcho b payload)

/-! ## TELEMETRY (R59, R74, R77) -/

/-- A charge differs from charge seen by 10 or more, or charge seen is absent (R77). -/
def chargeMoved (seen : Option Nat) (charge : Nat) : Bool :=
  match seen with
  | none => true
  | some c => decide (c + 10 ≤ charge) || decide (charge + 10 ≤ c)

/-- A TELEMETRY calls for a pass (R77); e is the bay's entry as it stood before it. -/
def AllocEntry.callsPass (e : AllocEntry) (t : Telemetry) : Bool :=
  chargeMoved e.chargeSeen t.charge || e.bandSeen != some (bandOf (some t.temperature)) ||
    hotAfter e.hot t.temperature != e.hot

/-- A TELEMETRY is written to record i, which bay b names (R5, R59, R74, R77). -/
def State.writeTelemetry (s : State) (b : BayNo) (i : RecordIx) (t : Telemetry) : State :=
  let e := s.entry b
  let s := s.editRecord i fun r => { r with
    lastCharge := some t.charge, lastTemp := some t.temperature, profileHeld := some t.profileHeld }
  (s.modEntry b fun e => { e with hot := hotAfter e.hot t.temperature }).requestPassIf (e.callsPass t)

/-- A pending verification request is answered (R59, R121). -/
def State.answerVerify (s : State) (b : BayNo) (held : Byte) : State :=
  if (s.link b).verify then
    (s.modLink b Link.endVerify).verificationAnswered b held
  else s

/-- A TELEMETRY is taken (R59). -/
def State.takeTelemetry (s : State) (b : BayNo) (t : Telemetry) : State :=
  let s := s.modLink b fun l => l.exchangeDone.countTelemetry
  let s := match (s.bay b).record with
    | some i => s.writeTelemetry b i t
    | none => s
  (s.answerVerify b t.profileHeld).closeChange.pumpLink b

/-- TELEMETRY_TAKEN. -/
def execTelemetryTaken (b : BayNo) (p : TelemetryReply) (s : State) : Result :=
  .next (s.takeReply b 0x23 fun _ => s.takeTelemetry b (Telemetry.ofReply p))

/-! ## ACK and NAK (R63) -/

/-- A custody order is reported delivered or refused to the Custody Controller (R63, R145). -/
def State.reportCustody (s : State) (b : BayNo) (outcome : OrderOutcome) : Option CustodyOrder → State
  | some (.release _) => s.releaseReported b outcome
  | some .lock => s
  | none => s

/-- A lane order is reported delivered or refused to the Lane Scheduler (R63, R118). -/
def State.reportLane (s : State) (b : BayNo) (delivered : Bool) : Option LaneOrder → State
  | some (.wake l) => if delivered then s.wakeDelivered b l else s.wakeRefused b l
  | some .quiet => s
  | none => s

/-- The exchange that carries a custody order ends with an ACK or a NAK (R61, R63). -/
def State.endCustodyOrder (s : State) (b : BayNo) (outcome : OrderOutcome) : State :=
  (s.modLink b fun l => { l.exchangeDone with custody := l.custody.ended }).reportCustody b outcome
    (s.link b).custody.inFlight

/-- The exchange that carries a lane order ends with an ACK or a NAK (R61, R63). -/
def State.endLaneOrder (s : State) (b : BayNo) (delivered : Bool) : State :=
  (s.modLink b fun l => { l.exchangeDone with lane := l.lane.ended }).reportLane b delivered (s.link b).lane.inFlight

/-- An order exchange of kind x ends with an ACK (delivered) or a NAK (R63). -/
def State.endOrder (s : State) (b : BayNo) (delivered : Bool) (x : Exchange) : State :=
  let t := match x with
    | .custodyOrder => s.endCustodyOrder b (if delivered then .delivered else .refused)
    | .laneOrder => s.endLaneOrder b delivered
    | .hello | .train | .query => s
  t.closeChange.pumpLink b

/-- ACK_TAKEN (R63). -/
def execAckTaken (b : BayNo) (s : State) : Result := .next (s.takeReply b 0x24 (s.endOrder b true))

/-- NAK_TAKEN (R63); the reason is not interpreted (R48). -/
def execNakTaken (b : BayNo) (_reason : Byte) (s : State) : Result := .next (s.takeReply b 0x25 (s.endOrder b false))

/-! ## Failed exchanges (R47) and poll instants (R58) -/

/-- BAD_FRAME (R47). DESIGN CHOICE, unsafe: bytes that make the exchange succeed are no bad frame and change
nothing here (notes/assumptions/3.md). -/
def execBadFrame (b : BayNo) (reply : List Byte) (s : State) : Result :=
  match (s.link b).exchange with
  | none => .next s
  | some x => if x.succeeds reply then .next s else .next (s.failExchange b)

/-- REPLY_TIMEOUT (R47). -/
def execReplyTimeout (b : BayNo) (s : State) : Result :=
  match (s.link b).exchange with
  | none => .next s
  | some _ => .next (s.failExchange b)

/-- POLL_INSTANT (R58). -/
def execPollInstant (b : BayNo) (s : State) : Result :=
  if (s.link b).pollRunning then .next (s.reachPoll b) else .next s

end Sys2Proof.Machine
end

