-- ==== Sys2Proof/Machine/Keys.lean ====
section
/-! DEFINITION. The Key Receiver: measurement, the burst logic, the learner, the matcher, and the meanings of the key
requests and events (R153 to R166). -/

namespace Sys2Proof.Machine

/-! ## Measurement (R154) -/

/-- The length of a sample period in nanoseconds (R153). -/
def SamplePeriod.ns : SamplePeriod → Nat
  | .us20 => 20000
  | .us50 => 50000
  | .us100 => 100000
  | .us200 => 200000

/-- A stretch's length in sample periods: rounded to the nearest whole number with a half up, at least 1, held at 127
(R154). -/
def stretchLength (periodNs durationNs : Nat) : Nat :=
  clampNat 1 127 ((2 * durationNs + periodNs) / (2 * periodNs))

/-- The stretch in progress is a MARK: low with invert OFF, high with invert ON (R154). -/
def Receiver.inMark (k : Receiver) : Bool := k.stretchHigh == k.invert

/-! ## Entries -/

/-- The entry is LEARNING. -/
def KeyState.isLearning : KeyState → Bool
  | .learning _ _ _ => true
  | .empty | .valid _ _ _ _ _ => false

/-- The entry is VALID. -/
def KeyState.isValid : KeyState → Bool
  | .valid _ _ _ _ _ => true
  | .empty | .learning _ _ _ => false

/-- The numbers 0 to 7 in order. -/
def allKeys : List KeyIx := List.finRange 8

/-- The entry that is LEARNING, if any; at most one is (R157). -/
def State.learningKey (s : State) : Option KeyIx := allKeys.find? fun e => (s.keyEntry e).state.isLearning

/-- The entries that are VALID, in ascending order (R161). -/
def State.validKeys (s : State) : List KeyIx := allKeys.filter fun e => (s.keyEntry e).state.isValid

/-- An entry leaves the candidate set (R163). -/
def State.dropCandidate (s : State) (e : KeyIx) : State :=
  { s with keys := { s.keys with candidates := s.keys.candidates.filter fun x => x != e } }

/-- A burst in progress is taken by no one from here on (R157, R158, R160). -/
def State.dropTaker (s : State) : State := { s with keys := { s.keys with taker := none, samples := [] } }

/-! ## The learner (R157, R158) -/

/-- The LEARNING entry leaves LEARNING for a state with a learn result and a KEY subject (R158). -/
def State.endLearning (s : State) (state : KeyState) (result : LearnResult) : State :=
  match s.learningKey with
  | some e => (s.dropTaker.setKeyEntry e ⟨state, some result⟩).addSubject Source.key e.val
  | none => s.dropTaker

/-- The learner takes a sample; the 49th of a burst ends the learning TOO_LONG (R158). -/
def State.learnSample (s : State) (x : Sample) : State :=
  if 49 ≤ s.keys.count then s.endLearning .empty .tooLong
  else { s with keys := { s.keys with samples := s.keys.samples ++ [x] } }

/-- The VALID state a learned burst makes of a LEARNING entry (R158). -/
def KeyState.learned (samples : List Sample) : KeyState → KeyState
  | .learning r t _ => .valid r samples samples.length t []
  | .empty => .empty
  | .valid r p d t g => .valid r p d t g

/-- The learner's burst ends: 8 to 48 samples make the pattern, fewer are passed over (R158). -/
def State.learnBurst (s : State) : State :=
  if s.keys.count < 8 then s.dropTaker
  else
    match s.learningKey with
    | some e => s.endLearning ((s.keyEntry e).state.learned s.keys.samples) .learned
    | none => s.dropTaker

/-! ## The matcher (R161, R162, R164, R165) -/

/-- A sample fits the sample of a pattern within a tolerance (R162). -/
def Sample.fits (tolerance : Nat) (x p : Sample) : Bool :=
  x.mark == p.mark && decide (x.length ≤ p.length + tolerance) && decide (p.length ≤ x.length + tolerance)

/-- A candidate is kept on sample k (R162, steps 1 and 2). -/
def KeyState.keeps (k : Nat) (x : Sample) : KeyState → Bool
  | .valid _ pattern _ tolerance ignored =>
    ignored.contains k ||
      match pattern[k - 1]? with
      | some p => x.fits tolerance p
      | none => false
  | .empty | .learning _ _ _ => false

/-- A candidate reaches its depth on sample k (R162, step 3). -/
def KeyState.reaches (k : Nat) : KeyState → Bool
  | .valid _ _ depth _ _ => depth == k
  | .empty | .learning _ _ _ => false

/-- The window that a match of a role opens (R164). -/
def State.openFor (s : State) : Option KeyRole → State
  | some .teacher => s.openTeacher
  | some .technician => s.openService
  | none => s

/-- A match of entry e is handed on (R162, R164). -/
def State.keyMatch (s : State) (e : KeyIx) : State :=
  let s : State := { s with keys := { s.keys with matched := true, candidates := [], failures := 0 } }
  (s.addSubject Source.key e.val).openFor (s.keyEntry e).state.role?

/-- The matcher tests sample k (R162). -/
def State.matchSample (s : State) (x : Sample) : State :=
  let k := s.keys.count
  let kept := s.keys.candidates.filter fun e => (s.keyEntry e).state.keeps k x
  match kept.find? fun e => (s.keyEntry e).state.reaches k with
  | some e => s.keyMatch e
  | none => { s with keys := { s.keys with candidates := kept } }

/-- A failure is counted; the fifth starts a lockout (R165). -/
def State.keyFailure (s : State) : State :=
  let n := s.keys.failures + 1
  if 5 ≤ n then
    let s : State := { s with keys := { s.keys with failures := 5, lockout := some (s.clk32 + Config.lockoutSeconds) } }
    s.addSubject Source.key lockoutMember
  else { s with keys := { s.keys with failures := n } }

/-- A burst ends as the matcher judges it (R165). -/
def State.judgeBurst (s : State) : State :=
  if s.keys.judged && !s.keys.matched && decide (8 ≤ s.keys.count) then s.keyFailure else s

/-! ## The burst logic (R155) -/

/-- Who takes a burst that starts now (R155, R161). -/
def State.takerNow (s : State) : Option Taker :=
  if s.learningKey.isSome then some .learner else if s.keys.lockout.isNone then some .matcher else none

/-- A burst starts (R155, R161). -/
def State.startBurst (s : State) : State :=
  let taker := s.takerNow
  let candidates := if taker = some .matcher then s.validKeys else []
  { s with keys := { s.keys with
      burst := .inBurst, count := 0, taker := taker, samples := [], candidates := candidates,
      judged := !candidates.isEmpty, matched := false } }

/-- The next sample of the burst in progress is handed on (R155). -/
def State.nextSample (s : State) (x : Sample) : State :=
  let s : State := { s with keys := { s.keys with count := min 49 (s.keys.count + 1) } }
  match s.keys.taker with
  | some .learner => s.learnSample x
  | some .matcher => s.matchSample x
  | none => s

/-- The burst logic takes a stretch (R155). -/
def State.burstSample (s : State) (x : Sample) : State :=
  match s.keys.burst with
  | .waitingGap => s
  | .idle => if x.mark then s.startBurst.nextSample x else s
  | .inBurst => s.nextSample x

/-- The burst in progress ends for its taker (R155, R158, R165). -/
def State.burstTaken (s : State) : State :=
  match s.keys.taker with
  | some .learner => s.learnBurst
  | some .matcher => s.judgeBurst
  | none => s

/-- What the receiver holds of a burst is put away, and the burst logic goes to a state (R153, R155). -/
def Receiver.rest (b : BurstState) (k : Receiver) : Receiver :=
  { k with
    burst := b, gapOvertaken := false, count := 0, taker := none, samples := [], candidates := [], judged := false,
    matched := false }

/-- A SPACE in progress has reached the gap limit (R155). -/
def State.gapEnd (s : State) : State :=
  let s := if s.keys.burst = .inBurst then s.burstTaken else s
  { s with keys := s.keys.rest .idle }

/-! ## Events -/

/-- IRIN_EDGE: the level of IRIN changes; the change awaits its confirmation (R154). -/
def execIrinEdge (high : Bool) (s : State) : Result := .next { s with keys := { s.keys with irinHigh := high } }

/-- STRETCH_TAKEN: the change that ends a stretch is confirmed, and the stretch is taken as a sample (R154, R155). -/
def State.stretchTaken (s : State) (durationNs : Nat) : State :=
  if s.keys.irinHigh = s.keys.stretchHigh then s
  else
    let x : Sample := ⟨s.keys.inMark, stretchLength s.keys.period.ns durationNs⟩
    let t : State := { s with keys := { s.keys with stretchHigh := s.keys.irinHigh, gapOvertaken := false } }
    (t.burstSample x).reAttn

/-- STRETCH_TAKEN. -/
def execStretchTaken (durationNs : Nat) (s : State) : Result := .next (s.stretchTaken durationNs)

/-- GAP_REACHED: a SPACE in progress reaches the gap limit, and the burst logic goes to IDLE (R155). In IDLE a SPACE is not
measured. A burst end that a KEY_SETTINGS overtook is taken by no one and leaves the burst logic as it is (R167, row 9). -/
def execGapReached (s : State) : Result :=
  if s.keys.inMark = true ∨ s.keys.burst = .idle then .next s
  else if s.keys.gapOvertaken then .next { s with keys := { s.keys with gapOvertaken := false } }
  else .next s.gapEnd.reAttn

/-- LEARN_TIMEOUT: the learn timer of the LEARNING entry expires (R158). -/
def execLearnTimeout (s : State) : Result :=
  if s.learningKey.isSome then .next (s.endLearning .empty .timedOut).reAttn else .next s

/-- LOCKOUT_EXPIRY: the lockout ends (R165). -/
def execLockoutExpiry (s : State) : Result :=
  if s.keys.lockout.isSome then .next { s with keys := { s.keys with lockout := none, failures := 0 } } else .next s

/-! ## KEY_SETTINGS (R153) -/

/-- A GAP_REACHED has come and waits to be taken: it fell under the settings now in force. -/
def State.gapWaits (s : State) : Bool := decide (Instr.gapReached ∈ s.pending)

/-- The reaching of the gap limit meets a write after which it no longer counts, and is taken second (R153, R167 row 9).
DESIGN CHOICE: that is so where a GAP_REACHED waits while a SPACE is measured, or one overtaken before waits still; where
none waits, the next GAP_REACHED is the SPACE's reaching the limit now in force (R155; notes/assumptions/3.md). -/
def Receiver.overtakesGap (waits : Bool) (k : Receiver) : Bool :=
  waits && (k.gapOvertaken || (k.burst != .idle && !k.inMark))

/-- The receiver settings are written while a GAP_REACHED waits, or none does (R153). A change of invert or sample period
ends any burst. A change of the gap limit alone acts on the SPACE in progress, which ends the burst when it reaches the new
limit. DESIGN CHOICE: a GAP_REACHED that waits fell at the old limit, so a higher one overtakes it, and a lower one does
not, since the SPACE is past that one already (notes/assumptions/3.md). -/
def Receiver.write (invert : Bool) (period : SamplePeriod) (gap : Nat) (waits : Bool) (k : Receiver) : Receiver :=
  let t := { k with invert := invert, period := period, gapLimit := gap }
  if k.invert = invert ∧ k.period = period then
    if k.gapLimit < gap then { t with gapOvertaken := k.overtakesGap waits } else t
  else { t.rest .waitingGap with gapOvertaken := k.overtakesGap waits }

/-- KEY_SETTINGS (R153). -/
def State.keySettingsRequest (s : State) : Option KeySettingsParams → State
  | none => s.respond .done s.keys.settingsBytes
  | some p =>
    match invert? p.invert, samplePeriod? p.period with
    | some invert, some period =>
      let k := s.keys.write invert period (clampGap p.gapLimit) s.gapWaits
      State.respond { s with keys := k } (if clampGap p.gapLimit = p.gapLimit.toNat then .done else .clamped)
        k.settingsBytes
    | _, _ => s.refuse .badRequest

/-- KEY_SETTINGS. -/
def execKeySettings (p : Option KeySettingsParams) (s : State) : Result := .next (s.keySettingsRequest p)

/-! ## LEARN_KEY, SET_KEY, ERASE_KEY, KEY_READ (R157, R159, R160, R166) -/

/-- An accepted LEARN_KEY (R157). -/
def State.beginLearning (s : State) (e : KeyIx) (r : KeyRole) (tolerance : Nat) : State :=
  let s := s.dropTaker.setKeyEntry e ⟨.learning r tolerance (s.clk32 + Config.learnSeconds), none⟩
  { s with keys := { s.keys with candidates := [], judged := false } }

/-- LEARN_KEY (R157). -/
def State.learnKey (s : State) (entry role tolerance : Byte) : State :=
  match keyIx? entry with
  | none => s.refuse .badIndex
  | some e =>
    match keyRole? role with
    | none => s.refuse .badRequest
    | some r =>
      if 15 < tolerance.toNat then s.refuse .outOfRange
      else if s.learningKey.isSome then s.refuse .wrongState
      else (s.beginLearning e r tolerance.toNat).respond .accepted []

/-- LEARN_KEY. -/
def execLearnKey (entry role tolerance : Byte) (s : State) : Result := .next (s.learnKey entry role tolerance)

/-- The values of a SET_KEY lie in their ranges for a pattern of n samples (R159, check 4). -/
def setKeyInRange (n : Nat) (p : SetKeyParams) : Bool :=
  decide (1 ≤ p.depth.toNat) && decide (p.depth.toNat ≤ n) && decide (p.tolerance.toNat ≤ 15) &&
    (p.ignored.all fun x => decide (1 ≤ x.toNat) && decide (x.toNat ≤ n)) && decide p.ignored.Nodup

/-- SET_KEY (R159, R163). -/
def State.setKey (s : State) (entry : Byte) (p : SetKeyParams) : State :=
  match keyIx? entry with
  | none => s.refuse .badIndex
  | some e =>
    match keyRole? p.role with
    | none => s.refuse .badRequest
    | some r =>
      if 4 < p.ignored.length then s.refuse .badRequest
      else
        match (s.keyEntry e).state with
        | .empty | .learning _ _ _ => s.refuse .wrongState
        | .valid _ pattern _ _ _ =>
          if setKeyInRange pattern.length p then
            let x : KeyEntry := ⟨.valid r pattern p.depth.toNat p.tolerance.toNat (p.ignored.map BitVec.toNat),
              (s.keyEntry e).lastResult⟩
            ((s.setKeyEntry e x).dropCandidate e).respond .done (x.bytes s.clk32)
          else s.refuse .outOfRange

/-- SET_KEY. -/
def execSetKey (entry : Byte) (p : SetKeyParams) (s : State) : Result := .next (s.setKey entry p)

/-- ERASE_KEY (R160, R163). -/
def State.eraseKey (s : State) (entry : Byte) : State :=
  match keyIx? entry with
  | none => s.refuse .badIndex
  | some e =>
    match (s.keyEntry e).state with
    | .empty => s.respond .done []
    | .valid _ _ _ _ _ => ((s.setKeyEntry e ⟨.empty, none⟩).dropCandidate e).respond .done []
    | .learning _ _ _ => (s.dropTaker.setKeyEntry e ⟨.empty, some .erased⟩).respond .done []

/-- ERASE_KEY. -/
def execEraseKey (entry : Byte) (s : State) : Result := .next (s.eraseKey entry)

/-- KEY_READ (R166). -/
def execKeyRead (entry : Byte) (s : State) : Result :=
  match keyIx? entry with
  | some e => .next (s.respond .done (s.keyImage e))
  | none => .next (s.refuse .badIndex)

end Sys2Proof.Machine
end

