-- ==== Sys2Proof/Machine/LaneRequests.lean ====
section
/-! DEFINITION. The meanings of the lane requests and of the two lane timers (R112, R118 to R126). -/

namespace Sys2Proof.Machine

/-- LANE_SETTINGS (R112). Grant evaluation runs where the change closes. -/
def State.laneSettingsRequest (s : State) : Option LaneSettingsParams → State
  | none => s.respond .done s.laneSettings.bytes
  | some p =>
    match windowPolicy? p.windowPolicy with
    | none => s.refuse .badRequest
    | some policy =>
      let t := LaneSettings.clamp p policy
      State.finish { s with laneSettings := t } (if t.exact p then .done else .clamped) fun _ => t.bytes

/-- LANE_SETTINGS. -/
def execLaneSettings (p : Option LaneSettingsParams) (s : State) : Result := .next (s.laneSettingsRequest p)

/-! ## LANE_DONE (R120) -/

/-- The session x on lane l goes to CLOSING with a claimed generation (R120): the switch opens, QUIET is placed, and a
verification poll is asked for. -/
def State.closeSession (s : State) (l : LaneNo) (x : Session) (claimed : Byte) : State :=
  let s := s.setLane l { s.lane l with session := some { x with phase := .closing claimed }, switch := none }
  let s := s.placeLaneOrder x.bay .quiet
  (s.modLink x.bay Link.requestVerify).pumpLink x.bay

/-- A session is in CONNECTED. -/
def SessionPhase.isConnected : SessionPhase → Bool
  | .connected _ => true
  | .admitting | .waking | .closing _ => false

/-- A session is in CLOSING. -/
def SessionPhase.isClosing : SessionPhase → Bool
  | .closing _ => true
  | .admitting | .waking | .connected _ => false

/-- LANE_DONE (R120). -/
def State.laneDone (s : State) (lane claimed : Byte) : State :=
  match laneNo? lane with
  | none => s.refuse .badIndex
  | some l =>
    match (s.lane l).session with
    | none => s.refuse .stale
    | some x =>
      if x.phase.isConnected then (s.closeSession l x claimed).finish .done fun _ => [] else s.refuse .stale

/-- LANE_DONE. -/
def execLaneDone (lane claimed : Byte) (s : State) : Result := .next (s.laneDone lane claimed)

/-! ## LANE_CANCEL (R123) -/

/-- LANE_CANCEL (R123). -/
def State.laneCancel (s : State) (lane : Byte) : State :=
  match laneNo? lane with
  | none => s.refuse .badIndex
  | some l =>
    match (s.lane l).session with
    | none => s.refuse .stale
    | some x =>
      if x.phase.isClosing then s.refuse .stale else (s.endSession l .cancelled).finish .done fun _ => []

/-- LANE_CANCEL. -/
def execLaneCancel (lane : Byte) (s : State) : Result := .next (s.laneCancel lane)

/-! ## LANE_READ, QUEUE_READ (R126) -/

/-- LANE_READ (R126). -/
def execLaneRead (s : State) : Result := .next (s.respond .done s.laneImage)

/-- QUEUE_READ (R126). -/
def execQueueRead (start : Byte) (s : State) : Result :=
  match recordIx? start with
  | some p => .next (s.respond .done (s.queueImage p.val))
  | none => .next (s.refuse .badIndex)

/-! ## The lane timers (R118, R119) -/

/-- WAKE_TIMEOUT: the WAKE timer, which runs in WAKING, expires (R118). -/
def State.wakeTimeout (s : State) (l : LaneNo) : State :=
  match (s.lane l).session with
  | some x => if x.phase = .waking then (s.endSession l .wakeFailed).closeChange else s
  | none => s

/-- WAKE_TIMEOUT. -/
def execWakeTimeout (l : LaneNo) (s : State) : Result := .next (s.wakeTimeout l)

/-- SESSION_TIMEOUT: the session timer, which runs in CONNECTED, expires (R119). -/
def State.sessionTimeout (s : State) (l : LaneNo) : State :=
  match (s.lane l).session with
  | some x => if x.phase.isConnected then (s.endSession l .timedOut).closeChange else s
  | none => s

/-- SESSION_TIMEOUT. -/
def execSessionTimeout (l : LaneNo) (s : State) : Result := .next (s.sessionTimeout l)

end Sys2Proof.Machine
end

