-- ==== Sys2Proof/Machine/Outputs.lean ====
section
/-! DEFINITION. The meanings of the events of the power stages (R96 to R102) and of energy accounting (R107). -/

namespace Sys2Proof.Machine

/-- SETTLED_REPORT (R96), with the phase ends it may bring (R98, R99). -/
def execSettledReport (b : BayNo) (value : Half) (s : State) : Result :=
  .next (s.modOutput b (Output.report value.toNat)).closeChange

/-- SETTLE_TIMEOUT: the settle timer of a bay expires, and the bay is cut (R101). The timer runs exactly while in motion is
set (R95, R96). -/
def execSettleTimeout (b : BayNo) (s : State) : Result :=
  if (s.output b).inMotion then .next (s.cut b).closeChange else .next s

/-- STAGE_FAULT_SIGNAL: it cuts a bay whose output switch is CLOSED, and is discarded otherwise (R102). -/
def execStageFaultSignal (b : BayNo) (s : State) : Result :=
  if (s.output b).closed then .next (s.cut b).closeChange else .next s

/-! ## Energy accounting (R107) -/

/-- A bay's energy remainder with one second of the settled setpoint added (R107). -/
def Output.accounted (o : Output) : Nat := o.remainder + o.settled

/-- Energy delivered with whole units added; it stays at 65535 (R107). -/
def addEnergy (energy units : Nat) : Nat := min 65535 (energy + units)

/-- One second of bay b is accounted to the record it names (R107). -/
def State.accountBay (s : State) (b : BayNo) : State :=
  match (s.bay b).record with
  | none => s
  | some i =>
    let total := (s.output b).accounted
    (s.modOutput b fun o => { o with remainder := total % 3600 }).editRecord i fun r =>
      { r with energy := addEnergy r.energy (total / 3600) }

/-- ENERGY_ACCOUNTING_TICK (R107): a second has passed, timed against CLK32, and every bay accounts it. -/
def execEnergyAccountingTick (s : State) : Result := .next (allBays.foldl State.accountBay s).countSecond

end Sys2Proof.Machine
end

