-- ==== Sys2Proof/Machine/PortRequests.lean ====
section
/-! DEFINITION. The meanings of the port's own commands: the assertion of CS_N, transactions without a request, SELF_TEST
and the event requests (R177 to R179, R184 to R186). -/

namespace Sys2Proof.Machine

/-- CS_N_ASSERTED: the attention summary byte is filled in (R177). -/
def execCsNAsserted (s : State) : Result :=
  .next { s with port := { s.port with
    response := { s.port.response with attention := some s.port.summary } } }

/-- EMPTY_TRANSACTION: the empty response (R178). -/
def execEmptyTransaction (_shifted : List Byte) (s : State) : Result := .next (s.respond .done [])

/-- MALFORMED_REQUEST: refused BAD_REQUEST (R178). -/
def execMalformedRequest (_shifted : List Byte) (s : State) : Result := .next (s.refuse .badRequest)

/-- SELF_TEST (R179). -/
def execSelfTest (s : State) : Result := .next (s.respond .done Config.selfTestData)

/-- EVENT_SUMMARY (R184). -/
def execEventSummary (s : State) : Result := .next (s.respond .done s.port.eventSummary)

/-- EVENT_READ (R184). -/
def execEventRead (source : Byte) (s : State) : Result :=
  match sourceNo? source with
  | some n => .next (s.respond .done (s.port.snapshot n))
  | none => .next (s.refuse .badIndex)

/-- Members are removed from a source's set, and ATTN is re-derived (R182, R183, R185). -/
def Port.ack (p : Port) (n : SourceNo) (subjects : BitVec 64) : Port :=
  Port.reAttn { p with subjects := p.subjects.set n.val (p.subjects[n.val] &&& ~~~subjects) }

/-- EVENT_ACK (R185). -/
def State.eventAck (s : State) (source : Byte) (subjects : BitVec 64) : State :=
  match sourceNo? source with
  | none => s.refuse .badIndex
  | some n =>
    if subjects &&& ~~~(Source.members n) ≠ 0 then s.refuse .outOfRange
    else State.respond { s with port := s.port.ack n subjects } .done ((s.port.ack n subjects).snapshot n)

/-- EVENT_ACK. -/
def execEventAck (source : Byte) (subjects : BitVec 64) (s : State) : Result := .next (s.eventAck source subjects)

/-- EVENT_ENABLE (R186). -/
def State.eventEnable (s : State) : Option (BitVec 24) → State
  | none => s.respond .done (be24 (s.port.enables.zeroExtend 24))
  | some e =>
    if e.toNat < 2 ^ 18 then
      State.respond { s with port := Port.reAttn { s.port with enables := e.truncate 18 } } .done (be24 e)
    else s.refuse .outOfRange

/-- EVENT_ENABLE. -/
def execEventEnable (enables : Option (BitVec 24)) (s : State) : Result := .next (s.eventEnable enables)

end Sys2Proof.Machine
end

