-- ==== Sys2Proof/Machine/Resets.lean ====
section
/-! DEFINITION. The cold reset and the warm reset (R24, R26, R45, R180 and the reset rules of every chapter). The queue of
commands waiting is no part of the hardware, and a reset leaves it. -/

namespace Sys2Proof.Machine

/-! ## Cold reset -/

/-- How many bays a strap value fits (R26). -/
def populatedCount (straps : BitVec 2) : Nat :=
  if straps = 0 then 24 else if straps = 1 then 30 else if straps = 2 then 36 else 18

/-- The part after a cold reset: every block's cold reset values, with the input levels as they stand (R24, R26, R45, R50,
R51, R69, R71, R75, R108, R112 to R115, R128 to R136, R142, R153 to R161, R168 to R173, R180). -/
def State.coldReset (s : State) (straps : BitVec 2) : State :=
  { State.reset with
    bays := Vector.ofFn fun b =>
      Bay.afterReset (decide (b.val < populatedCount straps)) s.bays[b].rawContact s.bays[b].lockedSwitch
        s.bays[b].unlockedSwitch (positionOf s.bays[b].lockedSwitch s.bays[b].unlockedSwitch)
    supplyLimit := s.supplyLimit
    effective := effectiveBudget BudgetSettings.defaults s.supplyLimit
    serviceInput := s.serviceInput
    keys := Receiver.afterReset s.keys.irinHigh
    pending := s.pending }

/-- COLD_RESET. -/
def execColdReset (straps : BitVec 2) (s : State) : Result := .next (s.coldReset straps)

/-! ## Warm reset (R180) -/

/-- A latch position through a warm reset: a drive is stopped, and MOVING takes what the switches give (R134). -/
def Bay.warmLatch (x : Bay) : LatchPosition :=
  if x.latch = .moving then positionOf x.lockedSwitch x.unlockedSwitch else x.latch

/-- A bay entry after a warm reset: the populated mark, the latch position and the input levels are kept (R45, R134). -/
def Bay.warm (x : Bay) : Bay := Bay.afterReset x.populated x.rawContact x.lockedSwitch x.unlockedSwitch x.warmLatch

/-- A Key Table entry through a warm reset: LEARNING becomes EMPTY with every other field absent (R156). -/
def KeyEntry.warm (e : KeyEntry) : KeyEntry := if e.state.isLearning then ⟨.empty, none⟩ else e

/-- The Key Receiver after a warm reset: settings, input and Key Table kept, the burst logic in WAITING_GAP, the matcher
cleared (R153, R155, R156, R161). DESIGN CHOICE: the stretch in progress is measured on through the reset: it keeps its level,
a change of IRIN that awaits its confirmation awaits it still, and so does the note of an overtaken burst end (R154;
notes/assumptions/18.md). -/
def Receiver.warm (k : Receiver) : Receiver :=
  { k.rest .waitingGap with
    gapOvertaken := k.gapOvertaken
    failures := 0
    lockout := none
    entries := Vector.ofFn fun e => k.entries[e].warm }

/-- The port after a warm reset: every set empty, the enables kept, ATTN re-derived, the response DONE with no data
(R180). -/
def Port.warm (p : Port) : Port :=
  Port.reAttn { p with subjects := Vector.replicate 18 0, response := ⟨.done, none, []⟩ }

/-- The part after a warm reset: settings, Key Table, Period Table, Day Clock and event enables kept, everything else at
its reset values (R24, R45, R50, R71, R73, R75, R89, R108, R110, R113 to R115, R130 to R136, R142, R156, R168, R173,
R180). -/
def State.warmReset (s : State) : State :=
  { State.reset with
    bays := Vector.ofFn fun b => s.bays[b].warm
    linkSettings := s.linkSettings
    budget := s.budget
    supplyLimit := s.supplyLimit
    effective := effectiveBudget s.budget s.supplyLimit
    laneSettings := s.laneSettings
    laneWindow := s.clock.windowOpen
    custodySettings := s.custodySettings
    serviceInput := s.serviceInput
    serviceLevel := s.serviceLevel
    keys := s.keys.warm
    clock := s.clock
    port := s.port.warm
    clk32 := s.clk32
    pending := s.pending }

/-- PART_RESET (R180). -/
def execPartReset (s : State) : Result := .next s.warmReset

end Sys2Proof.Machine
end

