-- ==== Sys2Proof/Machine/Roster.lean ====
section
/-! DEFINITION. The meanings of the twelve roster requests (R13 to R23). -/

namespace Sys2Proof.Machine

/-! ## ENROL (R14, R15, R34) -/

/-- The initial state of an ENROL with its holder tag in order (R14, check 1). -/
def enrolState? (p : EnrolParams) : Option CustodyState :=
  match custody? p.initial with
  | some .loaned => if p.holder = 0 then none else some .loaned
  | some .away => if p.holder = 0 then some .away else none
  | some .held => if p.holder = 0 then some .held else none
  | some .free | some .inCart | some .releasing | some .overdue | some .adrift | some .retiring | none => none

/-- The record an accepted ENROL writes, before its match (R14). -/
def Record.enrolment (p : EnrolParams) (c : CustodyState) (home : Option BayNo) (target : Nat) (ready : Option Minute) :
    Record :=
  { Record.freeImage with
    custody := c
    tabletId := p.tabletId
    homeBay := home
    holder := if c = .loaned then some p.holder.toNat else none
    holdReason := if c = .held then some .host else none
    target := target
    readyBy := ready
    profileTarget := p.profileTarget
    flags := p.flags }

/-- The FREE record with the lowest index (R1, R14). -/
def State.lowestFree (s : State) : Option RecordIx := allRecords.find? fun i => !(s.record i).enrolled

/-- ENROL (R14, R15, R34). DESIGN CHOICE: the flags it gives the new record are no change in the value of CHARGE_INHIBIT or
URGENT, so that it raises no reallocation request but those of its docks (R11, R76; notes/assumptions/16.md). -/
def State.enrol (s : State) (p : EnrolParams) : State :=
  match enrolState? p with
  | none => s.refuse .badRequest
  | some c =>
    match optional? target? p.target, optional? minute? p.readyBy,
      optional? (fun b : Byte => s.populatedBay? b.toNat) p.homeBay with
    | some target, some ready, some home =>
      if (s.findTablet p.tabletId).isSome then s.refuse .duplicate
      else
        match s.lowestFree with
        | none => s.refuse .full
        | some i =>
          let r := Record.enrolment p c home (target.getD s.budget.defaultTarget) ready
          ((s.setRecord i r).matchEnrol i p.tabletId).finish .done fun t =>
            [byte i.val, byte (t.record i).custody.ctorIdx]
    | _, _, _ => s.refuse .outOfRange

/-- ENROL. -/
def execEnrol (p : EnrolParams) (s : State) : Result := .next (s.enrol p)

/-! ## FIND, READ_RECORD, LIST (R16, R17) -/

/-- FIND (R16). -/
def execFind (x : TabletId) (s : State) : Result :=
  match s.findTablet x with
  | some i => .next (s.respond .done [byte i.val])
  | none => .next (s.refuse .notFound)

/-- READ_RECORD (R16, R191). -/
def execReadRecord (index : Byte) (s : State) : Result :=
  match recordIx? index with
  | some i => .next (s.respond .done (byte i.val :: (s.record i).image))
  | none => .next (s.refuse .badIndex)

/-- The records in a custody state from a start index on, in ascending order (R17). -/
def State.listFrom (s : State) (c : CustodyState) (start : RecordIx) : List RecordIx :=
  allRecords.filter fun i => decide (start ≤ i) && (s.record i).custody == c

/-- LIST (R17). -/
def execList (custody start : Byte) (s : State) : Result :=
  match custody? custody with
  | none => .next (s.refuse .badRequest)
  | some c =>
    match recordIx? start with
    | none => .next (s.refuse .badIndex)
    | some i => .next (s.respond .done (page 32 (fun j => [byte j.val]) (s.listFrom c i)))

/-! ## AMEND (R18) -/

/-- The write of AMEND, if the value lies in the field's range (R18). -/
def State.amendment (s : State) (f : AmendField) (v : Option Half) : Option (Record → Record) :=
  match f, v with
  | .target, some x => (target? x).map fun t r => { r with target := t }
  | .target, none => none
  | .readyBy, some x => (minute? x).map fun y r => { r with readyBy := some y }
  | .readyBy, none => some fun r => { r with readyBy := none }
  | .homeBay, some x => (s.populatedBay? x.toNat).map fun b r => { r with homeBay := some b }
  | .homeBay, none => some fun r => { r with homeBay := none }
  | .profileTarget, some x => if x.toNat < 256 then some fun r => { r with profileTarget := byte x.toNat } else none
  | .profileTarget, none => none
  | .holder, some x => if x = 0 then none else some fun r => { r with holder := some x.toNat }
  | .holder, none => none

/-- A write of this field raises a reallocation request (R11). -/
def AmendField.reallocates : AmendField → Bool
  | .target | .readyBy => true
  | .homeBay | .profileTarget | .holder => false

/-- A record on loan, whose holder tag the host may amend (R18). -/
def CustodyState.onLoan : CustodyState → Bool
  | .loaned | .overdue => true
  | .free | .away | .inCart | .releasing | .adrift | .held | .retiring => false

/-- A field of record i is written; a write of the home bay re-evaluates MISPLACED (R7, R18). -/
def State.writeField (s : State) (f : AmendField) (i : RecordIx) (write : Record → Record) : State :=
  if f = .homeBay then s.modRecord i write else s.editRecord i write

/-- AMEND (R18). -/
def State.amend (s : State) (index field : Byte) (v : Option Half) : State :=
  match recordIx? index with
  | none => s.refuse .badIndex
  | some i =>
    match amendField? field with
    | none => s.refuse .badRequest
    | some f =>
      if (s.record i).custody = .free then s.refuse .wrongState
      else
        match s.amendment f v with
        | none => s.refuse .outOfRange
        | some write =>
          if f = .holder ∧ (s.record i).custody.onLoan = false then s.refuse .wrongState
          else ((s.writeField f i write).requestPassIf f.reallocates).finish .done fun _ => []

/-- AMEND. -/
def execAmend (index field : Byte) (v : Option Half) (s : State) : Result := .next (s.amend index field v)

/-! ## FLAG_SWAP, FLAG_AND, FLAG_OR (R19) -/

/-- A change of the flag set raises a reallocation request: CHARGE_INHIBIT or URGENT changes its value (R11, R19). -/
def flagsReallocate (old new : Byte) : Bool := old.getLsbD 0 != new.getLsbD 0 || old.getLsbD 1 != new.getLsbD 1

/-- Record i's host flag set becomes new (R19). -/
def State.writeFlags (s : State) (i : RecordIx) (new : Byte) : State :=
  (s.modRecord i fun r => { r with flags := new }).requestPassIf (flagsReallocate (s.record i).flags new)

/-- The three flag requests, with the change each makes of the flag set (R19). -/
def State.changeFlags (s : State) (index : Byte) (change : Byte → Byte) : State :=
  match recordIx? index with
  | none => s.refuse .badIndex
  | some i =>
    if (s.record i).custody = .free then s.refuse .wrongState
    else (s.writeFlags i (change (s.record i).flags)).finish .done fun _ => [(s.record i).flags]

/-- FLAG_SWAP (R19). -/
def execFlagSwap (index flags : Byte) (s : State) : Result := .next (s.changeFlags index fun _ => flags)

/-- FLAG_AND (R19). -/
def execFlagAnd (index flags : Byte) (s : State) : Result := .next (s.changeFlags index fun old => old &&& flags)

/-- FLAG_OR (R19). -/
def execFlagOr (index flags : Byte) (s : State) : Result := .next (s.changeFlags index fun old => old ||| flags)

/-! ## FILL (R20) -/

/-- FILL's template with every selected value in its range. -/
structure FillWrite where
  target : Option Nat
  readyBy : Option (Option Minute)
  homeBay : Option (Option BayNo)
  profileTarget : Option Byte
  flags : Option Byte
deriving DecidableEq, Repr

/-- The template's selected values, if every one lies in its range (R20, check 4). -/
def State.fillWrite? (s : State) (t : FillTemplate) : Option FillWrite :=
  match optional? target? t.target, optional? (optional? minute?) t.readyBy,
    optional? (optional? fun b : Byte => s.populatedBay? b.toNat) t.homeBay with
  | some target, some ready, some home => some ⟨target, ready, home, t.profileTarget, t.flags⟩
  | _, _, _ => none

/-- The template selects at least one field (R20). -/
def FillWrite.selects (w : FillWrite) : Bool :=
  w.target.isSome || w.readyBy.isSome || w.homeBay.isSome || w.profileTarget.isSome || w.flags.isSome

/-- The selected fields but the flags written into a record (R20). -/
def FillWrite.apply (w : FillWrite) (r : Record) : Record :=
  { r with
    target := w.target.getD r.target
    readyBy := w.readyBy.getD r.readyBy
    homeBay := w.homeBay.getD r.homeBay
    profileTarget := w.profileTarget.getD r.profileTarget }

/-- One record is written by a FILL, with the handoffs AMEND and FLAG_SWAP would give it (R20). -/
def State.fillRecord (w : FillWrite) (s : State) (i : RecordIx) : State :=
  let s := (s.modRecord i w.apply).requestPassIf (w.target.isSome || w.readyBy.isSome)
  match w.flags with
  | some f => s.writeFlags i f
  | none => s

/-- The enrolled records of a FILL's range, cut short at index 63 (R20). -/
def State.fillRange (s : State) (first : RecordIx) (count : Nat) : List RecordIx :=
  allRecords.filter fun i => decide (first ≤ i) && decide (i.val < first.val + count) && (s.record i).enrolled

/-- FILL (R20). -/
def State.fill (s : State) (first count : Byte) (t : FillTemplate) : State :=
  match recordIx? first with
  | none => s.refuse .badIndex
  | some i =>
    if 64 < count.toNat then s.refuse .outOfRange
    else if count.toNat = 0 then s.respond .done [0]
    else
      match s.fillWrite? t with
      | none => s.refuse .outOfRange
      | some w =>
        if w.selects then
          let range := s.fillRange i count.toNat
          (range.foldl (State.fillRecord w) s).finish .done fun _ => [byte range.length]
        else s.respond .done [0]

/-- FILL. -/
def execFill (first count : Byte) (t : FillTemplate) (s : State) : Result := .next (s.fill first count t)

/-! ## HOLD, UNHOLD, RETIRE (R21 to R23) -/

/-- The custody state of record i, as a response carries it. -/
def State.custodyByte (i : RecordIx) (s : State) : List Byte := [byte (s.record i).custody.ctorIdx]

/-- HOLD (R21). -/
def State.hold (s : State) (index : Byte) : State :=
  match recordIx? index with
  | none => s.refuse .badIndex
  | some i =>
    if (s.record i).custody = .free ∨ (s.record i).custody = .releasing then s.refuse .wrongState
    else (s.holdByHost i).finish .done (State.custodyByte i)

/-- HOLD. -/
def execHold (index : Byte) (s : State) : Result := .next (s.hold index)

/-- A record's fields when it is released from HELD (R22). -/
def Record.unheld (r : Record) : Record :=
  { r with
    custody := if r.docked then .inCart else .away
    holdReason := none
    provStuck := false
    failureCount := 0 }

/-- Record i is released from HELD (R22, R140). -/
def State.unholdRecord (s : State) (i : RecordIx) : State :=
  match (s.record i).currentBay with
  | none => s.editRecord i Record.unheld
  | some b => ((s.editRecord i Record.unheld).receiveInCart b).requestPass

/-- UNHOLD (R22). -/
def State.unhold (s : State) (index : Byte) : State :=
  match recordIx? index with
  | none => s.refuse .badIndex
  | some i =>
    if (s.record i).custody ≠ .held then s.refuse .wrongState
    else if s.serviceAuthorised then (s.unholdRecord i).finish .done (State.custodyByte i)
    else s.refuse .notAuthorised

/-- UNHOLD. -/
def execUnhold (index : Byte) (s : State) : Result := .next (s.unhold index)

/-- Record i becomes RETIRING (R23): a session ends ABORTED, and a record that leaves full class raises a request (R11). -/
def State.retireDocked (s : State) (i : RecordIx) : State :=
  let leaves := (s.record i).custody.fullClass
  ((s.endSessionOf i .aborted).editRecord i fun r => { r with custody := .retiring, holdReason := none }).requestPassIf
    leaves

/-- RETIRE (R23). -/
def State.retire (s : State) (index : Byte) : State :=
  match recordIx? index with
  | none => s.refuse .badIndex
  | some i =>
    match (s.record i).custody with
    | .free | .releasing => s.refuse .wrongState
    | .away | .loaned | .overdue | .adrift => (s.freeRecord i).finish .done (State.custodyByte i)
    | .inCart | .retiring => (s.retireDocked i).finish .done (State.custodyByte i)
    | .held =>
      if (s.record i).docked then (s.retireDocked i).finish .done (State.custodyByte i)
      else (s.freeRecord i).finish .done (State.custodyByte i)

/-- RETIRE. -/
def execRetire (index : Byte) (s : State) : Result := .next (s.retire index)

end Sys2Proof.Machine
end

