-- ==== Sys2Proof/Machine/Dispatch.lean ====
section
/-! DEFINITION. One arm per command: the direct call of its meaning. -/

namespace Sys2Proof.Machine

def exec (i : Instr) (s : State) : Host.Outcome State Fault Refusal :=
  match i with
  | .coldReset straps => Sys2Proof.Machine.execColdReset straps s
  | .csNAsserted => Sys2Proof.Machine.execCsNAsserted s
  | .emptyTransaction shifted => Sys2Proof.Machine.execEmptyTransaction shifted s
  | .malformedRequest shifted => Sys2Proof.Machine.execMalformedRequest shifted s
  | .enrol p => Sys2Proof.Machine.execEnrol p s
  | .find tabletId => Sys2Proof.Machine.execFind tabletId s
  | .readRecord index => Sys2Proof.Machine.execReadRecord index s
  | .list custody start => Sys2Proof.Machine.execList custody start s
  | .amend index field value => Sys2Proof.Machine.execAmend index field value s
  | .flagSwap index flags => Sys2Proof.Machine.execFlagSwap index flags s
  | .flagAnd index flags => Sys2Proof.Machine.execFlagAnd index flags s
  | .flagOr index flags => Sys2Proof.Machine.execFlagOr index flags s
  | .fill first count template => Sys2Proof.Machine.execFill first count template s
  | .hold index => Sys2Proof.Machine.execHold index s
  | .unhold index => Sys2Proof.Machine.execUnhold index s
  | .retire index => Sys2Proof.Machine.execRetire index s
  | .bayDisable bay => Sys2Proof.Machine.execBayDisable bay s
  | .bayEnable bay => Sys2Proof.Machine.execBayEnable bay s
  | .readBay bay => Sys2Proof.Machine.execReadBay bay s
  | .linkSettings p => Sys2Proof.Machine.execLinkSettings p s
  | .linkReset bay => Sys2Proof.Machine.execLinkReset bay s
  | .lineTest bay readings => Sys2Proof.Machine.execLineTest bay readings s
  | .budgetSettings p => Sys2Proof.Machine.execBudgetSettings p s
  | .budgetRead bay => Sys2Proof.Machine.execBudgetRead bay s
  | .laneSettings p => Sys2Proof.Machine.execLaneSettings p s
  | .laneDone lane claimed => Sys2Proof.Machine.execLaneDone lane claimed s
  | .laneCancel lane => Sys2Proof.Machine.execLaneCancel lane s
  | .laneRead => Sys2Proof.Machine.execLaneRead s
  | .queueRead start => Sys2Proof.Machine.execQueueRead start s
  | .custodySettings p => Sys2Proof.Machine.execCustodySettings p s
  | .checkout index holder preempt overrideMinimum => Sys2Proof.Machine.execCheckout index holder preempt overrideMinimum s
  | .cancelRelease index => Sys2Proof.Machine.execCancelRelease index s
  | .latch bay direction => Sys2Proof.Machine.execLatch bay direction s
  | .custodyRead start => Sys2Proof.Machine.execCustodyRead start s
  | .keySettings p => Sys2Proof.Machine.execKeySettings p s
  | .learnKey entry role tolerance => Sys2Proof.Machine.execLearnKey entry role tolerance s
  | .setKey entry p => Sys2Proof.Machine.execSetKey entry p s
  | .eraseKey entry => Sys2Proof.Machine.execEraseKey entry s
  | .keyRead entry => Sys2Proof.Machine.execKeyRead entry s
  | .setTime minute day => Sys2Proof.Machine.execSetTime minute day s
  | .setPeriod entry operation p => Sys2Proof.Machine.execSetPeriod entry operation p s
  | .clockRead => Sys2Proof.Machine.execClockRead s
  | .periodRead => Sys2Proof.Machine.execPeriodRead s
  | .selfTest => Sys2Proof.Machine.execSelfTest s
  | .partReset => Sys2Proof.Machine.execPartReset s
  | .eventSummary => Sys2Proof.Machine.execEventSummary s
  | .eventRead source => Sys2Proof.Machine.execEventRead source s
  | .eventAck source subjects => Sys2Proof.Machine.execEventAck source subjects s
  | .eventEnable enables => Sys2Proof.Machine.execEventEnable enables s
  | .rawContactChange bay present => Sys2Proof.Machine.execRawContactChange bay present s
  | .contactArrival bay => Sys2Proof.Machine.execContactArrival bay s
  | .contactLoss bay => Sys2Proof.Machine.execContactLoss bay s
  | .restEnd bay => Sys2Proof.Machine.execRestEnd bay s
  | .identTaken bay reply => Sys2Proof.Machine.execIdentTaken bay reply s
  | .echoTaken bay payload => Sys2Proof.Machine.execEchoTaken bay payload s
  | .telemetryTaken bay reply => Sys2Proof.Machine.execTelemetryTaken bay reply s
  | .ackTaken bay => Sys2Proof.Machine.execAckTaken bay s
  | .nakTaken bay reason => Sys2Proof.Machine.execNakTaken bay reason s
  | .badFrame bay reply => Sys2Proof.Machine.execBadFrame bay reply s
  | .replyTimeout bay => Sys2Proof.Machine.execReplyTimeout bay s
  | .pollInstant bay => Sys2Proof.Machine.execPollInstant bay s
  | .supplyLimitChange asserted => Sys2Proof.Machine.execSupplyLimitChange asserted s
  | .settledReport bay value => Sys2Proof.Machine.execSettledReport bay value s
  | .settleTimeout bay => Sys2Proof.Machine.execSettleTimeout bay s
  | .stageFaultSignal bay => Sys2Proof.Machine.execStageFaultSignal bay s
  | .energyAccountingTick => Sys2Proof.Machine.execEnergyAccountingTick s
  | .wakeTimeout lane => Sys2Proof.Machine.execWakeTimeout lane s
  | .sessionTimeout lane => Sys2Proof.Machine.execSessionTimeout lane s
  | .teacherWindowExpiry => Sys2Proof.Machine.execTeacherWindowExpiry s
  | .serviceWindowExpiry => Sys2Proof.Machine.execServiceWindowExpiry s
  | .serviceInputChange asserted => Sys2Proof.Machine.execServiceInputChange asserted s
  | .serviceEdge => Sys2Proof.Machine.execServiceEdge s
  | .releaseWindowExpiry bay => Sys2Proof.Machine.execReleaseWindowExpiry bay s
  | .latchSwitchChange bay locked unlocked => Sys2Proof.Machine.execLatchSwitchChange bay locked unlocked s
  | .driveTimeout slot => Sys2Proof.Machine.execDriveTimeout slot s
  | .irinEdge high => Sys2Proof.Machine.execIrinEdge high s
  | .stretchTaken durationNs => Sys2Proof.Machine.execStretchTaken durationNs s
  | .gapReached => Sys2Proof.Machine.execGapReached s
  | .learnTimeout => Sys2Proof.Machine.execLearnTimeout s
  | .lockoutExpiry => Sys2Proof.Machine.execLockoutExpiry s
  | .minuteStep => Sys2Proof.Machine.execMinuteStep s
  | .secondsCountTick => Sys2Proof.Machine.execSecondsCountTick s

end Sys2Proof.Machine
end

