-- ==== Sys2Proof/Safety.lean ====
section
/-! DEFINITION. What counts as a safe run, in the terms the claims use: completion, the laws the manual says the part keeps
at every moment, and what the close of a change leaves as it was. -/

namespace Sys2Proof.Machine

/-- A command completes: exec answers a next state. -/
abbrev Completes (c : Instr) (s : State) : Prop := ∃ t, exec c s = .next t

/-! ## Laws -/

/-- R183: ATTN is asserted while at least one source is both enabled and non-empty, and deasserted while none is. -/
abbrev State.AttnLaw (s : State) : Prop :=
  s.port.attn = true ↔ ∃ n : SourceNo, s.port.enables.getLsbD n.val = true ∧ s.subjectsOf n ≠ 0

/-- R43: every lamp shows the first pattern whose condition holds. -/
abbrev State.LampLaw (s : State) : Prop := ∀ b : BayNo, (s.bay b).lamp = s.lampFor b

/-- R7: MISPLACED is set exactly while HOME_STRICT is set, home bay and current bay are present, and they differ. -/
abbrev State.MisplacedLaw (s : State) : Prop :=
  ∀ i : RecordIx, (s.record i).misplaced = true ↔
    (s.record i).homeStrict = true ∧ (s.record i).homeBay.isSome = true ∧ (s.record i).currentBay.isSome = true ∧
      (s.record i).homeBay ≠ (s.record i).currentBay

/-- R181: the members of each source are those its table row names. -/
abbrev State.MembersLaw (s : State) : Prop := ∀ n : SourceNo, s.subjectsOf n &&& ~~~(Source.members n) = 0

/-- R110: the queue holds each record that meets every condition, once, and no other. -/
abbrev State.QueueLaw (s : State) : Prop := s.queue.Nodup ∧ ∀ i : RecordIx, i ∈ s.queue ↔ s.eligible i = true

/-- The presence of current bay, holder tag, hold reason and adrift reason by custody state (R4). -/
abbrev Record.PresenceLaw (r : Record) : Prop :=
  match r.custody with
  | .free | .away =>
    r.currentBay = none ∧ r.holder = none ∧ r.holdReason = none ∧ r.adriftReason = none
  | .inCart | .retiring =>
    r.currentBay.isSome = true ∧ r.holder = none ∧ r.holdReason = none ∧ r.adriftReason = none
  | .releasing => r.currentBay.isSome = true ∧ r.holder.isSome = true ∧ r.holdReason = none ∧ r.adriftReason = none
  | .loaned | .overdue => r.currentBay = none ∧ r.holder.isSome = true ∧ r.holdReason = none ∧ r.adriftReason = none
  | .adrift => r.currentBay = none ∧ r.holder = none ∧ r.holdReason = none ∧ r.adriftReason.isSome = true
  | .held => r.holder = none ∧ r.holdReason.isSome = true ∧ r.adriftReason = none

/-- R25: a record names a bay as its current bay exactly when that bay names the record, and a bay names a record only in
IDENTIFIED or FAULT. -/
abbrev State.NamingLaw (s : State) : Prop :=
  (∀ (i : RecordIx) (b : BayNo), (s.record i).currentBay = some b ↔ (s.bay b).record = some i) ∧
    ∀ b : BayNo, (s.bay b).record.isSome = true → (s.bay b).state = .identified ∨ (s.bay b).state = .fault

/-- R142: a release entry exists exactly while its record is RELEASING, and stands at the bay that names the record. -/
abbrev State.ReleaseLaw (s : State) : Prop :=
  (∀ b : BayNo, match s.release b with
    | some e => (s.bay b).record = some e.record ∧ (s.record e.record).custody = .releasing
    | none => True) ∧
    ∀ i : RecordIx, (s.record i).custody = .releasing → ∃ b : BayNo, (s.release b).map Release.record = some i

/-- R40, R41: a host-disabled bay is DISABLED. -/
abbrev State.DisabledLaw (s : State) : Prop :=
  ∀ b : BayNo, (s.bay b).hostDisabled = true → (s.bay b).state = .disabled

/-- The laws of custody together: R4, R25, R142 and that a host-disabled bay is DISABLED. -/
abbrev State.CustodyLaw (s : State) : Prop :=
  s.NamingLaw ∧ (∀ i : RecordIx, (s.record i).PresenceLaw) ∧ s.ReleaseLaw ∧ s.DisabledLaw

/-- R54: a link's rate step never exceeds the smaller of the cart max step and the step its tablet last advertised. -/
abbrev State.RateLaw (s : State) : Prop :=
  ∀ b : BayNo, (s.link b).step ≤ s.linkSettings.maxStep ∧
    match (s.link b).advertised with
    | some v => (s.link b).step ≤ v
    | none => True

/-- The key laws: candidates are VALID entries, none while an entry is LEARNING or a lockout is in force (R161); at most one
entry is LEARNING (R157); the failure count is at most 5, and 5 exactly while a lockout is in force (R165). -/
abbrev State.KeyLaw (s : State) : Prop :=
  (∀ e ∈ s.keys.candidates, (s.keyEntry e).state.isValid = true) ∧
    (s.learningKey.isSome = true ∨ s.keys.lockout.isSome = true → s.keys.candidates = []) ∧
    (∀ e f : KeyIx, (s.keyEntry e).state.isLearning = true → (s.keyEntry f).state.isLearning = true → e = f) ∧
    s.keys.failures ≤ 5 ∧ (s.keys.failures = 5 ↔ s.keys.lockout.isSome = true)

/-- A bay state in which the output switch is OPEN (R95). -/
abbrev BayState.switchedOff (x : BayState) : Prop := x = .disabled ∨ x = .empty ∨ x = .bringup ∨ x = .fault

/-- R95: the output switch is OPEN, nothing is issued, settled, in motion or targeted in a bay that is DISABLED, EMPTY,
BRINGUP or FAULT; a bay with a commitment above 0 has its switch CLOSED. -/
abbrev State.OutputLaw (s : State) : Prop :=
  (∀ b : BayNo, (s.bay b).state.switchedOff →
    (s.output b).closed = false ∧ (s.output b).issued = 0 ∧ (s.output b).settled = 0 ∧
      (s.output b).inMotion = false ∧ (s.output b).target = none) ∧
    (∀ b : BayNo, 0 < (s.output b).commitment → (s.output b).closed = true) ∧ s.DisabledLaw

/-- R50, R29, R40: the link of a DISABLED or EMPTY bay is DOWN at step 0 with no exchange in progress; and no bay is its own
collision partner (R33). -/
abbrev State.LinkLaw (s : State) : Prop :=
  (∀ b : BayNo, (s.bay b).state = .disabled ∨ (s.bay b).state = .empty →
    (s.link b).state = .down ∧ (s.link b).step = 0 ∧ (s.link b).exchange = none) ∧
    ∀ b : BayNo, (s.bay b).partner ≠ some b

/-- R55: no poll is due while a training sweep makes its exchanges. -/
abbrev State.SweepLaw (s : State) : Prop :=
  ∀ b : BayNo, (s.link b).exchange = some .train → (s.link b).pollDue = false ∧ (s.link b).sweepDue = false

/-- R25, R39: a bay's state says which of record, reported ID, foreign cause, partner and fault reason it holds, and only
FAULT has the recovery mark. -/
abbrev Bay.FieldLaw (x : Bay) : Prop :=
  (x.record.isSome = true → x.state = .identified ∨ x.state = .fault) ∧
    (x.state = .identified → x.record.isSome = true) ∧
    (x.reportedId.isSome = true ↔
      x.state = .foreign ∨ x.state = .collided ∨ x.state = .fault ∧ x.partner.isSome = true) ∧
    (x.foreignCause.isSome = true ↔ x.state = .foreign) ∧
    (x.partner.isSome = true → x.state = .collided ∨ x.state = .fault) ∧
    (x.state = .collided → x.partner.isSome = true) ∧
    (x.faultReason.isSome = true ↔ x.state = .fault) ∧ (x.recovery = true → x.state = .fault)

/-- Every bay holds the fields its state gives it (R25). -/
abbrev State.BayLaw (s : State) : Prop := ∀ b : BayNo, (s.bay b).FieldLaw

/-- The laws of custody, outputs and links together. -/
abbrev State.Inv (s : State) : Prop := s.CustodyLaw ∧ s.OutputLaw ∧ s.LinkLaw

/-- R116: while lanes may be granted and one is IDLE, no record waits in the queue. -/
abbrev State.GrantLaw (s : State) : Prop :=
  s.grantsPermitted = true → (∃ l : LaneNo, (s.lane l).session = none) → s.queue = []

/-- The amounts of f over the bays and the ADMITTED and ACTIVE reservations fit in B_eff, or f is 0 everywhere because the
reservations stand above B_eff (R72, its third interval). -/
abbrev State.Fits (s : State) (f : BayNo → Nat) : Prop :=
  (allBays.map f).sum + countedAmount s.reservations ≤ s.effective ∨ ∀ b : BayNo, f b = 0

/-- The pass target of a bay, 0 for a bay without one (R95). -/
def State.targetOf (s : State) (b : BayNo) : Nat := (s.output b).target.getD 0

/-- The budget law (R72, R105): outside the decreasing phase the commitments and the counted reservations fit in B_eff, and
in the decreasing phase the targets do, and no bay is issued more than its target. What makes the law keep itself stands with
it: a bay with nothing in motion has confirmed what it was issued, and an IDENTIFIED bay names a record (R25). -/
abbrev State.BudgetLaw (s : State) : Prop :=
  (∀ b : BayNo, (s.output b).inMotion = true ∨ (s.output b).settled = (s.output b).issued) ∧
    (∀ b : BayNo, (s.bay b).state = .identified → (s.bay b).record.isSome = true) ∧
    match s.phase with
    | .idle => s.Fits fun b => (s.output b).commitment
    | .decreasing => (∀ b : BayNo, (s.output b).issued ≤ s.targetOf b) ∧ s.Fits s.targetOf
    | .increasing =>
      (∀ b : BayNo, (s.output b).commitment ≤ s.targetOf b) ∧ s.Fits s.targetOf ∧
        s.Fits fun b => (s.output b).commitment

/-- R3: no two enrolled records hold one tablet ID. -/
abbrev State.TabletLaw (s : State) : Prop :=
  ∀ i j : RecordIx, (s.record i).enrolled = true → (s.record j).enrolled = true →
    (s.record i).tabletId = (s.record j).tabletId → i = j

/-- R170: the day mask of every VALID Period Table entry is non-empty. -/
abbrev State.PeriodLaw (s : State) : Prop := ∀ e : PeriodIx, ∀ x ∈ s.period e, x.days ≠ 0

/-- R114, R115: every session belongs to an IN_CART record docked in the session's bay, whose bay entry holds the lane; no
bay and no record has two sessions; and the switch of a lane is closed, to the session's bay, exactly in WAKING and
CONNECTED. -/
abbrev State.LaneLaw (s : State) : Prop :=
  (∀ l : LaneNo, ∀ x ∈ (s.lane l).session, (s.record x.record).custody = .inCart ∧
    (s.record x.record).currentBay = some x.bay ∧ (s.bay x.bay).lane = some l) ∧
    (∀ b : BayNo, ∀ l ∈ (s.bay b).lane, (s.lane l).session.map Session.bay = some b) ∧
    (∀ l m : LaneNo, ∀ x ∈ (s.lane l).session, ∀ y ∈ (s.lane m).session, x.bay = y.bay ∨ x.record = y.record → l = m) ∧
    ∀ l : LaneNo, (s.lane l).switch = (s.lane l).session.bind fun x => if x.phase.onLane then some x.bay else none

/-- A slot drives a latch (R136). -/
def DriveSlot.isDriving : DriveSlot → Bool
  | .driving _ => true
  | .free | .reserving _ => false

/-- R134 to R137: the latch queue holds each bay at most once, and none that a slot is RESERVING for; no two slots hold one
bay; and a latch is MOVING exactly while a slot drives it. -/
abbrev State.LatchLaw (s : State) : Prop :=
  ((s.latchQueue.map LatchRequest.bay).Nodup ∧ ∀ q ∈ s.latchQueue, s.reservingSlot q.bay = none) ∧
    (∀ j k : SlotNo, ∀ p ∈ (s.slot j).request, ∀ q ∈ (s.slot k).request, p.bay = q.bay → j = k) ∧
    ∀ b : BayNo, (s.bay b).latch = .moving ↔ (s.drivingSlot b).isSome = true

/-- R89, R114, R136: each owner has at most one reservation; a drive slot outside FREE and a lane with a session have theirs,
and no other has one; it is ACTIVE exactly once the drive has started and the session is past ADMITTING. -/
abbrev State.ReservationLaw (s : State) : Prop :=
  (s.reservations.map Reservation.owner).Nodup ∧
    (∀ k : SlotNo, s.slot k ≠ .free ↔ ∃ e ∈ s.reservations, e.owner = .latch k) ∧
    (∀ l : LaneNo, (s.lane l).session.isSome = true ↔ ∃ e ∈ s.reservations, e.owner = .lane l) ∧
    ∀ e ∈ s.reservations,
      match e.owner with
      | .latch k => e.state = .active ↔ (s.slot k).isDriving = true
      | .lane l => e.state = .active ↔ (s.lane l).session.any (fun x => x.phase != .admitting) = true

/-- The ranges of R2 that a width does not settle, for one record. -/
abbrev Record.RangeLaw (r : Record) : Prop :=
  (200 ≤ r.target ∧ r.target ≤ 1000) ∧ r.failureCount ≤ 7 ∧ r.energy ≤ 65535 ∧
    (match r.holder with | some h => 1 ≤ h ∧ h ≤ 65535 | none => True) ∧
    (match r.lastCharge with | some c => c ≤ 1000 | none => True) ∧
    (match r.lastTemp with | some t => -20 ≤ t ∧ t ≤ 85 | none => True) ∧
    (match r.capacity with | some c => 50 ≤ c ∧ c ≤ 1000 | none => True) ∧
    (match r.acceptance with | some a => 25 ≤ a ∧ a ≤ 1000 | none => True)

/-- The ranges of R2 for every record, a home bay being a populated bay, with the range of the default target charge that ENROL
reads (R69). -/
abbrev State.RangeLaw (s : State) : Prop :=
  (∀ i : RecordIx, (s.record i).RangeLaw) ∧
    (∀ i : RecordIx, ∀ b ∈ (s.record i).homeBay, (s.bay b).populated = true) ∧ 200 ≤ s.budget.defaultTarget ∧ s.budget.defaultTarget ≤ 1000

/-! ## Frames -/

/-- Two records are equal but for UNSECURED, which a LOCK request completed where a change closes clears (R138). -/
abbrev Record.SameButUnsecured (r q : Record) : Prop := { q with unsecured := r.unsecured } = r

/-- Every record outside a list keeps every field but UNSECURED. -/
abbrev State.RecordsKept (s t : State) (but : List RecordIx) : Prop :=
  ∀ i : RecordIx, i ∉ but → (s.record i).SameButUnsecured (t.record i)

/-- A bay entry keeps its identity, marks, contact and input levels (R25); grant, latch position, lane and lamp may
change. -/
abbrev Bay.IdentityKept (x y : Bay) : Prop :=
  { y with latch := x.latch, grant := x.grant, lane := x.lane, lamp := x.lamp } = x

/-- Every bay outside a list keeps its identity. -/
abbrev State.BaysKept (s t : State) (but : List BayNo) : Prop :=
  ∀ b : BayNo, b ∉ but → (s.bay b).IdentityKept (t.bay b)

/-- The link, budget, lane and custody settings are kept. -/
abbrev State.SettingsKept (s t : State) : Prop :=
  t.linkSettings = s.linkSettings ∧ t.budget = s.budget ∧ t.laneSettings = s.laneSettings ∧
    t.custodySettings = s.custodySettings

/-- The receiver settings are kept (R153). -/
abbrev State.KeySettingsKept (s t : State) : Prop :=
  t.keys.invert = s.keys.invert ∧ t.keys.period = s.keys.period ∧ t.keys.gapLimit = s.keys.gapLimit

/-- The clock, the Period Table, the window states and the count of seconds are kept. -/
abbrev State.TimeKept (s t : State) : Prop :=
  t.clock = s.clock ∧ t.laneWindow = s.laneWindow ∧ t.clk32 = s.clk32

/-- The custody windows and the SERVICE input are kept. -/
abbrev State.WindowsKept (s t : State) : Prop :=
  t.teacher = s.teacher ∧ t.service = s.service ∧ t.serviceInput = s.serviceInput ∧ t.serviceLevel = s.serviceLevel

/-- The SUPPLY_LIMIT level and B_eff are kept. -/
abbrev State.BudgetKept (s t : State) : Prop := t.supplyLimit = s.supplyLimit ∧ t.effective = s.effective

/-- The event enables are kept, and no subject leaves a set. -/
abbrev State.EventsGrow (s t : State) : Prop :=
  t.port.enables = s.port.enables ∧ ∀ n : SourceNo, s.subjectsOf n &&& t.subjectsOf n = s.subjectsOf n

/-- What a command leaves alone where it only writes the records and the bays listed: every other record but for UNSECURED,
every other bay's identity, the settings, time, windows, the budget input, the Key Receiver and the event enables. -/
structure State.Untouched (s t : State) (records : List RecordIx) (bays : List BayNo) : Prop where
  records : s.RecordsKept t records
  bays : s.BaysKept t bays
  settings : s.SettingsKept t
  time : s.TimeKept t
  windows : s.WindowsKept t
  budget : s.BudgetKept t
  keys : t.keys = s.keys
  events : s.EventsGrow t

/-- Record i is as r says but for UNSECURED, and nothing else of what Untouched names has changed. -/
abbrev State.Writes (s t : State) (i : RecordIx) (r : Record) : Prop :=
  r.SameButUnsecured (t.record i) ∧ s.Untouched t [i] []

/-- The subject sets alone may have changed at the port, beside the response and ATTN; every other part of the state is as it
was. -/
abbrev State.OnlyPort (s t : State) : Prop := t = { s with port := t.port }

/-- Bay b holds no tablet's data and its link and output are at rest (R29). -/
abbrev State.BayCleared (t : State) (b : BayNo) : Prop :=
  ((t.bay b).record = none ∧ (t.bay b).reportedId = none ∧ (t.bay b).foreignCause = none ∧ (t.bay b).partner = none ∧
    (t.bay b).faultReason = none ∧ (t.bay b).recovery = false ∧ (t.bay b).grant = 0) ∧
    t.link b = Link.downValues ∧
    (t.output b).closed = false ∧ (t.output b).issued = 0 ∧ (t.output b).settled = 0 ∧ (t.output b).inMotion = false ∧
    (t.output b).target = none ∧ (t.output b).charge = .off

/-- A source's set holds a member. -/
abbrev State.Holds (t : State) (n : SourceNo) (m : Nat) : Prop := (t.subjectsOf n).getLsbD m = true

/-- Record i has taken the undock transition of R8 for the custody state it had in s (R141, R146, R10). -/
abbrev State.Undocked (s t : State) (i : RecordIx) : Prop :=
  (t.record i).currentBay = none ∧
    match (s.record i).custody with
    | .inCart => (t.record i).custody = .adrift ∧
      (t.record i).adriftReason = some (if s.service.isSome then .service else .forced) ∧ t.Holds Source.adrift i.val
    | .releasing => (t.record i).custody = .loaned ∧ (t.record i).holder = (s.record i).holder ∧
      t.Holds Source.loanStart i.val
    | .retiring => Record.freeImage.SameButUnsecured (t.record i)
    | .held => (t.record i).custody = .held ∧ t.Holds Source.adrift i.val
    | .free | .away | .loaned | .overdue | .adrift => True

/-- The link of bay b rests at the start of a bring-up with its failed bring-ups at n (R52). -/
abbrev State.LinkStarts (t : State) (b : BayNo) (n : Nat) : Prop :=
  (t.link b).state = .rest ∧ (t.link b).step = 0 ∧ (t.link b).ceiling = 3 ∧ (t.link b).tap = 16 ∧
    (t.link b).window = none ∧ (t.link b).helloAttempts = 0 ∧ (t.link b).failedExchanges = 0 ∧
    (t.link b).failedBringups = n

/-- The output of bay b is dropped in a charge state (R100, R103). -/
abbrev State.OutputDropped (t : State) (b : BayNo) (charge : ChargeState) : Prop :=
  (t.output b).closed = false ∧ (t.output b).issued = 0 ∧ (t.output b).settled = 0 ∧ (t.output b).inMotion = false ∧
    (t.output b).target = none ∧ (t.output b).charge = charge ∧ (t.bay b).grant = 0

/-- The lane session that record i held in s has ended with a result, with its LANE_END subject (R122, R125). -/
abbrev State.SessionEnded (s t : State) (i : RecordIx) (result : SessionResult) : Prop :=
  ∀ (l : LaneNo) (x : Session), s.laneOf i = some l → (s.lane l).session = some x →
    (t.lane l).last = some ⟨result, x.record, x.phase.claimed⟩ ∧ t.Holds Source.laneEnd l.val

/-- The custody slot of bay b holds a RELEASE that has not been acknowledged, waiting or in flight (R64). -/
abbrev State.ReleaseUnacked (s : State) (b : BayNo) : Prop := (s.link b).custody.holdsRelease = true

/-- Bay p, the partner of a bay that left a collision, is released (R35). -/
abbrev State.PartnerReleased (s t : State) (p : BayNo) : Prop :=
  ((s.bay p).state = .collided → (t.bay p).state = .bringup ∧ (t.bay p).reportedId = none ∧
    (t.bay p).partner = none ∧ t.LinkStarts p 0 ∧ t.OutputDropped p .off) ∧
    ((s.bay p).state = .fault → (t.bay p).state = .fault ∧ (t.bay p).faultReason = (s.bay p).faultReason ∧
      (t.bay p).reportedId = none ∧ (t.bay p).partner = none)

/-- What a fault takes from bay b's identity (R37, R38): FOREIGN or COLLIDED, it loses reported ID, foreign cause and partner,
and COLLIDED it releases the partner; in any other state it keeps them, and it keeps the record it names. -/
abbrev State.IdentityLost (s t : State) (b : BayNo) : Prop :=
  (t.bay b).record = (s.bay b).record ∧
    ((s.bay b).state = .foreign ∨ (s.bay b).state = .collided →
      (t.bay b).reportedId = none ∧ (t.bay b).foreignCause = none ∧ (t.bay b).partner = none) ∧
    ((s.bay b).state = .collided → ∀ p ∈ (s.bay b).partner, s.PartnerReleased t p) ∧
    ((s.bay b).state ≠ .foreign → (s.bay b).state ≠ .collided → (t.bay b).reportedId = (s.bay b).reportedId ∧
      (t.bay b).foreignCause = (s.bay b).foreignCause ∧ (t.bay b).partner = (s.bay b).partner)

/-- Bays b and c are COLLIDED partners over an ID, with COLLISION subjects (R33, R34). -/
abbrev State.CollidedPair (t : State) (b c : BayNo) (x : TabletId) : Prop :=
  ((t.bay b).state = .collided ∧ (t.bay b).partner = some c ∧ (t.bay b).reportedId = some x ∧
      (t.bay b).record = none ∧ t.Holds Source.collision b.val) ∧
    (t.bay c).state = .collided ∧ (t.bay c).partner = some b ∧ (t.bay c).reportedId = some x ∧
      (t.bay c).record = none ∧ t.Holds Source.collision c.val

/-- Everything bound to the tablet in bay b is ended (R29): the record it named is undocked (R8), with ORDER_UNDELIVERED
where a RELEASE was unacknowledged (R64); its lane session is ABORTED, the bay's lane switch open; link and output are at
rest; a collision partner is released (R35); the bay's LOCK requests that wait are gone (R141); and a bay that held a tablet
adds an UNDOCK subject. -/
structure State.BayEnded (s t : State) (b : BayNo) : Prop where
  cleared : t.BayCleared b
  undocked : ∀ i ∈ (s.bay b).record, s.Undocked t i
  undelivered : ∀ i ∈ (s.bay b).record, (s.record i).custody ≠ .retiring →
    ((t.record i).orderUndelivered = true ↔ (s.record i).orderUndelivered = true ∨ s.ReleaseUnacked b)
  session : ∀ i ∈ (s.bay b).record, s.SessionEnded t i .aborted
  switch : s.NamingLaw → s.LaneLaw → (∀ l : LaneNo, (t.lane l).switch ≠ some b) ∧ (t.bay b).lane = none
  partner : ∀ p ∈ (s.bay b).partner, (s.bay b).partnered = true → s.PartnerReleased t p
  locks : (s.bay b).record.isSome = true → s.LatchLaw →
    (⟨b, .lock⟩ : LatchRequest) ∉ t.latchQueue ∧ ∀ k : SlotNo, t.slot k ≠ .reserving ⟨b, .lock⟩
  subject : (s.bay b).state = .identified ∨ (s.bay b).state = .foreign ∨ (s.bay b).state = .collided ∨
    (s.bay b).state = .fault → t.Holds Source.undock b.val
  untouched : s.Untouched t (s.bay b).record.toList (b :: (s.bay b).partner.toList)

/-- An IDENT carries bay b's identity (R36). -/
abbrev State.SameIdentity (s : State) (b : BayNo) (p : IdentReply) : Prop :=
  (∀ i : RecordIx, (s.bay b).record = some i → p.classMarker = 0xD7 ∧ p.tabletId = (s.record i).tabletId) ∧
    ((s.bay b).record = none → (s.bay b).reportedId = some p.tabletId ∧
      (p.classMarker = 0xD7 ↔ (s.bay b).foreignCause ≠ some .badClass))

/-- Bay b takes an IDENT to match it afresh: its first, in BRINGUP (R30), or one of another identity (R36). -/
abbrev State.TakesAfresh (s : State) (b : BayNo) (p : IdentReply) : Prop :=
  (s.bay b).state = .bringup ∧ (s.bay b).record = none ∨
    ((s.bay b).state = .identified ∨ (s.bay b).state = .foreign ∨ (s.bay b).state = .collided ∨
      (s.bay b).state = .fault) ∧
      ((s.bay b).record.isSome = true ∨ (s.bay b).reportedId.isSome = true) ∧ ¬s.SameIdentity b p ∧
      (s.bay b).partner ≠ some b

/-- An IDENT of another identity takes bay b as undocked first (R36): an UNDOCK subject, the undock of the record it named,
whose session ends ABORTED, and the release of its partner. -/
abbrev State.UndocksFirst (s t : State) (b : BayNo) : Prop :=
  (s.bay b).state ≠ .bringup → t.Holds Source.undock b.val ∧
    (∀ i ∈ (s.bay b).record, s.Undocked t i ∧ s.SessionEnded t i .aborted) ∧
    ∀ p ∈ (s.bay b).partner, (s.bay b).partnered = true → s.PartnerReleased t p

/-- The fields an IDENT writes, clamped, into a record (R5, R49). -/
def Record.withIdent (p : IdentReply) (r : Record) : Record :=
  { r with
    capacity := some (max 50 (min 1000 p.capacity.toNat))
    acceptance := some (max 25 (min 1000 p.acceptance.toNat))
    profileHeld := some p.profileHeld }

/-- Bay b's custody slot holds an order, waiting or, with none waiting, in flight (R58, R62). -/
abbrev State.CustodyOrdered (t : State) (b : BayNo) (o : CustodyOrder) : Prop :=
  (t.link b).custody.waiting = some o ∨ (t.link b).custody.waiting = none ∧ (t.link b).custody.inFlight = some o

/-- Bay b's lane slot holds an order, waiting or, with none waiting, in flight (R58, R62). -/
abbrev State.LaneOrdered (t : State) (b : BayNo) (o : LaneOrder) : Prop :=
  (t.link b).lane.waiting = some o ∨ (t.link b).lane.waiting = none ∧ (t.link b).lane.inFlight = some o

/-- The exchange of bay b's custody order has ended with a reply (R61, R62, R63): nothing is left in flight of it, and the newer
order that waited, if any, waits still or goes out. -/
abbrev State.CustodyOrderEnded (t : State) (b : BayNo) (newer : Option CustodyOrder) : Prop :=
  (t.link b).failedExchanges = 0 ∧
    (newer = none → (t.link b).custody.waiting = none ∧ (t.link b).custody.inFlight = none) ∧
    ∀ q ∈ newer, t.CustodyOrdered b q

/-- The latest pass of t is one taken at u (R78): its figures, and every bay's entry and grant. -/
abbrev State.PassTakenAt (u t : State) : Prop :=
  t.figures = u.takePass.figures ∧
    ∀ b : BayNo, t.entry b = u.takePass.entry b ∧ (t.bay b).grant = (u.takePass.bay b).grant

/-- No lane is granted where a change that leaves u closes: grants are not permitted, or the queue is right and no lane is
free while a record waits (R113, R116). -/
abbrev State.GrantsNone (u : State) : Prop := u.grantsPermitted = false ∨ u.QueueLaw ∧ u.GrantLaw

/-- A reallocation request raised in s by a change that leaves u is served in t (R75, R85): in IDLE a pass is taken at u,
with BUDGET_SHORT where it falls short of the floors; while a pass is applied and a bay is in motion, it sets pass
pending. -/
abbrev State.RequestServed (s u t : State) : Prop :=
  (s.phase = .idle → s.passPending = false → u.PassTakenAt t ∧
    (u.takePass.figures.result = .floorsShort → t.Holds Source.budgetShort 0)) ∧
    (s.phase ≠ .idle → (∃ b : BayNo, (s.output b).inMotion = true) →
      t.passPending = true ∧ t.phase = s.phase ∧ t.figures = s.figures)

/-- The request that a change of the clock, its table or the window raises in s is served in t (R169, R171, R172). -/
abbrev State.ClockRequestServed (s t : State) : Prop :=
  ∀ u : State, u = { s with clock := t.clock, laneWindow := t.laneWindow } → u.GrantsNone →
    s.reservations = [] → s.RequestServed u t

/-- Bay b's output where a fall of B_eff ends a pass early (R96, R104): in the increasing phase a setpoint in motion gives
way to a restoring issue of the settled one, and no pass target stays. -/
abbrev State.RestoredOutput (s : State) (b : BayNo) : Output :=
  if s.phase = .increasing ∧ (s.output b).inMotion = true then
    { s.output b with
      issued := (s.output b).settled
      closed := (s.output b).closed || decide (0 < (s.output b).settled)
      target := none }
  else { s.output b with target := none }

/-- s under other budget settings, another level of SUPPLY_LIMIT and another B_eff, in state u. -/
abbrev State.Rebudgeted (s u : State) (set : BudgetSettings) (v : Bool) (e : Nat) : Prop :=
  u = { s with budget := set, supplyLimit := v, effective := e }

/-- The applying pass of s is ended early by a fall of B_eff to e, in state u (R104): the sequencer is IDLE with no pass
pending and no target, its increases in motion restored, and what a decreasing phase had admitted is PENDING again (R91). -/
abbrev State.EndedEarly (s u : State) (set : BudgetSettings) (v : Bool) (e : Nat) : Prop :=
  s.Rebudgeted { u with
    outputs := s.outputs, reservations := s.reservations, phase := s.phase, passPending := s.passPending } set v e ∧
    u.phase = .idle ∧ u.passPending = false ∧ (∀ b : BayNo, u.output b = s.RestoredOutput b) ∧
    u.reservations = if s.phase = .decreasing then
      s.reservations.map fun r => if r.state = .admitted then { r with state := .pending } else r
    else s.reservations

/-- No session granted bay b waits for its reservation (R117), and no lane is granted where the change closes. -/
abbrev State.NoWakeDue (s : State) (b : BayNo) : Prop :=
  s.GrantsNone ∧ ∀ (l : LaneNo) (x : Session), (s.lane l).session = some x → x.phase = .admitting → x.bay ≠ b

/-- Lane l is granted to record i in bay b (R116): a session that seeks the profile target, started at the clock's minute and
day while time is valid; the bay's lane; and a LANE reservation of the wake reserve. -/
abbrev State.Granted (s t : State) (l : LaneNo) (i : RecordIx) (b : BayNo) : Prop :=
  (∃ p : SessionPhase, (t.lane l).session = some ⟨p, b, i, (s.record i).profileTarget,
      if s.clock.timeValid then some (s.clock.minute, s.clock.day) else none⟩) ∧
    (t.bay b).lane = some l ∧ i ∉ t.queue ∧
    ∃ e ∈ t.reservations, e.owner = .lane l ∧ e.amount = s.budget.wakeReserve

/-- The session x of lane l has ended and, with no grant made in its place, left the lane and its bay (R125): no session, the
switch open, no reservation, and QUIET placed for a session that was on its lane in a bay that still names its record. -/
abbrev State.LaneFreed (s t : State) (l : LaneNo) (x : Session) : Prop :=
  s.grantsPermitted = false → (t.lane l).session = none ∧ (t.lane l).switch = none ∧ (t.bay x.bay).lane = none ∧
    (∀ e ∈ t.reservations, e.owner ≠ .lane l) ∧
    (s.NamingLaw → s.LaneLaw → x.phase.onLane = true → (s.bay x.bay).record = some x.record →
      (s.link x.bay).state ≠ .down → t.LaneOrdered x.bay .quiet)

/-- Sample k of a burst fits entry e (R162, steps 1 and 2): k is ignored, or its level is that of the pattern's sample k and
its length within the tolerance. -/
def State.SampleFits (s : State) (k : Nat) (mark : Bool) (len : Nat) (e : KeyIx) : Prop :=
  match (s.keyEntry e).state with
  | .valid _ pattern _ w g =>
    k ∈ g ∨ ∃ q : Sample, pattern[k - 1]? = some q ∧ q.mark = mark ∧ len ≤ q.length + w ∧ q.length ≤ len + w
  | .empty | .learning _ _ _ => False

/-- Entry e is a candidate whose depth is k (R162, step 3). -/
def State.DepthIs (s : State) (k : Nat) (e : KeyIx) : Prop :=
  match (s.keyEntry e).state with
  | .valid _ _ depth _ _ => depth = k
  | .empty | .learning _ _ _ => False

/-- The window that a match of entry e opens or restarts, for its length from now (R130, R131, R164); the other stays. -/
abbrev State.OpensFor (s t : State) (e : KeyIx) : Prop :=
  ((s.keyEntry e).state.role? = some .teacher → t.service = s.service ∧ t.teacher =
    some ⟨s.clk32 + s.custodySettings.teacherLength, if s.teacher.isSome then some s.clk32 else none⟩) ∧
    ((s.keyEntry e).state.role? = some .technician → t.teacher = s.teacher ∧ t.service =
      some ⟨s.clk32 + s.custodySettings.serviceLength, if s.service.isSome then some s.clk32 else none⟩)

/-- A VALID entry of a kind occurs at a moment of the week, counted in minutes from day 0 (R170). -/
abbrev DayClock.OccursAt (c : DayClock) (kind : PeriodKind) (moment : Nat) : Prop :=
  ∃ (e : PeriodIx) (x : PeriodEntry), c.periods[e.val] = some x ∧ x.kind = kind ∧ x.minute.val = moment % 1440 ∧
    x.days.getLsbD (moment / 1440) = true

/-- The moment of the week k minutes before the clock's present minute. -/
def DayClock.ago (c : DayClock) (k : Nat) : Nat := (c.day.val * 1440 + c.minute.val + 10080 - k) % 10080

/-- The window is what the timetable says (R173): OPEN exactly while time is valid and the latest PROV entry of the past week
is a PROV_OPEN with no PROV_CLOSE at its minute. -/
abbrev DayClock.WindowRight (c : DayClock) : Prop :=
  c.windowOpen = true ↔ c.timeValid = true ∧ ∃ k : Nat, k < 10080 ∧ c.OccursAt .provOpen (c.ago k) ∧
    ∀ j : Nat, j ≤ k → ¬c.OccursAt .provClose (c.ago j)

/-- Only the Key Receiver, the windows, the port's sets and ATTN may have changed. -/
abbrev State.OnlyKeys (s t : State) : Prop :=
  t = { s with keys := t.keys, teacher := t.teacher, service := t.service, port := t.port } ∧
    t.port.response = s.port.response ∧ s.EventsGrow t

/-- Only the link of bay b may have changed. -/
abbrev State.OnlyLink (s t : State) (b : BayNo) : Prop :=
  t = { s with links := t.links } ∧ ∀ c : BayNo, c ≠ b → t.link c = s.link c

/-- A latch request for bay b in direction d stands in the queue or in a slot that holds that very request, or the latch is
at its target (R135). -/
abbrev State.LatchAsked (t : State) (b : BayNo) (d : Direction) : Prop :=
  (⟨b, d⟩ : LatchRequest) ∈ t.latchQueue ∨ (∃ k : SlotNo, (t.slot k).request = some ⟨b, d⟩) ∨
    (t.bay b).latch = d.target

/-- No latch request for bay b waits, is reserving or is driving. -/
abbrev State.LatchIdle (s : State) (b : BayNo) : Prop :=
  s.slotHolds b = false ∧ ∀ q ∈ s.latchQueue, q.bay ≠ b

/-- No request for bay b stands, or the requests stand as the latch law has them. -/
abbrev State.LatchOrderly (s : State) (b : BayNo) : Prop := s.LatchIdle b ∨ s.LatchLaw

/-- Bay b is FOREIGN(UNKNOWN_ID) and reports an ID (R34). -/
abbrev State.ReportsUnknown (s : State) (b : BayNo) (x : TabletId) : Prop :=
  (s.bay b).state = .foreign ∧ (s.bay b).foreignCause = some .unknownId ∧ (s.bay b).reportedId = some x

/-- An ENROL names AWAY, LOANED or HELD with the holder tag in order (R14, check 1). -/
abbrev StateInOrder (p : EnrolParams) : Prop :=
  ∃ c : CustodyState, p.initial.toNat = c.ctorIdx ∧ (c = .away ∨ c = .loaned ∨ c = .held) ∧
    (c = .loaned ↔ p.holder ≠ 0)

/-- A bay number that a home bay may take (R14, R18). -/
abbrev State.HomeInRange (s : State) (n : Nat) : Prop := ∃ b : BayNo, n = b.val ∧ (s.bay b).populated = true

/-- The optional values of an ENROL lie in their ranges (R14, check 2). -/
abbrev State.EnrolInRange (s : State) (p : EnrolParams) : Prop :=
  (∀ v ∈ p.target, 200 ≤ v.toNat ∧ v.toNat ≤ 1000) ∧ (∀ v ∈ p.readyBy, v.toNat < 1440) ∧
    ∀ v ∈ p.homeBay, s.HomeInRange v.toNat

/-- The selected values of a FILL lie in their ranges (R20, check 4). -/
abbrev State.FillInRange (s : State) (f : FillTemplate) : Prop :=
  (∀ v ∈ f.target, 200 ≤ v.toNat ∧ v.toNat ≤ 1000) ∧ (∀ v : Half, f.readyBy = some (some v) → v.toNat < 1440) ∧
    ∀ v : Byte, f.homeBay = some (some v) → s.HomeInRange v.toNat

/-- A value that AMEND refuses OUT_OF_RANGE for a field of R18's table, coded 0 to 4 (notes/assumptions/6.md). -/
abbrev State.AmendOutOfRange (s : State) (f : Byte) (v : Option Half) : Prop :=
  f = 0 ∧ (∀ x ∈ v, x.toNat < 200 ∨ 1000 < x.toNat) ∨ f = 1 ∧ (∃ x ∈ v, 1440 ≤ x.toNat) ∨
    f = 2 ∧ (∃ x ∈ v, ¬s.HomeInRange x.toNat) ∨ f = 3 ∧ (∀ x ∈ v, 256 ≤ x.toNat) ∨ f = 4 ∧ ∀ x ∈ v, x = 0

/-- The codes that name a request (R189). -/
abbrev NamesRequest (code : Nat) : Prop :=
  1 ≤ code ∧ code ≤ 0x0C ∨ 0x20 ≤ code ∧ code ≤ 0x25 ∨ 0x30 ≤ code ∧ code ≤ 0x31 ∨ 0x40 ≤ code ∧ code ≤ 0x44 ∨
    0x50 ≤ code ∧ code ≤ 0x54 ∨ 0x60 ≤ code ∧ code ≤ 0x64 ∨ 0x70 ≤ code ∧ code ≤ 0x73 ∨ 0x78 ≤ code ∧ code ≤ 0x7D

/-- The parameter lengths a request accepts by its rule and the codings of R188, for the codes from 0x01 on; SET_KEY, 0x62,
accepts every length from 5 on that its ignore list gives. -/
def acceptedLengths (code : Nat) : List Nat :=
  match code with
  | 0x01 => [21] | 0x02 => [8] | 0x03 => [1] | 0x04 => [2] | 0x05 => [5] | 0x06 => [2] | 0x07 => [2] | 0x08 => [2]
  | 0x09 => [12] | 0x0A => [1] | 0x0B => [1] | 0x0C => [1]
  | 0x20 => [1] | 0x21 => [1] | 0x22 => [1] | 0x23 => [0, 6] | 0x24 => [1] | 0x25 => [1]
  | 0x30 => [0, 20] | 0x31 => [2]
  | 0x40 => [0, 3] | 0x41 => [2] | 0x42 => [1] | 0x43 => [0] | 0x44 => [1]
  | 0x50 => [0, 8] | 0x51 => [5] | 0x52 => [1] | 0x53 => [2] | 0x54 => [1]
  | 0x60 => [0, 3] | 0x61 => [3] | 0x62 => (List.range 56).map (· + 5) | 0x63 => [1] | 0x64 => [1]
  | 0x70 => [3] | 0x71 => [2, 6] | 0x72 => [0] | 0x73 => [0]
  | 0x78 => [0] | 0x79 => [0] | 0x7A => [0] | 0x7B => [1] | 0x7C => [9] | 0x7D => [0, 3]
  | _ => []

/-- The command answers with a status and data and changes nothing but the response buffer (R177, R178). -/
abbrev Replies (c : Instr) (s : State) (status : Status) (data : List Byte) : Prop :=
  exec c s = .next { s with port := { s.port with response := ⟨status, none, data⟩ } }

/-- The state with a response in the buffer, and nothing else changed (R177, R178). -/
abbrev State.Answers (s t : State) (status : Status) (data : List Byte) : Prop :=
  t = { s with port := { s.port with response := ⟨status, none, data⟩ } }

/-- The response buffer of a state holds a status and data. -/
abbrev State.Says (t : State) (status : Status) (data : List Byte) : Prop :=
  t.port.response.status = status ∧ t.port.response.data = data

end Sys2Proof.Machine
end

