-- ==== Sys2Proof/Certificates/Slice0/Obligations.lean ====
section
/-! DEFINITION. The statements for the provers. OBLIGATIONS.json says of each what it states and which rules it rests on. -/

open Sys2Proof Sys2Proof.Machine

/-! ## The machine -/

/-- R13, R178: a request that is refused, whether by the port or by its owning block, answers with its status and no data and
changes nothing else. The statuses of refusal are those of code 0x10 and above (R189). -/
def Obligations.RefusedRequestsChangeNothing : Prop :=
  ∀ (c : Instr) (s t : State), ((encodeRequest c).isSome = true ∨ ∃ l, c = .malformedRequest l) →
    exec c s = .next t → 16 ≤ t.port.response.status.code.toNat →
      t = { s with port := { s.port with response := ⟨t.port.response.status, none, []⟩ } }

/-- R4, R25, R39, R142: every command keeps the presence of the four custody fields, the naming between bays and records, and
the release entries as the laws say; and, with them, in each bay the presence of record, reported ID, foreign cause, partner
and fault reason by its state, and the recovery mark to FAULT. -/
def Obligations.CustodyLawsAreKept : Prop :=
  (∀ (c : Instr) (s t : State), s.Inv → exec c s = .next t → t.CustodyLaw) ∧
  ∀ (c : Instr) (s t : State), s.Inv → s.BayLaw → exec c s = .next t → t.BayLaw

/-- R72, R105: every command keeps the budget law: outside the decreasing phase the commitments of the bays and the counted
reservations together fit in B_eff, unless the reservations alone stand above it and every commitment is 0. In the decreasing
phase too: a command that neither lowers B_eff nor counts more reservations than before leaves them fitting where they
fitted. -/
def Obligations.PowerStaysWithinTheBudget : Prop :=
  (∀ (c : Instr) (s t : State), s.Inv → s.BudgetLaw → exec c s = .next t → t.BudgetLaw) ∧
  ∀ (c : Instr) (s t : State), s.Inv → s.BudgetLaw → (s.Fits fun b => (s.output b).commitment) → exec c s = .next t →
    s.effective ≤ t.effective → countedAmount t.reservations ≤ countedAmount s.reservations →
      t.Fits fun b => (t.output b).commitment

/-- R157, R161, R165, R170: every command keeps the key laws, and every VALID Period Table entry a non-empty day mask. -/
def Obligations.KeyLawsAreKept : Prop :=
  (∀ (c : Instr) (s t : State), s.KeyLaw → exec c s = .next t → t.KeyLaw) ∧
  ∀ (c : Instr) (s t : State), s.PeriodLaw → exec c s = .next t → t.PeriodLaw

/-- R43, R183, R181: from every state in which every lamp and ATTN are right and every subject is a member of its source,
every command leaves it so. -/
def Obligations.LampsAttnAndSubjectsAreKept : Prop :=
  ∀ (c : Instr) (s t : State), s.LampLaw → s.AttnLaw → s.MembersLaw → exec c s = .next t →
    t.LampLaw ∧ t.AttnLaw ∧ t.MembersLaw

/-- R7, R2, R3: from every state in which MISPLACED equals its condition and every record field lies in its range, a home bay
being a populated bay, every command leaves it so; and from every state in which the custody laws hold and no two enrolled
records hold one tablet ID, every command leaves the latter so. -/
def Obligations.RecordMarksAndRangesAreKept : Prop :=
  (∀ (c : Instr) (s t : State), s.MisplacedLaw → s.RangeLaw → exec c s = .next t → t.MisplacedLaw ∧ t.RangeLaw) ∧
  ∀ (c : Instr) (s t : State), s.Inv → s.TabletLaw → exec c s = .next t → t.TabletLaw

/-- R110, R111, R113, R114, R115, R116: every command leaves in the Provisioning Queue exactly the records that meet every
condition, each once, and no lane free while lanes may be granted and a record waits; and it keeps the lane laws: every
session belongs to an IN_CART record docked in the session's bay, no bay has two, and a lane's switch is closed exactly in
WAKING and CONNECTED. Where a change closes with lanes to be granted, LANE_SETTINGS with the policy ALWAYS for one, the
lowest-numbered IDLE lane goes to the head of the queue: its session seeks the profile target, the bay's lane is that one,
and a LANE reservation of the wake reserve stands for it. -/
def Obligations.TheQueueAndTheLanesAreKept : Prop :=
  (∀ (c : Instr) (s t : State), s.Inv → s.QueueLaw → s.GrantLaw → exec c s = .next t → t.QueueLaw ∧ t.GrantLaw) ∧
  (∀ (c : Instr) (s t : State), s.Inv → s.LaneLaw → exec c s = .next t → t.LaneLaw) ∧
  ∀ (s : State) (i : RecordIx) (rest : List RecordIx) (l : LaneNo) (b : BayNo), s.NamingLaw → s.QueueLaw →
    s.queue = i :: rest → (s.lane l).session = none → (∀ m : LaneNo, m < l → (s.lane m).session ≠ none) →
    (s.record i).currentBay = some b →
      (s.grantsPermitted = true → s.Granted s.closeChange l i b) ∧
      ∀ p : LaneSettingsParams, p.windowPolicy.toNat = WindowPolicy.always.ctorIdx →
        ∃ t, exec (.laneSettings (some p)) s = .next t ∧ s.Granted t l i b

/-- R95, R29, R40, R50, R54, R55, R89, R134 to R137: every command leaves the outputs of bays without power open and at 0, a
bay with a commitment CLOSED, the link of a DISABLED or EMPTY bay DOWN, no bay its own partner, and each rate step within its
limits. And it keeps the latch and reservation laws: one queued request per bay, one bay per slot, MOVING exactly while
driven, at most one reservation per owner, and a slot outside FREE and a session with theirs. And no poll comes due while a
sweep makes its exchanges. -/
def Obligations.OutputAndLinkLawsAreKept : Prop :=
  (∀ (c : Instr) (s t : State), s.Inv → s.RateLaw → exec c s = .next t → t.OutputLaw ∧ t.LinkLaw ∧ t.RateLaw) ∧
  (∀ (c : Instr) (s t : State), s.Inv → s.LaneLaw → s.LatchLaw → s.ReservationLaw → exec c s = .next t →
    t.LatchLaw ∧ t.ReservationLaw) ∧
  ∀ (c : Instr) (s t : State), s.SweepLaw → exec c s = .next t → t.SweepLaw

/-- R24, R45, R108, R180: every law of the invariants holds right after reset. The levels of the input pins at State.reset
are the model's choice (notes/assumptions/1.md). -/
def Obligations.ResetMeetsEveryLaw : Prop :=
  State.reset.Inv ∧ State.reset.AttnLaw ∧ State.reset.LampLaw ∧ State.reset.MisplacedLaw ∧ State.reset.MembersLaw ∧
    State.reset.QueueLaw ∧ State.reset.GrantLaw ∧ State.reset.RateLaw ∧ State.reset.KeyLaw ∧ State.reset.RangeLaw ∧
    State.reset.BudgetLaw ∧ State.reset.TabletLaw ∧ State.reset.PeriodLaw ∧ State.reset.LaneLaw ∧
    State.reset.LatchLaw ∧ State.reset.ReservationLaw ∧ State.reset.SweepLaw ∧ State.reset.BayLaw

/-- R12, R44: one step runs the command at the front of the queue on the state with the queue's rest; with no command waiting
the part idles. The queue, and that an empty one idles, is the model's (notes/assumptions/5.md). -/
def Obligations.StepRunsTheFrontCommand : Prop :=
  (∀ (c : Instr) (rest : List Instr) (s : State), s.pending = c :: rest → step s = exec c { s with pending := rest }) ∧
    ∀ s : State, s.pending = [] → step s = .next s

/-- R12, R13, R187: whatever command comes in whatever state, it is taken whole: no command stops the part, and none touches
the queue of commands waiting, which is the model's (notes/assumptions/5.md). -/
def Obligations.EveryCommandIsTakenWhole : Prop :=
  ∀ (c : Instr) (s : State), ∃ t, exec c s = .next t ∧ t.pending = s.pending

/-! ## Reading requests -/

/-- R16: FIND answers DONE with the index of the enrolled record that holds the ID, where one alone holds it, and NOT_FOUND
where none does; READ_RECORD answers DONE with the index and the record image for any record, and is refused BAD_INDEX for an
index out of range. Neither changes anything but the response. -/
def Obligations.FindAndReadRecordLookUp : Prop :=
  ∀ (s : State) (x : TabletId) (n : Byte) (i : RecordIx),
    ((s.record i).enrolled = true → (s.record i).tabletId = x →
      (∀ j : RecordIx, (s.record j).enrolled = true → (s.record j).tabletId = x → j = i) →
        Replies (.find x) s .done [byte i.val]) ∧
    ((∀ j : RecordIx, (s.record j).enrolled = true → (s.record j).tabletId ≠ x) → Replies (.find x) s .notFound []) ∧
    (n.toNat = i.val → Replies (.readRecord n) s .done (n :: (s.record i).image)) ∧
    (64 ≤ n.toNat → Replies (.readRecord n) s .badIndex [])

/-- R17: LIST answers DONE with the indices of the records in the custody state from the start index on, in ascending order,
at most 32 of them, their count and the mark MORE; a custody state outside the nine is refused BAD_REQUEST and a start index
out of range BAD_INDEX. Nothing changes but the response. That the count of indices is the count byte of the list is the
model's reading (notes/assumptions/6.md). -/
def Obligations.ListGivesTheRecordsOfAState : Prop :=
  ∀ (s : State) (c : CustodyState) (i : RecordIx) (custody start : Byte),
    (custody.toNat = c.ctorIdx → start.toNat = i.val →
      ∃ l : List RecordIx, l.Pairwise (· < ·) ∧ (∀ j : RecordIx, j ∈ l ↔ i ≤ j ∧ (s.record j).custody = c) ∧
        Replies (.list custody start) s .done
          (byte (l.take 32).length :: (l.take 32).map (fun j => byte j.val) ++ [mark (decide (32 < l.length))])) ∧
    (9 ≤ custody.toNat → start.toNat < 64 → Replies (.list custody start) s .badRequest []) ∧
    (custody.toNat < 9 → 64 ≤ start.toNat → Replies (.list custody start) s .badIndex [])

/-- R42, R93, R126, R151, R166, R175, R179, R184, R188: each reading request answers DONE with the data of its rule and
changes nothing else, SELF_TEST with its fixed pattern; one whose index is out of range is refused BAD_INDEX. The data are
spelled field by field, numbers most significant byte first: the figures, the reservations and one bay's entry of
BUDGET_READ; the settings, windows, latch requests and slots of CUSTODY_READ, with at most 24 release entries in ascending
bay order and MORE exactly where a further one stands; the four lanes, settings, window and queue length of LANE_READ; at
most 32 indices of QUEUE_READ in queue order, with MORE exactly where further ones follow; the entry, settings, burst state,
failures, lockout and states of KEY_READ; the clock with the answer of the deadline query; the 16 periods. What the rules and
R188 leave open in a layout is the model's (notes/assumptions/6.md), and a time left is one of whole CLK32 seconds
(notes/assumptions/2.md). -/
def Obligations.ReadingRequestsOnlyReply : Prop :=
  (∀ (s : State) (n : Byte) (b : BayNo) (i : RecordIx) (e : KeyIx) (m : SourceNo),
    (n.toNat = b.val → Replies (.readBay n) s .done (s.bayImage b) ∧
      Replies (.budgetRead (some n)) s .done
        (s.budgetImage none ++ [byte ((if (s.entry b).chargeSeen.isSome then 1 else 0) +
          (if (s.entry b).bandSeen.isSome then 2 else 0) + (if (s.entry b).limit.isSome then 4 else 0) +
          (if (s.entry b).energy.isSome then 8 else 0) + (if (s.entry b).minutes.isSome then 16 else 0) +
          (if (s.entry b).required.isSome then 32 else 0) + (if (s.entry b).rank.isSome then 64 else 0)),
          mark (s.entry b).hot] ++ be16 ((s.entry b).chargeSeen.getD 0) ++
          [byte (((s.entry b).bandSeen.map Band.ctorIdx).getD 0), byte (s.entry b).disposition.ctorIdx] ++
          be16 ((s.entry b).limit.getD 0) ++ be16 ((s.entry b).energy.getD 0) ++ be16 ((s.entry b).minutes.getD 0) ++
          be16 ((s.entry b).required.getD 0) ++ [byte ((s.entry b).rank.getD 0)] ++ be16 (s.bay b).grant)) ∧
    (36 ≤ n.toNat → Replies (.readBay n) s .badIndex [] ∧ Replies (.budgetRead (some n)) s .badIndex [] ∧
      Replies (.custodyRead n) s .badIndex []) ∧
    (n.toNat = i.val → Replies (.queueRead n) s .done
      (byte (min 32 (s.queue.length - i.val)) :: ((s.queue.drop i.val).take 32).map (fun j => byte j.val) ++
        [mark (decide (i.val + 32 < s.queue.length))])) ∧
    (64 ≤ n.toNat → Replies (.queueRead n) s .badIndex []) ∧
    (n.toNat = e.val → Replies (.keyRead n) s .done (s.keyImage e)) ∧
    (8 ≤ n.toNat → Replies (.keyRead n) s .badIndex []) ∧
    (n.toNat = m.val → Replies (.eventRead n) s .done (s.port.snapshot m)) ∧
    (18 ≤ n.toNat → Replies (.eventRead n) s .badIndex []) ∧
    Replies .laneRead s .done s.laneImage ∧ Replies .periodRead s .done s.clock.periodImage ∧
    Replies .eventSummary s .done s.port.eventSummary ∧
    Replies .selfTest s .done [0xA5, 0x5A, 0xC3, 0x3C, 0x0C, 0x36, 0x01]) ∧
  (∀ k : Nat, be16 k = [BitVec.ofNat 8 (k / 256), BitVec.ofNat 8 k]) ∧ (∀ v : Bool, mark v = if v then 1 else 0) ∧
  (∀ s : State, Replies (.budgetRead none) s .done (s.budgetImage none) ∧ s.budgetImage none =
    [if s.phase = .idle then 0 else 1, mark s.passPending, mark s.supplyLimit] ++
      be16 s.effective ++ be16 ((s.reservations.filter fun x => x.state != .pending).map Reservation.amount).sum ++
      be16 s.figures.budget ++ [byte s.figures.count] ++ be16 s.figures.demand ++
      [byte s.figures.result.ctorIdx, byte s.figures.zeroGrants, byte s.reservations.length] ++
      s.reservations.flatMap fun x =>
        (match x.owner with | .latch k => [0, byte k.val] | .lane l => [1, byte l.val] : List Byte) ++ be16 x.amount ++
          [byte x.state.ctorIdx]) ∧
  (∀ (s : State) (n : Byte) (b : BayNo), n.toNat = b.val → ∃ l : List BayNo, l.Pairwise (· < ·) ∧
    (∀ k : BayNo, k ∈ l ↔ b ≤ k ∧ (s.release k).isSome = true) ∧
    Replies (.custodyRead n) s .done (s.custodySettings.bytes ++
      [mark s.teacher.isSome] ++ be16 ((s.teacher.map fun w => w.expiry - s.clk32).getD 0) ++
      [mark s.service.isSome] ++ be16 ((s.service.map fun w => w.expiry - s.clk32).getD 0) ++
      [mark s.serviceLevel, byte s.latchQueue.length] ++
      (s.latchQueue.flatMap fun q => [byte q.bay.val, byte q.direction.ctorIdx]) ++
      (([0, 1] : List SlotNo).flatMap fun k => (match s.slot k with
        | .free => [0, 0, 0]
        | .reserving q => [1, byte q.bay.val, byte q.direction.ctorIdx]
        | .driving q => [2, byte q.bay.val, byte q.direction.ctorIdx] : List Byte)) ++
      [byte (l.take 24).length] ++
      ((l.take 24).flatMap fun k => (match s.release k with
        | some ⟨i, .unlocking⟩ => [byte k.val, byte i.val, 0, 0, 0, 0]
        | some ⟨i, .opened x o⟩ => [byte k.val, byte i.val, 1] ++ be16 (x - s.clk32) ++ [byte o.ctorIdx]
        | none => [] : List Byte)) ++ [mark (decide (24 < l.length))])) ∧
  (∀ s : State, s.laneImage.length = 71 ∧
    (∀ l : LaneNo, (s.laneImage.drop (16 * l.val)).take 9 = match (s.lane l).session with
      | none => [0, (if (s.lane l).last.isSome then 96 else 0) +
          (if ((s.lane l).last.bind LastSession.claimed).isSome then 128 else 0), 0, 0, 0, 0, 0, 0, 1]
      | some x => [byte (x.phase.ctorIdx + 1), 7 + (if x.started.isSome then 8 else 0) +
          (if x.phase.claimed.isSome then 16 else 0) + (if (s.lane l).last.isSome then 96 else 0) +
          (if ((s.lane l).last.bind LastSession.claimed).isSome then 128 else 0),
          byte x.bay.val, byte x.record.val, x.sought] ++ be16 ((x.started.map fun v => v.1.val).getD 0) ++
          [byte ((x.started.map fun v => v.2.val).getD 0), if x.phase = .waking then 0 else 1]) ∧
    (∀ l : LaneNo, ((s.laneImage.drop (16 * l.val)).drop 9).take 3 =
      match (s.lane l).session.map Session.phase with
      | some (.connected v) => [0, byte v, 0]
      | some (.closing v) => [1, 0, v]
      | some .admitting | some .waking | none => [1, 0, 0]) ∧
    (∀ l : LaneNo, ((s.laneImage.drop (16 * l.val)).drop 12).take 4 =
      (match (s.lane l).last with
      | some x => [byte x.result.ctorIdx, byte x.record.val, x.claimed.getD 0]
      | none => [0, 0, 0] : List Byte) ++ [mark (s.lane l).switch.isSome]) ∧
    s.laneImage.drop 64 = s.laneSettings.bytes ++ [if s.laneWindow then 0 else 1, byte s.queue.length,
      if s.queue = [] then 0 else 1, byte ((s.queue.head?.map Fin.val).getD 0)]) ∧
  (∀ (s : State) (e : KeyIx) (x : KeyState) (last : Option LearnResult) (m : List Byte), s.keyEntry e = ⟨x, last⟩ →
    m = [if s.keys.invert then 1 else 0, byte s.keys.period.ctorIdx, byte s.keys.gapLimit,
      byte s.keys.burst.ctorIdx, byte s.keys.failures, mark s.keys.lockout.isSome] ++
      be16 ((s.keys.lockout.map fun v => v - s.clk32).getD 0) ++
      (([0, 1, 2, 3, 4, 5, 6, 7] : List KeyIx).map fun k => byte (s.keyEntry k).state.ctorIdx) →
    (x = .empty → s.keyImage e = [0, if last.isSome then 64 else 0, 0, 0, 0, 0, 0, 0, 0,
      byte ((last.map LearnResult.ctorIdx).getD 0)] ++ m) ∧
    (∀ (r : KeyRole) (w v : Nat), x = .learning r w v → s.keyImage e =
      [1, if last.isSome then 99 else 35, byte r.ctorIdx, byte w, 0, 0, 0] ++ be16 (v - s.clk32) ++
        [byte ((last.map LearnResult.ctorIdx).getD 0)] ++ m) ∧
    ∀ (r : KeyRole) (pattern : List Sample) (d w : Nat) (g : List Nat), x = .valid r pattern d w g →
      s.keyImage e = [2, if last.isSome then 95 else 31, byte r.ctorIdx, byte w, byte pattern.length] ++
        (pattern.map fun y => byte ((if y.mark then 128 else 0) + y.length % 128)) ++ [byte d, byte g.length] ++
        g.map byte ++ [0, 0, byte ((last.map LearnResult.ctorIdx).getD 0)] ++ m) ∧
  (∀ s : State, Replies .clockRead s .done (be16 s.clock.minute.val ++ [byte s.clock.day.val] ++
    be16 s.clock.seconds.val ++ [mark s.clock.timeValid, if s.clock.windowOpen then 0 else 1,
      mark s.clock.nextDeadline.isSome] ++ be16 (s.clock.nextDeadline.getD 0))) ∧
  ∀ c : DayClock, c.periodImage.length = 80 ∧
    ∀ e : PeriodIx, (c.periodImage.drop (5 * e.val)).take 5 = match c.periods[e.val] with
      | none => [0, 0, 0, 0, 0]
      | some x => [1] ++ be16 x.minute.val ++ [x.days.setWidth 8, byte x.kind.ctorIdx]

/-- R67: LINE_TEST answers DONE with the first check that fails, in the order of the rule, or PASS, and changes nothing; in a
bay that is neither EMPTY nor FAULT it is refused WRONG_STATE, and for a bay number above 35 BAD_INDEX. The codes 0 to 4 of
the results, in the order the rule names them, are the model's reading of R188 (notes/assumptions/6.md). -/
def Obligations.LineTestReportsTheFirstFailure : Prop :=
  (∀ (s : State) (n : Byte) (r : LineReadings), 36 ≤ n.toNat → Replies (.lineTest n r) s .badIndex []) ∧
  ∀ (s : State) (n : Byte) (b : BayNo) (r : LineReadings), n.toNat = b.val →
    ((s.bay b).state = .empty ∨ (s.bay b).state = .fault →
      Replies (.lineTest n r) s .done
        [if r.clockHigh = false then 0 else if r.clockLow = true then 1 else if r.dataReleased = false then 2
          else if r.dataLow = true then 3 else 4]) ∧
    ((s.bay b).state ≠ .empty → (s.bay b).state ≠ .fault → Replies (.lineTest n r) s .wrongState [])

/-- R190, R191, R192: the record image and the bay image: their lengths, their presence fields and every field at its place,
an absent field 0; the event snapshot and the data of EVENT_SUMMARY. -/
def Obligations.RecordImageFollowsItsLayout : Prop :=
  (∀ r : Record,
    r.image.length = 34 ∧ r.image[0]? = some (byte r.custody.ctorIdx) ∧
    r.image[1]? = some (byte ((if r.profileHeld.isSome then 1 else 0) +
      (if r.holdReason.isSome then 2 else 0) + (if r.adriftReason.isSome then 4 else 0))) ∧
    r.image[2]? = some (byte ((if r.homeBay.isSome then 1 else 0) + (if r.currentBay.isSome then 2 else 0) +
      (if r.holder.isSome then 4 else 0) + (if r.readyBy.isSome then 8 else 0) +
      (if r.lastCharge.isSome then 16 else 0) + (if r.lastTemp.isSome then 32 else 0) +
      (if r.capacity.isSome then 64 else 0) + (if r.acceptance.isSome then 128 else 0))) ∧
    (∀ k : Nat, k < 8 → r.image[3 + k]? = some (r.tabletId.extractLsb' (56 - 8 * k) 8)) ∧
    r.image[11]? = some (byte ((r.homeBay.map Fin.val).getD 0)) ∧
    r.image[12]? = some (byte ((r.currentBay.map Fin.val).getD 0)) ∧
    r.image[13]? = some (byte (r.holder.getD 0 / 256)) ∧ r.image[14]? = some (byte (r.holder.getD 0)) ∧
    r.image[15]? = some (byte (r.target / 256)) ∧ r.image[16]? = some (byte r.target) ∧
    r.image[17]? = some (byte ((r.readyBy.map Fin.val).getD 0 / 256)) ∧
    r.image[18]? = some (byte ((r.readyBy.map Fin.val).getD 0)) ∧
    r.image[19]? = some (byte (r.lastCharge.getD 0 / 256)) ∧ r.image[20]? = some (byte (r.lastCharge.getD 0)) ∧
    r.image[21]? = some (BitVec.ofInt 8 (r.lastTemp.getD 0)) ∧
    r.image[22]? = some (byte (r.capacity.getD 0 / 256)) ∧ r.image[23]? = some (byte (r.capacity.getD 0)) ∧
    r.image[24]? = some (byte (r.acceptance.getD 0 / 256)) ∧ r.image[25]? = some (byte (r.acceptance.getD 0)) ∧
    r.image[26]? = some r.profileTarget ∧ r.image[27]? = some (r.profileHeld.getD 0) ∧ r.image[28]? = some r.flags ∧
    (r.failureCount < 8 → r.image[29]? = some (byte (r.failureCount + (if r.provStuck then 8 else 0) +
      (if r.unsecured then 16 else 0) + (if r.orderUndelivered then 32 else 0) + (if r.misplaced then 64 else 0)))) ∧
    r.image[30]? = some (byte ((r.holdReason.map HoldReason.ctorIdx).getD 0)) ∧
    r.image[31]? = some (byte ((r.adriftReason.map AdriftReason.ctorIdx).getD 0)) ∧
    r.image[32]? = some (byte (r.energy / 256)) ∧ r.image[33]? = some (byte r.energy)) ∧
  (∀ (s : State) (b : BayNo) (m : List Byte), m = s.bayImage b →
    m.length = 32 ∧ m[0]? = some (byte b.val) ∧
    m[1]? = some (byte ((if (s.bay b).populated then 1 else 0) + (if (s.bay b).hostDisabled then 2 else 0) +
      (if (s.bay b).contact then 4 else 0) + (if (s.bay b).recovery then 8 else 0))) ∧
    m[2]? = some (byte ((if (s.bay b).record.isSome then 1 else 0) + (if (s.bay b).reportedId.isSome then 2 else 0) +
      (if (s.bay b).foreignCause.isSome then 4 else 0) + (if (s.bay b).partner.isSome then 8 else 0) +
      (if (s.bay b).faultReason.isSome then 16 else 0) + (if (s.link b).window.isSome then 32 else 0) +
      (if (s.bay b).lane.isSome then 64 else 0))) ∧
    m[3]? = some (byte (s.bay b).state.ctorIdx) ∧ m[4]? = some (byte (((s.bay b).record.map Fin.val).getD 0)) ∧
    (∀ k : Nat, k < 8 → m[5 + k]? = some (((s.bay b).reportedId.getD 0).extractLsb' (56 - 8 * k) 8)) ∧
    m[13]? = some (byte (((s.bay b).foreignCause.map ForeignCause.ctorIdx).getD 0)) ∧
    m[14]? = some (byte (((s.bay b).partner.map Fin.val).getD 0)) ∧
    m[15]? = some (byte (((s.bay b).faultReason.map FaultReason.ctorIdx).getD 0)) ∧
    m[16]? = some (byte (s.link b).state.ctorIdx) ∧ m[17]? = some (byte (s.link b).step.val) ∧
    m[18]? = some (byte (s.link b).tap.val) ∧ m[19]? = some (byte (((s.link b).window.map fun w => w.1.val).getD 0)) ∧
    m[20]? = some (byte (((s.link b).window.map fun w => w.2.val).getD 0)) ∧
    m[21]? = some (byte (s.bay b).latch.ctorIdx) ∧ m[22]? = some (byte (s.output b).charge.ctorIdx) ∧
    m[23]? = some (byte ((s.bay b).grant / 256)) ∧ m[24]? = some (byte (s.bay b).grant) ∧
    m[25]? = some (byte ((s.output b).issued / 256)) ∧ m[26]? = some (byte (s.output b).issued) ∧
    m[27]? = some (byte ((s.output b).settled / 256)) ∧ m[28]? = some (byte (s.output b).settled) ∧
    m[29]? = some (byte (((s.bay b).lane.map Fin.val).getD 0)) ∧ m[30]? = some (byte (s.bay b).lamp.ctorIdx) ∧
    m[31]? = some (byte (((s.bay b).record.map fun i => (s.record i).custody.ctorIdx).getD 0))) ∧
  (∀ (s : State) (n : SourceNo), (s.port.snapshot n).length = 10 ∧ (s.port.snapshot n)[0]? = some (byte n.val) ∧
    (s.port.snapshot n)[1]? = some (if s.port.enables.getLsbD n.val then 1 else 0) ∧
    ∀ k : Nat, k < 8 → (s.port.snapshot n)[2 + k]? = some ((s.subjectsOf n).extractLsb' (56 - 8 * k) 8)) ∧
  ∀ (s : State) (set : BitVec 24), (∀ n : SourceNo, set.getLsbD n.val = true ↔ s.subjectsOf n ≠ 0) → set.toNat < 2 ^ 18 →
    s.port.eventSummary = [s.port.enables.extractLsb' 16 8, s.port.enables.extractLsb' 8 8, s.port.enables.extractLsb' 0 8,
      set.extractLsb' 16 8, set.extractLsb' 8 8, set.extractLsb' 0 8, s.port.summary]

/-! ## The roster -/

/-- R14, R15, R31, R33, R34, R140: an accepted ENROL answers DONE with the index and the state of the record it writes, as
given, into the lowest FREE index. Where no FOREIGN(UNKNOWN_ID) bay reports the ID, the record stays undocked. Where one
does, the bay docks the record, which is IN_CART in that bay, with LOCK placed and, under auto-lock while the service window
is closed, asked, or HELD still, a LOANED one with a RETURN subject, and the bay names it. Where two or more do, the two
lowest become COLLIDED partners and the record HELD(COLLISION), undocked; further ones stay. The initial state is coded as
the custody state it names (notes/assumptions/6.md). -/
def Obligations.EnrolWritesTheLowestFreeRecord : Prop :=
  (∀ (s : State) (p : EnrolParams) (i : RecordIx) (c : CustodyState),
    p.initial.toNat = c.ctorIdx → (c = .away ∨ c = .loaned ∨ c = .held) → (c = .loaned ↔ p.holder ≠ 0) →
    (∀ v, p.target = some v → 200 ≤ v.toNat ∧ v.toNat ≤ 1000) → (∀ v, p.readyBy = some v → v.toNat < 1440) →
    (∀ v, p.homeBay = some v → ∃ b : BayNo, v.toNat = b.val ∧ (s.bay b).populated = true) →
    (∀ j : RecordIx, (s.record j).custody ≠ .free → (s.record j).tabletId ≠ p.tabletId) →
    (s.record i).custody = .free → (∀ j : RecordIx, j < i → (s.record j).custody ≠ .free) →
    (∀ b : BayNo, ¬s.ReportsUnknown b p.tabletId) →
      ∃ t, exec (.enrol p) s = .next t ∧ t.Says .done [byte i.val, p.initial] ∧ s.Untouched t [i] [] ∧
        (t.record i).custody = c ∧ (t.record i).tabletId = p.tabletId ∧
        (t.record i).holder = (if c = .loaned then some p.holder.toNat else none) ∧
        (t.record i).holdReason = (if c = .held then some .host else none) ∧
        (t.record i).homeBay.map Fin.val = p.homeBay.map BitVec.toNat ∧
        (t.record i).readyBy.map Fin.val = p.readyBy.map BitVec.toNat ∧
        (t.record i).target = (p.target.map BitVec.toNat).getD s.budget.defaultTarget ∧
        (t.record i).profileTarget = p.profileTarget ∧ (t.record i).flags = p.flags ∧
        (t.record i).currentBay = none ∧ (t.record i).adriftReason = none ∧ (t.record i).lastCharge = none ∧
        (t.record i).lastTemp = none ∧ (t.record i).capacity = none ∧ (t.record i).acceptance = none ∧
        (t.record i).profileHeld = none ∧ (t.record i).failureCount = 0 ∧ (t.record i).provStuck = false ∧
        (t.record i).orderUndelivered = false ∧ (t.record i).misplaced = false ∧ (t.record i).energy = 0) ∧
  (∀ (s : State) (p : EnrolParams) (i : RecordIx) (c : CustodyState) (b : BayNo),
    p.initial.toNat = c.ctorIdx → (c = .away ∨ c = .loaned ∨ c = .held) → (c = .loaned ↔ p.holder ≠ 0) →
    (∀ v, p.target = some v → 200 ≤ v.toNat ∧ v.toNat ≤ 1000) → (∀ v, p.readyBy = some v → v.toNat < 1440) →
    (∀ v, p.homeBay = some v → ∃ a : BayNo, v.toNat = a.val ∧ (s.bay a).populated = true) →
    (∀ j : RecordIx, (s.record j).custody ≠ .free → (s.record j).tabletId ≠ p.tabletId) →
    (s.record i).custody = .free → (∀ j : RecordIx, j < i → (s.record j).custody ≠ .free) →
    (∀ a : BayNo, a = b ↔ s.ReportsUnknown a p.tabletId) →
      ∃ t, exec (.enrol p) s = .next t ∧ t.Says .done [byte i.val, byte (t.record i).custody.ctorIdx] ∧
        s.Untouched t [i] [b] ∧ (t.record i).custody = (if c = .held then .held else .inCart) ∧
        (t.record i).currentBay = some b ∧ (t.record i).holder = none ∧
        (t.record i).holdReason = (if c = .held then some .host else none) ∧
        (t.record i).tabletId = p.tabletId ∧ (t.record i).homeBay.map Fin.val = p.homeBay.map BitVec.toNat ∧
        (t.record i).readyBy.map Fin.val = p.readyBy.map BitVec.toNat ∧
        (t.record i).target = (p.target.map BitVec.toNat).getD s.budget.defaultTarget ∧
        (t.record i).profileTarget = p.profileTarget ∧ (t.record i).flags = p.flags ∧
        ((t.record i).misplaced = true ↔ p.flags.getLsbD 4 = true ∧ ∃ v : Byte, p.homeBay = some v ∧ v.toNat ≠ b.val) ∧
        (t.bay b).state = .identified ∧
        (t.bay b).record = some i ∧ (t.bay b).reportedId = none ∧ (t.bay b).foreignCause = none ∧
        t.Holds Source.dock b.val ∧ (c = .loaned → t.Holds Source.returned i.val) ∧
        (c ≠ .held → (s.link b).state ≠ .down → t.CustodyOrdered b .lock) ∧
        (c ≠ .held → s.custodySettings.autoLock = true → s.service = none → s.LatchOrderly b → t.LatchAsked b .lock)) ∧
  ∀ (s : State) (p : EnrolParams) (i : RecordIx) (c : CustodyState) (b k : BayNo), s.BayLaw →
    p.initial.toNat = c.ctorIdx → (c = .away ∨ c = .loaned ∨ c = .held) → (c = .loaned ↔ p.holder ≠ 0) →
    s.EnrolInRange p → (∀ j : RecordIx, (s.record j).custody ≠ .free → (s.record j).tabletId ≠ p.tabletId) →
    (s.record i).custody = .free → (∀ j : RecordIx, j < i → (s.record j).custody ≠ .free) →
    s.ReportsUnknown b p.tabletId → s.ReportsUnknown k p.tabletId → b < k →
    (∀ a : BayNo, s.ReportsUnknown a p.tabletId → a = b ∨ k ≤ a) →
      ∃ t, exec (.enrol p) s = .next t ∧ t.Says .done [byte i.val, byte CustodyState.held.ctorIdx] ∧
        s.Untouched t [i] [b, k] ∧ t.CollidedPair b k p.tabletId ∧ (t.record i).custody = .held ∧
        (t.record i).holdReason = some .collision ∧ (t.record i).currentBay = none ∧ (t.record i).holder = none ∧
        (t.record i).tabletId = p.tabletId ∧ t.Holds Source.dock b.val ∧ t.Holds Source.dock k.val ∧
        (c = .loaned → t.Holds Source.returned i.val)

/-- R18, R7: an accepted AMEND answers DONE with no data and writes its one field, with MISPLACED re-evaluated where the
field is the home bay, and changes nothing else that the frame names. The field codes 0 to 4, in the order of the rule's
table, are the model's reading of R188 (notes/assumptions/6.md). -/
def Obligations.AmendWritesOneField : Prop :=
  ∀ (s : State) (n : Byte) (i : RecordIx) (v : Half), n.toNat = i.val → (s.record i).custody ≠ .free →
    (200 ≤ v.toNat → v.toNat ≤ 1000 → ∃ t, exec (.amend n 0 (some v)) s = .next t ∧ t.Says .done [] ∧
      s.Writes t i { s.record i with target := v.toNat }) ∧
    (∀ m : Minute, v.toNat = m.val → ∃ t, exec (.amend n 1 (some v)) s = .next t ∧ t.Says .done [] ∧
      s.Writes t i { s.record i with readyBy := some m }) ∧
    (∃ t, exec (.amend n 1 none) s = .next t ∧ t.Says .done [] ∧ s.Writes t i { s.record i with readyBy := none }) ∧
    (∀ b : BayNo, v.toNat = b.val → (s.bay b).populated = true → ∃ t, exec (.amend n 2 (some v)) s = .next t ∧
      t.Says .done [] ∧ s.Writes t i { s.record i with
        homeBay := some b
        misplaced := (s.record i).homeStrict && (s.record i).currentBay.isSome && (s.record i).currentBay != some b }) ∧
    (∃ t, exec (.amend n 2 none) s = .next t ∧ t.Says .done [] ∧
      s.Writes t i { s.record i with homeBay := none, misplaced := false }) ∧
    (v.toNat < 256 → ∃ t, exec (.amend n 3 (some v)) s = .next t ∧ t.Says .done [] ∧
      s.Writes t i { s.record i with profileTarget := byte v.toNat }) ∧
    ((s.record i).custody = .loaned ∨ (s.record i).custody = .overdue → v ≠ 0 →
      ∃ t, exec (.amend n 4 (some v)) s = .next t ∧ t.Says .done [] ∧
        s.Writes t i { s.record i with holder := some v.toNat })

/-- R19, R7: each of FLAG_SWAP, FLAG_AND and FLAG_OR on an enrolled record answers DONE with the flag set as it stood, writes
the new set, re-evaluates MISPLACED, and changes nothing else that the frame names. -/
def Obligations.FlagRequestsExchangeTheSet : Prop :=
  ∀ (s : State) (n f new : Byte) (i : RecordIx) (c : Instr), n.toNat = i.val → (s.record i).custody ≠ .free →
    (c = .flagSwap n f ∧ new = f ∨ c = .flagAnd n f ∧ new = (s.record i).flags &&& f ∨
      c = .flagOr n f ∧ new = (s.record i).flags ||| f) →
      ∃ t, exec c s = .next t ∧ t.Says .done [(s.record i).flags] ∧ s.Writes t i { s.record i with
        flags := new
        misplaced := new.getLsbD 4 && (s.record i).homeBay.isSome && (s.record i).currentBay.isSome &&
          (s.record i).homeBay != (s.record i).currentBay }

/-- R20: an accepted FILL that selects a field answers DONE with the number of enrolled records in its range, writes the
selected fields into each of them, and changes no other record. -/
def Obligations.FillWritesTheEnrolledRange : Prop :=
  ∀ (s : State) (n k : Byte) (i : RecordIx) (f : FillTemplate), n.toNat = i.val → 0 < k.toNat → k.toNat ≤ 64 →
    (f.target.isSome || f.readyBy.isSome || f.homeBay.isSome || f.profileTarget.isSome || f.flags.isSome) = true →
    (∀ v, f.target = some v → 200 ≤ v.toNat ∧ v.toNat ≤ 1000) → (∀ v, f.readyBy = some (some v) → v.toNat < 1440) →
    (∀ v, f.homeBay = some (some v) → ∃ b : BayNo, v.toNat = b.val ∧ (s.bay b).populated = true) →
      ∃ (t : State) (l : List RecordIx), exec (.fill n k f) s = .next t ∧ l.Nodup ∧
        (∀ j : RecordIx, j ∈ l ↔ i ≤ j ∧ j.val < i.val + k.toNat ∧ (s.record j).custody ≠ .free) ∧
        t.Says .done [byte l.length] ∧ s.Untouched t l [] ∧
        ∀ j ∈ l,
          (t.record j).target = (f.target.map BitVec.toNat).getD (s.record j).target ∧
          (t.record j).readyBy.map Fin.val =
            (f.readyBy.map fun v => v.map BitVec.toNat).getD ((s.record j).readyBy.map Fin.val) ∧
          (t.record j).homeBay.map Fin.val =
            (f.homeBay.map fun v => v.map BitVec.toNat).getD ((s.record j).homeBay.map Fin.val) ∧
          (t.record j).profileTarget = f.profileTarget.getD (s.record j).profileTarget ∧
          (t.record j).flags = f.flags.getD (s.record j).flags ∧
          Record.SameButUnsecured { s.record j with
            target := (t.record j).target
            readyBy := (t.record j).readyBy
            homeBay := (t.record j).homeBay
            profileTarget := (t.record j).profileTarget
            flags := (t.record j).flags
            misplaced := (t.record j).misplaced } (t.record j)

/-- R21, R9, R22, R23, R10, R140: an accepted HOLD makes the record HELD(HOST) without holder tag or adrift reason and ends
its lane session, if it holds one, ABORTED; an accepted UNHOLD makes it IN_CART if it is docked and AWAY if not, and removes
the hold reason, PROV_STUCK and the failure count, and where it is docked places LOCK in its bay's custody slot, with a LOCK
request under auto-lock while the service window is closed; RETIRE writes the FREE image into an undocked record and makes a
docked one RETIRING, its session ABORTED. Each answers DONE with the state that results. -/
def Obligations.HoldUnholdAndRetireMoveTheRecord : Prop :=
  (∀ (s : State) (n : Byte) (i : RecordIx), n.toNat = i.val → (s.record i).custody ≠ .free →
    (s.record i).custody ≠ .releasing →
      ∃ t, exec (.hold n) s = .next t ∧ t.Says .done [byte CustodyState.held.ctorIdx] ∧
        s.Writes t i { s.record i with
          custody := .held, holdReason := some .host, holder := none, adriftReason := none } ∧
        s.SessionEnded t i .aborted) ∧
  (∀ (s : State) (n : Byte) (i : RecordIx) (c : CustodyState), n.toNat = i.val → (s.record i).custody = .held →
    (s.custodySettings.authority = .host ∨ s.service.isSome = true) →
    c = (if (s.record i).currentBay.isSome then .inCart else .away) →
      ∃ t, exec (.unhold n) s = .next t ∧ t.Says .done [byte c.ctorIdx] ∧
        s.Writes t i { s.record i with custody := c, holdReason := none, provStuck := false, failureCount := 0 } ∧
        ∀ b : BayNo, (s.record i).currentBay = some b →
          ((s.link b).state ≠ .down → s.release b = none → t.CustodyOrdered b .lock) ∧
          (s.custodySettings.autoLock = true → s.service = none → s.LatchOrderly b → t.LatchAsked b .lock)) ∧
  (∀ (s : State) (n : Byte) (i : RecordIx), n.toNat = i.val →
    ((s.record i).custody = .away ∨ (s.record i).custody = .loaned ∨ (s.record i).custody = .overdue ∨
        (s.record i).custody = .adrift ∨ (s.record i).custody = .held ∧ (s.record i).currentBay = none →
      ∃ t, exec (.retire n) s = .next t ∧ t.Says .done [byte CustodyState.free.ctorIdx] ∧
        s.Writes t i Record.freeImage) ∧
    ((s.record i).custody = .inCart ∨ (s.record i).custody = .retiring ∨
        (s.record i).custody = .held ∧ (s.record i).currentBay.isSome = true →
      ∃ t, exec (.retire n) s = .next t ∧ t.Says .done [byte CustodyState.retiring.ctorIdx] ∧
        s.Writes t i { s.record i with custody := .retiring, holdReason := none } ∧ s.SessionEnded t i .aborted))

/-- R13, R14, R18, R19, R20, R21 to R23, R40, R41, R143: the requests of records and bays are refused in the order of their
checks: BAD_INDEX for an index out of range; ENROL BAD_REQUEST, OUT_OF_RANGE, DUPLICATE, FULL; AMEND BAD_REQUEST, WRONG_STATE
for a FREE record, OUT_OF_RANGE, WRONG_STATE for the holder tag off loan; FILL OUT_OF_RANGE, and DONE with 0 for a count of 0
or an empty template; the flag requests, HOLD and RETIRE WRONG_STATE for a FREE record, HOLD and RETIRE for a RELEASING one;
UNHOLD WRONG_STATE for a record not HELD, then NOT_AUTHORISED; CHECKOUT OUT_OF_RANGE, WRONG_STATE, NOT_AUTHORISED, WRONG_BAY,
LOW_CHARGE, LANE_ACTIVE; BAY_DISABLE and BAY_ENABLE WRONG_STATE for an unpopulated bay, and DONE without effect where nothing
is to do. AMEND's field codes 0 to 4 are the model's (notes/assumptions/6.md), and so is that override does not help where no
charge is known (notes/assumptions/13.md). -/
def Obligations.RequestsAreRefusedInTheOrderOfTheirChecks : Prop :=
  ∀ (s : State) (n f k : Byte) (i : RecordIx) (b : BayNo) (h : Half) (v : Option Half) (preempt override : Bool)
    (p : EnrolParams) (w : FillTemplate),
    (64 ≤ n.toNat → Replies (.hold n) s .badIndex [] ∧ Replies (.unhold n) s .badIndex [] ∧
      Replies (.retire n) s .badIndex [] ∧ Replies (.flagSwap n f) s .badIndex [] ∧
      Replies (.flagAnd n f) s .badIndex [] ∧ Replies (.flagOr n f) s .badIndex [] ∧
      Replies (.amend n f v) s .badIndex [] ∧ Replies (.checkout n h preempt override) s .badIndex [] ∧
      Replies (.cancelRelease n) s .badIndex [] ∧ Replies (.fill n k w) s .badIndex []) ∧
    (n.toNat = i.val → (s.record i).custody = .free → Replies (.hold n) s .wrongState [] ∧
      Replies (.unhold n) s .wrongState [] ∧ Replies (.retire n) s .wrongState [] ∧
      Replies (.flagSwap n f) s .wrongState [] ∧ Replies (.flagAnd n f) s .wrongState [] ∧
      Replies (.flagOr n f) s .wrongState [] ∧ Replies (.cancelRelease n) s .wrongState [] ∧
      (f.toNat < 5 → Replies (.amend n f v) s .wrongState [])) ∧
    (n.toNat = i.val → 5 ≤ f.toNat → Replies (.amend n f v) s .badRequest []) ∧
    (n.toNat = i.val → (s.record i).custody ≠ .free →
      (s.AmendOutOfRange f v → Replies (.amend n f v) s .outOfRange []) ∧
      (f = 4 → h ≠ 0 → (s.record i).custody ≠ .loaned → (s.record i).custody ≠ .overdue →
        Replies (.amend n f (some h)) s .wrongState [])) ∧
    (¬StateInOrder p → Replies (.enrol p) s .badRequest []) ∧
    (StateInOrder p → ¬s.EnrolInRange p → Replies (.enrol p) s .outOfRange []) ∧
    (StateInOrder p → s.EnrolInRange p →
      ((s.record i).custody ≠ .free → (s.record i).tabletId = p.tabletId → Replies (.enrol p) s .duplicate []) ∧
      ((∀ j : RecordIx, (s.record j).custody ≠ .free ∧ (s.record j).tabletId ≠ p.tabletId) →
        Replies (.enrol p) s .full [])) ∧
    (n.toNat = i.val →
      (64 < k.toNat → Replies (.fill n k w) s .outOfRange []) ∧
      (k = 0 → Replies (.fill n k w) s .done [0]) ∧
      (0 < k.toNat → k.toNat ≤ 64 → ¬s.FillInRange w → Replies (.fill n k w) s .outOfRange []) ∧
      (k.toNat ≤ 64 → Replies (.fill n k ⟨none, none, none, none, none⟩) s .done [0])) ∧
    (n.toNat = i.val → (s.record i).custody = .releasing → Replies (.hold n) s .wrongState [] ∧
      Replies (.retire n) s .wrongState []) ∧
    (n.toNat = i.val → (s.record i).custody ≠ .held → Replies (.unhold n) s .wrongState []) ∧
    (n.toNat = i.val → (s.record i).custody = .held → s.custodySettings.authority = .key → s.service = none →
      Replies (.unhold n) s .notAuthorised []) ∧
    (n.toNat = i.val → (s.record i).custody ≠ .releasing → Replies (.cancelRelease n) s .wrongState []) ∧
    (n.toNat = i.val → Replies (.checkout n 0 preempt override) s .outOfRange []) ∧
    (n.toNat = i.val → h ≠ 0 → (s.record i).custody ≠ .inCart →
      Replies (.checkout n h preempt override) s .wrongState []) ∧
    (n.toNat = i.val → h ≠ 0 → (s.record i).custody = .inCart →
      (s.custodySettings.authority = .key ∧ s.teacher = none ∧ s.service = none →
        Replies (.checkout n h preempt override) s .notAuthorised []) ∧
      (s.custodySettings.authority = .host ∨ s.teacher.isSome = true ∨ s.service.isSome = true →
        ((s.record i).loanBlock = true → Replies (.checkout n h preempt override) s .notAuthorised []) ∧
        ((s.record i).loanBlock = false → (s.record i).misplaced = true →
          Replies (.checkout n h preempt override) s .wrongBay []) ∧
        ((s.record i).loanBlock = false → (s.record i).misplaced = false →
          ((s.record i).lastCharge = none ∨
            override = false ∧ ∃ c, (s.record i).lastCharge = some c ∧ c < s.budget.checkoutMinimum) →
            Replies (.checkout n h preempt override) s .lowCharge []) ∧
        ((s.record i).loanBlock = false → (s.record i).misplaced = false →
          (∃ c, (s.record i).lastCharge = some c ∧ (override = true ∨ s.budget.checkoutMinimum ≤ c)) →
          (s.laneOf i).isSome = true → preempt = false →
            Replies (.checkout n h preempt override) s .laneActive []))) ∧
    (36 ≤ n.toNat → Replies (.bayDisable n) s .badIndex [] ∧ Replies (.bayEnable n) s .badIndex []) ∧
    (n.toNat = b.val → (s.bay b).populated = false →
      Replies (.bayDisable n) s .wrongState [] ∧ Replies (.bayEnable n) s .wrongState []) ∧
    (n.toNat = b.val → (s.bay b).populated = true → (s.bay b).hostDisabled = true →
      Replies (.bayDisable n) s .done []) ∧
    (n.toNat = b.val → (s.bay b).populated = true → (s.bay b).hostDisabled = false → Replies (.bayEnable n) s .done [])

/-! ## Bays -/

/-- R40, R29, R27, R35, R64, R141: an accepted BAY_DISABLE answers DONE and makes the bay DISABLED and host disabled; the
departure timer's expiry makes contact ABSENT and a bay that is not DISABLED EMPTY. Either ends everything bound to the bay:
the record it names is undocked, with ORDER_UNDELIVERED where a RELEASE was unacknowledged, its lane session ABORTED with its
switch open, link and output at rest, a collision partner released, waiting LOCK requests dropped, and an UNDOCK subject
added for a bay that held a tablet. In a DISABLED bay contact loss changes the contact alone. That a released partner's grant
becomes 0 is the model's reading (notes/assumptions/12.md). -/
def Obligations.BayDisableAndContactLossEndTheBay : Prop :=
  (∀ (s : State) (n : Byte) (b : BayNo), n.toNat = b.val → (s.bay b).populated = true →
    (s.bay b).hostDisabled = false → (s.bay b).partner ≠ some b →
      ∃ t, exec (.bayDisable n) s = .next t ∧ t.Says .done [] ∧ s.BayEnded t b ∧ (t.bay b).state = .disabled ∧
        (t.bay b).hostDisabled = true ∧ (t.bay b).contact = (s.bay b).contact) ∧
  (∀ (s : State) (b : BayNo), (s.bay b).populated = true → (s.bay b).contact = true → (s.bay b).rawContact = false →
    ((s.bay b).state ≠ .disabled → (s.bay b).partner ≠ some b →
      ∃ t, exec (.contactLoss b) s = .next t ∧ t.port.response = s.port.response ∧ s.BayEnded t b ∧
        (t.bay b).state = .empty ∧ (t.bay b).contact = false) ∧
    ((s.bay b).state = .disabled →
      exec (.contactLoss b) s = .next (s.setBay b { s.bay b with contact := false })))

/-- R41, R27, R28: an accepted BAY_ENABLE clears host disabled and answers DONE: the bay becomes EMPTY, or BRINGUP with a
fresh bring-up where its contact is PRESENT. A change of the raw contact changes the raw level alone; the arrival timer's
expiry makes contact PRESENT and brings an EMPTY bay into BRINGUP; in a DISABLED bay the contact alone changes. -/
def Obligations.BayEnableAndContactArrivalBeginBringup : Prop :=
  (∀ (s : State) (n : Byte) (b : BayNo), n.toNat = b.val → (s.bay b).populated = true → (s.bay b).hostDisabled = true →
    ∃ t, exec (.bayEnable n) s = .next t ∧ t.Says .done [] ∧ (t.bay b).hostDisabled = false ∧
      s.Untouched t [] [b] ∧ ((s.bay b).contact = false → (t.bay b).state = .empty) ∧
      ((s.bay b).contact = true → (t.bay b).state = .bringup ∧ t.LinkStarts b 0 ∧ t.OutputDropped b .off)) ∧
  (∀ (s : State) (b : BayNo) (v : Bool),
    exec (.rawContactChange b v) s = .next (s.setBay b { s.bay b with rawContact := v }) ∧
    ((s.bay b).populated = true → (s.bay b).contact = false → (s.bay b).rawContact = true →
      ((s.bay b).state = .empty → ∃ t, exec (.contactArrival b) s = .next t ∧ t.port.response = s.port.response ∧
        (t.bay b).state = .bringup ∧ (t.bay b).contact = true ∧ (t.bay b).reportedId = none ∧ t.LinkStarts b 0 ∧
        t.OutputDropped b .off ∧ s.Untouched t [] [b]) ∧
      ((s.bay b).state = .disabled →
        exec (.contactArrival b) s = .next (s.setBay b { s.bay b with contact := true }))))

/-! ## Matching a tablet -/

/-- R30, R31, R32, R33, R34, R35, R36, R39, R8, R5, R140: a bay that matches an IDENT afresh, in BRINGUP or, undocked first,
with another identity: without the class marker, or of an ID no enrolled record holds, the bay is FOREIGN with its cause and
the reported ID, with FOREIGN and DOCK subjects and no record written; of an undocked enrolled record's ID, the bay is
IDENTIFIED and names the record, IN_CART (or HELD still) in the bay, its energy, last charge and last temperature reset and
the IDENT's figures, clamped, written; LOANED and OVERDUE return; a record in IN_CART is given LOCK. An IDENT of the same
identity writes the figures into the record the bay names, if any, and changes no bay, but that a FAULT bay which names a
record and has its recovery mark becomes IDENTIFIED. It writes nothing in a FAULT bay without identity. These are the
model's: a FAULT bay with its recovery mark whose record a collision took stays in FAULT (notes/assumptions/15.md), a FOREIGN
bay whose ID is enrolled by now is matched again (notes/assumptions/10.md), a released partner's grant is 0
(notes/assumptions/12.md). -/
def Obligations.IdentsMakeForeignBaysOrDocks : Prop :=
  (∀ (s : State) (b : BayNo) (p : IdentReply), (s.link b).exchange = some .hello → s.TakesAfresh b p →
    (p.classMarker ≠ 0xD7 ∨ ∀ i : RecordIx, (s.record i).enrolled = true → (s.record i).tabletId ≠ p.tabletId) →
      ∃ t, exec (.identTaken b p) s = .next t ∧ t.port.response = s.port.response ∧ (t.bay b).state = .foreign ∧
        (t.bay b).reportedId = some p.tabletId ∧ (t.bay b).record = none ∧ (t.bay b).partner = none ∧
        (t.bay b).foreignCause = some (if p.classMarker = 0xD7 then .unknownId else .badClass) ∧
        t.Holds Source.foreign b.val ∧ t.Holds Source.dock b.val ∧ s.UndocksFirst t b ∧
        s.Untouched t (s.bay b).record.toList (b :: (s.bay b).partner.toList)) ∧
  (∀ (s : State) (b : BayNo) (p : IdentReply) (i : RecordIx), (s.link b).exchange = some .hello →
    s.TakesAfresh b p → p.classMarker = 0xD7 → (s.record i).enrolled = true →
    (s.record i).tabletId = p.tabletId →
    (∀ j : RecordIx, (s.record j).enrolled = true → (s.record j).tabletId = p.tabletId → j = i) →
    (s.record i).currentBay = none → (s.bay b).record ≠ some i →
    ((s.record i).custody = .away ∨ (s.record i).custody = .loaned ∨ (s.record i).custody = .overdue ∨
      (s.record i).custody = .adrift ∨ (s.record i).custody = .held) →
      ∃ t, exec (.identTaken b p) s = .next t ∧ (t.bay b).state = .identified ∧ (t.bay b).record = some i ∧
        (t.bay b).faultReason = none ∧ (t.bay b).recovery = false ∧ (t.bay b).partner = none ∧
        (t.bay b).reportedId = none ∧ (t.bay b).foreignCause = none ∧
        (t.record i).custody = (if (s.record i).custody = .held then .held else .inCart) ∧
        (t.record i).currentBay = some b ∧ (t.record i).lastCharge = none ∧ (t.record i).lastTemp = none ∧
        (t.record i).energy = 0 ∧ (t.record i).orderUndelivered = false ∧
        ((s.record i).custody ≠ .held → (t.record i).holder = none ∧ (t.record i).adriftReason = none) ∧
        (t.record i).capacity = some (max 50 (min 1000 p.capacity.toNat)) ∧
        (t.record i).acceptance = some (max 25 (min 1000 p.acceptance.toNat)) ∧
        (t.record i).profileHeld = some p.profileHeld ∧ t.Holds Source.dock b.val ∧
        ((s.record i).custody = .loaned ∨ (s.record i).custody = .overdue → t.Holds Source.returned i.val) ∧
        ((s.record i).custody ≠ .held → (s.link b).state ≠ .down → t.CustodyOrdered b .lock) ∧
        ((s.record i).custody ≠ .held → s.custodySettings.autoLock = true → s.service = none → s.LatchOrderly b →
          t.LatchAsked b .lock) ∧
        s.UndocksFirst t b ∧ s.Untouched t (i :: (s.bay b).record.toList) (b :: (s.bay b).partner.toList)) ∧
  (∀ (s : State) (b : BayNo) (p : IdentReply), (s.link b).exchange = some .hello → s.SameIdentity b p →
    (∀ i : RecordIx, (s.bay b).record = some i →
      ((s.bay b).state = .identified ∨ (s.bay b).state = .fault ∧ (s.bay b).recovery = false →
        ∃ t, exec (.identTaken b p) s = .next t ∧ s.Writes t i ((s.record i).withIdent p)) ∧
      ((s.bay b).state = .fault → (s.bay b).recovery = true → (s.bay b).partner ≠ some b →
        ∃ t, exec (.identTaken b p) s = .next t ∧ (t.bay b).state = .identified ∧ (t.bay b).record = some i ∧
          (t.bay b).faultReason = none ∧ (t.bay b).recovery = false ∧ (t.bay b).partner = none ∧
          (t.bay b).reportedId = none ∧ (t.bay b).foreignCause = none ∧
          ((s.record i).withIdent p).SameButUnsecured (t.record i) ∧
          (∀ c ∈ (s.bay b).partner, s.PartnerReleased t c) ∧
          s.Untouched t [i] (b :: (s.bay b).partner.toList))) ∧
    ((s.bay b).record = none → ((s.bay b).state = .collided ∨ (s.bay b).state = .fault ∨ (s.bay b).state = .foreign ∧
        ((s.bay b).foreignCause = some .badClass ∨
          ∀ i : RecordIx, (s.record i).enrolled = true → (s.record i).tabletId ≠ p.tabletId)) →
      ∃ t, exec (.identTaken b p) s = .next t ∧ s.Untouched t [] []) ∧
    ∀ i : RecordIx, (s.bay b).record = none → (s.bay b).state = .foreign → (s.bay b).foreignCause = some .unknownId →
      (s.record i).enrolled = true → (s.record i).tabletId = p.tabletId →
      (∀ j : RecordIx, (s.record j).enrolled = true → (s.record j).tabletId = p.tabletId → j = i) →
        ((s.record i).currentBay = none → (s.record i).custody = .away ∨ (s.record i).custody = .loaned ∨
            (s.record i).custody = .overdue ∨ (s.record i).custody = .adrift ∨ (s.record i).custody = .held →
          ∃ t, exec (.identTaken b p) s = .next t ∧ (t.bay b).state = .identified ∧ (t.bay b).record = some i ∧
            (t.bay b).reportedId = none ∧ (t.bay b).foreignCause = none ∧ (t.record i).currentBay = some b ∧
            (t.record i).custody = (if (s.record i).custody = .held then .held else .inCart) ∧
            t.Holds Source.dock b.val ∧ s.Untouched t [i] [b]) ∧
        ∀ k : BayNo, (s.record i).currentBay = some k → k ≠ b → (s.bay k).state ≠ .fault →
          ∃ t, exec (.identTaken b p) s = .next t ∧ t.CollidedPair b k p.tabletId ∧ (t.record i).custody = .held ∧
            (t.record i).holdReason = some .collision ∧ (t.record i).currentBay = none ∧
            t.Holds Source.dock b.val ∧ s.Untouched t [i] [b, k]) ∧
  ∀ (s : State) (b : BayNo) (p : IdentReply), (s.link b).exchange = some .hello → (s.bay b).state = .fault →
    (s.bay b).record = none → (s.bay b).reportedId = none →
      ∃ t, exec (.identTaken b p) s = .next t ∧ s.Untouched t [] []

/-- R33, R36, R9, R64: an IDENT that a bay matches afresh, of the ID of a record docked in another bay, is a collision: the
two bays become partners, COLLIDED (a FAULT bay stays in FAULT), the record becomes HELD(COLLISION) and undocked, its session
ABORTED, and the other bay's order slots and verification request are emptied. That the grant of a partner released by the
undock that comes first becomes 0 is the model's reading (notes/assumptions/12.md). -/
def Obligations.TwoTabletsOfOneIdCollide : Prop :=
  ∀ (s : State) (b c : BayNo) (p : IdentReply) (i : RecordIx), (s.link b).exchange = some .hello →
    s.TakesAfresh b p → p.classMarker = 0xD7 → (s.record i).enrolled = true →
    (s.record i).tabletId = p.tabletId →
    (∀ j : RecordIx, (s.record j).enrolled = true → (s.record j).tabletId = p.tabletId → j = i) →
    (s.record i).currentBay = some c → c ≠ b → (s.bay b).record ≠ some i → (s.bay b).partner ≠ some c →
      ∃ t, exec (.identTaken b p) s = .next t ∧ (t.bay b).state = .collided ∧ (t.bay b).partner = some c ∧
        (t.bay b).reportedId = some p.tabletId ∧
        (t.bay c).state = (if (s.bay c).state = .fault then .fault else .collided) ∧ (t.bay c).partner = some b ∧
        (t.bay c).reportedId = some p.tabletId ∧ (t.bay c).record = none ∧ (t.record i).custody = .held ∧
        (t.record i).holdReason = some .collision ∧ (t.record i).currentBay = none ∧ (t.record i).holder = none ∧
        (t.link c).custody.waiting = none ∧ (t.link c).custody.inFlight = none ∧
        (s.NamingLaw → s.LaneLaw →
          (t.link c).custody = ⟨none, none, false⟩ ∧ (t.link c).lane = ⟨none, none, false⟩) ∧
        (t.link c).verify = false ∧ (t.link c).verifyDue = false ∧ s.SessionEnded t i .aborted ∧
        t.Holds Source.collision b.val ∧ t.Holds Source.collision c.val ∧ t.Holds Source.dock b.val ∧
        s.UndocksFirst t b ∧
        s.Untouched t (i :: (s.bay b).record.toList) (b :: c :: (s.bay b).partner.toList)

/-! ## Dock lines -/

/-- R53, R58, R60: the end of REST sends HELLO naming the rate step. A poll instant on an idle UP link with no order waiting
sends QUERY, or, where a retrain is due, begins a retrain sweep in its place, with the minimum window and the tap offset then
in force (R51). Nothing but the link changes. The count of whole CLK32 seconds is the model's (notes/assumptions/2.md). -/
def Obligations.RestEndsAndPollInstantsSend : Prop :=
  (∀ (s : State) (b : BayNo), (s.link b).state = .rest →
    exec (.restEnd b) s = .next (s.setLink b { s.link b with state := .helloWait, exchange := some .hello }) ∧
    ∀ t, exec (.restEnd b) s = .next t → (t.link b).sent = lineFrame 0x11 [byte (s.link b).step.val]) ∧
  (∀ (s : State) (b : BayNo), (s.link b).state = .up → (s.link b).pollRunning = true → (s.link b).exchange = none →
    (s.link b).custody.waiting = none → (s.link b).lane.waiting = none → (s.link b).verify = false →
    (s.link b).queryDue = false →
      ∃ t, exec (.pollInstant b) s = .next t ∧ s.OnlyLink t b ∧ (t.link b).pollLast = s.clk32 ∧
        (2 ≤ (s.link b).step.val ∧ s.linkSettings.retrainInterval ≠ 0 ∧
            s.linkSettings.retrainInterval ≤ (s.link b).retrain →
          (t.link b).state = .training ∧ (t.link b).tap = 0 ∧ (t.link b).exchange = some .train ∧
          (t.link b).sweep = some ⟨none, true, s.linkSettings.minWindow, s.linkSettings.tapOffset⟩) ∧
        (¬(2 ≤ (s.link b).step.val ∧ s.linkSettings.retrainInterval ≠ 0 ∧
            s.linkSettings.retrainInterval ≤ (s.link b).retrain) →
          (t.link b).state = .up ∧ (t.link b).exchange = some .query))

/-- R54, R57: after an IDENT, in whatever state its bay is, the target step is the smallest of the cart max step, the
advertised step and the ceiling; a link at another step rests at the target, one at it trains at step 2 or 3 and is UP at
step 0 or 1. That the poll timer starts afresh at every such entry to UP is the model's choice (notes/assumptions/9.md), and
so is the count of whole CLK32 seconds it starts from (notes/assumptions/2.md). -/
def Obligations.IdentSetsTheRateStep : Prop :=
  ∀ (s : State) (b : BayNo) (p : IdentReply) (v : Nat), (s.link b).exchange = some .hello →
    (s.bay b).partner ≠ some b →
    v = min s.linkSettings.maxStep.val (min (min p.maxStep.toNat 3) (s.link b).ceiling.val) →
      ∃ t, exec (.identTaken b p) s = .next t ∧
        (t.link b).advertised.map Fin.val = some (min p.maxStep.toNat 3) ∧ (t.link b).step.val = v ∧
        (v ≠ (s.link b).step.val → (t.link b).state = .rest ∧ (t.link b).tap = 16 ∧ (t.link b).window = none ∧
          (t.link b).helloAttempts = 0) ∧
        (v = (s.link b).step.val → 2 ≤ v → (t.link b).state = .training ∧ (t.link b).tap = 0 ∧
          (t.link b).exchange = some .train ∧ (t.link b).helloAttempts = 0 ∧
          (t.link b).sweep = some ⟨none, false, s.linkSettings.minWindow, s.linkSettings.tapOffset⟩) ∧
        (v = (s.link b).step.val → v < 2 → (t.link b).state = .up ∧ (t.link b).tap = 16 ∧
          (t.link b).window = none ∧ (t.link b).failedBringups = 0 ∧ (t.link b).pollRunning = true ∧
          (t.link b).pollLast = s.clk32)

/-- R47, R55, R56, R51: each exchange of a sweep judges its tap: an ECHO by its payload, while a reply timeout and a bad
frame fail it; a failed tap is no failed exchange. The sweep goes on with the next tap while no run has ended; the run first
to last is then good if it spans the minimum window, and the link takes its middle tap plus the offset, clamped, and is UP;
otherwise, or after 32 failed taps, it steps down and rests. Window and offset are those in force when the sweep began,
whatever the settings are now. An ECHO changes nothing but the link. -/
def Obligations.EchoJudgesTheTap : Prop :=
  ∀ (s : State) (b : BayNo) (c : Instr) (passed : Bool) (begun : Option Tap) (retrain : Bool) (window : Nat)
    (offset : Int) (first last : Tap),
    (s.link b).exchange = some .train → (s.link b).sweep = some ⟨begun, retrain, window, offset⟩ →
    ((∃ x : BitVec 64, c = .echoTaken b x ∧ (passed = true ↔ x = Config.trainingPattern)) ∨
      passed = false ∧ (c = .replyTimeout b ∨ ∃ l, c = .badFrame b l ∧ Exchange.train.succeeds l = false)) →
      ∃ t, exec c s = .next t ∧ t.port.response = s.port.response ∧ s.Untouched t [] [] ∧
        ((∃ x : BitVec 64, c = .echoTaken b x) → s.OnlyLink t b) ∧
        (passed = true → (s.link b).tap.val < 31 →
          (t.link b).tap.val = (s.link b).tap.val + 1 ∧ (t.link b).exchange = some .train ∧
          (t.link b).sweep = some ⟨some (begun.getD (s.link b).tap), retrain, window, offset⟩) ∧
        (passed = false → begun = none → (s.link b).tap.val < 31 →
          (t.link b).tap.val = (s.link b).tap.val + 1 ∧ (t.link b).exchange = some .train ∧
          (t.link b).sweep = some ⟨none, retrain, window, offset⟩ ∧
          (t.link b).failedExchanges = (s.link b).failedExchanges ∧
          (t.link b).helloAttempts = (s.link b).helloAttempts) ∧
        ((passed = true ∧ (s.link b).tap = 31 ∧ first = begun.getD 31 ∧ last = 31 ∨
            passed = false ∧ begun = some first ∧ (s.link b).tap.val = last.val + 1) →
          (window ≤ last.val + 1 - first.val → s.SweepLaw →
            (t.link b).state = .up ∧ (t.link b).window = some (first, last) ∧ (t.link b).retrain = 0 ∧
            ((t.link b).tap.val : Int) =
              max 0 (min 31 (((first.val + last.val) / 2 : Nat) + offset))) ∧
          (last.val + 1 - first.val < window →
            (t.link b).state = .rest ∧ (t.link b).step.val = (s.link b).step.val - 1 ∧
            (t.link b).ceiling = (t.link b).step ∧ (t.link b).tap = 16 ∧ (t.link b).window = none)) ∧
        (passed = false → begun = none → (s.link b).tap = 31 →
          (t.link b).state = .rest ∧ (t.link b).step.val = (s.link b).step.val - 1 ∧
          (t.link b).ceiling = (t.link b).step ∧ (t.link b).tap = 16 ∧ (t.link b).window = none)

/-- R49, R59, R5, R74, R121, R125: a TELEMETRY with no verification pending writes its charge, temperature and profile held,
clamped, into the record the bay names, updates the hot mark, ends the run of failed exchanges and counts towards retraining
at step 2 or 3. One that answers a verification ends the CLOSING session: SUCCESS where the tablet holds the claimed
generation, which clears the record's failure count, and MISMATCH otherwise, which counts one failure. -/
def Obligations.TelemetryWritesAndVerifies : Prop :=
  (∀ (s : State) (b : BayNo) (p : TelemetryReply), (s.link b).exchange = some .query → (s.link b).verify = false →
    ∃ t, exec (.telemetryTaken b p) s = .next t ∧ t.port.response = s.port.response ∧
      (t.link b).failedExchanges = 0 ∧
      (t.link b).retrain =
        (if 2 ≤ (s.link b).step.val then min 255 ((s.link b).retrain + 1) else (s.link b).retrain) ∧
      (∀ i : RecordIx, (s.bay b).record = some i →
        s.Writes t i { s.record i with
          lastCharge := some (min 1000 p.charge.toNat)
          lastTemp := some (max (-20) (min 85 p.temperature.toInt))
          profileHeld := some p.profileHeld } ∧
        (t.entry b).hot = (if 55 ≤ p.temperature.toInt then true else if p.temperature.toInt < 50 then false
          else (s.entry b).hot)) ∧
      ((s.bay b).record = none → s.Untouched t [] [] ∧ (t.entry b).hot = (s.entry b).hot)) ∧
  (∀ (s : State) (b : BayNo) (p : TelemetryReply) (l : LaneNo) (x : Session) (g : Byte),
    (s.link b).exchange = some .query → (s.link b).verify = true → s.laneAt b = some l →
    (s.lane l).session = some x → x.phase = .closing g → (s.record x.record).custody ≠ .free →
      ∃ t, exec (.telemetryTaken b p) s = .next t ∧ (t.link b).verify = false ∧ t.Holds Source.laneEnd l.val ∧
        (t.lane l).last = some ⟨if p.profileHeld = g then .success else .mismatch, x.record, some g⟩ ∧
        (t.record x.record).failureCount =
          (if p.profileHeld = g then 0 else min 7 ((s.record x.record).failureCount + 1)) ∧
        (p.profileHeld ≠ g → s.laneSettings.failureLimit ≤ min 7 ((s.record x.record).failureCount + 1) →
          (t.record x.record).provStuck = true))

/-- R58, R62, R63, R64, R68, R145, R147, R118, R127: an order placed on a DOWN link is not kept; on any other it becomes its
slot's one waiting order, an older one replaced, behind what is in flight, or is sent at once by an idle UP link. An ACK or a
NAK of a RELEASE makes the outcome of the bay's open release DELIVERED or REFUSED, unless a newer RELEASE waits; an ACK of
the waking session's WAKE connects it on its lane, with a LANE_READY subject, and a NAK ends it WAKE_FAILED. One of a LOCK,
of a RELEASE behind which a newer one waits or whose release is open no more, of a QUIET, of a WAKE whose lane is not WAKING
with that bay, or of an ended session's WAKE while the waking session's own still waits, and one for a slot emptied since,
does nothing more than end the order; beside it a release that is UNLOCKING may open where the change closes. Each empties
what was in flight, and a newer order stays or goes out. That the report of a RELEASE behind which a newer one waits is not
the open release's is deduced (notes/assumptions/11.md), and that the expiry of a release which opens so is a whole CLK32
second, the release window length from the model's count, is the model's (notes/assumptions/2.md). -/
def Obligations.OrdersEndWithAckOrNak : Prop :=
  (∀ (s : State) (b : BayNo) (reason : Byte),
    (∀ (w : Option CustodyOrder) (h : Nat) (d : Bool) (i : RecordIx) (e : Nat) (o : OrderOutcome),
      (s.link b).exchange = some .custodyOrder → (s.link b).custody = ⟨w, some (.release h), d⟩ →
      s.release b = some ⟨i, .opened e o⟩ → (∀ g : Nat, w ≠ some (.release g)) →
        (∃ t, exec (.ackTaken b) s = .next t ∧ t.release b = some ⟨i, .opened e .delivered⟩ ∧
          t.CustodyOrderEnded b w ∧ s.Untouched t [] []) ∧
        (∃ t, exec (.nakTaken b reason) s = .next t ∧ t.release b = some ⟨i, .opened e .refused⟩ ∧
          t.CustodyOrderEnded b w ∧ s.Untouched t [] [])) ∧
    (∀ (l : LaneNo) (x : Session), (s.link b).exchange = some .laneOrder →
      (s.link b).lane.inFlight = some (.wake l) → (s.link b).lane.waiting ≠ some (.wake l) →
      (s.lane l).session = some x → x.phase = .waking → x.bay = b →
        (∃ t, exec (.ackTaken b) s = .next t ∧
          (t.lane l).session = some { x with phase := .connected s.laneSettings.sessionLimit } ∧
          t.Holds Source.laneReady l.val ∧ s.Untouched t [] [] ∧
          (s.GrantsNone → s.LaneLaw → (s.link b).lane.waiting = none →
            (t.link b).lane.waiting = none ∧ (t.link b).lane.inFlight = none)) ∧
        (∃ t, exec (.nakTaken b reason) s = .next t ∧ (t.lane l).last = some ⟨.wakeFailed, x.record, none⟩ ∧
          t.Holds Source.laneEnd l.val ∧ s.Untouched t [x.record] [] ∧ s.LaneFreed t l x)) ∧
    (∀ (c : Instr) (d : Bool), c = .ackTaken b ∨ c = .nakTaken b reason →
      (∀ w f : Option CustodyOrder, (s.link b).exchange = some .custodyOrder → (s.link b).custody = ⟨w, f, d⟩ →
        (∀ h : Nat, f = some (.release h) → (∃ g : Nat, w = some (.release g)) ∨
          ∀ (i : RecordIx) (e : Nat) (o : OrderOutcome), s.release b ≠ some ⟨i, .opened e o⟩) →
          ∃ t, exec c s = .next t ∧ s.Untouched t [] [] ∧
            (t.release b = s.release b ∧ t.CustodyOrderEnded b w ∨
              ∃ i j : RecordIx, s.release b = some ⟨i, .unlocking⟩ ∧
                t.release b = some ⟨j, .opened (s.clk32 + s.custodySettings.releaseLength) .waiting⟩ ∧
                (t.link b).failedExchanges = 0 ∧
                ((s.link b).state ≠ .down →
                  ∀ h : Nat, (s.record j).holder = some h → t.CustodyOrdered b (.release h)))) ∧
      (∀ w f : Option LaneOrder, (s.link b).exchange = some .laneOrder → (s.link b).lane = ⟨w, f, d⟩ → s.NoWakeDue b →
        (f = none ∨ f = some .quiet ∨ ∃ l : LaneNo, f = some (.wake l) ∧ (w = some (.wake l) ∨
          ∀ x : Session, (s.lane l).session = some x → x.phase = .waking → x.bay ≠ b)) →
          ∃ t, exec c s = .next t ∧ (t.link b).failedExchanges = 0 ∧ s.Untouched t [] [] ∧
            (∀ (l : LaneNo) (x : Session), (s.lane l).session = some x → x.phase ≠ .admitting → t.lane l = s.lane l) ∧
            (w = none → (t.link b).lane.waiting = none ∧ (t.link b).lane.inFlight = none) ∧
            ∀ q : LaneOrder, w = some q → t.LaneOrdered b q))) ∧
  (∀ (s t : State) (b : BayNo) (o : CustodyOrder), t = s.placeCustodyOrder b o →
    ((s.link b).state = .down → t = s) ∧
    ((s.link b).state ≠ .down → s.OnlyLink t b ∧ t.CustodyOrdered b o ∧
      (t.link b).lane.waiting = (s.link b).lane.waiting ∧ (t.link b).lane.inFlight = (s.link b).lane.inFlight ∧
      (∀ x : Exchange, (s.link b).exchange = some x → t.link b = { s.link b with
        custody := { (s.link b).custody with waiting := some o, due := true } }) ∧
      ((s.link b).state = .up → (s.link b).exchange = none →
        (t.link b).exchange = some .custodyOrder ∧ (t.link b).custody = ⟨none, some o, false⟩))) ∧
  ∀ (s t : State) (b : BayNo) (o : LaneOrder), t = s.placeLaneOrder b o →
    ((s.link b).state = .down → t = s) ∧
    ((s.link b).state ≠ .down → s.OnlyLink t b ∧ t.LaneOrdered b o ∧
      (∀ x : Exchange, (s.link b).exchange = some x → t.link b = { s.link b with
        lane := { (s.link b).lane with waiting := some o, due := true } }) ∧
      ((s.link b).state = .up → (s.link b).exchange = none → (s.link b).custody.waiting = none →
        (t.link b).exchange = some .laneOrder ∧ (t.link b).lane = ⟨none, some o, false⟩))

/-- R47, R61, R53, R58, R63, R65, R37, R121, R149: a bad frame, a reply of a kind the exchange does not call for and a reply
timeout are treated alike. A failed QUERY or ORDER adds to the failed exchanges, and the third in a row begins a bring-up. An
order whose exchange fails waits for the next poll instant, which sends it, unless a newer order has replaced it; that the
instant sends it also where a retrain sweep is due is deduced (notes/assumptions/9.md). A failed HELLO is tried again; the
third at a step above 0 steps the link down; the third at step 0 fails the bring-up, and the third failed bring-up makes the
link FAILED and the bay FAULT(LINK), its output cut, its record HELD(LINK), its identity lost and its partner released, a
CLOSING session UNVERIFIED, and a release ended by the hold: its entry and UNLOCK request gone, LOCK placed and asked. That a
released partner's grant is 0 is the model's reading (notes/assumptions/12.md). -/
def Obligations.FailedExchangesAreCounted : Prop :=
  (∀ (s : State) (b : BayNo) (l : List Byte) (x : Exchange), (s.link b).exchange = some x → x.succeeds l = false →
    exec (.badFrame b l) s = exec (.replyTimeout b) s) ∧
  (∀ (s : State) (b : BayNo) (x : Exchange) (p : IdentReply) (q : TelemetryReply) (v : BitVec 64) (reason : Byte),
    (s.link b).exchange = some x →
      (x ≠ .hello → exec (.identTaken b p) s = exec (.replyTimeout b) s) ∧
      (x ≠ .train → exec (.echoTaken b v) s = exec (.replyTimeout b) s) ∧
      (x ≠ .query → exec (.telemetryTaken b q) s = exec (.replyTimeout b) s) ∧
      (x ≠ .custodyOrder → x ≠ .laneOrder → exec (.ackTaken b) s = exec (.replyTimeout b) s ∧
        exec (.nakTaken b reason) s = exec (.replyTimeout b) s)) ∧
  (∀ (s : State) (b : BayNo), ((s.link b).exchange = some .query ∨ (s.link b).exchange = some .custodyOrder ∨
      (s.link b).exchange = some .laneOrder) →
    ∃ t, exec (.replyTimeout b) s = .next t ∧ s.Untouched t [] [] ∧
      ((s.link b).failedExchanges + 1 < 3 → (t.link b).failedExchanges = (s.link b).failedExchanges + 1) ∧
      (3 ≤ (s.link b).failedExchanges + 1 → t.LinkStarts b (s.link b).failedBringups)) ∧
  (∀ (s : State) (b : BayNo) (o : CustodyOrder), (s.link b).exchange = some .custodyOrder →
    (s.link b).custody.inFlight = some o → (s.link b).failedExchanges + 1 < 3 →
    (∀ i : RecordIx, s.release b ≠ some ⟨i, .unlocking⟩) →
      ((s.link b).custody.waiting = none → (s.link b).instantPending = none →
        ∃ t, exec (.replyTimeout b) s = .next t ∧ (t.link b).custody = ⟨some o, none, false⟩) ∧
      (∀ q : CustodyOrder, (s.link b).custody.waiting = some q →
        ∃ t, exec (.replyTimeout b) s = .next t ∧ t.CustodyOrdered b q)) ∧
  (∀ (s : State) (b : BayNo) (o : CustodyOrder), (s.link b).state = .up → (s.link b).pollRunning = true →
    (s.link b).exchange = none → (s.link b).custody.waiting = some o →
      ∃ t, exec (.pollInstant b) s = .next t ∧ s.OnlyLink t b ∧ (t.link b).exchange = some .custodyOrder ∧
        (t.link b).custody = ⟨none, some o, false⟩) ∧
  (∀ (s : State) (b : BayNo) (o : LaneOrder), (s.link b).exchange = some .laneOrder →
    (s.link b).lane.inFlight = some o → (s.link b).failedExchanges + 1 < 3 → s.NoWakeDue b →
      ((s.link b).lane.waiting = none → (s.link b).instantPending = none →
        ∃ t, exec (.replyTimeout b) s = .next t ∧ (t.link b).lane = ⟨some o, none, false⟩) ∧
      (∀ q : LaneOrder, (s.link b).lane.waiting = some q →
        ∃ t, exec (.replyTimeout b) s = .next t ∧ t.LaneOrdered b q)) ∧
  (∀ (s : State) (b : BayNo) (o : LaneOrder), (s.link b).state = .up → (s.link b).pollRunning = true →
    (s.link b).exchange = none → (s.link b).custody.waiting = none → (s.link b).lane.waiting = some o →
      ∃ t, exec (.pollInstant b) s = .next t ∧ s.OnlyLink t b ∧ (t.link b).exchange = some .laneOrder ∧
        (t.link b).lane = ⟨none, some o, false⟩) ∧
  (∀ (s : State) (b : BayNo), (s.link b).exchange = some .hello → (s.bay b).partner ≠ some b →
    ∃ t, exec (.replyTimeout b) s = .next t ∧
      ((s.link b).helloAttempts < 2 → (t.link b).state = .rest ∧ (t.link b).step = (s.link b).step ∧
        (t.link b).helloAttempts = (s.link b).helloAttempts + 1 ∧ s.Untouched t [] []) ∧
      (2 ≤ (s.link b).helloAttempts → 0 < (s.link b).step.val → (t.link b).state = .rest ∧
        (t.link b).step.val = (s.link b).step.val - 1 ∧ (t.link b).ceiling = (t.link b).step ∧
        (t.link b).tap = 16 ∧ (t.link b).window = none ∧ (t.link b).helloAttempts = 0 ∧ s.Untouched t [] []) ∧
      (2 ≤ (s.link b).helloAttempts → (s.link b).step = 0 → (s.link b).failedBringups < 2 →
        t.LinkStarts b ((s.link b).failedBringups + 1) ∧ s.Untouched t [] []) ∧
      (2 ≤ (s.link b).helloAttempts → (s.link b).step = 0 → 2 ≤ (s.link b).failedBringups →
        (t.link b).state = .failed ∧ (t.bay b).state = .fault ∧ (t.bay b).faultReason = some .link ∧
        (t.bay b).recovery = false ∧ t.OutputDropped b .cut ∧ t.Holds Source.linkFault b.val ∧
        (∀ i : RecordIx, (s.bay b).record = some i → (t.record i).custody = .held ∧
          (t.record i).holdReason = some .link ∧ (t.record i).holder = none ∧
          (t.record i).currentBay = (s.record i).currentBay) ∧
        s.IdentityLost t b ∧
        ((s.link b).verify = false ∨ s.NamingLaw ∧ s.LaneLaw →
          s.Untouched t (s.bay b).record.toList (b :: (s.bay b).partner.toList)) ∧
        (∀ (l : LaneNo) (x : Session) (g : Byte), (s.link b).verify = true → s.laneAt b = some l →
          (s.lane l).session = some x → x.phase = .closing g →
            (t.lane l).last = some ⟨.unverified, x.record, some g⟩ ∧ t.Holds Source.laneEnd l.val ∧
            ((s.record x.record).custody ≠ .free → s.LaneLaw →
              (t.record x.record).failureCount = min 7 ((s.record x.record).failureCount + 1))) ∧
        ∀ i : RecordIx, (s.bay b).record = some i → (s.record i).custody = .releasing →
          t.release b = none ∧ t.CustodyOrdered b .lock ∧
          (s.LatchLaw → (⟨b, .unlock⟩ : LatchRequest) ∉ t.latchQueue ∧ ∀ k : SlotNo, t.slot k ≠ .reserving ⟨b, .unlock⟩) ∧
          ((s.bay b).latch ≠ .locked ∨ (∃ (k : SlotNo) (d : Direction), s.slot k = .driving ⟨b, d⟩) →
            s.service = none → s.LatchOrderly b → t.LatchAsked b .lock)))

/-- R51, R58: a write of LINK_SETTINGS clamps each value into its range, answers CLAMPED if it clamped one and DONE otherwise,
with the settings in force, and brings every link above the new cart max step down to it. Where it changes the telemetry
interval, every other UP link whose next poll instant has passed under the new one takes the poll at once, as POLL_INSTANT
does under the settings written: it waits for the exchange in progress, and an idle link with no order waiting sends QUERY or
begins the retrain sweep that is due (R58). Other links stay, and nothing else changes. That the instant has passed is
judged by the model's whole CLK32 seconds, the second reached included (notes/assumptions/2.md). -/
def Obligations.LinkSettingsAreClampedAndTakeEffect : Prop :=
  ∀ (s : State) (p : LinkSettingsParams), ∃ t, exec (.linkSettings (some p)) s = .next t ∧
    t = { s with linkSettings := t.linkSettings, links := t.links, port := { s.port with response := t.port.response } } ∧
    t.linkSettings.maxStep.val = min 3 p.maxStep.toNat ∧
    t.linkSettings.minWindow = max 2 (min 16 p.minWindow.toNat) ∧
    t.linkSettings.tapOffset = max (-8) (min 7 p.tapOffset.toInt) ∧
    t.linkSettings.retrainInterval = p.retrainInterval.toNat ∧
    t.linkSettings.telemetryInterval = max 1 (min 60 p.telemetryInterval.toNat) ∧
    t.Says (if p.maxStep.toNat ≤ 3 ∧ 2 ≤ p.minWindow.toNat ∧ p.minWindow.toNat ≤ 16 ∧ -8 ≤ p.tapOffset.toInt ∧
        p.tapOffset.toInt ≤ 7 ∧ 1 ≤ p.telemetryInterval.toNat ∧ p.telemetryInterval.toNat ≤ 60 then .done else .clamped)
      t.linkSettings.bytes ∧
    (∀ b : BayNo, t.linkSettings.maxStep < (s.link b).step → (t.link b).state = .rest ∧
      (t.link b).step = t.linkSettings.maxStep ∧ (t.link b).ceiling = t.linkSettings.maxStep ∧ (t.link b).tap = 16 ∧
      (t.link b).window = none ∧ (t.link b).helloAttempts = 0 ∧ (t.link b).exchange = none) ∧
    (∀ b : BayNo, (s.link b).step ≤ t.linkSettings.maxStep →
      (t.linkSettings.telemetryInterval = s.linkSettings.telemetryInterval ∨ (s.link b).state ≠ .up ∨
        (s.link b).pollRunning = false ∨ s.clk32 < (s.link b).pollLast + t.linkSettings.telemetryInterval →
          t.link b = s.link b) ∧
      (t.linkSettings.telemetryInterval ≠ s.linkSettings.telemetryInterval → (s.link b).state = .up →
        (s.link b).pollRunning = true → (s.link b).pollLast + t.linkSettings.telemetryInterval ≤ s.clk32 →
          (∃ u, exec (.pollInstant b) { s with linkSettings := t.linkSettings } = .next u ∧ t.link b = u.link b) ∧
          (t.link b).pollLast = s.clk32 ∧
          (∀ x : Exchange, (s.link b).exchange = some x → t.link b = { s.link b with
            pollLast := s.clk32, instantPending := some p.retrainInterval.toNat }) ∧
          ((s.link b).exchange = none → (s.link b).custody.waiting = none → (s.link b).lane.waiting = none →
            (s.link b).verify = false → (s.link b).queryDue = false →
              if 2 ≤ (s.link b).step.val ∧ p.retrainInterval.toNat ≠ 0 ∧
                  p.retrainInterval.toNat ≤ (s.link b).retrain then
                (t.link b).state = .training ∧ (t.link b).exchange = some .train
              else (t.link b).state = .up ∧ (t.link b).exchange = some .query)))

/-- R66, R52, R35, R39: an accepted LINK_RESET answers ACCEPTED and begins a fresh bring-up; a FAULT bay that names a record
sets its recovery mark and keeps its fault reason; one that names none becomes BRINGUP, its fault reason, reported ID and
partner gone and the partner released; any other bay stays as it is. A link that is neither FAILED nor UP refuses it. That a
released partner's grant is 0 is the model's reading (notes/assumptions/12.md). -/
def Obligations.LinkResetBeginsAfresh : Prop :=
  ∀ (s : State) (n : Byte) (b : BayNo),
    (36 ≤ n.toNat → Replies (.linkReset n) s .badIndex []) ∧
    (n.toNat = b.val → (s.link b).state ≠ .failed → (s.link b).state ≠ .up →
      Replies (.linkReset n) s .wrongState []) ∧
    (n.toNat = b.val → ((s.link b).state = .failed ∨ (s.link b).state = .up) →
      ∃ t, exec (.linkReset n) s = .next t ∧ t.Says .accepted [] ∧ t.LinkStarts b 0 ∧
        ((s.bay b).state ≠ .fault → s.Untouched t [] []) ∧
        ((s.bay b).state = .fault → (s.bay b).record.isSome = true → (t.bay b).state = .fault ∧
          (t.bay b).recovery = true ∧ (t.bay b).record = (s.bay b).record ∧
          (t.bay b).faultReason = (s.bay b).faultReason ∧ (t.bay b).reportedId = (s.bay b).reportedId ∧
          (t.bay b).partner = (s.bay b).partner ∧ s.Untouched t [] [b]) ∧
        ((s.bay b).state = .fault → (s.bay b).record = none → (t.bay b).state = .bringup ∧
          (t.bay b).faultReason = none ∧ (t.bay b).reportedId = none ∧ (t.bay b).partner = none ∧
          (t.bay b).foreignCause = none ∧ (t.bay b).recovery = false ∧
          ((s.bay b).partner ≠ some b → ∀ p ∈ (s.bay b).partner, s.PartnerReleased t p) ∧
          s.Untouched t [] (b :: (s.bay b).partner.toList)))

/-! ## Settings -/

/-- R69, R112, R128, R153: a settings request with no parameters answers DONE with the settings in force, each number most
significant byte first (R188), and changes nothing; LINK_SETTINGS and EVENT_ENABLE likewise (R51, R186). A write of the lane,
custody or key settings clamps each value into its range, answers CLAMPED if it clamped one and DONE otherwise, with the
settings in force, and changes no other setting; an operand that names no value is refused BAD_REQUEST. Auto-lock is coded ON
0, OFF 1 and invert OFF 0, ON 1 (notes/assumptions/6.md). A write of the key settings that ends a burst leaves WAITING_GAP
with the burst not judged; that the count is then 0 with no candidate and no taker is deduced (notes/assumptions/14.md). -/
def Obligations.SettingsAreReadAndWritten : Prop :=
  (∀ s : State,
    Replies (.linkSettings none) s .done ([byte s.linkSettings.maxStep.val, byte s.linkSettings.minWindow,
      signedByte s.linkSettings.tapOffset, byte s.linkSettings.retrainInterval] ++
        be16 s.linkSettings.telemetryInterval) ∧
    Replies (.budgetSettings none) s .done (be16 s.budget.supplyRating ++ be16 s.budget.foldback ++
      be16 s.budget.overhead ++ be16 s.budget.floorF ++ [byte s.budget.deliveryK] ++ be16 s.budget.bayCeiling ++
      be16 s.budget.defaultTarget ++ be16 s.budget.checkoutMinimum ++ be16 s.budget.wakeReserve ++
      be16 s.budget.driveReserve ++ [byte s.budget.foreignPolicy.ctorIdx]) ∧
    Replies (.laneSettings none) s .done [byte s.laneSettings.failureLimit, byte s.laneSettings.sessionLimit,
      byte s.laneSettings.windowPolicy.ctorIdx] ∧
    Replies (.custodySettings none) s .done ([byte s.custodySettings.authority.ctorIdx,
      if s.custodySettings.autoLock then 0 else 1] ++ be16 s.custodySettings.teacherLength ++
        be16 s.custodySettings.serviceLength ++ be16 s.custodySettings.releaseLength) ∧
    Replies (.keySettings none) s .done [if s.keys.invert then 1 else 0, byte s.keys.period.ctorIdx,
      byte s.keys.gapLimit] ∧
    Replies (.eventEnable none) s .done [s.port.enables.extractLsb' 16 8, s.port.enables.extractLsb' 8 8,
      s.port.enables.extractLsb' 0 8]) ∧
  (∀ (s : State) (p : LaneSettingsParams),
    (p.windowPolicy.toNat < 2 → ∃ t, exec (.laneSettings (some p)) s = .next t ∧
      t.laneSettings.failureLimit = max 1 (min 7 p.failureLimit.toNat) ∧
      t.laneSettings.sessionLimit = max 1 (min 120 p.sessionLimit.toNat) ∧
      t.laneSettings.windowPolicy.ctorIdx = p.windowPolicy.toNat ∧
      t.Says (if t.laneSettings.failureLimit = p.failureLimit.toNat ∧
        t.laneSettings.sessionLimit = p.sessionLimit.toNat then .done else .clamped) t.laneSettings.bytes ∧
      s.RecordsKept t [] ∧ s.BaysKept t [] ∧ t.linkSettings = s.linkSettings ∧ t.budget = s.budget ∧
      t.custodySettings = s.custodySettings ∧ t.keys = s.keys ∧ s.TimeKept t ∧ s.WindowsKept t ∧ s.EventsGrow t) ∧
    (2 ≤ p.windowPolicy.toNat → Replies (.laneSettings (some p)) s .badRequest [])) ∧
  (∀ (s : State) (p : CustodySettingsParams),
    (p.authority.toNat < 2 → p.autoLock.toNat < 2 → ∃ t, exec (.custodySettings (some p)) s = .next t ∧
      t = { s with custodySettings := t.custodySettings, port := { s.port with response := t.port.response } } ∧
      t.custodySettings.authority.ctorIdx = p.authority.toNat ∧
      (t.custodySettings.autoLock = true ↔ p.autoLock = 0) ∧
      t.custodySettings.teacherLength = max 10 (min 600 p.teacherLength.toNat) ∧
      t.custodySettings.serviceLength = max 30 (min 1800 p.serviceLength.toNat) ∧
      t.custodySettings.releaseLength = max 10 (min 300 p.releaseLength.toNat) ∧
      t.Says (if t.custodySettings.teacherLength = p.teacherLength.toNat ∧
        t.custodySettings.serviceLength = p.serviceLength.toNat ∧
        t.custodySettings.releaseLength = p.releaseLength.toNat then .done else .clamped) t.custodySettings.bytes) ∧
    (2 ≤ p.authority.toNat ∨ 2 ≤ p.autoLock.toNat → Replies (.custodySettings (some p)) s .badRequest [])) ∧
  (∀ (s : State) (p : KeySettingsParams),
    (p.invert.toNat < 2 → p.period.toNat < 4 → ∃ t, exec (.keySettings (some p)) s = .next t ∧
      t = { s with keys := t.keys, port := { s.port with response := t.port.response } } ∧
      (t.keys.invert = true ↔ p.invert = 1) ∧ t.keys.period.ctorIdx = p.period.toNat ∧
      t.keys.gapLimit = max 16 (min 127 p.gapLimit.toNat) ∧ t.keys.entries = s.keys.entries ∧
      t.keys.failures = s.keys.failures ∧ t.keys.lockout = s.keys.lockout ∧
      (t.keys.invert = s.keys.invert ∧ t.keys.period = s.keys.period → t.keys.burst = s.keys.burst) ∧
      (¬(t.keys.invert = s.keys.invert ∧ t.keys.period = s.keys.period) → t.keys.burst = .waitingGap ∧
        t.keys.count = 0 ∧ t.keys.candidates = [] ∧ t.keys.judged = false ∧ t.keys.taker = none) ∧
      t.Says (if t.keys.gapLimit = p.gapLimit.toNat then .done else .clamped) t.keys.settingsBytes) ∧
    (2 ≤ p.invert.toNat ∨ 4 ≤ p.period.toNat → Replies (.keySettings (some p)) s .badRequest []))

/-! ## The budget and the power stages -/

/-- R69, R70, R71, R91, R104: a write of the budget settings clamps each value into its range, the foldback budget against
the supply rating written with it, and answers CLAMPED or DONE with the settings in force. A write and a change of
SUPPLY_LIMIT recompute B_eff: the base, the smaller of rating and foldback under SUPPLY_LIMIT, less the overhead, or 0. A
fall of B_eff while a pass is applied ends that pass early: increases in motion are restored to their settled setpoints, what
the decreasing phase had admitted is PENDING again, no target stays, and the next pass is taken at once. Any other change of
B_eff, and a write that changes the floor, the delivery factor, the bay ceiling or the foreign policy, is a reallocation
request; nothing else is. -/
def Obligations.BudgetFollowsItsSettingsAndTheSupply : Prop :=
  (∀ (s : State) (p : BudgetSettingsParams),
    (p.foreignPolicy.toNat < 2 → ∃ t, exec (.budgetSettings (some p)) s = .next t ∧
      t.budget.supplyRating = max 500 (min 20000 p.supplyRating.toNat) ∧
      t.budget.foldback = min t.budget.supplyRating p.foldback.toNat ∧
      t.budget.overhead = min 2000 p.overhead.toNat ∧ t.budget.floorF = max 5 (min 25 p.floorF.toNat) ∧
      t.budget.deliveryK = max 100 (min 150 p.deliveryK.toNat) ∧
      t.budget.bayCeiling = max 50 (min 1000 p.bayCeiling.toNat) ∧
      t.budget.defaultTarget = max 200 (min 1000 p.defaultTarget.toNat) ∧
      t.budget.checkoutMinimum = min 1000 p.checkoutMinimum.toNat ∧
      t.budget.wakeReserve = max 10 (min 100 p.wakeReserve.toNat) ∧
      t.budget.driveReserve = max 20 (min 100 p.driveReserve.toNat) ∧
      t.budget.foreignPolicy.ctorIdx = p.foreignPolicy.toNat ∧
      t.effective = (if s.supplyLimit then min t.budget.supplyRating t.budget.foldback else t.budget.supplyRating) -
        t.budget.overhead ∧
      t.Says (if t.budget.supplyRating = p.supplyRating.toNat ∧ t.budget.foldback = p.foldback.toNat ∧
        t.budget.overhead = p.overhead.toNat ∧ t.budget.floorF = p.floorF.toNat ∧
        t.budget.deliveryK = p.deliveryK.toNat ∧ t.budget.bayCeiling = p.bayCeiling.toNat ∧
        t.budget.defaultTarget = p.defaultTarget.toNat ∧ t.budget.checkoutMinimum = p.checkoutMinimum.toNat ∧
        t.budget.wakeReserve = p.wakeReserve.toNat ∧ t.budget.driveReserve = p.driveReserve.toNat
        then .done else .clamped) t.budget.bytes ∧
      s.RecordsKept t [] ∧ s.BaysKept t [] ∧ t.supplyLimit = s.supplyLimit ∧ t.linkSettings = s.linkSettings ∧
      t.laneSettings = s.laneSettings ∧ t.custodySettings = s.custodySettings ∧ t.keys = s.keys ∧ s.TimeKept t ∧
      s.WindowsKept t ∧ s.EventsGrow t) ∧
    (2 ≤ p.foreignPolicy.toNat → Replies (.budgetSettings (some p)) s .badRequest [])) ∧
  (∀ (s : State) (v : Bool), ∃ t, exec (.supplyLimitChange v) s = .next t ∧ t.supplyLimit = v ∧
    t.effective = (if v then min s.budget.supplyRating s.budget.foldback else s.budget.supplyRating) -
      s.budget.overhead ∧
    s.RecordsKept t [] ∧ s.BaysKept t [] ∧ s.SettingsKept t ∧ t.keys = s.keys ∧ s.TimeKept t ∧ s.WindowsKept t ∧
    s.EventsGrow t ∧ t.port.response = s.port.response) ∧
  ∀ (s u : State) (c : Instr) (set : BudgetSettings) (v asks : Bool) (e : Nat),
    (c = .supplyLimitChange v ∧ set = s.budget ∨
      ∃ (p : BudgetSettingsParams) (policy : ForeignPolicy), c = .budgetSettings (some p) ∧
        p.foreignPolicy.toNat = policy.ctorIdx ∧ set = BudgetSettings.clamp p policy ∧ v = s.supplyLimit) →
    e = (if v then min set.supplyRating set.foldback else set.supplyRating) - set.overhead →
    (asks = true ↔ e ≠ s.effective ∨ set.floorF ≠ s.budget.floorF ∨ set.deliveryK ≠ s.budget.deliveryK ∨
      set.bayCeiling ≠ s.budget.bayCeiling ∨ set.foreignPolicy ≠ s.budget.foreignPolicy) →
    u.GrantsNone →
      (e < s.effective → s.phase ≠ .idle → (∃ b : BayNo, (s.output b).inMotion = true) → s.EndedEarly u set v e →
        ∃ t, exec c s = .next t ∧ u.PassTakenAt t ∧ t.phase = .decreasing ∧ t.passPending = false ∧
          t.reservations = u.takePass.reservations ∧ ∀ b : BayNo, t.output b = u.takePass.output b) ∧
      (asks = true → s.phase = .idle ∨ s.effective ≤ e → s.reservations = [] → s.Rebudgeted u set v e →
        ∃ t, exec c s = .next t ∧ s.RequestServed u t) ∧
      (asks = false → s.reallocRequest = false → (s.phase = .idle ∨ ∃ b : BayNo, (s.output b).inMotion = true) →
        s.Rebudgeted u set v e →
          ∃ t, exec c s = .next t ∧ t.figures = s.figures ∧ t.passPending = s.passPending ∧ t.phase = s.phase ∧
            ∀ b : BayNo, t.output b = s.output b)

/-- R91, R96, R98, R99, R117, R137: while another bay is in motion in the decreasing phase, a settled report that names the
issued setpoint in motion confirms it and any other is discarded, and no other output changes. The report that confirms the
last one in motion ends the phase: no reservation stays ADMITTED, and every bay whose target lies above its settled setpoint
is issued it; a lane whose reservation was ADMITTED is WAKING, its switch closed and WAKE placed, and a drive slot whose
reservation was drives its latch, or has completed at a latch at its target. With no increase to issue, and at the last
report of the increasing phase, the pass ends: every target is removed and the sequencer is IDLE. -/
def Obligations.SettledReportsConfirmAndEndThePhase : Prop :=
  (∀ (s : State) (b c : BayNo) (v : Half), s.phase = .decreasing → c ≠ b → (s.output c).inMotion = true →
    ∃ t, exec (.settledReport b v) s = .next t ∧ t.phase = .decreasing ∧ s.Untouched t [] [] ∧
      (∀ a : BayNo, a ≠ b → t.output a = s.output a) ∧
      ((s.output b).inMotion = true → v.toNat = (s.output b).issued →
        t.output b = { s.output b with settled := v.toNat, inMotion := false }) ∧
      ((s.output b).inMotion = false ∨ v.toNat ≠ (s.output b).issued → t.output b = s.output b)) ∧
  (∀ (s : State) (b : BayNo) (v : Half) (o : BayNo → Output), s.phase = .decreasing → (s.output b).inMotion = true →
    v.toNat = (s.output b).issued → (∀ c : BayNo, c ≠ b → (s.output c).inMotion = false) →
    (∀ a : BayNo, o a = if a = b then { s.output b with settled := v.toNat, inMotion := false } else s.output a) →
    ((∃ (a : BayNo) (w : Nat), (o a).target = some w ∧ (o a).settled < w) →
      ∃ t, exec (.settledReport b v) s = .next t ∧ t.phase = .increasing ∧ s.Untouched t [] [] ∧
        (∀ e ∈ t.reservations, e.state ≠ .admitted) ∧
        ∀ a : BayNo,
          (∀ w : Nat, (o a).target = some w → (o a).settled < w →
            t.output a = { o a with issued := w, inMotion := true, closed := true }) ∧
          ((∀ w : Nat, (o a).target = some w → w ≤ (o a).settled) → t.output a = o a)) ∧
    ((∀ (a : BayNo) (w : Nat), (o a).target = some w → w ≤ (o a).settled) → s.passPending = false →
      s.reallocRequest = false → (∀ e ∈ s.reservations, e.state ≠ .admitted) → s.GrantsNone →
        ∃ t, exec (.settledReport b v) s = .next t ∧ t.phase = .idle ∧ s.Untouched t [] [] ∧
          ∀ a : BayNo, t.output a = { o a with target := none })) ∧
  (∀ (s : State) (b : BayNo) (v : Half) (e : Reservation), s.phase = .decreasing → (s.output b).inMotion = true →
    v.toNat = (s.output b).issued → (∀ c : BayNo, c ≠ b → (s.output c).inMotion = false) → e ∈ s.reservations →
    e.state = .admitted → s.NamingLaw → s.LaneLaw → s.LatchLaw →
      ∃ t, exec (.settledReport b v) s = .next t ∧
        (∀ (l : LaneNo) (x : Session), e.owner = .lane l → (s.lane l).session = some x → x.phase = .admitting →
          t.lane l = { s.lane l with session := some { x with phase := .waking }, switch := some x.bay } ∧
          { e with state := .active } ∈ t.reservations ∧
          ((s.link x.bay).state ≠ .down → t.LaneOrdered x.bay (.wake l))) ∧
        (∀ (k : SlotNo) (p : LatchRequest), e.owner = .latch k → s.slot k = .reserving p →
          ((s.bay p.bay).latch ≠ p.direction.target → (s.bay p.bay).targetClosed p.direction = false →
            t.slot k = .driving p ∧ (t.bay p.bay).latch = .moving ∧ { e with state := .active } ∈ t.reservations) ∧
          ((s.bay p.bay).latch = p.direction.target ∨ (s.bay p.bay).targetClosed p.direction = true →
            s.latchQueue = [] →
              t.slot k = .free ∧ (t.bay p.bay).latch = p.direction.target ∧
                ∀ f ∈ t.reservations, f.owner ≠ .latch k))) ∧
  ∀ (s : State) (b : BayNo) (v : Half), s.phase = .increasing → (s.output b).inMotion = true →
    v.toNat = (s.output b).issued → (∀ c : BayNo, c ≠ b → (s.output c).inMotion = false) → s.passPending = false →
    s.reallocRequest = false → s.GrantsNone →
      ∃ t, exec (.settledReport b v) s = .next t ∧ t.phase = .idle ∧ s.Untouched t [] [] ∧
        t.output b = { s.output b with settled := v.toNat, inMotion := false, target := none } ∧
        ∀ a : BayNo, a ≠ b → t.output a = { s.output a with target := none }

/-- R100, R101, R102, R35, R38: the settle timer's expiry, and a fault signal while the switch is CLOSED, cut the bay: its
output is dropped, its charge state is CUT, it is in FAULT(OUTPUT) and keeps the record it names, a FOREIGN or COLLIDED bay
loses its identity and a COLLIDED one releases its partner, and an OUTPUT_FAULT subject is added. A fault signal while the
switch is OPEN changes nothing. That a released partner's grant is 0 is the model's reading (notes/assumptions/12.md). -/
def Obligations.CutsDropTheOutput : Prop :=
  ∀ (s : State) (b : BayNo) (c : Instr),
    (c = .settleTimeout b ∧ (s.output b).inMotion = true ∨ c = .stageFaultSignal b ∧ (s.output b).closed = true →
      ∃ t, exec c s = .next t ∧ t.OutputDropped b .cut ∧ (t.bay b).state = .fault ∧
        (t.bay b).faultReason = some .output ∧ (t.bay b).record = (s.bay b).record ∧ t.Holds Source.outputFault b.val ∧
        ((s.bay b).partner ≠ some b → s.IdentityLost t b) ∧
        s.Untouched t [] (b :: (s.bay b).partner.toList)) ∧
    (c = .stageFaultSignal b → (s.output b).closed = false → exec c s = .next s)

/-- R107, R168: each second adds every named bay's settled setpoint to its remainder and carries whole units of 3600 into the
record's energy delivered, which stays at 65535; nothing else changes but the count of whole CLK32 seconds, which rises by 1
and is the model's (notes/assumptions/2.md). -/
def Obligations.EnergyIsAccountedEachSecond : Prop :=
  ∀ s : State, s.NamingLaw → ∃ t, exec .energyAccountingTick s = .next t ∧
    t = { s with outputs := t.outputs, roster := t.roster, clk32 := s.clk32 + 1 } ∧
    (∀ b : BayNo, t.output b = { s.output b with remainder := (t.output b).remainder }) ∧
    (∀ i : RecordIx, t.record i = { s.record i with energy := (t.record i).energy }) ∧
    (∀ b : BayNo, (s.bay b).record = none → t.output b = s.output b) ∧
    (∀ i : RecordIx, (s.record i).currentBay = none → t.record i = s.record i) ∧
    ∀ (b : BayNo) (i : RecordIx), (s.bay b).record = some i →
      (t.output b).remainder = ((s.output b).remainder + (s.output b).settled) % 3600 ∧
      (t.record i).energy =
        min 65535 ((s.record i).energy + ((s.output b).remainder + (s.output b).settled) / 3600)

/-- R88, R75, R76, R77, R78, R85: the grants of a pass. Bays out of the pass are granted 0, every grant is at most the bay's
limit, the grants sum to at most B, and exactly B in stage 7; where B covers the floors, every bay of the pass is granted at
least F. And the requests: an AMEND of target charge or ready-by, a flag request that changes CHARGE_INHIBIT or URGENT, and a
TELEMETRY that passes the test take a pass at once in IDLE, and set pass pending while a pass is applied; a TELEMETRY that
does not pass it takes none. AMEND's field codes, 0 for target charge and 1 for ready-by, are the model's
(notes/assumptions/6.md). -/
def Obligations.GrantsOfAPassFitTheBudget : Prop :=
  (∀ (s t : State), t = s.takePass →
    (∀ b : BayNo, s.disposition b ≠ .full → s.disposition b ≠ .floor → (t.bay b).grant = 0) ∧
    (∀ b : BayNo, s.disposition b = .full ∨ s.disposition b = .floor →
      (∃ a : Nat, (t.entry b).limit = some a ∧ (t.bay b).grant ≤ a) ∧
      (t.figures.count * s.budget.floorF ≤ t.figures.budget → s.budget.floorF ≤ (t.bay b).grant)) ∧
    (allBays.map fun b => (t.bay b).grant).sum ≤ t.figures.budget ∧
    (t.figures.result = .scaled → (allBays.map fun b => (t.bay b).grant).sum = t.figures.budget) ∧
    (t.figures.result = .floorsShort →
      (allBays.map fun b => (t.bay b).grant).sum ≤ t.figures.budget / s.budget.floorF * s.budget.floorF)) ∧
  (∀ (s u : State) (n f new : Byte) (v : Half) (i : RecordIx) (c : Instr), n.toNat = i.val →
    (s.record i).custody ≠ .free →
    (c = .amend n 0 (some v) ∧ 200 ≤ v.toNat ∧ v.toNat ≤ 1000 ∧
        u = s.putRecord i { s.record i with target := v.toNat } ∨
      c = .amend n 1 none ∧ u = s.putRecord i { s.record i with readyBy := none } ∨
      (∃ m : Minute, c = .amend n 1 (some v) ∧ v.toNat = m.val ∧
        u = s.putRecord i { s.record i with readyBy := some m }) ∨
      (c = .flagSwap n f ∧ new = f ∨ c = .flagAnd n f ∧ new = (s.record i).flags &&& f ∨
        c = .flagOr n f ∧ new = (s.record i).flags ||| f) ∧
        (new.getLsbD 0 ≠ (s.record i).flags.getLsbD 0 ∨ new.getLsbD 1 ≠ (s.record i).flags.getLsbD 1) ∧
        u = s.putRecord i { s.record i with
          flags := new
          misplaced := new.getLsbD 4 && (s.record i).homeBay.isSome && (s.record i).currentBay.isSome &&
            (s.record i).homeBay != (s.record i).currentBay }) →
    u.GrantsNone → s.reservations = [] → ∃ t, exec c s = .next t ∧ s.RequestServed u t) ∧
  ∀ (s u : State) (b : BayNo) (p : TelemetryReply) (i : RecordIx) (charge : Nat) (temp : Int) (hot : Bool),
    (s.link b).exchange = some .query → (s.link b).verify = false → (s.bay b).record = some i →
    charge = min 1000 p.charge.toNat → temp = max (-20) (min 85 p.temperature.toInt) →
    hot = (if 55 ≤ temp then true else if temp < 50 then false else (s.entry b).hot) →
    u = (s.putRecord i { s.record i with
      lastCharge := some charge, lastTemp := some temp, profileHeld := some p.profileHeld }).setEntry b
        { s.entry b with hot := hot } →
    u.GrantsNone → s.reservations = [] →
      ((∀ x ∈ (s.entry b).chargeSeen, x + 10 ≤ charge ∨ charge + 10 ≤ x) ∨
        (s.entry b).bandSeen ≠ some (if 45 ≤ temp then .derated else .normal) ∨ hot ≠ (s.entry b).hot →
          ∃ t, exec (.telemetryTaken b p) s = .next t ∧ s.RequestServed u t) ∧
      ((∃ x ∈ (s.entry b).chargeSeen, charge < x + 10 ∧ x < charge + 10) →
        (s.entry b).bandSeen = some (if 45 ≤ temp then .derated else .normal) → hot = (s.entry b).hot →
        s.reallocRequest = false → (s.phase = .idle ∨ ∃ c : BayNo, (s.output c).inMotion = true) →
          ∃ t, exec (.telemetryTaken b p) s = .next t ∧ t.figures = s.figures ∧ t.passPending = s.passPending ∧
            t.phase = s.phase)

/-- R80 to R84: the figures of a full-class bay in a pass, and the urgency order of two such bays: URGENT first, then fewer
minutes, then more energy, then the lower bay. -/
def Obligations.PassFiguresFollowTheStages : Prop :=
  (∀ (s t : State) (b : BayNo) (i : RecordIx) (charge capacity acceptance a E m : Nat), t = s.takePass →
    s.disposition b = .full → (s.bay b).record = some i → (s.record i).lastCharge = some charge →
    (s.record i).capacity = some capacity → (s.record i).acceptance = some acceptance →
    a = max s.budget.floorF (min (min acceptance s.budget.bayCeiling)
      (match (s.record i).lastTemp with
        | some x => if 45 ≤ x then acceptance / 2 else acceptance
        | none => acceptance)) →
    E = (capacity * ((s.record i).target - charge) * s.budget.deliveryK + 99999) / 100000 →
    m = (if s.clock.timeValid = false then 720
      else match (s.record i).readyBy with
        | some y => max 5 (min 720 (if s.clock.minute < y then y.val - s.clock.minute.val
            else y.val + 1440 - s.clock.minute.val))
        | none => max 5 (min 720 (s.clock.nextDeadline.getD 720))) →
      (t.entry b).limit = some a ∧ (t.entry b).energy = some E ∧ (t.entry b).minutes = some m ∧
        (t.entry b).required = some (max s.budget.floorF (min a ((E * 60 + (m - 1)) / m)))) ∧
  (∀ (s t : State) (b c : BayNo) (i j : RecordIx) (kb kc Eb Ec mb mc : Nat), t = s.takePass → b ≠ c →
    s.disposition b = .full → s.disposition c = .full → (s.bay b).record = some i → (s.bay c).record = some j →
    (t.entry b).rank = some kb → (t.entry c).rank = some kc → (t.entry b).energy = some Eb →
    (t.entry c).energy = some Ec → (t.entry b).minutes = some mb → (t.entry c).minutes = some mc →
      (kb < kc ↔ (s.record i).urgent = true ∧ (s.record j).urgent = false ∨
        (s.record i).urgent = (s.record j).urgent ∧
          (mb < mc ∨ mb = mc ∧ (Ec < Eb ∨ Eb = Ec ∧ b < c))))

/-- R90: the admission walk keeps every entry in its place, and changes it at most from PENDING to ADMITTED; at most two
LATCH entries count; the amounts that count stay within B_eff; and every PENDING entry is admitted exactly if it fits beside
the entries that count, those admitted before it in the walk among them. -/
def Obligations.AdmissionJudgesInListOrder : Prop :=
  ∀ (effective floors : Nat) (l : List Reservation),
    List.Forall₂ (fun e f => f = e ∨ e.state = .pending ∧ f = { e with state := .admitted }) l
      (admitAll effective floors l) ∧
    (countedLatches l ≤ 2 → countedLatches (admitAll effective floors l) ≤ 2) ∧
    (countedAmount l ≤ effective → countedAmount (admitAll effective floors l) ≤ effective) ∧
    ∀ (before after sofar : List Reservation) (e : Reservation), l = before ++ e :: after → e.state = .pending →
      sofar = (admitAll effective floors l).take before.length ++ e :: after →
        (∀ k : SlotNo, e.owner = .latch k →
          ((admitAll effective floors l)[before.length]? = some { e with state := .admitted } ↔
            countedLatches sofar < 2 ∧ countedAmount sofar + e.amount ≤ effective)) ∧
        (∀ k : LaneNo, e.owner = .lane k →
          ((admitAll effective floors l)[before.length]? = some { e with state := .admitted } ↔
            countedAmount sofar + e.amount + floors ≤ effective))

/-! ## Lanes -/

/-- R120, R123, R118, R119, R125, R62: LANE_DONE takes a CONNECTED session to CLOSING with the claimed generation, its switch
open, QUIET placed and a verification asked for; LANE_CANCEL ends a session that is not CLOSING CANCELLED; the WAKE and
session timers end theirs WAKE_FAILED and TIMED_OUT, each a failure counted against the record. Where no lane is granted in
its place, an ended session leaves the lane IDLE, its switch open, its reservation gone and, if it was on its lane, QUIET
placed. A lane in another state answers STALE: LANE_DONE in ADMITTING, WAKING, CLOSING and IDLE, LANE_CANCEL in CLOSING and
IDLE. -/
def Obligations.LaneSessionsCloseAndEnd : Prop :=
  ∀ (s : State) (n g : Byte) (l : LaneNo) (x : Session) (k : Nat),
    (n.toNat = l.val → (s.lane l).session = some x → x.phase = .connected k →
      ∃ t, exec (.laneDone n g) s = .next t ∧ t.Says .done [] ∧
        (t.lane l).session = some { x with phase := .closing g } ∧ (t.lane l).switch = none ∧
        (t.link x.bay).verify = true ∧ s.Untouched t [] [] ∧
        (s.NamingLaw → s.LaneLaw → (s.link x.bay).state ≠ .down → t.LaneOrdered x.bay .quiet)) ∧
    (n.toNat = l.val → (s.lane l).session = some x → (∀ c : Byte, x.phase ≠ .closing c) →
      ∃ t, exec (.laneCancel n) s = .next t ∧ t.Says .done [] ∧
        (t.lane l).last = some ⟨.cancelled, x.record, none⟩ ∧ t.Holds Source.laneEnd l.val ∧ s.Untouched t [] [] ∧
        s.LaneFreed t l x) ∧
    (∀ (c : Instr) (r : SessionResult), (s.lane l).session = some x → (s.record x.record).custody ≠ .free →
      (c = .wakeTimeout l ∧ x.phase = .waking ∧ r = .wakeFailed ∨
        c = .sessionTimeout l ∧ x.phase = .connected k ∧ r = .timedOut) →
      ∃ t, exec c s = .next t ∧ (t.lane l).last = some ⟨r, x.record, none⟩ ∧ t.Holds Source.laneEnd l.val ∧
        s.Writes t x.record { s.record x.record with
          failureCount := min 7 ((s.record x.record).failureCount + 1)
          provStuck := (s.record x.record).provStuck ||
            decide (s.laneSettings.failureLimit ≤ min 7 ((s.record x.record).failureCount + 1)) } ∧
        s.LaneFreed t l x) ∧
    (n.toNat = l.val → (s.lane l).session = none ∨ (∃ c : Byte, (s.lane l).session = some x ∧ x.phase = .closing c) →
      Replies (.laneDone n g) s .stale [] ∧ Replies (.laneCancel n) s .stale []) ∧
    (n.toNat = l.val → (s.lane l).session = some x → x.phase = .admitting ∨ x.phase = .waking →
      Replies (.laneDone n g) s .stale []) ∧
    (4 ≤ n.toNat → Replies (.laneDone n g) s .badIndex [] ∧ Replies (.laneCancel n) s .badIndex [])

/-! ## Custody -/

/-- R143, R144, R135: a CHECKOUT that passes its checks answers ACCEPTED, makes the record RELEASING with the holder tag,
creates the bay's release entry, asks for the UNLOCK, and ends the record's lane session, if preempt allows one,
PREEMPTED. -/
def Obligations.CheckoutBeginsARelease : Prop :=
  ∀ (s : State) (n : Byte) (i : RecordIx) (b : BayNo) (h : Half) (preempt override : Bool) (charge : Nat),
    n.toNat = i.val → h ≠ 0 → (s.record i).custody = .inCart → (s.record i).currentBay = some b →
    (s.bay b).record = some i →
    (s.custodySettings.authority = .host ∨ s.teacher.isSome = true ∨ s.service.isSome = true) →
    (s.record i).flags.getLsbD 2 = false → (s.record i).misplaced = false → (s.record i).lastCharge = some charge →
    (override = true ∨ s.budget.checkoutMinimum ≤ charge) → (preempt = true ∨ s.laneOf i = none) →
      ∃ t, exec (.checkout n h preempt override) s = .next t ∧ t.Says .accepted [] ∧
        s.Writes t i { s.record i with custody := .releasing, holder := some h.toNat } ∧
        (t.release b).map Release.record = some i ∧ (s.LatchOrderly b → t.LatchAsked b .unlock) ∧
        ∀ (l : LaneNo) (x : Session), s.laneOf i = some l → (s.lane l).session = some x →
          (t.lane l).last = some ⟨.preempted, x.record, x.phase.claimed⟩ ∧ t.Holds Source.laneEnd l.val

/-- R147, R62, R135: CANCEL_RELEASE, in either phase, and the expiry of an OPEN release's window make the release lapse: the
record is IN_CART without a holder tag, RELEASE_LAPSED names it, the entry is gone, LOCK is placed in the bay's custody slot,
where it replaces a RELEASE that waits, and a LOCK is asked for unless the service window is open. -/
def Obligations.LapsedReleasesReturnToTheCart : Prop :=
  ∀ (s : State) (c : Instr) (i : RecordIx) (b : BayNo),
    ((∃ n : Byte, c = .cancelRelease n ∧ n.toNat = i.val ∧ (s.record i).custody = .releasing ∧
        (s.record i).currentBay = some b) ∨
      ∃ (e : Nat) (o : OrderOutcome), c = .releaseWindowExpiry b ∧ s.release b = some ⟨i, .opened e o⟩) →
      ∃ t, exec c s = .next t ∧ s.Writes t i { s.record i with custody := .inCart, holder := none } ∧
        t.Holds Source.releaseLapsed i.val ∧ t.release b = none ∧
        ((∃ n : Byte, c = .cancelRelease n) → t.Says .done []) ∧
        ((s.link b).state ≠ .down → t.CustodyOrdered b .lock) ∧
        (s.service = none → s.LatchOrderly b → t.LatchAsked b .lock)

/-- R139, R129, R135: LATCH is checked in order; accepted, it answers ACCEPTED and asks for the move. The direction is coded
LOCK 0, UNLOCK 1 (notes/assumptions/6.md). -/
def Obligations.LatchAsksForAMove : Prop :=
  ∀ (s : State) (n f : Byte) (b : BayNo) (d : Direction),
    (36 ≤ n.toNat → Replies (.latch n f) s .badIndex []) ∧
    (n.toNat = b.val → 2 ≤ f.toNat → Replies (.latch n f) s .badRequest []) ∧
    (n.toNat = b.val → f.toNat = d.ctorIdx → (s.bay b).populated = false → Replies (.latch n f) s .wrongState []) ∧
    (n.toNat = b.val → f.toNat = d.ctorIdx → (s.bay b).populated = true → s.custodySettings.authority = .key →
      s.service = none → Replies (.latch n f) s .notAuthorised []) ∧
    (n.toNat = b.val → f.toNat = d.ctorIdx → (s.bay b).populated = true →
      (s.custodySettings.authority = .host ∨ s.service.isSome = true) →
      ((∃ i : RecordIx, (s.bay b).record = some i ∧ (s.record i).custody = .releasing) →
        Replies (.latch n f) s .wrongState []) ∧
      ((∀ i : RecordIx, (s.bay b).record = some i → (s.record i).custody ≠ .releasing) →
        ∃ t, exec (.latch n f) s = .next t ∧ t.Says .accepted [] ∧ s.Untouched t [] [] ∧
          (s.LatchOrderly b → t.LatchAsked b d)))

/-- R130 to R133, R152, R167: each window closes at its expiry, the teacher window with no other effect and the service
window asking for a LOCK of every bay that names an IN_CART, HELD or RETIRING record and is not LOCKED; a window restarted at
that moment does not close, which lasts to the next CLK32 second (notes/assumptions/3.md). An edge of SERVICE opens or
restarts the service window, makes SERVICE pending and, where the window was closed, asks for an UNLOCK of every populated
bay. An expiry is a whole CLK32 second (notes/assumptions/2.md). -/
def Obligations.WindowsCloseAndServiceOpens : Prop :=
  (∀ (s : State) (e : Nat) (r : Option Nat), s.teacher = some ⟨e, r⟩ →
    ((∀ x ∈ r, x + 1 < s.clk32) → exec .teacherWindowExpiry s = .next { s with teacher := none }) ∧
    ((∃ x ∈ r, s.clk32 ≤ x + 1) → exec .teacherWindowExpiry s = .next { s with teacher := some ⟨e, none⟩ })) ∧
  (∀ s : State, s.teacher = none → exec .teacherWindowExpiry s = .next s) ∧
  (∀ (s : State) (v : Bool), exec (.serviceInputChange v) s = .next { s with serviceInput := v }) ∧
  (∀ (s : State) (e : Nat) (r : Option Nat), s.service = some ⟨e, r⟩ →
    ((∃ x ∈ r, s.clk32 ≤ x + 1) → exec .serviceWindowExpiry s = .next { s with service := some ⟨e, none⟩ }) ∧
    ((∀ x ∈ r, x + 1 < s.clk32) → ∃ t, exec .serviceWindowExpiry s = .next t ∧ t.service = none ∧
      t.teacher = s.teacher ∧ s.RecordsKept t [] ∧ s.BaysKept t [] ∧ s.SettingsKept t ∧ s.TimeKept t ∧
      t.keys = s.keys ∧ s.EventsGrow t ∧
      ∀ (b : BayNo) (i : RecordIx), (s.bay b).record = some i → s.LatchOrderly b → (s.bay b).latch ≠ .locked →
        ((s.record i).custody = .inCart ∨ (s.record i).custody = .held ∨ (s.record i).custody = .retiring) →
          t.LatchAsked b .lock)) ∧
  (∀ s : State, s.service = none → exec .serviceWindowExpiry s = .next s) ∧
  (∀ s : State, s.serviceInput = false → s.serviceLevel = true →
    exec .serviceEdge s = .next { s with serviceLevel := false }) ∧
  (∀ s : State, s.serviceInput = s.serviceLevel → exec .serviceEdge s = .next s) ∧
  (∀ s : State, s.serviceInput = true → s.serviceLevel = false → ∃ t, exec .serviceEdge s = .next t ∧
    t.service = some ⟨s.clk32 + s.custodySettings.serviceLength, if s.service.isSome then some s.clk32 else none⟩ ∧
    t.serviceLevel = true ∧ t.teacher = s.teacher ∧
    t.Holds Source.service 0 ∧ s.RecordsKept t [] ∧ s.BaysKept t [] ∧ s.SettingsKept t ∧ s.TimeKept t ∧
    t.keys = s.keys ∧ s.EventsGrow t ∧
    ∀ b : BayNo, (s.bay b).populated = true → s.service = none → (s.slotHolds b = false ∨ s.LatchLaw) →
      t.LatchAsked b .unlock)

/-- R134, R138, R145, R148, R62: with no request for the bay, a change of a position switch re-derives its position by the
table. A drive whose target switch closes succeeds: the position is the target, a LOCK clears UNSECURED, and an UNLOCK opens
a release that is UNLOCKING and places RELEASE with the holder tag. A drive whose timer expires fails with a LATCH_FAULT
subject: a LOCK sets UNSECURED of an IN_CART record, and an UNLOCK ends a release that is UNLOCKING, with LOCK placed, and
asked while the service window is closed. With no request waiting, an ended drive leaves its slot FREE and its reservation
gone. An expiry is a whole CLK32 second (notes/assumptions/2.md). -/
def Obligations.DrivesEndBySwitchOrTimer : Prop :=
  (∀ (s : State) (b : BayNo) (x y : Bool), s.LatchIdle b →
    (x ≠ (s.bay b).lockedSwitch ∨ y ≠ (s.bay b).unlockedSwitch) →
      ∃ t, exec (.latchSwitchChange b x y) s = .next t ∧ (t.bay b).lockedSwitch = x ∧ (t.bay b).unlockedSwitch = y ∧
        (t.bay b).latch = (if x = true ∧ y = false then .locked else if x = false ∧ y = true then .unlocked
          else .unknown) ∧ s.Untouched t [] [b]) ∧
  (∀ (s : State) (b : BayNo) (k : SlotNo) (d : Direction) (x y : Bool), s.slot k = .driving ⟨b, d⟩ →
    (∀ j : SlotNo, j ≠ k → (s.slot j).request.map LatchRequest.bay ≠ some b) → (∀ q ∈ s.latchQueue, q.bay ≠ b) →
    (x ≠ (s.bay b).lockedSwitch ∨ y ≠ (s.bay b).unlockedSwitch) →
    (match d with | .lock => x = true | .unlock => y = true) →
      ∃ t, exec (.latchSwitchChange b x y) s = .next t ∧ (t.bay b).latch = d.target ∧ s.Untouched t [] [b] ∧
        (s.latchQueue = [] → t.slot k = .free ∧ ∀ e ∈ t.reservations, e.owner ≠ .latch k) ∧
        (∀ i : RecordIx, d = .lock → (s.bay b).record = some i → (t.record i).unsecured = false) ∧
        (∀ i : RecordIx, d = .unlock → (s.bay b).record = some i → (s.record i).custody = .releasing →
          s.release b = some ⟨i, .unlocking⟩ →
          t.release b = some ⟨i, .opened (s.clk32 + s.custodySettings.releaseLength) .waiting⟩ ∧
          ((s.link b).state ≠ .down → ∀ h : Nat, (s.record i).holder = some h → t.CustodyOrdered b (.release h)))) ∧
  (∀ (s : State) (b : BayNo) (k : SlotNo) (d : Direction), s.slot k = .driving ⟨b, d⟩ →
    (∀ j : SlotNo, j ≠ k → (s.slot j).request.map LatchRequest.bay ≠ some b) → (∀ q ∈ s.latchQueue, q.bay ≠ b) →
      ∃ t, exec (.driveTimeout k) s = .next t ∧ t.Holds Source.latchFault b.val ∧
        (d = .lock → (t.bay b).latch = .unknown) ∧
        (d = .lock → s.latchQueue = [] → t.slot k = .free ∧ ∀ e ∈ t.reservations, e.owner ≠ .latch k) ∧
        (∀ i : RecordIx, d = .lock → (s.bay b).record = some i → (s.record i).custody = .inCart →
          (∀ c : BayNo, (s.bay c).record = some i → c = b) → (t.record i).unsecured = true) ∧
        (∀ i : RecordIx, d = .unlock → (s.bay b).record = some i → (s.record i).custody = .releasing →
          s.release b = some ⟨i, .unlocking⟩ → t.release b = none ∧ t.Holds Source.releaseLapsed i.val ∧
            ((s.link b).state ≠ .down → t.CustodyOrdered b .lock) ∧ (s.service = none → t.LatchAsked b .lock) ∧
            s.Writes t i { s.record i with custody := .inCart, holder := none }))

/-! ## Keys -/

/-- R157, R159, R160, R163: LEARN_KEY makes an entry LEARNING and suspends matching; SET_KEY rewrites a VALID entry but for
its pattern and last result; ERASE_KEY makes an entry EMPTY. A VALID entry that is rewritten or erased leaves the candidate set
of the burst in progress, while the others and the judged mark stay; after the erasing of a LEARNING entry no one takes that
burst. No other entry and no other block changes. Each is refused in
the order of its checks: LEARN_KEY BAD_INDEX, BAD_REQUEST, OUT_OF_RANGE, WRONG_STATE; SET_KEY BAD_INDEX, BAD_REQUEST,
WRONG_STATE, OUT_OF_RANGE; ERASE_KEY BAD_INDEX. SET_KEY's answer is coded as KEY_READ's, and an expiry is a whole CLK32
second (notes/assumptions/6.md, 2.md). -/
def Obligations.KeyRequestsWriteTheirEntry : Prop :=
  (∀ (s : State) (n role tolerance : Byte) (e : KeyIx) (r : KeyRole) (p : SetKeyParams) (c : Instr), n.toNat = e.val →
    (c = .learnKey n role tolerance → role.toNat = r.ctorIdx → tolerance.toNat ≤ 15 →
      (∀ f : KeyIx, (s.keyEntry f).state.isLearning = false) →
        ∃ t, exec c s = .next t ∧ t.Says .accepted [] ∧
          t = { s with keys := t.keys, port := { s.port with response := t.port.response } } ∧
          t.keyEntry e = ⟨.learning r tolerance.toNat (s.clk32 + 30), none⟩ ∧ t.keys.candidates = [] ∧
          t.keys.judged = false ∧ t.keys.taker = none ∧ ∀ f : KeyIx, f ≠ e → t.keyEntry f = s.keyEntry f) ∧
    (∀ (r' : KeyRole) (pattern : List Sample) (d w : Nat) (g : List Nat), c = .setKey n p →
      (s.keyEntry e).state = .valid r' pattern d w g → p.role.toNat = r.ctorIdx → p.ignored.length ≤ 4 →
      1 ≤ p.depth.toNat → p.depth.toNat ≤ pattern.length → p.tolerance.toNat ≤ 15 → p.ignored.Nodup →
      (∀ x ∈ p.ignored, 1 ≤ x.toNat ∧ x.toNat ≤ pattern.length) →
        ∃ t, exec c s = .next t ∧ t.Says .done ((t.keyEntry e).bytes s.clk32) ∧
          t = { s with keys := t.keys, port := { s.port with response := t.port.response } } ∧
          t.keyEntry e = ⟨.valid r pattern p.depth.toNat p.tolerance.toNat (p.ignored.map BitVec.toNat),
            (s.keyEntry e).lastResult⟩ ∧
          t.keys.candidates = s.keys.candidates.filter (· ≠ e) ∧ t.keys.judged = s.keys.judged ∧
          ∀ f : KeyIx, f ≠ e → t.keyEntry f = s.keyEntry f) ∧
    (c = .eraseKey n → (s.keyEntry e).state ≠ .empty →
        ∃ t, exec c s = .next t ∧ t.Says .done [] ∧
          t = { s with keys := t.keys, port := { s.port with response := t.port.response } } ∧
          t.keyEntry e = ⟨.empty, if (s.keyEntry e).state.isLearning then some .erased else none⟩ ∧
          ((s.keyEntry e).state.isValid = true → t.keys.candidates = s.keys.candidates.filter (· ≠ e) ∧
            t.keys.judged = s.keys.judged) ∧
          ((s.keyEntry e).state.isLearning = true → t.keys.taker = none) ∧
          ∀ f : KeyIx, f ≠ e → t.keyEntry f = s.keyEntry f) ∧
    (c = .eraseKey n → (s.keyEntry e).state = .empty → Replies c s .done [])) ∧
  ∀ (s : State) (n role tolerance : Byte) (e : KeyIx) (p : SetKeyParams),
    (8 ≤ n.toNat → Replies (.learnKey n role tolerance) s .badIndex [] ∧ Replies (.setKey n p) s .badIndex [] ∧
      Replies (.eraseKey n) s .badIndex []) ∧
    (n.toNat < 8 → 2 ≤ role.toNat → Replies (.learnKey n role tolerance) s .badRequest []) ∧
    (n.toNat < 8 → role.toNat < 2 → 15 < tolerance.toNat → Replies (.learnKey n role tolerance) s .outOfRange []) ∧
    (n.toNat < 8 → role.toNat < 2 → tolerance.toNat ≤ 15 → (s.keyEntry e).state.isLearning = true →
      Replies (.learnKey n role tolerance) s .wrongState []) ∧
    (n.toNat < 8 → 2 ≤ p.role.toNat ∨ 4 < p.ignored.length → Replies (.setKey n p) s .badRequest []) ∧
    (n.toNat = e.val → p.role.toNat < 2 → p.ignored.length ≤ 4 →
      ((s.keyEntry e).state.isValid = false → Replies (.setKey n p) s .wrongState []) ∧
      ∀ (r : KeyRole) (pattern : List Sample) (d w : Nat) (g : List Nat),
        (s.keyEntry e).state = .valid r pattern d w g →
        (p.depth = 0 ∨ pattern.length < p.depth.toNat ∨ 15 < p.tolerance.toNat ∨ ¬p.ignored.Nodup ∨
          ∃ x ∈ p.ignored, x = 0 ∨ pattern.length < x.toNat) → Replies (.setKey n p) s .outOfRange [])

/-- R154, R155, R158, R161, R162, R164: an edge of IRIN changes its level alone. A stretch taken is a sample of its level and
its length, rounded to the nearest sample period, half up, from 1 to 127; a MARK starts a burst in IDLE, taken by the learner
while an entry is LEARNING and otherwise by the matcher unless locked out, with every VALID entry a candidate and the burst
judged if there is one; the learner keeps the sample, and ends TOO_LONG at sample 49; the candidates that the sample fits
stay, and the lowest of those that reach their depth on it matches: the window of its role opens or restarts and its KEY
subject is added. An expiry is a whole CLK32 second (notes/assumptions/2.md), and a restart notes its second, which is the
model's choice (notes/assumptions/3.md). -/
def Obligations.StretchesAreLearnedAndMatched : Prop :=
  (∀ (s : State) (v : Bool), exec (.irinEdge v) s = .next { s with keys := { s.keys with irinHigh := v } }) ∧
  (∀ (s : State) (d len : Nat) (e : KeyIx), s.keys.irinHigh ≠ s.keys.stretchHigh →
    len = max 1 (min 127 ((2 * d + s.keys.period.ns) / (2 * s.keys.period.ns))) →
      ∃ t, exec (.stretchTaken d) s = .next t ∧ s.OnlyKeys t ∧ t.keys.stretchHigh = s.keys.irinHigh ∧
        (s.keys.burst = .waitingGap ∨ s.keys.burst = .idle ∧ s.keys.stretchHigh ≠ s.keys.invert →
          t.keys = { s.keys with stretchHigh := s.keys.irinHigh, gapOvertaken := false }) ∧
        t.keys.gapOvertaken = false ∧
        (s.keys.burst = .idle → s.keys.stretchHigh = s.keys.invert →
          t.keys.burst = .inBurst ∧ t.keys.count = 1 ∧
          t.keys.taker = (if s.learningKey.isSome then some .learner
            else if s.keys.lockout.isSome then none else some .matcher) ∧
          (t.keys.judged = true ↔ s.learningKey = none ∧ s.keys.lockout = none ∧
            ∃ f : KeyIx, (s.keyEntry f).state.isValid = true) ∧
          (s.learningKey.isSome = true → t.keys.samples = [⟨true, len⟩]) ∧
          (t.keys.taker ≠ some .matcher → t.keys.candidates = [] ∧ t.keys.matched = false)) ∧
        (s.keys.burst = .inBurst → t.keys.count = min 49 (s.keys.count + 1)) ∧
        (s.keys.burst = .inBurst → s.keys.taker = some .learner → s.keys.count < 48 →
          t.keys.samples = s.keys.samples ++ [⟨decide (s.keys.stretchHigh = s.keys.invert), len⟩]) ∧
        (s.keys.burst = .inBurst → s.keys.taker = some .learner → s.keys.count = 48 → s.learningKey = some e →
          t.keyEntry e = ⟨.empty, some .tooLong⟩ ∧ t.Holds Source.key e.val) ∧
        ∀ (k : Nat) (mark matched : Bool) (set : List KeyIx),
          (s.keys.burst = .inBurst ∧ s.keys.taker = some .matcher ∧ s.keys.count < 48 ∧ k = s.keys.count + 1 ∧
              set = s.keys.candidates ∧ matched = s.keys.matched ∨
            s.keys.burst = .idle ∧ s.keys.stretchHigh = s.keys.invert ∧ s.learningKey = none ∧
              s.keys.lockout = none ∧ k = 1 ∧ (∀ f : KeyIx, f ∈ set ↔ (s.keyEntry f).state.isValid = true) ∧
              matched = false) →
          (mark = true ↔ s.keys.stretchHigh = s.keys.invert) → set.Pairwise (· < ·) →
            ((∀ f ∈ set, s.SampleFits k mark len f → ¬s.DepthIs k f) →
              t.keys.candidates.Pairwise (· < ·) ∧
              (∀ f : KeyIx, f ∈ t.keys.candidates ↔ f ∈ set ∧ s.SampleFits k mark len f) ∧
              t.keys.matched = matched ∧ t.keys.failures = s.keys.failures ∧ t.teacher = s.teacher ∧
              t.service = s.service) ∧
            (e ∈ set → s.SampleFits k mark len e → s.DepthIs k e →
              (∀ f ∈ set, f < e → s.SampleFits k mark len f → ¬s.DepthIs k f) →
                t.keys.candidates = [] ∧ t.keys.matched = true ∧ t.keys.failures = 0 ∧ t.Holds Source.key e.val ∧
                s.OpensFor t e))

/-- R153, R155, R158, R165, R167: a SPACE that reaches the gap limit ends the burst: the learner makes a VALID entry of 8
samples or more, and a judged burst of 8 or more without a match is a failure, the fifth of which starts a lockout of 120 s
with the LOCKOUT marker. A burst end that meets a change of the sample period and is taken second is taken by no one and
leaves WAITING_GAP; after a change that meets none, the SPACE's reaching the limit then in force leads to IDLE. One that
meets a higher gap limit alone leaves the burst in progress until the SPACE reaches the new limit. That the two meet where a
GAP_REACHED waits when the write is taken is the model's choice (notes/assumptions/3.md). The learn timer's expiry makes the
entry EMPTY, TIMED_OUT; the lockout's expiry ends it and clears the failure count. An expiry is a whole CLK32 second
(notes/assumptions/2.md); that the count is 0 and no candidate stands after a burst is the model's reading
(notes/assumptions/14.md). -/
def Obligations.BurstsLearningAndLockoutsEnd : Prop :=
  (∀ (s : State) (e : KeyIx) (r : KeyRole) (w x : Nat) (last : Option LearnResult),
    s.keys.stretchHigh ≠ s.keys.invert → s.keys.burst ≠ .idle → s.keys.gapOvertaken = false →
      ∃ t, exec .gapReached s = .next t ∧ s.OnlyKeys t ∧ t.teacher = s.teacher ∧ t.service = s.service ∧
        t.keys.burst = .idle ∧ t.keys.count = 0 ∧ t.keys.candidates = [] ∧
        (s.keys.burst = .inBurst → s.keys.taker = some .learner → 8 ≤ s.keys.count → s.learningKey = some e →
          s.keyEntry e = ⟨.learning r w x, last⟩ →
          t.keyEntry e = ⟨.valid r s.keys.samples s.keys.samples.length w [], some .learned⟩ ∧
            t.Holds Source.key e.val) ∧
        (s.keys.burst = .inBurst → s.keys.taker = some .matcher → s.keys.judged = true → s.keys.matched = false →
          8 ≤ s.keys.count → s.keys.failures < 4 → t.keys.failures = s.keys.failures + 1 ∧
            t.keys.lockout = s.keys.lockout) ∧
        (s.keys.burst = .inBurst → s.keys.taker = some .matcher → s.keys.judged = true → s.keys.matched = false →
          8 ≤ s.keys.count → s.keys.failures = 4 → t.keys.failures = 5 ∧ t.keys.lockout = some (s.clk32 + 120) ∧
            t.Holds Source.key 8) ∧
        (s.keys.count < 8 ∨ s.keys.burst = .waitingGap → t.keys.entries = s.keys.entries ∧
          t.keys.failures = s.keys.failures ∧ t.keys.lockout = s.keys.lockout)) ∧
  (∀ s : State, s.keys.stretchHigh ≠ s.keys.invert → s.keys.burst ≠ .idle → s.keys.gapOvertaken = true →
    exec .gapReached s = .next { s with keys := { s.keys with gapOvertaken := false } }) ∧
  (∀ (s t : State) (p : KeySettingsParams), s.keys.stretchHigh ≠ s.keys.invert → s.keys.burst = .inBurst →
    exec (.keySettings (some p)) s = .next t → t.keys.invert = s.keys.invert → t.keys.period ≠ s.keys.period →
      ∃ u, exec .gapReached t = .next u ∧ u.keys.gapOvertaken = false ∧
        u.keys.burst = (if Instr.gapReached ∈ s.pending then .waitingGap else .idle) ∧
        u.keys.entries = s.keys.entries ∧ u.keys.failures = s.keys.failures ∧ u.keys.lockout = s.keys.lockout) ∧
  (∀ (s : State) (p : KeySettingsParams) (rest : List Instr), s.keys.stretchHigh ≠ s.keys.invert →
    s.keys.burst = .inBurst → (p.invert = 1 ↔ s.keys.invert = true) → p.invert.toNat < 2 → p.period.toNat < 4 →
    p.period.toNat ≠ s.keys.period.ctorIdx → s.pending = .keySettings (some p) :: .gapReached :: rest →
      ∃ t u, step s = .next t ∧ step t = .next u ∧ u.pending = rest ∧ u.keys.burst = .waitingGap ∧
        u.keys.entries = s.keys.entries ∧ u.keys.failures = s.keys.failures ∧ u.keys.lockout = s.keys.lockout ∧
        (u.keys.stretchHigh = s.keys.stretchHigh ∧ u.keys.invert = s.keys.invert) ∧
        ∃ v, exec .gapReached u = .next v ∧ v.keys.burst = .idle) ∧
  (∀ (s t : State) (p : KeySettingsParams), s.keys.stretchHigh ≠ s.keys.invert → s.keys.burst = .inBurst →
    s.keys.gapOvertaken = false → exec (.keySettings (some p)) s = .next t → t.keys.invert = s.keys.invert →
    t.keys.period = s.keys.period →
      (Instr.gapReached ∈ s.pending → s.keys.gapLimit < t.keys.gapLimit →
        exec .gapReached t = .next { t with keys := { t.keys with gapOvertaken := false } } ∧
          t.keys = { s.keys with gapLimit := t.keys.gapLimit, gapOvertaken := true }) ∧
      (Instr.gapReached ∉ s.pending ∨ t.keys.gapLimit ≤ s.keys.gapLimit →
        ∃ u, exec .gapReached t = .next u ∧ u.keys.burst = .idle)) ∧
  (∀ (s : State) (e : KeyIx), s.learningKey = some e → ∃ t, exec .learnTimeout s = .next t ∧ s.OnlyKeys t ∧
    t.keyEntry e = ⟨.empty, some .timedOut⟩ ∧ t.Holds Source.key e.val ∧
    ∀ f : KeyIx, f ≠ e → t.keyEntry f = s.keyEntry f) ∧
  (∀ s : State, s.keys.lockout.isSome = true →
    exec .lockoutExpiry s = .next { s with keys := { s.keys with lockout := none, failures := 0 } })

/-! ## The clock -/

/-- R169, R171, R173, R175: SET_TIME sets the clock and makes time valid; SET_PERIOD writes or clears its entry; each answers
DONE with what it wrote as it now stands, recomputes the window from the timetable, hands it to the Lane Scheduler and raises
a reallocation request. Values out of range are refused OUT_OF_RANGE, an index BAD_INDEX and an operation or kind that names
nothing BAD_REQUEST. The coding of an entry in the answer is the model's (notes/assumptions/6.md), and so is the count of
whole CLK32 seconds (notes/assumptions/2.md). -/
def Obligations.ClockRequestsSetTimeAndPeriods : Prop :=
  ∀ (s : State) (v : Half) (f n op : Byte) (m : Minute) (d : Day) (e : PeriodIx) (p : PeriodParams) (k : PeriodKind),
    (v.toNat = m.val → f.toNat = d.val → ∃ t, exec (.setTime v f) s = .next t ∧ t.Says .done t.clock.image ∧
      t.clock.minute = m ∧ t.clock.day = d ∧ t.clock.seconds = 0 ∧ t.clock.timeValid = true ∧
      t.clock.periods = s.clock.periods ∧ t.clock.WindowRight ∧ t.laneWindow = t.clock.windowOpen ∧
      s.RecordsKept t [] ∧ s.BaysKept t [] ∧ s.SettingsKept t ∧ s.WindowsKept t ∧ t.clk32 = s.clk32 ∧
      t.keys = s.keys ∧ s.EventsGrow t ∧ s.ClockRequestServed t) ∧
    (1440 ≤ v.toNat ∨ 7 ≤ f.toNat → Replies (.setTime v f) s .outOfRange []) ∧
    (n.toNat = e.val → (op = 0 ∧ p.minute.toNat = m.val ∧ p.days ≠ 0 ∧ p.days.toNat < 128 ∧ p.kind.toNat = k.ctorIdx) →
      ∃ t, exec (.setPeriod n op (some p)) s = .next t ∧ t.Says .done (periodBytes (t.period e)) ∧
        t.period e = some ⟨m, p.days.extractLsb' 0 7, k⟩ ∧ (∀ a : PeriodIx, a ≠ e → t.period a = s.period a) ∧
        t.clock.minute = s.clock.minute ∧ t.clock.day = s.clock.day ∧ t.clock.seconds = s.clock.seconds ∧
        t.clock.timeValid = s.clock.timeValid ∧ t.clock.WindowRight ∧ t.laneWindow = t.clock.windowOpen ∧
        s.RecordsKept t [] ∧ s.BaysKept t [] ∧ s.SettingsKept t ∧ s.WindowsKept t ∧ t.clk32 = s.clk32 ∧
        t.keys = s.keys ∧ s.EventsGrow t ∧ s.ClockRequestServed t) ∧
    (n.toNat = e.val → op = 1 →
      ∃ t, exec (.setPeriod n op none) s = .next t ∧ t.Says .done [0, 0, 0, 0, 0] ∧ t.period e = none ∧
        (∀ a : PeriodIx, a ≠ e → t.period a = s.period a) ∧ t.clock.WindowRight ∧
        t.laneWindow = t.clock.windowOpen ∧ s.RecordsKept t [] ∧ s.BaysKept t [] ∧ s.SettingsKept t ∧
        s.WindowsKept t ∧ t.clk32 = s.clk32 ∧ t.keys = s.keys ∧ s.EventsGrow t ∧ s.ClockRequestServed t) ∧
    (16 ≤ n.toNat → Replies (.setPeriod n op (some p)) s .badIndex []) ∧
    (n.toNat < 16 → 2 ≤ op.toNat ∨ op = 0 ∧ 4 ≤ p.kind.toNat →
      Replies (.setPeriod n op (some p)) s .badRequest []) ∧
    (n.toNat < 16 → op = 0 → p.kind.toNat < 4 → (1440 ≤ p.minute.toNat ∨ p.days = 0 ∨ 128 ≤ p.days.toNat) →
      Replies (.setPeriod n op (some p)) s .outOfRange [])

/-- R168, R172, R173, R113, R150, R176: a second counts on, and from 59 takes the minute step. A MINUTE_STEP is that wrap, and at
any other count, as after a SET_TIME taken first, nothing changes (notes/assumptions/3.md). A minute step moves the minute
and the day on and, while time is valid, fires every entry of the new minute: a BOUNDARY subject each, a reallocation request
by a DEADLINE, the window CLOSED by a PROV_CLOSE and else OPEN by a PROV_OPEN, and handed to the Lane Scheduler, and, by a
LOAN_DUE, every LOANED record OVERDUE with its subject. A step that fires nothing has no effect beyond the clock, and no second of the clock moves the
count of whole CLK32 seconds that the durations are kept by, which is the model's (notes/assumptions/2.md). -/
def Obligations.MinuteStepsFireTheirEntries : Prop :=
  (∀ s : State, s.clock.seconds.val < 59 → ∃ t, exec .secondsCountTick s = .next t ∧
    t.clock.seconds.val = s.clock.seconds.val + 1 ∧
    t = { s with clock := { s.clock with seconds := t.clock.seconds } }) ∧
  (∀ s : State, s.clock.seconds = 59 → exec .secondsCountTick s = exec .minuteStep s) ∧
  (∀ s : State, s.clock.seconds ≠ 59 → exec .minuteStep s = .next s) ∧
  (∀ (s : State) (fires : PeriodIx → PeriodKind → Prop) (minute day : Nat), s.clock.seconds = 59 →
    minute = (s.clock.minute.val + 1) % 1440 →
    day = (s.clock.day.val + (s.clock.minute.val + 1) / 1440) % 7 →
    (∀ (e : PeriodIx) (k : PeriodKind), fires e k ↔ s.clock.timeValid = true ∧ ∃ x : PeriodEntry,
      s.period e = some x ∧ x.kind = k ∧ x.minute.val = minute ∧ x.days.getLsbD day = true) →
      ∃ t, exec .minuteStep s = .next t ∧ t.clock.minute.val = minute ∧ t.clock.day.val = day ∧
        t.clock.seconds = 0 ∧ t.clock.timeValid = s.clock.timeValid ∧ t.clock.periods = s.clock.periods ∧
        t.clk32 = s.clk32 ∧
        ((∀ (e : PeriodIx) (k : PeriodKind), ¬fires e k) → t = { s with clock := t.clock }) ∧
        (∀ (e : PeriodIx) (k : PeriodKind), fires e k → t.Holds Source.boundary e.val) ∧
        ((∃ e, fires e .provClose) → t.clock.windowOpen = false) ∧
        ((∃ e, fires e .provOpen) → (∀ e, ¬fires e .provClose) → t.clock.windowOpen = true) ∧
        ((∀ e, ¬fires e .provOpen) → (∀ e, ¬fires e .provClose) → t.clock.windowOpen = s.clock.windowOpen) ∧
        ((∃ (e : PeriodIx) (k : PeriodKind), fires e k) ∨ s.laneWindow = s.clock.windowOpen →
          t.laneWindow = t.clock.windowOpen) ∧
        (∀ i : RecordIx, (∃ e, fires e .loanDue) → (s.record i).custody = .loaned → t.Holds Source.overdue i.val ∧
          Record.SameButUnsecured { s.record i with custody := .overdue } (t.record i)) ∧
        (∀ i : RecordIx, (∀ e, ¬fires e .loanDue) ∨ (s.record i).custody ≠ .loaned →
          (s.record i).SameButUnsecured (t.record i)) ∧
        s.BaysKept t [] ∧ s.SettingsKept t ∧ s.WindowsKept t ∧ t.keys = s.keys ∧ s.EventsGrow t ∧
        ((∃ e, fires e .deadline) → (∀ e, ¬fires e .loanDue) ∨ s.Inv → s.ClockRequestServed t))

/-- R174: the deadline query answers NONE while time is not valid and while no VALID DEADLINE entry exists, and otherwise the
first offset from 1 to 10080 at which a VALID DEADLINE entry occurs, where the day mask of every VALID entry names a day. -/
def Obligations.DeadlineQueryFindsTheNextDeadline : Prop :=
  ∀ (c : DayClock) (occurs : Nat → Prop),
    (∀ t : Nat, occurs t ↔ ∃ (e : PeriodIx) (x : PeriodEntry), c.periods[e.val] = some x ∧ x.kind = .deadline ∧
      x.minute.val = (c.minute.val + t) % 1440 ∧
      x.days.getLsbD ((c.day.val + (c.minute.val + t) / 1440) % 7) = true) →
    (∀ (e : PeriodIx) (x : PeriodEntry), c.periods[e.val] = some x → x.days ≠ 0) →
      (c.timeValid = false ∨ (∀ (e : PeriodIx) (x : PeriodEntry), c.periods[e.val] = some x → x.kind ≠ .deadline) →
        c.nextDeadline = none) ∧
      (c.timeValid = true → (∃ (e : PeriodIx) (x : PeriodEntry), c.periods[e.val] = some x ∧ x.kind = .deadline) →
        ∃ t : Nat, c.nextDeadline = some t ∧ 1 ≤ t ∧ t ≤ 10080 ∧ occurs t ∧ ∀ u : Nat, 1 ≤ u → u < t → ¬occurs u)

/-! ## The port -/

/-- R177, R178, R183, R189: the assertion of CS_N fills in the summary, the lowest-numbered source that is both enabled and
non-empty, or 0xFF; a transaction without a request leaves the empty response, and a malformed one BAD_REQUEST, with nothing
else changed. A frame that is incomplete, too long, of a code the index does not name, or with parameters of a length its
request does not accept is malformed. -/
def Obligations.TransactionsWithoutARequest : Prop :=
  (∀ s : State, ∃ (t : State) (v : Byte), exec .csNAsserted s = .next t ∧
    t = { s with port := { s.port with response := { s.port.response with attention := some v } } } ∧
    (∀ n : SourceNo, s.port.enables.getLsbD n.val = true → s.subjectsOf n ≠ 0 →
      (∀ m : SourceNo, m < n → s.port.enables.getLsbD m.val = false ∨ s.subjectsOf m = 0) → v.toNat = n.val) ∧
    ((∀ n : SourceNo, s.port.enables.getLsbD n.val = false ∨ s.subjectsOf n = 0) → v = 0xFF)) ∧
  (∀ (s : State) (l : List Byte), Replies (.emptyTransaction l) s .done [] ∧
    Replies (.malformedRequest l) s .badRequest []) ∧
  (∀ (r : LineReadings) (l : List Byte), l = [] ∨ l.head? = some 0 → decodeFrame r l = .emptyTransaction l) ∧
  (∀ (r : LineReadings) (code len : Byte) (l : List Byte), code ≠ 0 →
    decodeFrame r [code] = .malformedRequest [code] ∧
    (l.length < len.toNat ∨ 60 < len.toNat ∨ ¬NamesRequest code.toNat ∨ len.toNat ∉ acceptedLengths code.toNat →
      decodeFrame r (code :: len :: l) = .malformedRequest (code :: len :: l)))

/-- R185: EVENT_ACK is refused BAD_INDEX for a source out of range and OUT_OF_RANGE for a member the source does not have,
with nothing removed; otherwise the members the operand names leave the set, the others stay, no other set changes, the
answer is DONE with the snapshot that results, and ATTN is right. -/
def Obligations.EventAckRemovesTheNamedSubjects : Prop :=
  ∀ (s : State) (n : Byte) (m : SourceNo) (x : BitVec 64),
    (18 ≤ n.toNat → Replies (.eventAck n x) s .badIndex []) ∧
    (n.toNat = m.val → (∃ k : Nat, x.getLsbD k = true ∧ (Source.members m).getLsbD k = false) →
      Replies (.eventAck n x) s .outOfRange []) ∧
    (n.toNat = m.val → (∀ k : Nat, x.getLsbD k = true → (Source.members m).getLsbD k = true) →
      ∃ t, exec (.eventAck n x) s = .next t ∧ s.OnlyPort t ∧ t.Says .done (t.port.snapshot m) ∧
        (∀ k : Nat, (t.subjectsOf m).getLsbD k = ((s.subjectsOf m).getLsbD k && !x.getLsbD k)) ∧
        (∀ a : SourceNo, a ≠ m → t.subjectsOf a = s.subjectsOf a) ∧ t.port.enables = s.port.enables ∧ t.AttnLaw)

/-- R186: EVENT_ENABLE without parameters answers DONE with the enable set in force and changes nothing; with an enable set
it replaces the whole set, touches no subject set, leaves ATTN right and answers DONE with the set now in force; a set that
names a source above 17 is refused OUT_OF_RANGE and changes nothing. -/
def Obligations.EventEnableReplacesTheSet : Prop :=
  ∀ (s : State) (x : BitVec 24),
    Replies (.eventEnable none) s .done (be24 (s.port.enables.setWidth 24)) ∧
    (x.toNat < 2 ^ 18 → ∃ t, exec (.eventEnable (some x)) s = .next t ∧ s.OnlyPort t ∧ t.Says .done (be24 x) ∧
      t.port.enables.toNat = x.toNat ∧ t.port.subjects = s.port.subjects ∧ t.AttnLaw) ∧
    (2 ^ 18 ≤ x.toNat → Replies (.eventEnable (some x)) s .outOfRange [])

/-! ## Resets -/

/-- R1, R24, R26, R45, R50, R51, R69, R71, R73, R75, R89, R108, R110, R112 to R115, R128, R130 to R132, R134 to R136, R142,
R153, R155, R156, R161, R165, R168, R170, R173, R180, R182, R183: a cold reset fits 24, 30, 36 or 18 bays by the straps and
leaves every block at its cold reset values, whatever stood before, with the input levels as they are: the key settings at
their defaults, the burst logic in WAITING_GAP, every Key Table and Period Table entry EMPTY, no failure and no lockout, and
time not valid. A warm reset, answered DONE, empties what moves and keeps every setting, those of the keys among them, the
Key Table but for a LEARNING entry, which becomes EMPTY, Period Table, Day Clock, enables and populated bays; the burst logic
is in WAITING_GAP, with no failure and no lockout. That the input levels outlast a reset is the model's reading
(notes/assumptions/1.md, 14.md). The input levels of State.reset, and with them its 24 populated bays and its B_eff of 5850,
are the model's choice (notes/assumptions/1.md); the queue of commands is the model's (notes/assumptions/5.md), and so is the
count of whole CLK32 seconds, which a cold reset starts at 0 (notes/assumptions/2.md). -/
def Obligations.ResetsEmptyAndKeep : Prop :=
  ((∀ i : RecordIx, (State.reset.record i).custody = .free ∧ (State.reset.record i).tabletId = 0 ∧
    (State.reset.record i).target = 900 ∧ (State.reset.record i).homeBay = none ∧
    (State.reset.record i).currentBay = none ∧ (State.reset.record i).holder = none ∧
    (State.reset.record i).flags = 0) ∧
  (∀ b : BayNo, (State.reset.bay b).state = (if b.val < 24 then .empty else .disabled) ∧
    (State.reset.bay b).contact = false ∧ (State.reset.bay b).record = none ∧ (State.reset.bay b).lamp = .off ∧
    (State.reset.link b).state = .down ∧ (State.reset.link b).step = 0 ∧ (State.reset.link b).ceiling = 3 ∧
    (State.reset.link b).tap = 16 ∧ (State.reset.output b).closed = false ∧ (State.reset.output b).issued = 0 ∧
    (State.reset.output b).charge = .off ∧ State.reset.release b = none) ∧
  State.reset.linkSettings = ⟨2, 4, 0, 32, 10⟩ ∧
  State.reset.budget = ⟨6000, 3000, 150, 15, 110, 450, 900, 300, 40, 50, .floor⟩ ∧ State.reset.effective = 5850 ∧
  State.reset.laneSettings = ⟨3, 30, .period⟩ ∧ State.reset.custodySettings = ⟨.host, true, 120, 300, 60⟩ ∧
  State.reset.queue = [] ∧ State.reset.latchQueue = [] ∧ State.reset.reservations = [] ∧
  State.reset.clock.timeValid = false ∧ (∀ e : PeriodIx, State.reset.period e = none) ∧
  (∀ e : KeyIx, (State.reset.keyEntry e).state = .empty) ∧ State.reset.keys.burst = .waitingGap ∧
  State.reset.keys.invert = false ∧ State.reset.keys.period = .us100 ∧ State.reset.keys.gapLimit = 60 ∧
  State.reset.port.response = ⟨.done, none, []⟩ ∧ (∀ n : SourceNo, State.reset.subjectsOf n = 0) ∧
  State.reset.port.enables = 0 ∧ State.reset.port.attn = false ∧ State.reset.pending = []) ∧
  (∀ (s : State) (straps : BitVec 2), ∃ t, exec (.coldReset straps) s = .next t ∧
    t = { State.reset with
      bays := t.bays, supplyLimit := s.supplyLimit, effective := t.effective, serviceInput := s.serviceInput,
      keys := t.keys, pending := s.pending } ∧
    t.effective = (if s.supplyLimit then 2850 else 5850) ∧ (∀ e : KeyIx, t.keyEntry e = ⟨.empty, none⟩) ∧
    t.keys.irinHigh = s.keys.irinHigh ∧ t.keys.burst = .waitingGap ∧ t.keys.failures = 0 ∧ t.keys.lockout = none ∧
    t.keys.invert = false ∧ t.keys.period = .us100 ∧ t.keys.gapLimit = 60 ∧
    ∀ b : BayNo, ((t.bay b).populated = true ↔
        b.val < (match straps.toNat with | 0 => 24 | 1 => 30 | 2 => 36 | _ => 18)) ∧
      (t.bay b).state = (if (t.bay b).populated then .empty else .disabled) ∧ (t.bay b).hostDisabled = false ∧
      (t.bay b).record = none ∧ (t.bay b).contact = false ∧ (t.bay b).rawContact = (s.bay b).rawContact ∧
      (t.bay b).latch = (match (s.bay b).lockedSwitch, (s.bay b).unlockedSwitch with
        | true, false => .locked | false, true => .unlocked | _, _ => .unknown)) ∧
  (∀ s : State, ∃ t, exec .partReset s = .next t ∧ t.Says .done [] ∧ s.SettingsKept t ∧ s.KeySettingsKept t ∧
    t.clock = s.clock ∧ t.port.enables = s.port.enables ∧ t.AttnLaw ∧ (∀ n : SourceNo, t.subjectsOf n = 0) ∧
    (∀ i : RecordIx, t.record i = Record.freeImage) ∧ t.queue = [] ∧ t.latchQueue = [] ∧ t.reservations = [] ∧
    t.teacher = none ∧ t.service = none ∧ t.phase = .idle ∧ t.laneWindow = s.clock.windowOpen ∧
    (∀ l : LaneNo, t.lane l = ⟨none, none, none⟩) ∧ (∀ k : SlotNo, t.slot k = .free) ∧
    (∀ e : KeyIx, t.keyEntry e = if (s.keyEntry e).state.isLearning then ⟨.empty, none⟩ else s.keyEntry e) ∧
    t.keys.burst = .waitingGap ∧ t.keys.lockout = none ∧ t.keys.failures = 0 ∧
    ∀ b : BayNo, (t.bay b).populated = (s.bay b).populated ∧
      (t.bay b).state = (if (s.bay b).populated then .empty else .disabled) ∧ (t.bay b).record = none ∧
      t.link b = Link.downValues ∧ t.output b = ⟨false, 0, 0, false, none, .off, 0⟩ ∧ t.release b = none ∧
      ((s.bay b).latch ≠ .moving → (t.bay b).latch = (s.bay b).latch))

/-! ## Frames -/

/-- R178, R188, R190: the frame of every well-formed request decodes to that request, and so does the frame with bytes after
its end. -/
def Obligations.RequestFramesRoundTrip : Prop :=
  ∀ (i : Instr) (r : LineReadings) (f after : List Byte), i.wellFormed = true → encodeFrame i = some f →
    (∀ (b : Byte) (x : LineReadings), i = .lineTest b x → x = r) → decodeFrame r (f ++ after) = i

/-- R47, R48, R193: a dock-line frame sums to 0 modulo 256; what a link sends for each exchange is its kind's frame; a reply
of a known kind with its kind's payload length decodes to that kind's event, with every field at its place, and with a wrong
check byte it is a bad frame. -/
def Obligations.DockLineFramesAreChecked : Prop :=
  (∀ (kind : Byte) (payload : List Byte), byteSum (lineFrame kind payload) = 0) ∧
  (∀ (b : BayNo) (kind : Byte) (payload : List Byte), replyLength kind = some payload.length →
    (∃ c, replyEvent b kind payload = some c ∧ decodeReply b (lineFrame kind payload) = c) ∧
    ∀ x : Byte, kind + byte payload.length + byteSum payload + x ≠ 0 →
      decodeReply b (kind :: byte payload.length :: (payload ++ [x])) =
        .badFrame b (kind :: byte payload.length :: (payload ++ [x]))) ∧
  (∀ (kind : Byte) (n : Nat), replyLength kind = some n ↔
    kind = 0x21 ∧ n = 18 ∨ kind = 0x22 ∧ n = 8 ∨ kind = 0x23 ∧ n = 4 ∨ kind = 0x24 ∧ n = 0 ∨ kind = 0x25 ∧ n = 1) ∧
  (∀ l : Link, (l.exchange = some .hello → l.sent = lineFrame 0x11 [byte l.step.val]) ∧
    (l.exchange = some .train →
      l.sent = lineFrame 0x12 [0x55, 0xAA, 0x0F, 0xF0, 0x33, 0xCC, 0x69, 0x96]) ∧
    (l.exchange = some .query → l.sent = lineFrame 0x13 []) ∧
    (l.exchange = some .custodyOrder →
      (l.custody.inFlight = some .lock → l.sent = lineFrame 0x14 [0, 0, 0]) ∧
      ∀ h : Nat, l.custody.inFlight = some (.release h) → l.sent = lineFrame 0x14 [1, byte (h / 256), byte h]) ∧
    (l.exchange = some .laneOrder →
      (l.lane.inFlight = some .quiet → l.sent = lineFrame 0x14 [3, 0, 0]) ∧
      ∀ n : LaneNo, l.lane.inFlight = some (.wake n) → l.sent = lineFrame 0x14 [2, 0, byte n.val])) ∧
  ∀ (b : BayNo) (p : IdentReply) (q : TelemetryReply) (x : BitVec 64) (reason : Byte),
    replyEvent b 0x21 ([p.classMarker, p.classVersion] ++
      (List.range 8).map (fun k => p.tabletId.extractLsb' (56 - 8 * k) 8) ++
      [p.capacity.extractLsb' 8 8, p.capacity.extractLsb' 0 8, p.acceptance.extractLsb' 8 8,
        p.acceptance.extractLsb' 0 8, p.maxStep, p.profileHeld, p.charge.extractLsb' 8 8,
        p.charge.extractLsb' 0 8]) = some (.identTaken b p) ∧
    replyEvent b 0x22 ((List.range 8).map fun k => x.extractLsb' (56 - 8 * k) 8) = some (.echoTaken b x) ∧
    replyEvent b 0x23 [q.charge.extractLsb' 8 8, q.charge.extractLsb' 0 8, q.temperature, q.profileHeld] =
      some (.telemetryTaken b q) ∧
    replyEvent b 0x24 [] = some (.ackTaken b) ∧ replyEvent b 0x25 [reason] = some (.nakTaken b reason)
end

