-- ==== Sys2Proof/Laws/State.lean ====
section
/-! SUPPORT. The small lemmas of State: what each named write leaves alone, field by field, and reading after writing. -/

namespace Sys2Proof.Machine

variable (s : State)

/-! ### putRecord -/

@[simp] theorem State.putRecord_bays (i : RecordIx) (x : Record) : (s.putRecord i x).bays = s.bays := rfl
@[simp] theorem State.putRecord_links (i : RecordIx) (x : Record) : (s.putRecord i x).links = s.links := rfl
@[simp] theorem State.putRecord_linkSettings (i : RecordIx) (x : Record) : (s.putRecord i x).linkSettings = s.linkSettings := rfl
@[simp] theorem State.putRecord_budget (i : RecordIx) (x : Record) : (s.putRecord i x).budget = s.budget := rfl
@[simp] theorem State.putRecord_supplyLimit (i : RecordIx) (x : Record) : (s.putRecord i x).supplyLimit = s.supplyLimit := rfl
@[simp] theorem State.putRecord_effective (i : RecordIx) (x : Record) : (s.putRecord i x).effective = s.effective := rfl
@[simp] theorem State.putRecord_passPending (i : RecordIx) (x : Record) : (s.putRecord i x).passPending = s.passPending := rfl
@[simp] theorem State.putRecord_figures (i : RecordIx) (x : Record) : (s.putRecord i x).figures = s.figures := rfl
@[simp] theorem State.putRecord_entries (i : RecordIx) (x : Record) : (s.putRecord i x).entries = s.entries := rfl
@[simp] theorem State.putRecord_reservations (i : RecordIx) (x : Record) : (s.putRecord i x).reservations = s.reservations := rfl
@[simp] theorem State.putRecord_phase (i : RecordIx) (x : Record) : (s.putRecord i x).phase = s.phase := rfl
@[simp] theorem State.putRecord_outputs (i : RecordIx) (x : Record) : (s.putRecord i x).outputs = s.outputs := rfl
@[simp] theorem State.putRecord_laneSettings (i : RecordIx) (x : Record) : (s.putRecord i x).laneSettings = s.laneSettings := rfl
@[simp] theorem State.putRecord_laneWindow (i : RecordIx) (x : Record) : (s.putRecord i x).laneWindow = s.laneWindow := rfl
@[simp] theorem State.putRecord_queue (i : RecordIx) (x : Record) : (s.putRecord i x).queue = s.queue := rfl
@[simp] theorem State.putRecord_lanes (i : RecordIx) (x : Record) : (s.putRecord i x).lanes = s.lanes := rfl
@[simp] theorem State.putRecord_custodySettings (i : RecordIx) (x : Record) : (s.putRecord i x).custodySettings = s.custodySettings := rfl
@[simp] theorem State.putRecord_teacher (i : RecordIx) (x : Record) : (s.putRecord i x).teacher = s.teacher := rfl
@[simp] theorem State.putRecord_service (i : RecordIx) (x : Record) : (s.putRecord i x).service = s.service := rfl
@[simp] theorem State.putRecord_serviceInput (i : RecordIx) (x : Record) : (s.putRecord i x).serviceInput = s.serviceInput := rfl
@[simp] theorem State.putRecord_serviceLevel (i : RecordIx) (x : Record) : (s.putRecord i x).serviceLevel = s.serviceLevel := rfl
@[simp] theorem State.putRecord_latchQueue (i : RecordIx) (x : Record) : (s.putRecord i x).latchQueue = s.latchQueue := rfl
@[simp] theorem State.putRecord_slots (i : RecordIx) (x : Record) : (s.putRecord i x).slots = s.slots := rfl
@[simp] theorem State.putRecord_releases (i : RecordIx) (x : Record) : (s.putRecord i x).releases = s.releases := rfl
@[simp] theorem State.putRecord_keys (i : RecordIx) (x : Record) : (s.putRecord i x).keys = s.keys := rfl
@[simp] theorem State.putRecord_clock (i : RecordIx) (x : Record) : (s.putRecord i x).clock = s.clock := rfl
@[simp] theorem State.putRecord_port (i : RecordIx) (x : Record) : (s.putRecord i x).port = s.port := rfl
@[simp] theorem State.putRecord_clk32 (i : RecordIx) (x : Record) : (s.putRecord i x).clk32 = s.clk32 := rfl
@[simp] theorem State.putRecord_reallocRequest (i : RecordIx) (x : Record) : (s.putRecord i x).reallocRequest = s.reallocRequest := rfl
@[simp] theorem State.putRecord_pending (i : RecordIx) (x : Record) : (s.putRecord i x).pending = s.pending := rfl

/-! ### setRecord -/

@[simp] theorem State.setRecord_bays (i : RecordIx) (x : Record) : (s.setRecord i x).bays = s.bays := rfl
@[simp] theorem State.setRecord_links (i : RecordIx) (x : Record) : (s.setRecord i x).links = s.links := rfl
@[simp] theorem State.setRecord_linkSettings (i : RecordIx) (x : Record) : (s.setRecord i x).linkSettings = s.linkSettings := rfl
@[simp] theorem State.setRecord_budget (i : RecordIx) (x : Record) : (s.setRecord i x).budget = s.budget := rfl
@[simp] theorem State.setRecord_supplyLimit (i : RecordIx) (x : Record) : (s.setRecord i x).supplyLimit = s.supplyLimit := rfl
@[simp] theorem State.setRecord_effective (i : RecordIx) (x : Record) : (s.setRecord i x).effective = s.effective := rfl
@[simp] theorem State.setRecord_passPending (i : RecordIx) (x : Record) : (s.setRecord i x).passPending = s.passPending := rfl
@[simp] theorem State.setRecord_figures (i : RecordIx) (x : Record) : (s.setRecord i x).figures = s.figures := rfl
@[simp] theorem State.setRecord_entries (i : RecordIx) (x : Record) : (s.setRecord i x).entries = s.entries := rfl
@[simp] theorem State.setRecord_reservations (i : RecordIx) (x : Record) : (s.setRecord i x).reservations = s.reservations := rfl
@[simp] theorem State.setRecord_phase (i : RecordIx) (x : Record) : (s.setRecord i x).phase = s.phase := rfl
@[simp] theorem State.setRecord_outputs (i : RecordIx) (x : Record) : (s.setRecord i x).outputs = s.outputs := rfl
@[simp] theorem State.setRecord_laneSettings (i : RecordIx) (x : Record) : (s.setRecord i x).laneSettings = s.laneSettings := rfl
@[simp] theorem State.setRecord_laneWindow (i : RecordIx) (x : Record) : (s.setRecord i x).laneWindow = s.laneWindow := rfl
@[simp] theorem State.setRecord_queue (i : RecordIx) (x : Record) : (s.setRecord i x).queue = s.queue := rfl
@[simp] theorem State.setRecord_lanes (i : RecordIx) (x : Record) : (s.setRecord i x).lanes = s.lanes := rfl
@[simp] theorem State.setRecord_custodySettings (i : RecordIx) (x : Record) : (s.setRecord i x).custodySettings = s.custodySettings := rfl
@[simp] theorem State.setRecord_teacher (i : RecordIx) (x : Record) : (s.setRecord i x).teacher = s.teacher := rfl
@[simp] theorem State.setRecord_service (i : RecordIx) (x : Record) : (s.setRecord i x).service = s.service := rfl
@[simp] theorem State.setRecord_serviceInput (i : RecordIx) (x : Record) : (s.setRecord i x).serviceInput = s.serviceInput := rfl
@[simp] theorem State.setRecord_serviceLevel (i : RecordIx) (x : Record) : (s.setRecord i x).serviceLevel = s.serviceLevel := rfl
@[simp] theorem State.setRecord_latchQueue (i : RecordIx) (x : Record) : (s.setRecord i x).latchQueue = s.latchQueue := rfl
@[simp] theorem State.setRecord_slots (i : RecordIx) (x : Record) : (s.setRecord i x).slots = s.slots := rfl
@[simp] theorem State.setRecord_releases (i : RecordIx) (x : Record) : (s.setRecord i x).releases = s.releases := rfl
@[simp] theorem State.setRecord_keys (i : RecordIx) (x : Record) : (s.setRecord i x).keys = s.keys := rfl
@[simp] theorem State.setRecord_clock (i : RecordIx) (x : Record) : (s.setRecord i x).clock = s.clock := rfl
@[simp] theorem State.setRecord_port (i : RecordIx) (x : Record) : (s.setRecord i x).port = s.port := rfl
@[simp] theorem State.setRecord_clk32 (i : RecordIx) (x : Record) : (s.setRecord i x).clk32 = s.clk32 := rfl
@[simp] theorem State.setRecord_reallocRequest (i : RecordIx) (x : Record) : (s.setRecord i x).reallocRequest = s.reallocRequest := rfl
@[simp] theorem State.setRecord_pending (i : RecordIx) (x : Record) : (s.setRecord i x).pending = s.pending := rfl

/-! ### setBay -/

@[simp] theorem State.setBay_roster (b : BayNo) (x : Bay) : (s.setBay b x).roster = s.roster := rfl
@[simp] theorem State.setBay_links (b : BayNo) (x : Bay) : (s.setBay b x).links = s.links := rfl
@[simp] theorem State.setBay_linkSettings (b : BayNo) (x : Bay) : (s.setBay b x).linkSettings = s.linkSettings := rfl
@[simp] theorem State.setBay_budget (b : BayNo) (x : Bay) : (s.setBay b x).budget = s.budget := rfl
@[simp] theorem State.setBay_supplyLimit (b : BayNo) (x : Bay) : (s.setBay b x).supplyLimit = s.supplyLimit := rfl
@[simp] theorem State.setBay_effective (b : BayNo) (x : Bay) : (s.setBay b x).effective = s.effective := rfl
@[simp] theorem State.setBay_passPending (b : BayNo) (x : Bay) : (s.setBay b x).passPending = s.passPending := rfl
@[simp] theorem State.setBay_figures (b : BayNo) (x : Bay) : (s.setBay b x).figures = s.figures := rfl
@[simp] theorem State.setBay_entries (b : BayNo) (x : Bay) : (s.setBay b x).entries = s.entries := rfl
@[simp] theorem State.setBay_reservations (b : BayNo) (x : Bay) : (s.setBay b x).reservations = s.reservations := rfl
@[simp] theorem State.setBay_phase (b : BayNo) (x : Bay) : (s.setBay b x).phase = s.phase := rfl
@[simp] theorem State.setBay_outputs (b : BayNo) (x : Bay) : (s.setBay b x).outputs = s.outputs := rfl
@[simp] theorem State.setBay_laneSettings (b : BayNo) (x : Bay) : (s.setBay b x).laneSettings = s.laneSettings := rfl
@[simp] theorem State.setBay_laneWindow (b : BayNo) (x : Bay) : (s.setBay b x).laneWindow = s.laneWindow := rfl
@[simp] theorem State.setBay_queue (b : BayNo) (x : Bay) : (s.setBay b x).queue = s.queue := rfl
@[simp] theorem State.setBay_lanes (b : BayNo) (x : Bay) : (s.setBay b x).lanes = s.lanes := rfl
@[simp] theorem State.setBay_custodySettings (b : BayNo) (x : Bay) : (s.setBay b x).custodySettings = s.custodySettings := rfl
@[simp] theorem State.setBay_teacher (b : BayNo) (x : Bay) : (s.setBay b x).teacher = s.teacher := rfl
@[simp] theorem State.setBay_service (b : BayNo) (x : Bay) : (s.setBay b x).service = s.service := rfl
@[simp] theorem State.setBay_serviceInput (b : BayNo) (x : Bay) : (s.setBay b x).serviceInput = s.serviceInput := rfl
@[simp] theorem State.setBay_serviceLevel (b : BayNo) (x : Bay) : (s.setBay b x).serviceLevel = s.serviceLevel := rfl
@[simp] theorem State.setBay_latchQueue (b : BayNo) (x : Bay) : (s.setBay b x).latchQueue = s.latchQueue := rfl
@[simp] theorem State.setBay_slots (b : BayNo) (x : Bay) : (s.setBay b x).slots = s.slots := rfl
@[simp] theorem State.setBay_releases (b : BayNo) (x : Bay) : (s.setBay b x).releases = s.releases := rfl
@[simp] theorem State.setBay_keys (b : BayNo) (x : Bay) : (s.setBay b x).keys = s.keys := rfl
@[simp] theorem State.setBay_clock (b : BayNo) (x : Bay) : (s.setBay b x).clock = s.clock := rfl
@[simp] theorem State.setBay_port (b : BayNo) (x : Bay) : (s.setBay b x).port = s.port := rfl
@[simp] theorem State.setBay_clk32 (b : BayNo) (x : Bay) : (s.setBay b x).clk32 = s.clk32 := rfl
@[simp] theorem State.setBay_reallocRequest (b : BayNo) (x : Bay) : (s.setBay b x).reallocRequest = s.reallocRequest := rfl
@[simp] theorem State.setBay_pending (b : BayNo) (x : Bay) : (s.setBay b x).pending = s.pending := rfl

/-! ### setLink -/

@[simp] theorem State.setLink_roster (b : BayNo) (x : Link) : (s.setLink b x).roster = s.roster := rfl
@[simp] theorem State.setLink_bays (b : BayNo) (x : Link) : (s.setLink b x).bays = s.bays := rfl
@[simp] theorem State.setLink_linkSettings (b : BayNo) (x : Link) : (s.setLink b x).linkSettings = s.linkSettings := rfl
@[simp] theorem State.setLink_budget (b : BayNo) (x : Link) : (s.setLink b x).budget = s.budget := rfl
@[simp] theorem State.setLink_supplyLimit (b : BayNo) (x : Link) : (s.setLink b x).supplyLimit = s.supplyLimit := rfl
@[simp] theorem State.setLink_effective (b : BayNo) (x : Link) : (s.setLink b x).effective = s.effective := rfl
@[simp] theorem State.setLink_passPending (b : BayNo) (x : Link) : (s.setLink b x).passPending = s.passPending := rfl
@[simp] theorem State.setLink_figures (b : BayNo) (x : Link) : (s.setLink b x).figures = s.figures := rfl
@[simp] theorem State.setLink_entries (b : BayNo) (x : Link) : (s.setLink b x).entries = s.entries := rfl
@[simp] theorem State.setLink_reservations (b : BayNo) (x : Link) : (s.setLink b x).reservations = s.reservations := rfl
@[simp] theorem State.setLink_phase (b : BayNo) (x : Link) : (s.setLink b x).phase = s.phase := rfl
@[simp] theorem State.setLink_outputs (b : BayNo) (x : Link) : (s.setLink b x).outputs = s.outputs := rfl
@[simp] theorem State.setLink_laneSettings (b : BayNo) (x : Link) : (s.setLink b x).laneSettings = s.laneSettings := rfl
@[simp] theorem State.setLink_laneWindow (b : BayNo) (x : Link) : (s.setLink b x).laneWindow = s.laneWindow := rfl
@[simp] theorem State.setLink_queue (b : BayNo) (x : Link) : (s.setLink b x).queue = s.queue := rfl
@[simp] theorem State.setLink_lanes (b : BayNo) (x : Link) : (s.setLink b x).lanes = s.lanes := rfl
@[simp] theorem State.setLink_custodySettings (b : BayNo) (x : Link) : (s.setLink b x).custodySettings = s.custodySettings := rfl
@[simp] theorem State.setLink_teacher (b : BayNo) (x : Link) : (s.setLink b x).teacher = s.teacher := rfl
@[simp] theorem State.setLink_service (b : BayNo) (x : Link) : (s.setLink b x).service = s.service := rfl
@[simp] theorem State.setLink_serviceInput (b : BayNo) (x : Link) : (s.setLink b x).serviceInput = s.serviceInput := rfl
@[simp] theorem State.setLink_serviceLevel (b : BayNo) (x : Link) : (s.setLink b x).serviceLevel = s.serviceLevel := rfl
@[simp] theorem State.setLink_latchQueue (b : BayNo) (x : Link) : (s.setLink b x).latchQueue = s.latchQueue := rfl
@[simp] theorem State.setLink_slots (b : BayNo) (x : Link) : (s.setLink b x).slots = s.slots := rfl
@[simp] theorem State.setLink_releases (b : BayNo) (x : Link) : (s.setLink b x).releases = s.releases := rfl
@[simp] theorem State.setLink_keys (b : BayNo) (x : Link) : (s.setLink b x).keys = s.keys := rfl
@[simp] theorem State.setLink_clock (b : BayNo) (x : Link) : (s.setLink b x).clock = s.clock := rfl
@[simp] theorem State.setLink_port (b : BayNo) (x : Link) : (s.setLink b x).port = s.port := rfl
@[simp] theorem State.setLink_clk32 (b : BayNo) (x : Link) : (s.setLink b x).clk32 = s.clk32 := rfl
@[simp] theorem State.setLink_reallocRequest (b : BayNo) (x : Link) : (s.setLink b x).reallocRequest = s.reallocRequest := rfl
@[simp] theorem State.setLink_pending (b : BayNo) (x : Link) : (s.setLink b x).pending = s.pending := rfl

/-! ### setOutput -/

@[simp] theorem State.setOutput_roster (b : BayNo) (x : Output) : (s.setOutput b x).roster = s.roster := rfl
@[simp] theorem State.setOutput_bays (b : BayNo) (x : Output) : (s.setOutput b x).bays = s.bays := rfl
@[simp] theorem State.setOutput_links (b : BayNo) (x : Output) : (s.setOutput b x).links = s.links := rfl
@[simp] theorem State.setOutput_linkSettings (b : BayNo) (x : Output) : (s.setOutput b x).linkSettings = s.linkSettings := rfl
@[simp] theorem State.setOutput_budget (b : BayNo) (x : Output) : (s.setOutput b x).budget = s.budget := rfl
@[simp] theorem State.setOutput_supplyLimit (b : BayNo) (x : Output) : (s.setOutput b x).supplyLimit = s.supplyLimit := rfl
@[simp] theorem State.setOutput_effective (b : BayNo) (x : Output) : (s.setOutput b x).effective = s.effective := rfl
@[simp] theorem State.setOutput_passPending (b : BayNo) (x : Output) : (s.setOutput b x).passPending = s.passPending := rfl
@[simp] theorem State.setOutput_figures (b : BayNo) (x : Output) : (s.setOutput b x).figures = s.figures := rfl
@[simp] theorem State.setOutput_entries (b : BayNo) (x : Output) : (s.setOutput b x).entries = s.entries := rfl
@[simp] theorem State.setOutput_reservations (b : BayNo) (x : Output) : (s.setOutput b x).reservations = s.reservations := rfl
@[simp] theorem State.setOutput_phase (b : BayNo) (x : Output) : (s.setOutput b x).phase = s.phase := rfl
@[simp] theorem State.setOutput_laneSettings (b : BayNo) (x : Output) : (s.setOutput b x).laneSettings = s.laneSettings := rfl
@[simp] theorem State.setOutput_laneWindow (b : BayNo) (x : Output) : (s.setOutput b x).laneWindow = s.laneWindow := rfl
@[simp] theorem State.setOutput_queue (b : BayNo) (x : Output) : (s.setOutput b x).queue = s.queue := rfl
@[simp] theorem State.setOutput_lanes (b : BayNo) (x : Output) : (s.setOutput b x).lanes = s.lanes := rfl
@[simp] theorem State.setOutput_custodySettings (b : BayNo) (x : Output) : (s.setOutput b x).custodySettings = s.custodySettings := rfl
@[simp] theorem State.setOutput_teacher (b : BayNo) (x : Output) : (s.setOutput b x).teacher = s.teacher := rfl
@[simp] theorem State.setOutput_service (b : BayNo) (x : Output) : (s.setOutput b x).service = s.service := rfl
@[simp] theorem State.setOutput_serviceInput (b : BayNo) (x : Output) : (s.setOutput b x).serviceInput = s.serviceInput := rfl
@[simp] theorem State.setOutput_serviceLevel (b : BayNo) (x : Output) : (s.setOutput b x).serviceLevel = s.serviceLevel := rfl
@[simp] theorem State.setOutput_latchQueue (b : BayNo) (x : Output) : (s.setOutput b x).latchQueue = s.latchQueue := rfl
@[simp] theorem State.setOutput_slots (b : BayNo) (x : Output) : (s.setOutput b x).slots = s.slots := rfl
@[simp] theorem State.setOutput_releases (b : BayNo) (x : Output) : (s.setOutput b x).releases = s.releases := rfl
@[simp] theorem State.setOutput_keys (b : BayNo) (x : Output) : (s.setOutput b x).keys = s.keys := rfl
@[simp] theorem State.setOutput_clock (b : BayNo) (x : Output) : (s.setOutput b x).clock = s.clock := rfl
@[simp] theorem State.setOutput_port (b : BayNo) (x : Output) : (s.setOutput b x).port = s.port := rfl
@[simp] theorem State.setOutput_clk32 (b : BayNo) (x : Output) : (s.setOutput b x).clk32 = s.clk32 := rfl
@[simp] theorem State.setOutput_reallocRequest (b : BayNo) (x : Output) : (s.setOutput b x).reallocRequest = s.reallocRequest := rfl
@[simp] theorem State.setOutput_pending (b : BayNo) (x : Output) : (s.setOutput b x).pending = s.pending := rfl

/-! ### setEntry -/

@[simp] theorem State.setEntry_roster (b : BayNo) (x : AllocEntry) : (s.setEntry b x).roster = s.roster := rfl
@[simp] theorem State.setEntry_bays (b : BayNo) (x : AllocEntry) : (s.setEntry b x).bays = s.bays := rfl
@[simp] theorem State.setEntry_links (b : BayNo) (x : AllocEntry) : (s.setEntry b x).links = s.links := rfl
@[simp] theorem State.setEntry_linkSettings (b : BayNo) (x : AllocEntry) : (s.setEntry b x).linkSettings = s.linkSettings := rfl
@[simp] theorem State.setEntry_budget (b : BayNo) (x : AllocEntry) : (s.setEntry b x).budget = s.budget := rfl
@[simp] theorem State.setEntry_supplyLimit (b : BayNo) (x : AllocEntry) : (s.setEntry b x).supplyLimit = s.supplyLimit := rfl
@[simp] theorem State.setEntry_effective (b : BayNo) (x : AllocEntry) : (s.setEntry b x).effective = s.effective := rfl
@[simp] theorem State.setEntry_passPending (b : BayNo) (x : AllocEntry) : (s.setEntry b x).passPending = s.passPending := rfl
@[simp] theorem State.setEntry_figures (b : BayNo) (x : AllocEntry) : (s.setEntry b x).figures = s.figures := rfl
@[simp] theorem State.setEntry_reservations (b : BayNo) (x : AllocEntry) : (s.setEntry b x).reservations = s.reservations := rfl
@[simp] theorem State.setEntry_phase (b : BayNo) (x : AllocEntry) : (s.setEntry b x).phase = s.phase := rfl
@[simp] theorem State.setEntry_outputs (b : BayNo) (x : AllocEntry) : (s.setEntry b x).outputs = s.outputs := rfl
@[simp] theorem State.setEntry_laneSettings (b : BayNo) (x : AllocEntry) : (s.setEntry b x).laneSettings = s.laneSettings := rfl
@[simp] theorem State.setEntry_laneWindow (b : BayNo) (x : AllocEntry) : (s.setEntry b x).laneWindow = s.laneWindow := rfl
@[simp] theorem State.setEntry_queue (b : BayNo) (x : AllocEntry) : (s.setEntry b x).queue = s.queue := rfl
@[simp] theorem State.setEntry_lanes (b : BayNo) (x : AllocEntry) : (s.setEntry b x).lanes = s.lanes := rfl
@[simp] theorem State.setEntry_custodySettings (b : BayNo) (x : AllocEntry) : (s.setEntry b x).custodySettings = s.custodySettings := rfl
@[simp] theorem State.setEntry_teacher (b : BayNo) (x : AllocEntry) : (s.setEntry b x).teacher = s.teacher := rfl
@[simp] theorem State.setEntry_service (b : BayNo) (x : AllocEntry) : (s.setEntry b x).service = s.service := rfl
@[simp] theorem State.setEntry_serviceInput (b : BayNo) (x : AllocEntry) : (s.setEntry b x).serviceInput = s.serviceInput := rfl
@[simp] theorem State.setEntry_serviceLevel (b : BayNo) (x : AllocEntry) : (s.setEntry b x).serviceLevel = s.serviceLevel := rfl
@[simp] theorem State.setEntry_latchQueue (b : BayNo) (x : AllocEntry) : (s.setEntry b x).latchQueue = s.latchQueue := rfl
@[simp] theorem State.setEntry_slots (b : BayNo) (x : AllocEntry) : (s.setEntry b x).slots = s.slots := rfl
@[simp] theorem State.setEntry_releases (b : BayNo) (x : AllocEntry) : (s.setEntry b x).releases = s.releases := rfl
@[simp] theorem State.setEntry_keys (b : BayNo) (x : AllocEntry) : (s.setEntry b x).keys = s.keys := rfl
@[simp] theorem State.setEntry_clock (b : BayNo) (x : AllocEntry) : (s.setEntry b x).clock = s.clock := rfl
@[simp] theorem State.setEntry_port (b : BayNo) (x : AllocEntry) : (s.setEntry b x).port = s.port := rfl
@[simp] theorem State.setEntry_clk32 (b : BayNo) (x : AllocEntry) : (s.setEntry b x).clk32 = s.clk32 := rfl
@[simp] theorem State.setEntry_reallocRequest (b : BayNo) (x : AllocEntry) : (s.setEntry b x).reallocRequest = s.reallocRequest := rfl
@[simp] theorem State.setEntry_pending (b : BayNo) (x : AllocEntry) : (s.setEntry b x).pending = s.pending := rfl

/-! ### setLane -/

@[simp] theorem State.setLane_roster (l : LaneNo) (x : Lane) : (s.setLane l x).roster = s.roster := rfl
@[simp] theorem State.setLane_bays (l : LaneNo) (x : Lane) : (s.setLane l x).bays = s.bays := rfl
@[simp] theorem State.setLane_links (l : LaneNo) (x : Lane) : (s.setLane l x).links = s.links := rfl
@[simp] theorem State.setLane_linkSettings (l : LaneNo) (x : Lane) : (s.setLane l x).linkSettings = s.linkSettings := rfl
@[simp] theorem State.setLane_budget (l : LaneNo) (x : Lane) : (s.setLane l x).budget = s.budget := rfl
@[simp] theorem State.setLane_supplyLimit (l : LaneNo) (x : Lane) : (s.setLane l x).supplyLimit = s.supplyLimit := rfl
@[simp] theorem State.setLane_effective (l : LaneNo) (x : Lane) : (s.setLane l x).effective = s.effective := rfl
@[simp] theorem State.setLane_passPending (l : LaneNo) (x : Lane) : (s.setLane l x).passPending = s.passPending := rfl
@[simp] theorem State.setLane_figures (l : LaneNo) (x : Lane) : (s.setLane l x).figures = s.figures := rfl
@[simp] theorem State.setLane_entries (l : LaneNo) (x : Lane) : (s.setLane l x).entries = s.entries := rfl
@[simp] theorem State.setLane_reservations (l : LaneNo) (x : Lane) : (s.setLane l x).reservations = s.reservations := rfl
@[simp] theorem State.setLane_phase (l : LaneNo) (x : Lane) : (s.setLane l x).phase = s.phase := rfl
@[simp] theorem State.setLane_outputs (l : LaneNo) (x : Lane) : (s.setLane l x).outputs = s.outputs := rfl
@[simp] theorem State.setLane_laneSettings (l : LaneNo) (x : Lane) : (s.setLane l x).laneSettings = s.laneSettings := rfl
@[simp] theorem State.setLane_laneWindow (l : LaneNo) (x : Lane) : (s.setLane l x).laneWindow = s.laneWindow := rfl
@[simp] theorem State.setLane_queue (l : LaneNo) (x : Lane) : (s.setLane l x).queue = s.queue := rfl
@[simp] theorem State.setLane_custodySettings (l : LaneNo) (x : Lane) : (s.setLane l x).custodySettings = s.custodySettings := rfl
@[simp] theorem State.setLane_teacher (l : LaneNo) (x : Lane) : (s.setLane l x).teacher = s.teacher := rfl
@[simp] theorem State.setLane_service (l : LaneNo) (x : Lane) : (s.setLane l x).service = s.service := rfl
@[simp] theorem State.setLane_serviceInput (l : LaneNo) (x : Lane) : (s.setLane l x).serviceInput = s.serviceInput := rfl
@[simp] theorem State.setLane_serviceLevel (l : LaneNo) (x : Lane) : (s.setLane l x).serviceLevel = s.serviceLevel := rfl
@[simp] theorem State.setLane_latchQueue (l : LaneNo) (x : Lane) : (s.setLane l x).latchQueue = s.latchQueue := rfl
@[simp] theorem State.setLane_slots (l : LaneNo) (x : Lane) : (s.setLane l x).slots = s.slots := rfl
@[simp] theorem State.setLane_releases (l : LaneNo) (x : Lane) : (s.setLane l x).releases = s.releases := rfl
@[simp] theorem State.setLane_keys (l : LaneNo) (x : Lane) : (s.setLane l x).keys = s.keys := rfl
@[simp] theorem State.setLane_clock (l : LaneNo) (x : Lane) : (s.setLane l x).clock = s.clock := rfl
@[simp] theorem State.setLane_port (l : LaneNo) (x : Lane) : (s.setLane l x).port = s.port := rfl
@[simp] theorem State.setLane_clk32 (l : LaneNo) (x : Lane) : (s.setLane l x).clk32 = s.clk32 := rfl
@[simp] theorem State.setLane_reallocRequest (l : LaneNo) (x : Lane) : (s.setLane l x).reallocRequest = s.reallocRequest := rfl
@[simp] theorem State.setLane_pending (l : LaneNo) (x : Lane) : (s.setLane l x).pending = s.pending := rfl

/-! ### setSlot -/

@[simp] theorem State.setSlot_roster (k : SlotNo) (x : DriveSlot) : (s.setSlot k x).roster = s.roster := rfl
@[simp] theorem State.setSlot_bays (k : SlotNo) (x : DriveSlot) : (s.setSlot k x).bays = s.bays := rfl
@[simp] theorem State.setSlot_links (k : SlotNo) (x : DriveSlot) : (s.setSlot k x).links = s.links := rfl
@[simp] theorem State.setSlot_linkSettings (k : SlotNo) (x : DriveSlot) : (s.setSlot k x).linkSettings = s.linkSettings := rfl
@[simp] theorem State.setSlot_budget (k : SlotNo) (x : DriveSlot) : (s.setSlot k x).budget = s.budget := rfl
@[simp] theorem State.setSlot_supplyLimit (k : SlotNo) (x : DriveSlot) : (s.setSlot k x).supplyLimit = s.supplyLimit := rfl
@[simp] theorem State.setSlot_effective (k : SlotNo) (x : DriveSlot) : (s.setSlot k x).effective = s.effective := rfl
@[simp] theorem State.setSlot_passPending (k : SlotNo) (x : DriveSlot) : (s.setSlot k x).passPending = s.passPending := rfl
@[simp] theorem State.setSlot_figures (k : SlotNo) (x : DriveSlot) : (s.setSlot k x).figures = s.figures := rfl
@[simp] theorem State.setSlot_entries (k : SlotNo) (x : DriveSlot) : (s.setSlot k x).entries = s.entries := rfl
@[simp] theorem State.setSlot_reservations (k : SlotNo) (x : DriveSlot) : (s.setSlot k x).reservations = s.reservations := rfl
@[simp] theorem State.setSlot_phase (k : SlotNo) (x : DriveSlot) : (s.setSlot k x).phase = s.phase := rfl
@[simp] theorem State.setSlot_outputs (k : SlotNo) (x : DriveSlot) : (s.setSlot k x).outputs = s.outputs := rfl
@[simp] theorem State.setSlot_laneSettings (k : SlotNo) (x : DriveSlot) : (s.setSlot k x).laneSettings = s.laneSettings := rfl
@[simp] theorem State.setSlot_laneWindow (k : SlotNo) (x : DriveSlot) : (s.setSlot k x).laneWindow = s.laneWindow := rfl
@[simp] theorem State.setSlot_queue (k : SlotNo) (x : DriveSlot) : (s.setSlot k x).queue = s.queue := rfl
@[simp] theorem State.setSlot_lanes (k : SlotNo) (x : DriveSlot) : (s.setSlot k x).lanes = s.lanes := rfl
@[simp] theorem State.setSlot_custodySettings (k : SlotNo) (x : DriveSlot) : (s.setSlot k x).custodySettings = s.custodySettings := rfl
@[simp] theorem State.setSlot_teacher (k : SlotNo) (x : DriveSlot) : (s.setSlot k x).teacher = s.teacher := rfl
@[simp] theorem State.setSlot_service (k : SlotNo) (x : DriveSlot) : (s.setSlot k x).service = s.service := rfl
@[simp] theorem State.setSlot_serviceInput (k : SlotNo) (x : DriveSlot) : (s.setSlot k x).serviceInput = s.serviceInput := rfl
@[simp] theorem State.setSlot_serviceLevel (k : SlotNo) (x : DriveSlot) : (s.setSlot k x).serviceLevel = s.serviceLevel := rfl
@[simp] theorem State.setSlot_latchQueue (k : SlotNo) (x : DriveSlot) : (s.setSlot k x).latchQueue = s.latchQueue := rfl
@[simp] theorem State.setSlot_releases (k : SlotNo) (x : DriveSlot) : (s.setSlot k x).releases = s.releases := rfl
@[simp] theorem State.setSlot_keys (k : SlotNo) (x : DriveSlot) : (s.setSlot k x).keys = s.keys := rfl
@[simp] theorem State.setSlot_clock (k : SlotNo) (x : DriveSlot) : (s.setSlot k x).clock = s.clock := rfl
@[simp] theorem State.setSlot_port (k : SlotNo) (x : DriveSlot) : (s.setSlot k x).port = s.port := rfl
@[simp] theorem State.setSlot_clk32 (k : SlotNo) (x : DriveSlot) : (s.setSlot k x).clk32 = s.clk32 := rfl
@[simp] theorem State.setSlot_reallocRequest (k : SlotNo) (x : DriveSlot) : (s.setSlot k x).reallocRequest = s.reallocRequest := rfl
@[simp] theorem State.setSlot_pending (k : SlotNo) (x : DriveSlot) : (s.setSlot k x).pending = s.pending := rfl

/-! ### setRelease -/

@[simp] theorem State.setRelease_roster (b : BayNo) (x : Option Release) : (s.setRelease b x).roster = s.roster := rfl
@[simp] theorem State.setRelease_bays (b : BayNo) (x : Option Release) : (s.setRelease b x).bays = s.bays := rfl
@[simp] theorem State.setRelease_links (b : BayNo) (x : Option Release) : (s.setRelease b x).links = s.links := rfl
@[simp] theorem State.setRelease_linkSettings (b : BayNo) (x : Option Release) : (s.setRelease b x).linkSettings = s.linkSettings := rfl
@[simp] theorem State.setRelease_budget (b : BayNo) (x : Option Release) : (s.setRelease b x).budget = s.budget := rfl
@[simp] theorem State.setRelease_supplyLimit (b : BayNo) (x : Option Release) : (s.setRelease b x).supplyLimit = s.supplyLimit := rfl
@[simp] theorem State.setRelease_effective (b : BayNo) (x : Option Release) : (s.setRelease b x).effective = s.effective := rfl
@[simp] theorem State.setRelease_passPending (b : BayNo) (x : Option Release) : (s.setRelease b x).passPending = s.passPending := rfl
@[simp] theorem State.setRelease_figures (b : BayNo) (x : Option Release) : (s.setRelease b x).figures = s.figures := rfl
@[simp] theorem State.setRelease_entries (b : BayNo) (x : Option Release) : (s.setRelease b x).entries = s.entries := rfl
@[simp] theorem State.setRelease_reservations (b : BayNo) (x : Option Release) : (s.setRelease b x).reservations = s.reservations := rfl
@[simp] theorem State.setRelease_phase (b : BayNo) (x : Option Release) : (s.setRelease b x).phase = s.phase := rfl
@[simp] theorem State.setRelease_outputs (b : BayNo) (x : Option Release) : (s.setRelease b x).outputs = s.outputs := rfl
@[simp] theorem State.setRelease_laneSettings (b : BayNo) (x : Option Release) : (s.setRelease b x).laneSettings = s.laneSettings := rfl
@[simp] theorem State.setRelease_laneWindow (b : BayNo) (x : Option Release) : (s.setRelease b x).laneWindow = s.laneWindow := rfl
@[simp] theorem State.setRelease_queue (b : BayNo) (x : Option Release) : (s.setRelease b x).queue = s.queue := rfl
@[simp] theorem State.setRelease_lanes (b : BayNo) (x : Option Release) : (s.setRelease b x).lanes = s.lanes := rfl
@[simp] theorem State.setRelease_custodySettings (b : BayNo) (x : Option Release) : (s.setRelease b x).custodySettings = s.custodySettings := rfl
@[simp] theorem State.setRelease_teacher (b : BayNo) (x : Option Release) : (s.setRelease b x).teacher = s.teacher := rfl
@[simp] theorem State.setRelease_service (b : BayNo) (x : Option Release) : (s.setRelease b x).service = s.service := rfl
@[simp] theorem State.setRelease_serviceInput (b : BayNo) (x : Option Release) : (s.setRelease b x).serviceInput = s.serviceInput := rfl
@[simp] theorem State.setRelease_serviceLevel (b : BayNo) (x : Option Release) : (s.setRelease b x).serviceLevel = s.serviceLevel := rfl
@[simp] theorem State.setRelease_latchQueue (b : BayNo) (x : Option Release) : (s.setRelease b x).latchQueue = s.latchQueue := rfl
@[simp] theorem State.setRelease_slots (b : BayNo) (x : Option Release) : (s.setRelease b x).slots = s.slots := rfl
@[simp] theorem State.setRelease_keys (b : BayNo) (x : Option Release) : (s.setRelease b x).keys = s.keys := rfl
@[simp] theorem State.setRelease_clock (b : BayNo) (x : Option Release) : (s.setRelease b x).clock = s.clock := rfl
@[simp] theorem State.setRelease_port (b : BayNo) (x : Option Release) : (s.setRelease b x).port = s.port := rfl
@[simp] theorem State.setRelease_clk32 (b : BayNo) (x : Option Release) : (s.setRelease b x).clk32 = s.clk32 := rfl
@[simp] theorem State.setRelease_reallocRequest (b : BayNo) (x : Option Release) : (s.setRelease b x).reallocRequest = s.reallocRequest := rfl
@[simp] theorem State.setRelease_pending (b : BayNo) (x : Option Release) : (s.setRelease b x).pending = s.pending := rfl

/-! ### setKeyEntry -/

@[simp] theorem State.setKeyEntry_roster (e : KeyIx) (x : KeyEntry) : (s.setKeyEntry e x).roster = s.roster := rfl
@[simp] theorem State.setKeyEntry_bays (e : KeyIx) (x : KeyEntry) : (s.setKeyEntry e x).bays = s.bays := rfl
@[simp] theorem State.setKeyEntry_links (e : KeyIx) (x : KeyEntry) : (s.setKeyEntry e x).links = s.links := rfl
@[simp] theorem State.setKeyEntry_linkSettings (e : KeyIx) (x : KeyEntry) : (s.setKeyEntry e x).linkSettings = s.linkSettings := rfl
@[simp] theorem State.setKeyEntry_budget (e : KeyIx) (x : KeyEntry) : (s.setKeyEntry e x).budget = s.budget := rfl
@[simp] theorem State.setKeyEntry_supplyLimit (e : KeyIx) (x : KeyEntry) : (s.setKeyEntry e x).supplyLimit = s.supplyLimit := rfl
@[simp] theorem State.setKeyEntry_effective (e : KeyIx) (x : KeyEntry) : (s.setKeyEntry e x).effective = s.effective := rfl
@[simp] theorem State.setKeyEntry_passPending (e : KeyIx) (x : KeyEntry) : (s.setKeyEntry e x).passPending = s.passPending := rfl
@[simp] theorem State.setKeyEntry_figures (e : KeyIx) (x : KeyEntry) : (s.setKeyEntry e x).figures = s.figures := rfl
@[simp] theorem State.setKeyEntry_entries (e : KeyIx) (x : KeyEntry) : (s.setKeyEntry e x).entries = s.entries := rfl
@[simp] theorem State.setKeyEntry_reservations (e : KeyIx) (x : KeyEntry) : (s.setKeyEntry e x).reservations = s.reservations := rfl
@[simp] theorem State.setKeyEntry_phase (e : KeyIx) (x : KeyEntry) : (s.setKeyEntry e x).phase = s.phase := rfl
@[simp] theorem State.setKeyEntry_outputs (e : KeyIx) (x : KeyEntry) : (s.setKeyEntry e x).outputs = s.outputs := rfl
@[simp] theorem State.setKeyEntry_laneSettings (e : KeyIx) (x : KeyEntry) : (s.setKeyEntry e x).laneSettings = s.laneSettings := rfl
@[simp] theorem State.setKeyEntry_laneWindow (e : KeyIx) (x : KeyEntry) : (s.setKeyEntry e x).laneWindow = s.laneWindow := rfl
@[simp] theorem State.setKeyEntry_queue (e : KeyIx) (x : KeyEntry) : (s.setKeyEntry e x).queue = s.queue := rfl
@[simp] theorem State.setKeyEntry_lanes (e : KeyIx) (x : KeyEntry) : (s.setKeyEntry e x).lanes = s.lanes := rfl
@[simp] theorem State.setKeyEntry_custodySettings (e : KeyIx) (x : KeyEntry) : (s.setKeyEntry e x).custodySettings = s.custodySettings := rfl
@[simp] theorem State.setKeyEntry_teacher (e : KeyIx) (x : KeyEntry) : (s.setKeyEntry e x).teacher = s.teacher := rfl
@[simp] theorem State.setKeyEntry_service (e : KeyIx) (x : KeyEntry) : (s.setKeyEntry e x).service = s.service := rfl
@[simp] theorem State.setKeyEntry_serviceInput (e : KeyIx) (x : KeyEntry) : (s.setKeyEntry e x).serviceInput = s.serviceInput := rfl
@[simp] theorem State.setKeyEntry_serviceLevel (e : KeyIx) (x : KeyEntry) : (s.setKeyEntry e x).serviceLevel = s.serviceLevel := rfl
@[simp] theorem State.setKeyEntry_latchQueue (e : KeyIx) (x : KeyEntry) : (s.setKeyEntry e x).latchQueue = s.latchQueue := rfl
@[simp] theorem State.setKeyEntry_slots (e : KeyIx) (x : KeyEntry) : (s.setKeyEntry e x).slots = s.slots := rfl
@[simp] theorem State.setKeyEntry_releases (e : KeyIx) (x : KeyEntry) : (s.setKeyEntry e x).releases = s.releases := rfl
@[simp] theorem State.setKeyEntry_clock (e : KeyIx) (x : KeyEntry) : (s.setKeyEntry e x).clock = s.clock := rfl
@[simp] theorem State.setKeyEntry_port (e : KeyIx) (x : KeyEntry) : (s.setKeyEntry e x).port = s.port := rfl
@[simp] theorem State.setKeyEntry_clk32 (e : KeyIx) (x : KeyEntry) : (s.setKeyEntry e x).clk32 = s.clk32 := rfl
@[simp] theorem State.setKeyEntry_reallocRequest (e : KeyIx) (x : KeyEntry) : (s.setKeyEntry e x).reallocRequest = s.reallocRequest := rfl
@[simp] theorem State.setKeyEntry_pending (e : KeyIx) (x : KeyEntry) : (s.setKeyEntry e x).pending = s.pending := rfl

/-! ### addSubject -/

@[simp] theorem State.addSubject_roster (n : SourceNo) (m : Nat) : (s.addSubject n m).roster = s.roster := rfl
@[simp] theorem State.addSubject_bays (n : SourceNo) (m : Nat) : (s.addSubject n m).bays = s.bays := rfl
@[simp] theorem State.addSubject_links (n : SourceNo) (m : Nat) : (s.addSubject n m).links = s.links := rfl
@[simp] theorem State.addSubject_linkSettings (n : SourceNo) (m : Nat) : (s.addSubject n m).linkSettings = s.linkSettings := rfl
@[simp] theorem State.addSubject_budget (n : SourceNo) (m : Nat) : (s.addSubject n m).budget = s.budget := rfl
@[simp] theorem State.addSubject_supplyLimit (n : SourceNo) (m : Nat) : (s.addSubject n m).supplyLimit = s.supplyLimit := rfl
@[simp] theorem State.addSubject_effective (n : SourceNo) (m : Nat) : (s.addSubject n m).effective = s.effective := rfl
@[simp] theorem State.addSubject_passPending (n : SourceNo) (m : Nat) : (s.addSubject n m).passPending = s.passPending := rfl
@[simp] theorem State.addSubject_figures (n : SourceNo) (m : Nat) : (s.addSubject n m).figures = s.figures := rfl
@[simp] theorem State.addSubject_entries (n : SourceNo) (m : Nat) : (s.addSubject n m).entries = s.entries := rfl
@[simp] theorem State.addSubject_reservations (n : SourceNo) (m : Nat) : (s.addSubject n m).reservations = s.reservations := rfl
@[simp] theorem State.addSubject_phase (n : SourceNo) (m : Nat) : (s.addSubject n m).phase = s.phase := rfl
@[simp] theorem State.addSubject_outputs (n : SourceNo) (m : Nat) : (s.addSubject n m).outputs = s.outputs := rfl
@[simp] theorem State.addSubject_laneSettings (n : SourceNo) (m : Nat) : (s.addSubject n m).laneSettings = s.laneSettings := rfl
@[simp] theorem State.addSubject_laneWindow (n : SourceNo) (m : Nat) : (s.addSubject n m).laneWindow = s.laneWindow := rfl
@[simp] theorem State.addSubject_queue (n : SourceNo) (m : Nat) : (s.addSubject n m).queue = s.queue := rfl
@[simp] theorem State.addSubject_lanes (n : SourceNo) (m : Nat) : (s.addSubject n m).lanes = s.lanes := rfl
@[simp] theorem State.addSubject_custodySettings (n : SourceNo) (m : Nat) : (s.addSubject n m).custodySettings = s.custodySettings := rfl
@[simp] theorem State.addSubject_teacher (n : SourceNo) (m : Nat) : (s.addSubject n m).teacher = s.teacher := rfl
@[simp] theorem State.addSubject_service (n : SourceNo) (m : Nat) : (s.addSubject n m).service = s.service := rfl
@[simp] theorem State.addSubject_serviceInput (n : SourceNo) (m : Nat) : (s.addSubject n m).serviceInput = s.serviceInput := rfl
@[simp] theorem State.addSubject_serviceLevel (n : SourceNo) (m : Nat) : (s.addSubject n m).serviceLevel = s.serviceLevel := rfl
@[simp] theorem State.addSubject_latchQueue (n : SourceNo) (m : Nat) : (s.addSubject n m).latchQueue = s.latchQueue := rfl
@[simp] theorem State.addSubject_slots (n : SourceNo) (m : Nat) : (s.addSubject n m).slots = s.slots := rfl
@[simp] theorem State.addSubject_releases (n : SourceNo) (m : Nat) : (s.addSubject n m).releases = s.releases := rfl
@[simp] theorem State.addSubject_keys (n : SourceNo) (m : Nat) : (s.addSubject n m).keys = s.keys := rfl
@[simp] theorem State.addSubject_clock (n : SourceNo) (m : Nat) : (s.addSubject n m).clock = s.clock := rfl
@[simp] theorem State.addSubject_clk32 (n : SourceNo) (m : Nat) : (s.addSubject n m).clk32 = s.clk32 := rfl
@[simp] theorem State.addSubject_reallocRequest (n : SourceNo) (m : Nat) : (s.addSubject n m).reallocRequest = s.reallocRequest := rfl
@[simp] theorem State.addSubject_pending (n : SourceNo) (m : Nat) : (s.addSubject n m).pending = s.pending := rfl

/-! ### respond -/

@[simp] theorem State.respond_roster (c : Status) (d : List Byte) : (s.respond c d).roster = s.roster := rfl
@[simp] theorem State.respond_bays (c : Status) (d : List Byte) : (s.respond c d).bays = s.bays := rfl
@[simp] theorem State.respond_links (c : Status) (d : List Byte) : (s.respond c d).links = s.links := rfl
@[simp] theorem State.respond_linkSettings (c : Status) (d : List Byte) : (s.respond c d).linkSettings = s.linkSettings := rfl
@[simp] theorem State.respond_budget (c : Status) (d : List Byte) : (s.respond c d).budget = s.budget := rfl
@[simp] theorem State.respond_supplyLimit (c : Status) (d : List Byte) : (s.respond c d).supplyLimit = s.supplyLimit := rfl
@[simp] theorem State.respond_effective (c : Status) (d : List Byte) : (s.respond c d).effective = s.effective := rfl
@[simp] theorem State.respond_passPending (c : Status) (d : List Byte) : (s.respond c d).passPending = s.passPending := rfl
@[simp] theorem State.respond_figures (c : Status) (d : List Byte) : (s.respond c d).figures = s.figures := rfl
@[simp] theorem State.respond_entries (c : Status) (d : List Byte) : (s.respond c d).entries = s.entries := rfl
@[simp] theorem State.respond_reservations (c : Status) (d : List Byte) : (s.respond c d).reservations = s.reservations := rfl
@[simp] theorem State.respond_phase (c : Status) (d : List Byte) : (s.respond c d).phase = s.phase := rfl
@[simp] theorem State.respond_outputs (c : Status) (d : List Byte) : (s.respond c d).outputs = s.outputs := rfl
@[simp] theorem State.respond_laneSettings (c : Status) (d : List Byte) : (s.respond c d).laneSettings = s.laneSettings := rfl
@[simp] theorem State.respond_laneWindow (c : Status) (d : List Byte) : (s.respond c d).laneWindow = s.laneWindow := rfl
@[simp] theorem State.respond_queue (c : Status) (d : List Byte) : (s.respond c d).queue = s.queue := rfl
@[simp] theorem State.respond_lanes (c : Status) (d : List Byte) : (s.respond c d).lanes = s.lanes := rfl
@[simp] theorem State.respond_custodySettings (c : Status) (d : List Byte) : (s.respond c d).custodySettings = s.custodySettings := rfl
@[simp] theorem State.respond_teacher (c : Status) (d : List Byte) : (s.respond c d).teacher = s.teacher := rfl
@[simp] theorem State.respond_service (c : Status) (d : List Byte) : (s.respond c d).service = s.service := rfl
@[simp] theorem State.respond_serviceInput (c : Status) (d : List Byte) : (s.respond c d).serviceInput = s.serviceInput := rfl
@[simp] theorem State.respond_serviceLevel (c : Status) (d : List Byte) : (s.respond c d).serviceLevel = s.serviceLevel := rfl
@[simp] theorem State.respond_latchQueue (c : Status) (d : List Byte) : (s.respond c d).latchQueue = s.latchQueue := rfl
@[simp] theorem State.respond_slots (c : Status) (d : List Byte) : (s.respond c d).slots = s.slots := rfl
@[simp] theorem State.respond_releases (c : Status) (d : List Byte) : (s.respond c d).releases = s.releases := rfl
@[simp] theorem State.respond_keys (c : Status) (d : List Byte) : (s.respond c d).keys = s.keys := rfl
@[simp] theorem State.respond_clock (c : Status) (d : List Byte) : (s.respond c d).clock = s.clock := rfl
@[simp] theorem State.respond_clk32 (c : Status) (d : List Byte) : (s.respond c d).clk32 = s.clk32 := rfl
@[simp] theorem State.respond_reallocRequest (c : Status) (d : List Byte) : (s.respond c d).reallocRequest = s.reallocRequest := rfl
@[simp] theorem State.respond_pending (c : Status) (d : List Byte) : (s.respond c d).pending = s.pending := rfl

/-! ### requestPass -/

@[simp] theorem State.requestPass_roster : (s.requestPass).roster = s.roster := rfl
@[simp] theorem State.requestPass_bays : (s.requestPass).bays = s.bays := rfl
@[simp] theorem State.requestPass_links : (s.requestPass).links = s.links := rfl
@[simp] theorem State.requestPass_linkSettings : (s.requestPass).linkSettings = s.linkSettings := rfl
@[simp] theorem State.requestPass_budget : (s.requestPass).budget = s.budget := rfl
@[simp] theorem State.requestPass_supplyLimit : (s.requestPass).supplyLimit = s.supplyLimit := rfl
@[simp] theorem State.requestPass_effective : (s.requestPass).effective = s.effective := rfl
@[simp] theorem State.requestPass_passPending : (s.requestPass).passPending = s.passPending := rfl
@[simp] theorem State.requestPass_figures : (s.requestPass).figures = s.figures := rfl
@[simp] theorem State.requestPass_entries : (s.requestPass).entries = s.entries := rfl
@[simp] theorem State.requestPass_reservations : (s.requestPass).reservations = s.reservations := rfl
@[simp] theorem State.requestPass_phase : (s.requestPass).phase = s.phase := rfl
@[simp] theorem State.requestPass_outputs : (s.requestPass).outputs = s.outputs := rfl
@[simp] theorem State.requestPass_laneSettings : (s.requestPass).laneSettings = s.laneSettings := rfl
@[simp] theorem State.requestPass_laneWindow : (s.requestPass).laneWindow = s.laneWindow := rfl
@[simp] theorem State.requestPass_queue : (s.requestPass).queue = s.queue := rfl
@[simp] theorem State.requestPass_lanes : (s.requestPass).lanes = s.lanes := rfl
@[simp] theorem State.requestPass_custodySettings : (s.requestPass).custodySettings = s.custodySettings := rfl
@[simp] theorem State.requestPass_teacher : (s.requestPass).teacher = s.teacher := rfl
@[simp] theorem State.requestPass_service : (s.requestPass).service = s.service := rfl
@[simp] theorem State.requestPass_serviceInput : (s.requestPass).serviceInput = s.serviceInput := rfl
@[simp] theorem State.requestPass_serviceLevel : (s.requestPass).serviceLevel = s.serviceLevel := rfl
@[simp] theorem State.requestPass_latchQueue : (s.requestPass).latchQueue = s.latchQueue := rfl
@[simp] theorem State.requestPass_slots : (s.requestPass).slots = s.slots := rfl
@[simp] theorem State.requestPass_releases : (s.requestPass).releases = s.releases := rfl
@[simp] theorem State.requestPass_keys : (s.requestPass).keys = s.keys := rfl
@[simp] theorem State.requestPass_clock : (s.requestPass).clock = s.clock := rfl
@[simp] theorem State.requestPass_port : (s.requestPass).port = s.port := rfl
@[simp] theorem State.requestPass_clk32 : (s.requestPass).clk32 = s.clk32 := rfl
@[simp] theorem State.requestPass_pending : (s.requestPass).pending = s.pending := rfl

/-! ### raiseReservation -/

@[simp] theorem State.raiseReservation_roster (o : Owner) (a : Nat) : (s.raiseReservation o a).roster = s.roster := rfl
@[simp] theorem State.raiseReservation_bays (o : Owner) (a : Nat) : (s.raiseReservation o a).bays = s.bays := rfl
@[simp] theorem State.raiseReservation_links (o : Owner) (a : Nat) : (s.raiseReservation o a).links = s.links := rfl
@[simp] theorem State.raiseReservation_linkSettings (o : Owner) (a : Nat) : (s.raiseReservation o a).linkSettings = s.linkSettings := rfl
@[simp] theorem State.raiseReservation_budget (o : Owner) (a : Nat) : (s.raiseReservation o a).budget = s.budget := rfl
@[simp] theorem State.raiseReservation_supplyLimit (o : Owner) (a : Nat) : (s.raiseReservation o a).supplyLimit = s.supplyLimit := rfl
@[simp] theorem State.raiseReservation_effective (o : Owner) (a : Nat) : (s.raiseReservation o a).effective = s.effective := rfl
@[simp] theorem State.raiseReservation_passPending (o : Owner) (a : Nat) : (s.raiseReservation o a).passPending = s.passPending := rfl
@[simp] theorem State.raiseReservation_figures (o : Owner) (a : Nat) : (s.raiseReservation o a).figures = s.figures := rfl
@[simp] theorem State.raiseReservation_entries (o : Owner) (a : Nat) : (s.raiseReservation o a).entries = s.entries := rfl
@[simp] theorem State.raiseReservation_phase (o : Owner) (a : Nat) : (s.raiseReservation o a).phase = s.phase := rfl
@[simp] theorem State.raiseReservation_outputs (o : Owner) (a : Nat) : (s.raiseReservation o a).outputs = s.outputs := rfl
@[simp] theorem State.raiseReservation_laneSettings (o : Owner) (a : Nat) : (s.raiseReservation o a).laneSettings = s.laneSettings := rfl
@[simp] theorem State.raiseReservation_laneWindow (o : Owner) (a : Nat) : (s.raiseReservation o a).laneWindow = s.laneWindow := rfl
@[simp] theorem State.raiseReservation_queue (o : Owner) (a : Nat) : (s.raiseReservation o a).queue = s.queue := rfl
@[simp] theorem State.raiseReservation_lanes (o : Owner) (a : Nat) : (s.raiseReservation o a).lanes = s.lanes := rfl
@[simp] theorem State.raiseReservation_custodySettings (o : Owner) (a : Nat) : (s.raiseReservation o a).custodySettings = s.custodySettings := rfl
@[simp] theorem State.raiseReservation_teacher (o : Owner) (a : Nat) : (s.raiseReservation o a).teacher = s.teacher := rfl
@[simp] theorem State.raiseReservation_service (o : Owner) (a : Nat) : (s.raiseReservation o a).service = s.service := rfl
@[simp] theorem State.raiseReservation_serviceInput (o : Owner) (a : Nat) : (s.raiseReservation o a).serviceInput = s.serviceInput := rfl
@[simp] theorem State.raiseReservation_serviceLevel (o : Owner) (a : Nat) : (s.raiseReservation o a).serviceLevel = s.serviceLevel := rfl
@[simp] theorem State.raiseReservation_latchQueue (o : Owner) (a : Nat) : (s.raiseReservation o a).latchQueue = s.latchQueue := rfl
@[simp] theorem State.raiseReservation_slots (o : Owner) (a : Nat) : (s.raiseReservation o a).slots = s.slots := rfl
@[simp] theorem State.raiseReservation_releases (o : Owner) (a : Nat) : (s.raiseReservation o a).releases = s.releases := rfl
@[simp] theorem State.raiseReservation_keys (o : Owner) (a : Nat) : (s.raiseReservation o a).keys = s.keys := rfl
@[simp] theorem State.raiseReservation_clock (o : Owner) (a : Nat) : (s.raiseReservation o a).clock = s.clock := rfl
@[simp] theorem State.raiseReservation_port (o : Owner) (a : Nat) : (s.raiseReservation o a).port = s.port := rfl
@[simp] theorem State.raiseReservation_clk32 (o : Owner) (a : Nat) : (s.raiseReservation o a).clk32 = s.clk32 := rfl
@[simp] theorem State.raiseReservation_pending (o : Owner) (a : Nat) : (s.raiseReservation o a).pending = s.pending := rfl

/-! ### dropReservation -/

@[simp] theorem State.dropReservation_roster (o : Owner) : (s.dropReservation o).roster = s.roster := rfl
@[simp] theorem State.dropReservation_bays (o : Owner) : (s.dropReservation o).bays = s.bays := rfl
@[simp] theorem State.dropReservation_links (o : Owner) : (s.dropReservation o).links = s.links := rfl
@[simp] theorem State.dropReservation_linkSettings (o : Owner) : (s.dropReservation o).linkSettings = s.linkSettings := rfl
@[simp] theorem State.dropReservation_budget (o : Owner) : (s.dropReservation o).budget = s.budget := rfl
@[simp] theorem State.dropReservation_supplyLimit (o : Owner) : (s.dropReservation o).supplyLimit = s.supplyLimit := rfl
@[simp] theorem State.dropReservation_effective (o : Owner) : (s.dropReservation o).effective = s.effective := rfl
@[simp] theorem State.dropReservation_passPending (o : Owner) : (s.dropReservation o).passPending = s.passPending := rfl
@[simp] theorem State.dropReservation_figures (o : Owner) : (s.dropReservation o).figures = s.figures := rfl
@[simp] theorem State.dropReservation_entries (o : Owner) : (s.dropReservation o).entries = s.entries := rfl
@[simp] theorem State.dropReservation_phase (o : Owner) : (s.dropReservation o).phase = s.phase := rfl
@[simp] theorem State.dropReservation_outputs (o : Owner) : (s.dropReservation o).outputs = s.outputs := rfl
@[simp] theorem State.dropReservation_laneSettings (o : Owner) : (s.dropReservation o).laneSettings = s.laneSettings := rfl
@[simp] theorem State.dropReservation_laneWindow (o : Owner) : (s.dropReservation o).laneWindow = s.laneWindow := rfl
@[simp] theorem State.dropReservation_queue (o : Owner) : (s.dropReservation o).queue = s.queue := rfl
@[simp] theorem State.dropReservation_lanes (o : Owner) : (s.dropReservation o).lanes = s.lanes := rfl
@[simp] theorem State.dropReservation_custodySettings (o : Owner) : (s.dropReservation o).custodySettings = s.custodySettings := rfl
@[simp] theorem State.dropReservation_teacher (o : Owner) : (s.dropReservation o).teacher = s.teacher := rfl
@[simp] theorem State.dropReservation_service (o : Owner) : (s.dropReservation o).service = s.service := rfl
@[simp] theorem State.dropReservation_serviceInput (o : Owner) : (s.dropReservation o).serviceInput = s.serviceInput := rfl
@[simp] theorem State.dropReservation_serviceLevel (o : Owner) : (s.dropReservation o).serviceLevel = s.serviceLevel := rfl
@[simp] theorem State.dropReservation_latchQueue (o : Owner) : (s.dropReservation o).latchQueue = s.latchQueue := rfl
@[simp] theorem State.dropReservation_slots (o : Owner) : (s.dropReservation o).slots = s.slots := rfl
@[simp] theorem State.dropReservation_releases (o : Owner) : (s.dropReservation o).releases = s.releases := rfl
@[simp] theorem State.dropReservation_keys (o : Owner) : (s.dropReservation o).keys = s.keys := rfl
@[simp] theorem State.dropReservation_clock (o : Owner) : (s.dropReservation o).clock = s.clock := rfl
@[simp] theorem State.dropReservation_port (o : Owner) : (s.dropReservation o).port = s.port := rfl
@[simp] theorem State.dropReservation_clk32 (o : Owner) : (s.dropReservation o).clk32 = s.clk32 := rfl
@[simp] theorem State.dropReservation_pending (o : Owner) : (s.dropReservation o).pending = s.pending := rfl

/-! ### openTeacher -/

@[simp] theorem State.openTeacher_roster : (s.openTeacher).roster = s.roster := rfl
@[simp] theorem State.openTeacher_bays : (s.openTeacher).bays = s.bays := rfl
@[simp] theorem State.openTeacher_links : (s.openTeacher).links = s.links := rfl
@[simp] theorem State.openTeacher_linkSettings : (s.openTeacher).linkSettings = s.linkSettings := rfl
@[simp] theorem State.openTeacher_budget : (s.openTeacher).budget = s.budget := rfl
@[simp] theorem State.openTeacher_supplyLimit : (s.openTeacher).supplyLimit = s.supplyLimit := rfl
@[simp] theorem State.openTeacher_effective : (s.openTeacher).effective = s.effective := rfl
@[simp] theorem State.openTeacher_passPending : (s.openTeacher).passPending = s.passPending := rfl
@[simp] theorem State.openTeacher_figures : (s.openTeacher).figures = s.figures := rfl
@[simp] theorem State.openTeacher_entries : (s.openTeacher).entries = s.entries := rfl
@[simp] theorem State.openTeacher_reservations : (s.openTeacher).reservations = s.reservations := rfl
@[simp] theorem State.openTeacher_phase : (s.openTeacher).phase = s.phase := rfl
@[simp] theorem State.openTeacher_outputs : (s.openTeacher).outputs = s.outputs := rfl
@[simp] theorem State.openTeacher_laneSettings : (s.openTeacher).laneSettings = s.laneSettings := rfl
@[simp] theorem State.openTeacher_laneWindow : (s.openTeacher).laneWindow = s.laneWindow := rfl
@[simp] theorem State.openTeacher_queue : (s.openTeacher).queue = s.queue := rfl
@[simp] theorem State.openTeacher_lanes : (s.openTeacher).lanes = s.lanes := rfl
@[simp] theorem State.openTeacher_custodySettings : (s.openTeacher).custodySettings = s.custodySettings := rfl
@[simp] theorem State.openTeacher_service : (s.openTeacher).service = s.service := rfl
@[simp] theorem State.openTeacher_serviceInput : (s.openTeacher).serviceInput = s.serviceInput := rfl
@[simp] theorem State.openTeacher_serviceLevel : (s.openTeacher).serviceLevel = s.serviceLevel := rfl
@[simp] theorem State.openTeacher_latchQueue : (s.openTeacher).latchQueue = s.latchQueue := rfl
@[simp] theorem State.openTeacher_slots : (s.openTeacher).slots = s.slots := rfl
@[simp] theorem State.openTeacher_releases : (s.openTeacher).releases = s.releases := rfl
@[simp] theorem State.openTeacher_keys : (s.openTeacher).keys = s.keys := rfl
@[simp] theorem State.openTeacher_clock : (s.openTeacher).clock = s.clock := rfl
@[simp] theorem State.openTeacher_port : (s.openTeacher).port = s.port := rfl
@[simp] theorem State.openTeacher_clk32 : (s.openTeacher).clk32 = s.clk32 := rfl
@[simp] theorem State.openTeacher_reallocRequest : (s.openTeacher).reallocRequest = s.reallocRequest := rfl
@[simp] theorem State.openTeacher_pending : (s.openTeacher).pending = s.pending := rfl

/-! ### openService -/

@[simp] theorem State.openService_roster : (s.openService).roster = s.roster := rfl
@[simp] theorem State.openService_bays : (s.openService).bays = s.bays := rfl
@[simp] theorem State.openService_links : (s.openService).links = s.links := rfl
@[simp] theorem State.openService_linkSettings : (s.openService).linkSettings = s.linkSettings := rfl
@[simp] theorem State.openService_budget : (s.openService).budget = s.budget := rfl
@[simp] theorem State.openService_supplyLimit : (s.openService).supplyLimit = s.supplyLimit := rfl
@[simp] theorem State.openService_effective : (s.openService).effective = s.effective := rfl
@[simp] theorem State.openService_passPending : (s.openService).passPending = s.passPending := rfl
@[simp] theorem State.openService_figures : (s.openService).figures = s.figures := rfl
@[simp] theorem State.openService_entries : (s.openService).entries = s.entries := rfl
@[simp] theorem State.openService_reservations : (s.openService).reservations = s.reservations := rfl
@[simp] theorem State.openService_phase : (s.openService).phase = s.phase := rfl
@[simp] theorem State.openService_outputs : (s.openService).outputs = s.outputs := rfl
@[simp] theorem State.openService_laneSettings : (s.openService).laneSettings = s.laneSettings := rfl
@[simp] theorem State.openService_laneWindow : (s.openService).laneWindow = s.laneWindow := rfl
@[simp] theorem State.openService_queue : (s.openService).queue = s.queue := rfl
@[simp] theorem State.openService_lanes : (s.openService).lanes = s.lanes := rfl
@[simp] theorem State.openService_custodySettings : (s.openService).custodySettings = s.custodySettings := rfl
@[simp] theorem State.openService_teacher : (s.openService).teacher = s.teacher := rfl
@[simp] theorem State.openService_serviceInput : (s.openService).serviceInput = s.serviceInput := rfl
@[simp] theorem State.openService_serviceLevel : (s.openService).serviceLevel = s.serviceLevel := rfl
@[simp] theorem State.openService_latchQueue : (s.openService).latchQueue = s.latchQueue := rfl
@[simp] theorem State.openService_slots : (s.openService).slots = s.slots := rfl
@[simp] theorem State.openService_releases : (s.openService).releases = s.releases := rfl
@[simp] theorem State.openService_keys : (s.openService).keys = s.keys := rfl
@[simp] theorem State.openService_clock : (s.openService).clock = s.clock := rfl
@[simp] theorem State.openService_port : (s.openService).port = s.port := rfl
@[simp] theorem State.openService_clk32 : (s.openService).clk32 = s.clk32 := rfl
@[simp] theorem State.openService_reallocRequest : (s.openService).reallocRequest = s.reallocRequest := rfl
@[simp] theorem State.openService_pending : (s.openService).pending = s.pending := rfl

/-! ### relamp -/

@[simp] theorem State.relamp_roster : (s.relamp).roster = s.roster := by unfold State.relamp; rfl
@[simp] theorem State.relamp_links : (s.relamp).links = s.links := by unfold State.relamp; rfl
@[simp] theorem State.relamp_linkSettings : (s.relamp).linkSettings = s.linkSettings := by unfold State.relamp; rfl
@[simp] theorem State.relamp_budget : (s.relamp).budget = s.budget := by unfold State.relamp; rfl
@[simp] theorem State.relamp_supplyLimit : (s.relamp).supplyLimit = s.supplyLimit := by unfold State.relamp; rfl
@[simp] theorem State.relamp_effective : (s.relamp).effective = s.effective := by unfold State.relamp; rfl
@[simp] theorem State.relamp_passPending : (s.relamp).passPending = s.passPending := by unfold State.relamp; rfl
@[simp] theorem State.relamp_figures : (s.relamp).figures = s.figures := by unfold State.relamp; rfl
@[simp] theorem State.relamp_entries : (s.relamp).entries = s.entries := by unfold State.relamp; rfl
@[simp] theorem State.relamp_reservations : (s.relamp).reservations = s.reservations := by unfold State.relamp; rfl
@[simp] theorem State.relamp_phase : (s.relamp).phase = s.phase := by unfold State.relamp; rfl
@[simp] theorem State.relamp_outputs : (s.relamp).outputs = s.outputs := by unfold State.relamp; rfl
@[simp] theorem State.relamp_laneSettings : (s.relamp).laneSettings = s.laneSettings := by unfold State.relamp; rfl
@[simp] theorem State.relamp_laneWindow : (s.relamp).laneWindow = s.laneWindow := by unfold State.relamp; rfl
@[simp] theorem State.relamp_queue : (s.relamp).queue = s.queue := by unfold State.relamp; rfl
@[simp] theorem State.relamp_lanes : (s.relamp).lanes = s.lanes := by unfold State.relamp; rfl
@[simp] theorem State.relamp_custodySettings : (s.relamp).custodySettings = s.custodySettings := by unfold State.relamp; rfl
@[simp] theorem State.relamp_teacher : (s.relamp).teacher = s.teacher := by unfold State.relamp; rfl
@[simp] theorem State.relamp_service : (s.relamp).service = s.service := by unfold State.relamp; rfl
@[simp] theorem State.relamp_serviceInput : (s.relamp).serviceInput = s.serviceInput := by unfold State.relamp; rfl
@[simp] theorem State.relamp_serviceLevel : (s.relamp).serviceLevel = s.serviceLevel := by unfold State.relamp; rfl
@[simp] theorem State.relamp_latchQueue : (s.relamp).latchQueue = s.latchQueue := by unfold State.relamp; rfl
@[simp] theorem State.relamp_slots : (s.relamp).slots = s.slots := by unfold State.relamp; rfl
@[simp] theorem State.relamp_releases : (s.relamp).releases = s.releases := by unfold State.relamp; rfl
@[simp] theorem State.relamp_keys : (s.relamp).keys = s.keys := by unfold State.relamp; rfl
@[simp] theorem State.relamp_clock : (s.relamp).clock = s.clock := by unfold State.relamp; rfl
@[simp] theorem State.relamp_port : (s.relamp).port = s.port := by unfold State.relamp; rfl
@[simp] theorem State.relamp_clk32 : (s.relamp).clk32 = s.clk32 := by unfold State.relamp; rfl
@[simp] theorem State.relamp_reallocRequest : (s.relamp).reallocRequest = s.reallocRequest := by unfold State.relamp; rfl
@[simp] theorem State.relamp_pending : (s.relamp).pending = s.pending := by unfold State.relamp; rfl

/-! ### countSecond -/

@[simp] theorem State.countSecond_roster : (s.countSecond).roster = s.roster := rfl
@[simp] theorem State.countSecond_bays : (s.countSecond).bays = s.bays := rfl
@[simp] theorem State.countSecond_links : (s.countSecond).links = s.links := rfl
@[simp] theorem State.countSecond_linkSettings : (s.countSecond).linkSettings = s.linkSettings := rfl
@[simp] theorem State.countSecond_budget : (s.countSecond).budget = s.budget := rfl
@[simp] theorem State.countSecond_supplyLimit : (s.countSecond).supplyLimit = s.supplyLimit := rfl
@[simp] theorem State.countSecond_effective : (s.countSecond).effective = s.effective := rfl
@[simp] theorem State.countSecond_passPending : (s.countSecond).passPending = s.passPending := rfl
@[simp] theorem State.countSecond_figures : (s.countSecond).figures = s.figures := rfl
@[simp] theorem State.countSecond_entries : (s.countSecond).entries = s.entries := rfl
@[simp] theorem State.countSecond_reservations : (s.countSecond).reservations = s.reservations := rfl
@[simp] theorem State.countSecond_phase : (s.countSecond).phase = s.phase := rfl
@[simp] theorem State.countSecond_outputs : (s.countSecond).outputs = s.outputs := rfl
@[simp] theorem State.countSecond_laneSettings : (s.countSecond).laneSettings = s.laneSettings := rfl
@[simp] theorem State.countSecond_laneWindow : (s.countSecond).laneWindow = s.laneWindow := rfl
@[simp] theorem State.countSecond_queue : (s.countSecond).queue = s.queue := rfl
@[simp] theorem State.countSecond_lanes : (s.countSecond).lanes = s.lanes := rfl
@[simp] theorem State.countSecond_custodySettings : (s.countSecond).custodySettings = s.custodySettings := rfl
@[simp] theorem State.countSecond_teacher : (s.countSecond).teacher = s.teacher := rfl
@[simp] theorem State.countSecond_service : (s.countSecond).service = s.service := rfl
@[simp] theorem State.countSecond_serviceInput : (s.countSecond).serviceInput = s.serviceInput := rfl
@[simp] theorem State.countSecond_serviceLevel : (s.countSecond).serviceLevel = s.serviceLevel := rfl
@[simp] theorem State.countSecond_latchQueue : (s.countSecond).latchQueue = s.latchQueue := rfl
@[simp] theorem State.countSecond_slots : (s.countSecond).slots = s.slots := rfl
@[simp] theorem State.countSecond_releases : (s.countSecond).releases = s.releases := rfl
@[simp] theorem State.countSecond_keys : (s.countSecond).keys = s.keys := rfl
@[simp] theorem State.countSecond_clock : (s.countSecond).clock = s.clock := rfl
@[simp] theorem State.countSecond_port : (s.countSecond).port = s.port := rfl
@[simp] theorem State.countSecond_clk32 : (s.countSecond).clk32 = s.clk32 + 1 := rfl
@[simp] theorem State.countSecond_reallocRequest : (s.countSecond).reallocRequest = s.reallocRequest := rfl
@[simp] theorem State.countSecond_pending : (s.countSecond).pending = s.pending := rfl

/-! ### reAttn -/

@[simp] theorem State.reAttn_roster : (s.reAttn).roster = s.roster := rfl
@[simp] theorem State.reAttn_bays : (s.reAttn).bays = s.bays := rfl
@[simp] theorem State.reAttn_links : (s.reAttn).links = s.links := rfl
@[simp] theorem State.reAttn_linkSettings : (s.reAttn).linkSettings = s.linkSettings := rfl
@[simp] theorem State.reAttn_budget : (s.reAttn).budget = s.budget := rfl
@[simp] theorem State.reAttn_supplyLimit : (s.reAttn).supplyLimit = s.supplyLimit := rfl
@[simp] theorem State.reAttn_effective : (s.reAttn).effective = s.effective := rfl
@[simp] theorem State.reAttn_passPending : (s.reAttn).passPending = s.passPending := rfl
@[simp] theorem State.reAttn_figures : (s.reAttn).figures = s.figures := rfl
@[simp] theorem State.reAttn_entries : (s.reAttn).entries = s.entries := rfl
@[simp] theorem State.reAttn_reservations : (s.reAttn).reservations = s.reservations := rfl
@[simp] theorem State.reAttn_phase : (s.reAttn).phase = s.phase := rfl
@[simp] theorem State.reAttn_outputs : (s.reAttn).outputs = s.outputs := rfl
@[simp] theorem State.reAttn_laneSettings : (s.reAttn).laneSettings = s.laneSettings := rfl
@[simp] theorem State.reAttn_laneWindow : (s.reAttn).laneWindow = s.laneWindow := rfl
@[simp] theorem State.reAttn_queue : (s.reAttn).queue = s.queue := rfl
@[simp] theorem State.reAttn_lanes : (s.reAttn).lanes = s.lanes := rfl
@[simp] theorem State.reAttn_custodySettings : (s.reAttn).custodySettings = s.custodySettings := rfl
@[simp] theorem State.reAttn_teacher : (s.reAttn).teacher = s.teacher := rfl
@[simp] theorem State.reAttn_service : (s.reAttn).service = s.service := rfl
@[simp] theorem State.reAttn_serviceInput : (s.reAttn).serviceInput = s.serviceInput := rfl
@[simp] theorem State.reAttn_serviceLevel : (s.reAttn).serviceLevel = s.serviceLevel := rfl
@[simp] theorem State.reAttn_latchQueue : (s.reAttn).latchQueue = s.latchQueue := rfl
@[simp] theorem State.reAttn_slots : (s.reAttn).slots = s.slots := rfl
@[simp] theorem State.reAttn_releases : (s.reAttn).releases = s.releases := rfl
@[simp] theorem State.reAttn_keys : (s.reAttn).keys = s.keys := rfl
@[simp] theorem State.reAttn_clock : (s.reAttn).clock = s.clock := rfl
@[simp] theorem State.reAttn_clk32 : (s.reAttn).clk32 = s.clk32 := rfl
@[simp] theorem State.reAttn_reallocRequest : (s.reAttn).reallocRequest = s.reallocRequest := rfl
@[simp] theorem State.reAttn_pending : (s.reAttn).pending = s.pending := rfl

/-! ### handWindow -/

@[simp] theorem State.handWindow_roster : (s.handWindow).roster = s.roster := rfl
@[simp] theorem State.handWindow_bays : (s.handWindow).bays = s.bays := rfl
@[simp] theorem State.handWindow_links : (s.handWindow).links = s.links := rfl
@[simp] theorem State.handWindow_linkSettings : (s.handWindow).linkSettings = s.linkSettings := rfl
@[simp] theorem State.handWindow_budget : (s.handWindow).budget = s.budget := rfl
@[simp] theorem State.handWindow_supplyLimit : (s.handWindow).supplyLimit = s.supplyLimit := rfl
@[simp] theorem State.handWindow_effective : (s.handWindow).effective = s.effective := rfl
@[simp] theorem State.handWindow_passPending : (s.handWindow).passPending = s.passPending := rfl
@[simp] theorem State.handWindow_figures : (s.handWindow).figures = s.figures := rfl
@[simp] theorem State.handWindow_entries : (s.handWindow).entries = s.entries := rfl
@[simp] theorem State.handWindow_reservations : (s.handWindow).reservations = s.reservations := rfl
@[simp] theorem State.handWindow_phase : (s.handWindow).phase = s.phase := rfl
@[simp] theorem State.handWindow_outputs : (s.handWindow).outputs = s.outputs := rfl
@[simp] theorem State.handWindow_laneSettings : (s.handWindow).laneSettings = s.laneSettings := rfl
@[simp] theorem State.handWindow_queue : (s.handWindow).queue = s.queue := rfl
@[simp] theorem State.handWindow_lanes : (s.handWindow).lanes = s.lanes := rfl
@[simp] theorem State.handWindow_custodySettings : (s.handWindow).custodySettings = s.custodySettings := rfl
@[simp] theorem State.handWindow_teacher : (s.handWindow).teacher = s.teacher := rfl
@[simp] theorem State.handWindow_service : (s.handWindow).service = s.service := rfl
@[simp] theorem State.handWindow_serviceInput : (s.handWindow).serviceInput = s.serviceInput := rfl
@[simp] theorem State.handWindow_serviceLevel : (s.handWindow).serviceLevel = s.serviceLevel := rfl
@[simp] theorem State.handWindow_latchQueue : (s.handWindow).latchQueue = s.latchQueue := rfl
@[simp] theorem State.handWindow_slots : (s.handWindow).slots = s.slots := rfl
@[simp] theorem State.handWindow_releases : (s.handWindow).releases = s.releases := rfl
@[simp] theorem State.handWindow_keys : (s.handWindow).keys = s.keys := rfl
@[simp] theorem State.handWindow_clock : (s.handWindow).clock = s.clock := rfl
@[simp] theorem State.handWindow_port : (s.handWindow).port = s.port := rfl
@[simp] theorem State.handWindow_clk32 : (s.handWindow).clk32 = s.clk32 := rfl
@[simp] theorem State.handWindow_reallocRequest : (s.handWindow).reallocRequest = s.reallocRequest := rfl
@[simp] theorem State.handWindow_pending : (s.handWindow).pending = s.pending := rfl

/-! ### requeue -/

@[simp] theorem State.requeue_roster : (s.requeue).roster = s.roster := rfl
@[simp] theorem State.requeue_bays : (s.requeue).bays = s.bays := rfl
@[simp] theorem State.requeue_links : (s.requeue).links = s.links := rfl
@[simp] theorem State.requeue_linkSettings : (s.requeue).linkSettings = s.linkSettings := rfl
@[simp] theorem State.requeue_budget : (s.requeue).budget = s.budget := rfl
@[simp] theorem State.requeue_supplyLimit : (s.requeue).supplyLimit = s.supplyLimit := rfl
@[simp] theorem State.requeue_effective : (s.requeue).effective = s.effective := rfl
@[simp] theorem State.requeue_passPending : (s.requeue).passPending = s.passPending := rfl
@[simp] theorem State.requeue_figures : (s.requeue).figures = s.figures := rfl
@[simp] theorem State.requeue_entries : (s.requeue).entries = s.entries := rfl
@[simp] theorem State.requeue_reservations : (s.requeue).reservations = s.reservations := rfl
@[simp] theorem State.requeue_phase : (s.requeue).phase = s.phase := rfl
@[simp] theorem State.requeue_outputs : (s.requeue).outputs = s.outputs := rfl
@[simp] theorem State.requeue_laneSettings : (s.requeue).laneSettings = s.laneSettings := rfl
@[simp] theorem State.requeue_laneWindow : (s.requeue).laneWindow = s.laneWindow := rfl
@[simp] theorem State.requeue_lanes : (s.requeue).lanes = s.lanes := rfl
@[simp] theorem State.requeue_custodySettings : (s.requeue).custodySettings = s.custodySettings := rfl
@[simp] theorem State.requeue_teacher : (s.requeue).teacher = s.teacher := rfl
@[simp] theorem State.requeue_service : (s.requeue).service = s.service := rfl
@[simp] theorem State.requeue_serviceInput : (s.requeue).serviceInput = s.serviceInput := rfl
@[simp] theorem State.requeue_serviceLevel : (s.requeue).serviceLevel = s.serviceLevel := rfl
@[simp] theorem State.requeue_latchQueue : (s.requeue).latchQueue = s.latchQueue := rfl
@[simp] theorem State.requeue_slots : (s.requeue).slots = s.slots := rfl
@[simp] theorem State.requeue_releases : (s.requeue).releases = s.releases := rfl
@[simp] theorem State.requeue_keys : (s.requeue).keys = s.keys := rfl
@[simp] theorem State.requeue_clock : (s.requeue).clock = s.clock := rfl
@[simp] theorem State.requeue_port : (s.requeue).port = s.port := rfl
@[simp] theorem State.requeue_clk32 : (s.requeue).clk32 = s.clk32 := rfl
@[simp] theorem State.requeue_reallocRequest : (s.requeue).reallocRequest = s.reallocRequest := rfl
@[simp] theorem State.requeue_pending : (s.requeue).pending = s.pending := rfl

/-! ### Reading after writing -/

@[simp] theorem State.record_putRecord (i j : RecordIx) (r : Record) :
    (s.putRecord i r).record j = if i = j then r else s.record j := by
  simp only [State.putRecord, State.record, Vector.getElem_set, Fin.ext_iff]

@[simp] theorem State.record_setRecord (i j : RecordIx) (r : Record) :
    (s.setRecord i r).record j = if i = j then r.remark else s.record j :=
  s.record_putRecord i j _

@[simp] theorem State.record_editRecord (i j : RecordIx) (f : Record → Record) :
    (s.editRecord i f).record j = if i = j then f (s.record i) else s.record j :=
  s.record_putRecord i j _

@[simp] theorem State.record_modRecord (i j : RecordIx) (f : Record → Record) :
    (s.modRecord i f).record j = if i = j then (f (s.record i)).remark else s.record j :=
  s.record_setRecord i j _

@[simp] theorem State.bay_setBay (b c : BayNo) (x : Bay) :
    (s.setBay b x).bay c = if b = c then x else s.bay c := by
  simp only [State.setBay, State.bay, Vector.getElem_set, Fin.ext_iff]

@[simp] theorem State.bay_modBay (b c : BayNo) (f : Bay → Bay) :
    (s.modBay b f).bay c = if b = c then f (s.bay b) else s.bay c :=
  s.bay_setBay b c _

@[simp] theorem State.link_setLink (b c : BayNo) (x : Link) :
    (s.setLink b x).link c = if b = c then x else s.link c := by
  simp only [State.setLink, State.link, Vector.getElem_set, Fin.ext_iff]

@[simp] theorem State.link_modLink (b c : BayNo) (f : Link → Link) :
    (s.modLink b f).link c = if b = c then f (s.link b) else s.link c :=
  s.link_setLink b c _

@[simp] theorem State.output_setOutput (b c : BayNo) (x : Output) :
    (s.setOutput b x).output c = if b = c then x else s.output c := by
  simp only [State.setOutput, State.output, Vector.getElem_set, Fin.ext_iff]

@[simp] theorem State.output_modOutput (b c : BayNo) (f : Output → Output) :
    (s.modOutput b f).output c = if b = c then f (s.output b) else s.output c :=
  s.output_setOutput b c _

@[simp] theorem State.entry_setEntry (b c : BayNo) (x : AllocEntry) :
    (s.setEntry b x).entry c = if b = c then x else s.entry c := by
  simp only [State.setEntry, State.entry, Vector.getElem_set, Fin.ext_iff]

@[simp] theorem State.lane_setLane (l k : LaneNo) (x : Lane) :
    (s.setLane l x).lane k = if l = k then x else s.lane k := by
  simp only [State.setLane, State.lane, Vector.getElem_set, Fin.ext_iff]

@[simp] theorem State.slot_setSlot (k m : SlotNo) (x : DriveSlot) :
    (s.setSlot k x).slot m = if k = m then x else s.slot m := by
  simp only [State.setSlot, State.slot, Vector.getElem_set, Fin.ext_iff]

@[simp] theorem State.release_setRelease (b c : BayNo) (x : Option Release) :
    (s.setRelease b x).release c = if b = c then x else s.release c := by
  simp only [State.setRelease, State.release, Vector.getElem_set, Fin.ext_iff]

@[simp] theorem State.keyEntry_setKeyEntry (e f : KeyIx) (x : KeyEntry) :
    (s.setKeyEntry e x).keyEntry f = if e = f then x else s.keyEntry f := by
  simp only [State.setKeyEntry, State.keyEntry, Vector.getElem_set, Fin.ext_iff]

@[simp] theorem State.subjectsOf_addSubject (n k : SourceNo) (m : Nat) :
    (s.addSubject n m).subjectsOf k = if n = k then s.subjectsOf n ||| memberMask m else s.subjectsOf k := by
  simp only [State.addSubject, State.subjectsOf, Vector.getElem_set, Fin.ext_iff]

@[simp] theorem Record.remark_misplaced (r : Record) : r.remark.misplaced = r.misplacedNow := rfl
@[simp] theorem Record.remark_misplacedNow (r : Record) : r.remark.misplacedNow = r.misplacedNow := rfl

/-- A read of any table goes through the field alone. -/
theorem State.record_congr {s t : State} (h : s.roster = t.roster) (i : RecordIx) : s.record i = t.record i := by
  simp only [State.record, h]

theorem State.bay_congr {s t : State} (h : s.bays = t.bays) (b : BayNo) : s.bay b = t.bay b := by
  simp only [State.bay, h]

end Sys2Proof.Machine
end

