-- ==== Sys2Proof/Laws/Close.lean ====
section
/-! SUPPORT. What the close of a change can do, once: it leaves alone every record but for UNSECURED, every bay's identity, the
settings, time, windows, the budget input, the Key Receiver and the event enables, and it sets the lamps and ATTN right. -/

namespace Sys2Proof.Machine

theorem Record.SameButUnsecured.trans {r q p : Record} (h : r.SameButUnsecured q) (k : q.SameButUnsecured p) :
    r.SameButUnsecured p := by
  simp only [Record.SameButUnsecured] at *
  rw [← h, ← k]

theorem Bay.IdentityKept.trans {x y z : Bay} (h : x.IdentityKept y) (k : y.IdentityKept z) : x.IdentityKept z := by
  simp only [Bay.IdentityKept] at *
  rw [← h, ← k]

theorem State.Untouched.refl (s : State) : s.Untouched s [] [] where
  records _ _ := rfl
  bays _ _ := rfl
  settings := ⟨rfl, rfl, rfl, rfl⟩
  time := ⟨rfl, rfl, rfl⟩
  windows := ⟨rfl, rfl, rfl, rfl⟩
  budget := ⟨rfl, rfl⟩
  keys := rfl
  events := ⟨rfl, fun _ => BitVec.and_self⟩

theorem State.Untouched.trans {s t u : State} {a c : List RecordIx} {b d : List BayNo} (h : s.Untouched t a b)
    (k : t.Untouched u c d) : s.Untouched u (a ++ c) (b ++ d) where
  records i hi := (h.records i fun m => hi (List.mem_append_left _ m)).trans
    (k.records i fun m => hi (List.mem_append_right _ m))
  bays i hi := (h.bays i fun m => hi (List.mem_append_left _ m)).trans
    (k.bays i fun m => hi (List.mem_append_right _ m))
  settings := by obtain ⟨h1, h2, h3, h4⟩ := h.settings; obtain ⟨k1, k2, k3, k4⟩ := k.settings; simp [State.SettingsKept, *]
  time := by obtain ⟨h1, h2, h3⟩ := h.time; obtain ⟨k1, k2, k3⟩ := k.time; simp [State.TimeKept, *]
  windows := by obtain ⟨h1, h2, h3, h4⟩ := h.windows; obtain ⟨k1, k2, k3, k4⟩ := k.windows; simp [State.WindowsKept, *]
  budget := by obtain ⟨h1, h2⟩ := h.budget; obtain ⟨k1, k2⟩ := k.budget; simp [State.BudgetKept, *]
  keys := k.keys.trans h.keys
  events := ⟨k.events.1.trans h.events.1, fun n => by
    have h2 := h.events.2 n
    have k2 := k.events.2 n
    rw [← h2, BitVec.and_assoc, k2]⟩

/-- Untouched holds through a step that leaves both lists empty. -/
theorem State.Untouched.then {s t u : State} (h : s.Untouched t [] []) (k : t.Untouched u [] []) :
    s.Untouched u [] [] := h.trans k

/-- The same, the later step first. -/
theorem State.Untouched.after {s t u : State} (k : t.Untouched u [] []) (h : s.Untouched t [] []) :
    s.Untouched u [] [] := h.trans k

/-- The fields the frame speaks of, unchanged as they stand. -/
abbrev State.FrameFields (s t : State) : Prop :=
  (s.SettingsKept t ∧ s.TimeKept t ∧ s.WindowsKept t) ∧ s.BudgetKept t ∧ t.keys = s.keys ∧ t.port = s.port

theorem State.Untouched.of_bays {s t : State} (hr : t.roster = s.roster)
    (hb : ∀ b, (s.bay b).IdentityKept (t.bay b)) (h : s.FrameFields t) : s.Untouched t [] [] where
  records i _ := by rw [State.record_congr hr]
  bays b _ := hb b
  settings := h.1.1
  time := h.1.2.1
  windows := h.1.2.2
  budget := h.2.1
  keys := h.2.2.1
  events := by
    simp only [State.EventsGrow, State.subjectsOf, h.2.2.2]
    exact ⟨trivial, fun _ => BitVec.and_self⟩

theorem State.Untouched.of_fields {s t : State} (hr : t.roster = s.roster) (hb : t.bays = s.bays)
    (h : s.FrameFields t) : s.Untouched t [] [] :=
  .of_bays hr (fun b => by rw [State.bay_congr hb]) h

variable (s : State)

theorem State.addSubject_untouched (n : SourceNo) (m : Nat) : s.Untouched (s.addSubject n m) [] [] where
  records _ _ := rfl
  bays _ _ := rfl
  settings := ⟨rfl, rfl, rfl, rfl⟩
  time := ⟨rfl, rfl, rfl⟩
  windows := ⟨rfl, rfl, rfl, rfl⟩
  budget := ⟨rfl, rfl⟩
  keys := rfl
  events := ⟨rfl, fun k => by
    rw [State.subjectsOf_addSubject]
    split
    · next h => subst h; ext i; simp; grind
    · exact BitVec.and_self⟩

theorem State.reAttn_untouched : s.Untouched s.reAttn [] [] where
  records _ _ := rfl
  bays _ _ := rfl
  settings := ⟨rfl, rfl, rfl, rfl⟩
  time := ⟨rfl, rfl, rfl⟩
  windows := ⟨rfl, rfl, rfl, rfl⟩
  budget := ⟨rfl, rfl⟩
  keys := rfl
  events := ⟨rfl, fun _ => BitVec.and_self⟩

/-- All that a hand-off can do to a bay's output (R97): a NONE bay is left alone; any other takes its target and charge state,
and the decrease where the target lies below the commitment and is not what is in motion already. -/
theorem Output.handOff_cases (d : Disposition) (grant : Nat) (o : Output) :
    (d = .none ∧ o.handOff d grant = o) ∨
    (d ≠ .none ∧ (grant < o.commitment ∧ ¬(o.inMotion = true ∧ o.issued = grant)) ∧ o.handOff d grant =
      { o with
        target := some grant, charge := chargeFor d grant o.charge, issued := grant, inMotion := true
        closed := o.closed || decide (0 < grant) }) ∨
    (d ≠ .none ∧ ¬(grant < o.commitment ∧ ¬(o.inMotion = true ∧ o.issued = grant)) ∧ o.handOff d grant =
      { o with target := some grant, charge := chargeFor d grant o.charge }) := by
  unfold Output.handOff
  split
  · exact .inl ⟨‹_›, rfl⟩
  · by_cases h : grant < o.commitment ∧ ¬(o.inMotion = true ∧ o.issued = grant)
    · exact .inr (.inl ⟨‹_›, h, if_pos h⟩)
    · exact .inr (.inr ⟨‹_›, h, if_neg h⟩)

theorem State.relamp_bay (b : BayNo) : s.relamp.bay b = { s.bay b with lamp := s.lampFor b } := by
  simp [State.relamp, State.bay]

theorem State.relamp_untouched : s.Untouched s.relamp [] [] :=
  .of_bays (s.relamp_roster) (fun b => by rw [s.relamp_bay]) (by
    simp [State.FrameFields, State.SettingsKept, State.TimeKept, State.WindowsKept, State.BudgetKept])

theorem State.setLatch_untouched (b : BayNo) (p : LatchPosition) : s.Untouched (s.setLatch b p) [] [] :=
  .of_bays rfl (fun c => by
      simp only [State.setLatch, State.bay_modBay]
      split
      · next h => subst h; rfl
      · rfl) ⟨⟨⟨rfl, rfl, rfl, rfl⟩, ⟨rfl, rfl, rfl⟩, ⟨rfl, rfl, rfl, rfl⟩⟩, ⟨rfl, rfl⟩, rfl, rfl⟩

theorem State.setLaneMark_untouched (b : BayNo) (l : Option LaneNo) :
    s.Untouched (s.modBay b fun x => { x with lane := l }) [] [] :=
  .of_bays rfl (fun c => by
      simp only [State.bay_modBay]
      split
      · next h => subst h; rfl
      · rfl) ⟨⟨⟨rfl, rfl, rfl, rfl⟩, ⟨rfl, rfl, rfl⟩, ⟨rfl, rfl, rfl, rfl⟩⟩, ⟨rfl, rfl⟩, rfl, rfl⟩

theorem State.unsecured_untouched (i : RecordIx) (v : Bool) :
    s.Untouched (s.editRecord i fun r => { r with unsecured := v }) [] [] where
  records j _ := by
    rw [State.record_editRecord]
    split
    · next h => subst h; rfl
    · rfl
  bays _ _ := rfl
  settings := ⟨rfl, rfl, rfl, rfl⟩
  time := ⟨rfl, rfl, rfl⟩
  windows := ⟨rfl, rfl, rfl, rfl⟩
  budget := ⟨rfl, rfl⟩
  keys := rfl
  events := ⟨rfl, fun _ => BitVec.and_self⟩

/-- A write of tables the frame does not speak of: links, outputs, entries, lanes, slots, releases, reservations, queues,
figures, phase and the two pass marks. -/
theorem State.Untouched.tables {s t : State} (hr : t.roster = s.roster) (hb : t.bays = s.bays)
    (h1 : t.linkSettings = s.linkSettings := by rfl) (h2 : t.budget = s.budget := by rfl)
    (h3 : t.laneSettings = s.laneSettings := by rfl) (h4 : t.custodySettings = s.custodySettings := by rfl)
    (h5 : t.clock = s.clock := by rfl) (h6 : t.laneWindow = s.laneWindow := by rfl)
    (h7 : t.clk32 = s.clk32 := by rfl) (h8 : t.teacher = s.teacher := by rfl)
    (h9 : t.service = s.service := by rfl) (h10 : t.serviceInput = s.serviceInput := by rfl)
    (h11 : t.serviceLevel = s.serviceLevel := by rfl) (h12 : t.supplyLimit = s.supplyLimit := by rfl)
    (h13 : t.effective = s.effective := by rfl) (h14 : t.keys = s.keys := by rfl)
    (h15 : t.port = s.port := by rfl) : s.Untouched t [] [] :=
  .of_fields hr hb ⟨⟨⟨h1, h2, h3, h4⟩, ⟨h5, h6, h7⟩, ⟨h8, h9, h10, h11⟩⟩, ⟨h12, h13⟩, h14, h15⟩

theorem State.pumpLink_untouched (b : BayNo) : s.Untouched (s.pumpLink b) [] [] := .tables rfl rfl

theorem State.modLink_untouched (b : BayNo) (f : Link → Link) : s.Untouched (s.modLink b f) [] [] := .tables rfl rfl

theorem State.placeCustodyOrder_untouched (b : BayNo) (o : CustodyOrder) :
    s.Untouched (s.placeCustodyOrder b o) [] [] := by
  unfold State.placeCustodyOrder
  split
  · exact .refl s
  · exact (s.modLink_untouched b _).then (State.pumpLink_untouched _ b)

theorem State.placeLaneOrder_untouched (b : BayNo) (o : LaneOrder) : s.Untouched (s.placeLaneOrder b o) [] [] := by
  unfold State.placeLaneOrder
  split
  · exact .refl s
  · exact (s.modLink_untouched b _).then (State.pumpLink_untouched _ b)

/-! ## Latches -/

theorem State.latchSuccess_untouched (b : BayNo) (d : Direction) : s.Untouched (s.latchSuccess b d) [] [] := by
  cases d with
  | lock =>
    simp only [State.latchSuccess]
    split
    · exact s.unsecured_untouched _ _
    · exact .refl s
  | unlock =>
    simp only [State.latchSuccess]
    split
    · exact .after (State.placeCustodyOrder_untouched _ _ _) (.tables rfl rfl)
    · exact .refl s

theorem State.raiseReservation_untouched (o : Owner) (a : Nat) : s.Untouched (s.raiseReservation o a) [] [] :=
  .tables rfl rfl

theorem State.dropReservation_untouched (o : Owner) : s.Untouched (s.dropReservation o) [] [] := .tables rfl rfl

theorem State.setSlot_untouched (k : SlotNo) (x : DriveSlot) : s.Untouched (s.setSlot k x) [] [] := .tables rfl rfl

theorem State.serviceOne_untouched (q : LatchRequest) : s.Untouched (s.serviceOne q) [] [] := by
  unfold State.serviceOne
  split
  · exact .refl s
  · split
    · exact .after (State.latchSuccess_untouched _ _ _) (.tables rfl rfl)
    · split
      · exact .tables rfl rfl
      · exact .refl s

theorem State.Untouched.foldl {α : Type} {f : State → α → State} (hf : ∀ s x, State.Untouched s (f s x) [] []) :
    ∀ (l : List α) (s : State), s.Untouched (l.foldl f s) [] []
  | [], s => .refl s
  | x :: l, s => (hf s x).then (State.Untouched.foldl hf l _)

theorem State.slotService_untouched : s.Untouched s.slotService [] [] :=
  State.Untouched.foldl (fun s q => s.serviceOne_untouched q) _ s

theorem State.endSlot_untouched (k : SlotNo) : s.Untouched (s.endSlot k) [] [] := .tables rfl rfl

theorem State.driveSuccess_untouched (k : SlotNo) (q : LatchRequest) : s.Untouched (s.driveSuccess k q) [] [] :=
  .after (State.slotService_untouched _) (.after (State.latchSuccess_untouched _ _ _)
    (.after (State.setLatch_untouched _ _ _) (s.endSlot_untouched k)))

theorem State.startDrive_untouched (k : SlotNo) : s.Untouched (s.startDrive k) [] [] := by
  unfold State.startDrive
  split
  · split
    · exact s.driveSuccess_untouched _ _
    · exact (s.setSlot_untouched _ _).then (State.setLatch_untouched _ _ _)
  · exact .refl s
  · exact .refl s

theorem State.placeRequest_untouched (b : BayNo) (d : Direction) : s.Untouched (s.placeRequest b d) [] [] := by
  unfold State.placeRequest
  split
  · split
    · exact .after (State.slotService_untouched _) (.after (State.latchSuccess_untouched _ _ _) (.tables rfl rfl))
    · exact (s.setSlot_untouched _ _).then (State.slotService_untouched _)
  · exact .after (State.slotService_untouched _) (.tables rfl rfl)

/-! ## Lanes -/

theorem State.wakeLane_untouched (l : LaneNo) : s.Untouched (s.wakeLane l) [] [] := by
  unfold State.wakeLane
  split
  · split
    · exact .after (State.placeLaneOrder_untouched _ _ _) (.tables rfl rfl)
    · exact .refl s
  · exact .refl s

theorem State.requeue_untouched : s.Untouched s.requeue [] [] := .tables rfl rfl

theorem State.grantLane_untouched (l : LaneNo) (i : RecordIx) (b : BayNo) : s.Untouched (s.grantLane l i b) [] [] :=
  .after (State.raiseReservation_untouched _ _ _)
    (.after (State.setLaneMark_untouched _ b (some l)) (.tables rfl rfl))

theorem State.grantLanes_untouched : ∀ (n : Nat) (s : State), s.Untouched (State.grantLanes n s) [] []
  | 0, s => .refl s
  | n + 1, s => by
    unfold State.grantLanes
    split
    · split
      · split
        · exact (s.grantLane_untouched _ _ _).then (State.grantLanes_untouched n _)
        · exact .refl s
      · exact .refl s
    · exact .refl s

/-! ## Passes -/

theorem State.tellActive_untouched (o : Owner) : s.Untouched (s.tellActive o) [] [] := by
  cases o with
  | latch k => exact s.startDrive_untouched k
  | lane l => exact s.wakeLane_untouched l

theorem State.endDecreasing_untouched : s.Untouched s.endDecreasing [] [] :=
  .after (State.Untouched.foldl (fun s o => s.tellActive_untouched o) _ _) (.tables rfl rfl)

theorem State.endPass_untouched : s.Untouched s.endPass [] [] := .tables rfl rfl

theorem State.takePass_untouched : s.Untouched s.takePass [] [] := by
  have key : ∀ (a : List Reservation) (f : PassFigures) (g : BayNo → Nat) (e : Vector AllocEntry 36)
      (o : Vector Output 36) (p : Phase),
      s.Untouched { s with
        reservations := a, figures := f, bays := Vector.ofFn fun b => { s.bay b with grant := g b },
        entries := e, outputs := o, phase := p } [] [] := fun a f g e o p =>
    .of_bays rfl (fun b => by simp [State.bay, Bay.IdentityKept])
      ⟨⟨⟨rfl, rfl, rfl, rfl⟩, ⟨rfl, rfl, rfl⟩, ⟨rfl, rfl, rfl, rfl⟩⟩, ⟨rfl, rfl⟩, rfl, rfl⟩
  unfold State.takePass
  simp only
  split
  · exact (key _ _ _ _ _ _).then (State.addSubject_untouched _ _ _)
  · exact key _ _ _ _ _ _

theorem State.serveRequest_untouched : s.Untouched s.serveRequest [] [] := by
  unfold State.serveRequest
  split
  · simp only
    split
    · exact .after (State.takePass_untouched _) (.tables rfl rfl)
    · exact .tables rfl rfl
    · exact .tables rfl rfl
  · exact .refl s

theorem State.settle_untouched : ∀ (n : Nat) (s : State), s.Untouched (State.settle n s) [] []
  | 0, s => .refl s
  | n + 1, s => by
    unfold State.settle
    simp only
    split
    · exact s.serveRequest_untouched
    · split
      · exact s.serveRequest_untouched
      · exact (s.serveRequest_untouched.then (State.endDecreasing_untouched _)).then (State.settle_untouched n _)
    · split
      · exact s.serveRequest_untouched
      · exact (s.serveRequest_untouched.then (State.endPass_untouched _)).then (State.settle_untouched n _)

/-- What the close of a change leaves alone. -/
theorem State.closeChange_untouched : s.Untouched s.closeChange [] [] :=
  ((((s.requeue_untouched.then (State.grantLanes_untouched 4 _))).then (State.settle_untouched _ _)).then
    (State.relamp_untouched _)).then (State.reAttn_untouched _)

/-! ## The lamps and ATTN -/

/-- The lamp in a bay entry plays no part in the choice of its lamp. -/
theorem lampOf_lamp (x : Bay) (l : Lamp) (c : Option CustodyState) (ch : ChargeState) :
    lampOf { x with lamp := l } c ch = lampOf x c ch := rfl

theorem State.lampFor_relamp (b : BayNo) : s.relamp.lampFor b = s.lampFor b := by
  have h : s.relamp.bays[b.val] = { s.bays[b.val] with lamp := s.lampFor b } := s.relamp_bay b
  simp only [State.lampFor, State.namedCustody, h, State.relamp_roster, State.relamp_outputs]
  exact lampOf_lamp _ _ _ _

theorem State.relamp_lampLaw : s.relamp.LampLaw := fun b => by rw [s.relamp_bay, s.lampFor_relamp]

/-- The level ATTN is derived to says what R183 says. -/
theorem Port.attnNow_iff (p : Port) :
    p.attnNow = true ↔ ∃ n : SourceNo, p.enables.getLsbD n.val = true ∧ p.subjects[n.val] ≠ 0 := by
  simp [Port.attnNow, Port.calling, Port.nonEmpty]

theorem State.reAttn_attnLaw : s.reAttn.AttnLaw := s.port.attnNow_iff

theorem State.reAttn_lampLaw (h : s.LampLaw) : s.reAttn.LampLaw := h

/-- Where a change closes, every lamp is right. -/
theorem State.closeChange_lampLaw : s.closeChange.LampLaw := by
  unfold State.closeChange
  exact State.reAttn_lampLaw _ (State.relamp_lampLaw _)

/-- Where a change closes, ATTN is right. -/
theorem State.closeChange_attnLaw : s.closeChange.AttnLaw := by
  unfold State.closeChange
  exact State.reAttn_attnLaw _

end Sys2Proof.Machine
end

