-- ==== Sys2Proof/Laws/Links.lean ====
section
/-! SUPPORT. What the operations of one link, of a write of the link settings, of one custody window, of the receiver's
measurement, of an order's report and of one bay's fields can do, once each, for the proofs to cite. -/

namespace Sys2Proof.Machine

variable (l : Link) (set : LinkSettings) (w : Window) (now : Nat)

/-! ### A link's slots emptied (R64) -/

@[simp] theorem Link.emptySlots_custody : l.emptySlots.custody = Slot.empty := rfl
@[simp] theorem Link.emptySlots_lane : l.emptySlots.lane = Slot.empty := rfl
@[simp] theorem Link.emptySlots_verify : l.emptySlots.verify = false := rfl
@[simp] theorem Link.emptySlots_verifyDue : l.emptySlots.verifyDue = false := rfl
@[simp] theorem Link.emptySlots_queryDue : l.emptySlots.queryDue = l.queryDue := rfl
@[simp] theorem Link.emptySlots_exchange : l.emptySlots.exchange = l.exchange := rfl
@[simp] theorem Link.emptySlots_state : l.emptySlots.state = l.state := rfl

/-! ### The next exchange (R58) -/

@[simp] theorem Link.takeInstant_state : l.takeInstant.state = l.state := by unfold takeInstant; split <;> rfl

@[simp] theorem Link.takeInstant_exchange : l.takeInstant.exchange = l.exchange := by
  unfold takeInstant; split <;> rfl

@[simp] theorem Link.takeInstant_pending : l.takeInstant.instantPending = none := by
  unfold takeInstant; split <;> simp_all

/-- A poll instant is due as a retrain sweep exactly if the interval of the moment it fell says so (R51, R58). -/
theorem Link.takeInstant_sweepDue {n : Nat} (h : l.instantPending = some n) :
    l.takeInstant.sweepDue = l.retrainDue n ∧ l.takeInstant.pollDue = true := by
  simp [takeInstant, h]

/-- A link that is not UP, or has an exchange in progress, starts none. -/
theorem Link.pump_busy (h : ¬(l.state = .up ∧ l.exchange = none)) : l.pump set = l := by simp [pump, h]

/-- All that the next exchange can be: the order of a slot, a retrain sweep, a QUERY, or none. -/
theorem Link.next_cases :
    l.custody.ready = true ∧ l.next set = { l with exchange := some .custodyOrder, custody := l.custody.launch } ∨
    l.custody.ready = false ∧ l.lane.ready = true ∧
      l.next set = { l with exchange := some .laneOrder, lane := l.lane.launch } ∨
    l.custody.ready = false ∧ l.lane.ready = false ∧
      (l.pollDue = true ∧ l.sweepDue = true ∧ l.queryDue = false ∧ l.verify = false ∧
          l.next set = l.beginSweep set true ∨
        ¬(l.pollDue = true ∧ l.sweepDue = true ∧ l.queryDue = false ∧ l.verify = false) ∧
          ((l.queryDue || l.verifyDue || l.pollDue) = true ∧ l.next set =
              { l with
                exchange := some .query, queryDue := false, verifyDue := false, pollDue := false, sweepDue := false } ∨
            (l.queryDue || l.verifyDue || l.pollDue) = false ∧ l.next set = l)) := by
  unfold Link.next
  split
  · exact .inl ⟨‹_›, rfl⟩
  · split
    · exact .inr (.inl ⟨by simp_all, ‹_›, rfl⟩)
    · refine .inr (.inr ⟨by simp_all, by simp_all, ?_⟩)
      split
      · exact .inl (by simp_all)
      · refine .inr ⟨by simp_all, ?_⟩
        split
        · exact .inl ⟨‹_›, rfl⟩
        · exact .inr ⟨by simp_all, rfl⟩

/-! ### Training (R55, R56) -/

@[simp] theorem Link.beginSweep_exchange (r : Bool) : (l.beginSweep set r).exchange = some .train := rfl
@[simp] theorem Link.beginSweep_pollDue (r : Bool) : (l.beginSweep set r).pollDue = false := rfl
@[simp] theorem Link.beginSweep_sweepDue (r : Bool) : (l.beginSweep set r).sweepDue = false := rfl

/-- A link makes its next exchange a training one only with no poll left due (R55, R58). -/
theorem Link.pump_train (h : l.exchange = some .train → l.pollDue = false ∧ l.sweepDue = false)
    (ht : (l.pump set).exchange = some .train) : (l.pump set).pollDue = false ∧ (l.pump set).sweepDue = false := by
  by_cases hb : l.state = .up ∧ l.exchange = none
  · have hp : l.pump set = l.takeInstant.next set := by simp [pump, hb]
    rw [hp] at ht ⊢
    rcases l.takeInstant.next_cases set with ⟨-, e⟩ | ⟨-, -, e⟩ | ⟨-, -, ⟨-, -, -, -, e⟩ | ⟨-, ⟨-, e⟩ | ⟨-, e⟩⟩⟩ <;>
      rw [e] at ht ⊢
    · simp at ht
    · simp at ht
    · simp
    · simp at ht
    · simp [hb.2] at ht
  · rw [l.pump_busy set hb] at ht ⊢
    exact h ht

/-- All that the judgement of a run can do, by the window the sweep began with. -/
theorem Link.judgeRun_cases (x : Sweep) (first last : Tap) :
    (x.minWindow ≤ last.val + 1 - first.val ∧ (l.judgeRun now x first last).state = .up ∧
      (l.judgeRun now x first last).window = some (first, last) ∧
      (l.judgeRun now x first last).tap = clampTap (((first.val + last.val) / 2 : Nat) + x.tapOffset)) ∨
    (last.val + 1 - first.val < x.minWindow ∧ l.judgeRun now x first last = l.stepDown) := by
  unfold judgeRun
  split
  · exact .inl ⟨‹_›, by split <;> exact ⟨rfl, rfl, rfl⟩⟩
  · exact .inr ⟨by omega, rfl⟩

/-! ### Custody windows (R130 to R133) -/

@[simp] theorem Window.start_expiry (length : Nat) (old : Option Window) :
    (Window.start now length old).expiry = now + length := rfl
@[simp] theorem Window.kept_expiry : w.kept.expiry = w.expiry := rfl
@[simp] theorem Window.kept_restartedAt : w.kept.restartedAt = none := rfl

/-- An expiry put away stays put away: the next one is the window's own. -/
@[simp] theorem Window.kept_overtaken : w.kept.overtaken now = false := rfl

/-- An expiry is overtaken exactly in the CLK32 second of a restart and in the next one. -/
theorem Window.overtaken_iff : w.overtaken now = true ↔ ∃ r, w.restartedAt = some r ∧ now ≤ r + 1 := by
  unfold overtaken; split <;> simp_all

/-- A window that was closed when it opened closes at its first expiry. -/
@[simp] theorem Window.start_fresh (at_ length : Nat) : (Window.start at_ length none).overtaken now = false := rfl

/-! ### The receiver's measurement (R153, R155) -/

section
variable (k : Receiver) (b : BurstState)

@[simp] theorem Receiver.rest_burst : (k.rest b).burst = b := rfl
@[simp] theorem Receiver.rest_gapOvertaken : (k.rest b).gapOvertaken = false := rfl
@[simp] theorem Receiver.rest_entries : (k.rest b).entries = k.entries := rfl
@[simp] theorem Receiver.rest_failures : (k.rest b).failures = k.failures := rfl
@[simp] theorem Receiver.rest_lockout : (k.rest b).lockout = k.lockout := rfl
@[simp] theorem Receiver.rest_candidates : (k.rest b).candidates = [] := rfl
@[simp] theorem Receiver.rest_inMark : (k.rest b).inMark = k.inMark := rfl

@[simp] theorem Receiver.rest_irinHigh : (k.rest b).irinHigh = k.irinHigh := rfl
@[simp] theorem Receiver.rest_stretchHigh : (k.rest b).stretchHigh = k.stretchHigh := rfl

@[simp] theorem Receiver.afterReset_irinHigh (high : Bool) : (Receiver.afterReset high).irinHigh = high := rfl
@[simp] theorem Receiver.afterReset_stretchHigh (high : Bool) : (Receiver.afterReset high).stretchHigh = high := rfl
@[simp] theorem Receiver.warm_burst : k.warm.burst = .waitingGap := rfl
@[simp] theorem Receiver.warm_irinHigh : k.warm.irinHigh = k.irinHigh := rfl
@[simp] theorem Receiver.warm_stretchHigh : k.warm.stretchHigh = k.stretchHigh := rfl
@[simp] theorem Receiver.warm_inMark : k.warm.inMark = k.inMark := rfl
@[simp] theorem Receiver.warm_gapOvertaken : k.warm.gapOvertaken = k.gapOvertaken := rfl
@[simp] theorem Receiver.warm_candidates : k.warm.candidates = [] := rfl
@[simp] theorem Receiver.warm_failures : k.warm.failures = 0 := rfl
@[simp] theorem Receiver.warm_lockout : k.warm.lockout = none := rfl

/-- With no burst end waiting, a write overtakes none. -/
@[simp] theorem Receiver.overtakesGap_none : k.overtakesGap false = false := rfl

/-- A measured SPACE whose reaching the limit waits is overtaken by a write. -/
theorem Receiver.overtakesGap_of_space (h : k.burst ≠ .idle) (hm : k.inMark = false) : k.overtakesGap true = true := by
  simp [overtakesGap, h, hm]

/-- All that a write of the receiver settings can do: another gap limit, which notes a waiting burst end if it is a higher
one, or a new measurement in WAITING_GAP, which notes it too. -/
theorem Receiver.write_cases (invert : Bool) (period : SamplePeriod) (gap : Nat) (waits : Bool) :
    (k.invert = invert ∧ k.period = period ∧ k.write invert period gap waits =
      { k with gapLimit := gap, gapOvertaken := if k.gapLimit < gap then k.overtakesGap waits else k.gapOvertaken }) ∨
    (¬(k.invert = invert ∧ k.period = period) ∧ k.write invert period gap waits =
      { Receiver.rest .waitingGap { k with invert := invert, period := period, gapLimit := gap } with
        gapOvertaken := k.overtakesGap waits }) := by
  unfold Receiver.write
  split
  · rename_i h
    obtain ⟨rfl, rfl⟩ := h
    refine .inl ⟨rfl, rfl, ?_⟩
    split <;> rfl
  · exact .inr ⟨‹_›, rfl⟩

end

/-! ### The session that a WAKE's report reaches (R118, R127) -/

/-- A report of a WAKE reaches the session of its lane, WAKING with that bay, whose own WAKE does not wait still. -/
theorem State.wakingAt_iff (s : State) (b : BayNo) (n : LaneNo) (x : Session) : s.wakingAt b n = some x ↔
    (s.lane n).session = some x ∧ x.phase = .waking ∧ x.bay = b ∧ (s.link b).lane.waiting ≠ some (.wake n) := by
  unfold State.wakingAt
  constructor
  · intro h
    split at h
    · split at h
      · cases h; exact ⟨‹_›, ‹_›⟩
      · cases h
    · cases h
  · rintro ⟨h, hx⟩
    simp [h, hx]

/-! ### LINK_SETTINGS and the poll (R51, R58) -/

@[simp] theorem State.reachPoll_linkSettings (s : State) (b : BayNo) : (s.reachPoll b).linkSettings = s.linkSettings := rfl
@[simp] theorem State.reachPoll_clk32 (s : State) (b : BayNo) : (s.reachPoll b).clk32 = s.clk32 := rfl

/-- A poll instant acts on its own link alone. -/
theorem State.reachPoll_link (s : State) (b c : BayNo) : (s.reachPoll b).link c =
    if b = c then ((s.link b).pollInstant s.linkSettings s.clk32).pump s.linkSettings else s.link c := by
  simp only [State.reachPoll, State.pumpLink, State.link_modLink]
  split <;> simp_all [State.modLink]

/-- The poll instants of several bays, each once, act on their links alone. -/
theorem State.reachPolls_link (bays : List BayNo) (hn : bays.Nodup) (s : State) (c : BayNo) :
    (bays.foldl State.reachPoll s).link c =
      if c ∈ bays then ((s.link c).pollInstant s.linkSettings s.clk32).pump s.linkSettings else s.link c := by
  induction bays generalizing s with
  | nil => simp
  | cons b l ih =>
    obtain ⟨hb, hl⟩ := List.nodup_cons.mp hn
    rw [List.foldl_cons, ih hl, State.reachPoll_link]
    by_cases h : b = c
    · subst h; simp [hb]
    · simp [h, Ne.symm h]

/-- All that a write of the link settings does to a link: it is brought down, or polled at once where a changed telemetry
interval has passed, or left. -/
theorem State.writeLinkSettings_link (s : State) (t : LinkSettings) (b : BayNo) :
    (s.writeLinkSettings t).link b =
      let l := (s.link b).bringDown t.maxStep
      if t.telemetryInterval ≠ s.linkSettings.telemetryInterval ∧ l.state = .up ∧ l.pollRunning = true ∧
          l.pollLast + t.telemetryInterval ≤ s.clk32 then (l.pollInstant t s.clk32).pump t
      else l := by
  let u : State := { s with linkSettings := t, links := Vector.ofFn fun b => (s.link b).bringDown t.maxStep }
  have hu : u.link b = (s.link b).bringDown t.maxStep := by simp [u, State.link]
  have hw : s.writeLinkSettings t = if (t.telemetryInterval != s.linkSettings.telemetryInterval) = true then
      (allBays.filter (u.pollOverdue t.telemetryInterval)).foldl State.reachPoll u else u := rfl
  have hn : (allBays.filter (u.pollOverdue t.telemetryInterval)).Nodup := (List.nodup_finRange 36).filter _
  have hm : b ∈ allBays := List.mem_finRange b
  rw [hw]
  by_cases hc : t.telemetryInterval = s.linkSettings.telemetryInterval
  · simp [hc, hu]
  · rw [if_pos (by simpa using hc), State.reachPolls_link _ hn, hu]
    simp [hc, hm, State.pollOverdue, hu, u, and_assoc]

/-! ### The report of a RELEASE (R145) -/

/-- All that the report of a RELEASE can do: nothing, where a newer RELEASE waits or the release is not open, or it writes the
outcome of the open release. -/
theorem State.releaseReported_cases (s : State) (b : BayNo) (outcome : OrderOutcome) :
    (((∃ h, (s.link b).custody.waiting = some (.release h)) ∨ ∀ i e o, s.release b ≠ some ⟨i, .opened e o⟩) ∧
      s.releaseReported b outcome = s) ∨
    ((∀ h, (s.link b).custody.waiting ≠ some (.release h)) ∧ ∃ i e o, s.release b = some ⟨i, .opened e o⟩ ∧
      s.releaseReported b outcome = s.setRelease b (some ⟨i, .opened e outcome⟩)) := by
  unfold State.releaseReported
  rcases hr : s.release b with _ | ⟨i, _ | ⟨e, o⟩⟩ <;> rcases hw : (s.link b).custody.waiting with _ | _ | h <;> simp

/-! ### A home bay's range (R2, R14, R18) -/

/-- The form of a home bay accepts the populated bays alone. -/
theorem State.populatedBay?_eq_some (s : State) (v : Nat) (b : BayNo) :
    s.populatedBay? v = some b ↔ v = b.val ∧ (s.bay b).populated = true := by
  unfold State.populatedBay?
  split
  · next h =>
    split
    · next hp =>
      constructor
      · rintro ⟨⟩; exact ⟨rfl, hp⟩
      · rintro ⟨rfl, -⟩; rfl
    · next hp => exact ⟨nofun, by rintro ⟨rfl, h2⟩; exact absurd h2 hp⟩
  · next h => exact ⟨nofun, by rintro ⟨rfl, -⟩; exact absurd b.isLt h⟩

/-! ### A bay's fields (R25) -/

section
variable (x : Bay)

@[simp] theorem Bay.strip_record : x.strip.record = x.record := rfl
@[simp] theorem Bay.strip_state : x.strip.state = x.state := rfl
@[simp] theorem Bay.strip_reportedId : x.strip.reportedId = none := rfl
@[simp] theorem Bay.strip_foreignCause : x.strip.foreignCause = none := rfl
@[simp] theorem Bay.strip_partner : x.strip.partner = none := rfl
@[simp] theorem Bay.strip_faultReason : x.strip.faultReason = none := rfl
@[simp] theorem Bay.strip_recovery : x.strip.recovery = false := rfl

end

end Sys2Proof.Machine
end

