-- ==== Sys2Proof/Laws/PerInstr.lean ====
section
/-! SUPPORT. The family Frame: no request frame is taken for a transaction that carries no request (R178). -/

namespace Sys2Proof.Laws.Frame

open Sys2Proof

/-- Where a command is sent as a request frame, that frame carries a request: its first byte, the code, is not 0. -/
def Statement (i : Instr) : Prop := ∀ f, encodeFrame i = some f → carriesNoRequest f = false

/-- A request of a code that is not 0 meets the statement. -/
theorem of_code {i : Instr} {code : Byte} {p : List Byte} (h : encodeRequest i = some (code, p))
    (hc : (code == 0) = false) : Statement i := by
  intro f hf
  simp only [encodeFrame, h, Option.map_some, Option.some.injEq] at hf
  subst hf
  exact hc

/-- A command that is no request meets the statement. -/
theorem of_none {i : Instr} (h : encodeRequest i = none) : Statement i := by
  intro f hf
  simp [encodeFrame, h] at hf

theorem coldReset (straps : BitVec 2) : Statement (.coldReset straps) := of_none rfl

theorem csNAsserted : Statement (.csNAsserted) := of_none rfl

theorem emptyTransaction (shifted : List Byte) : Statement (.emptyTransaction shifted) := of_none rfl

theorem malformedRequest (shifted : List Byte) : Statement (.malformedRequest shifted) := of_none rfl

theorem enrol (p : EnrolParams) : Statement (.enrol p) := of_code rfl rfl

theorem find (tabletId : TabletId) : Statement (.find tabletId) := of_code rfl rfl

theorem readRecord (index : Byte) : Statement (.readRecord index) := of_code rfl rfl

theorem list (custody : Byte) (start : Byte) : Statement (.list custody start) := of_code rfl rfl

theorem amend (index : Byte) (field : Byte) (value : Option Half) : Statement (.amend index field value) :=
  of_code rfl rfl

theorem flagSwap (index : Byte) (flags : Byte) : Statement (.flagSwap index flags) := of_code rfl rfl

theorem flagAnd (index : Byte) (flags : Byte) : Statement (.flagAnd index flags) := of_code rfl rfl

theorem flagOr (index : Byte) (flags : Byte) : Statement (.flagOr index flags) := of_code rfl rfl

theorem fill (first : Byte) (count : Byte) (template : FillTemplate) : Statement (.fill first count template) :=
  of_code rfl rfl

theorem hold (index : Byte) : Statement (.hold index) := of_code rfl rfl

theorem unhold (index : Byte) : Statement (.unhold index) := of_code rfl rfl

theorem retire (index : Byte) : Statement (.retire index) := of_code rfl rfl

theorem bayDisable (bay : Byte) : Statement (.bayDisable bay) := of_code rfl rfl

theorem bayEnable (bay : Byte) : Statement (.bayEnable bay) := of_code rfl rfl

theorem readBay (bay : Byte) : Statement (.readBay bay) := of_code rfl rfl

theorem linkSettings (p : Option LinkSettingsParams) : Statement (.linkSettings p) := by
  cases p <;> exact of_code rfl rfl

theorem linkReset (bay : Byte) : Statement (.linkReset bay) := of_code rfl rfl

theorem lineTest (bay : Byte) (readings : LineReadings) : Statement (.lineTest bay readings) := of_code rfl rfl

theorem budgetSettings (p : Option BudgetSettingsParams) : Statement (.budgetSettings p) := by
  cases p <;> exact of_code rfl rfl

theorem budgetRead (bay : Option Byte) : Statement (.budgetRead bay) := of_code rfl rfl

theorem laneSettings (p : Option LaneSettingsParams) : Statement (.laneSettings p) := by
  cases p <;> exact of_code rfl rfl

theorem laneDone (lane : Byte) (claimed : Byte) : Statement (.laneDone lane claimed) := of_code rfl rfl

theorem laneCancel (lane : Byte) : Statement (.laneCancel lane) := of_code rfl rfl

theorem laneRead : Statement (.laneRead) := of_code rfl rfl

theorem queueRead (start : Byte) : Statement (.queueRead start) := of_code rfl rfl

theorem custodySettings (p : Option CustodySettingsParams) : Statement (.custodySettings p) := by
  cases p <;> exact of_code rfl rfl

theorem checkout (index : Byte) (holder : Half) (preempt : Bool) (overrideMinimum : Bool) : Statement (.checkout index holder preempt overrideMinimum) := of_code rfl rfl

theorem cancelRelease (index : Byte) : Statement (.cancelRelease index) := of_code rfl rfl

theorem latch (bay : Byte) (direction : Byte) : Statement (.latch bay direction) := of_code rfl rfl

theorem custodyRead (start : Byte) : Statement (.custodyRead start) := of_code rfl rfl

theorem keySettings (p : Option KeySettingsParams) : Statement (.keySettings p) := by
  cases p <;> exact of_code rfl rfl

theorem learnKey (entry : Byte) (role : Byte) (tolerance : Byte) : Statement (.learnKey entry role tolerance) :=
  of_code rfl rfl

theorem setKey (entry : Byte) (p : SetKeyParams) : Statement (.setKey entry p) := of_code rfl rfl

theorem eraseKey (entry : Byte) : Statement (.eraseKey entry) := of_code rfl rfl

theorem keyRead (entry : Byte) : Statement (.keyRead entry) := of_code rfl rfl

theorem setTime (minute : Half) (day : Byte) : Statement (.setTime minute day) := of_code rfl rfl

theorem setPeriod (entry : Byte) (operation : Byte) (p : Option PeriodParams) : Statement (.setPeriod entry operation p) := by
  cases p <;> exact of_code rfl rfl

theorem clockRead : Statement (.clockRead) := of_code rfl rfl

theorem periodRead : Statement (.periodRead) := of_code rfl rfl

theorem selfTest : Statement (.selfTest) := of_code rfl rfl

theorem partReset : Statement (.partReset) := of_code rfl rfl

theorem eventSummary : Statement (.eventSummary) := of_code rfl rfl

theorem eventRead (source : Byte) : Statement (.eventRead source) := of_code rfl rfl

theorem eventAck (source : Byte) (subjects : BitVec 64) : Statement (.eventAck source subjects) := of_code rfl rfl

theorem eventEnable (enables : Option (BitVec 24)) : Statement (.eventEnable enables) := by
  cases enables <;> exact of_code rfl rfl

theorem rawContactChange (bay : BayNo) (present : Bool) : Statement (.rawContactChange bay present) := of_none rfl

theorem contactArrival (bay : BayNo) : Statement (.contactArrival bay) := of_none rfl

theorem contactLoss (bay : BayNo) : Statement (.contactLoss bay) := of_none rfl

theorem restEnd (bay : BayNo) : Statement (.restEnd bay) := of_none rfl

theorem identTaken (bay : BayNo) (reply : IdentReply) : Statement (.identTaken bay reply) := of_none rfl

theorem echoTaken (bay : BayNo) (payload : BitVec 64) : Statement (.echoTaken bay payload) := of_none rfl

theorem telemetryTaken (bay : BayNo) (reply : TelemetryReply) : Statement (.telemetryTaken bay reply) := of_none rfl

theorem ackTaken (bay : BayNo) : Statement (.ackTaken bay) := of_none rfl

theorem nakTaken (bay : BayNo) (reason : Byte) : Statement (.nakTaken bay reason) := of_none rfl

theorem badFrame (bay : BayNo) (reply : List Byte) : Statement (.badFrame bay reply) := of_none rfl

theorem replyTimeout (bay : BayNo) : Statement (.replyTimeout bay) := of_none rfl

theorem pollInstant (bay : BayNo) : Statement (.pollInstant bay) := of_none rfl

theorem supplyLimitChange (asserted : Bool) : Statement (.supplyLimitChange asserted) := of_none rfl

theorem settledReport (bay : BayNo) (value : Half) : Statement (.settledReport bay value) := of_none rfl

theorem settleTimeout (bay : BayNo) : Statement (.settleTimeout bay) := of_none rfl

theorem stageFaultSignal (bay : BayNo) : Statement (.stageFaultSignal bay) := of_none rfl

theorem energyAccountingTick : Statement (.energyAccountingTick) := of_none rfl

theorem wakeTimeout (lane : LaneNo) : Statement (.wakeTimeout lane) := of_none rfl

theorem sessionTimeout (lane : LaneNo) : Statement (.sessionTimeout lane) := of_none rfl

theorem teacherWindowExpiry : Statement (.teacherWindowExpiry) := of_none rfl

theorem serviceWindowExpiry : Statement (.serviceWindowExpiry) := of_none rfl

theorem serviceInputChange (asserted : Bool) : Statement (.serviceInputChange asserted) := of_none rfl

theorem serviceEdge : Statement (.serviceEdge) := of_none rfl

theorem releaseWindowExpiry (bay : BayNo) : Statement (.releaseWindowExpiry bay) := of_none rfl

theorem latchSwitchChange (bay : BayNo) (locked : Bool) (unlocked : Bool) : Statement (.latchSwitchChange bay locked unlocked) := of_none rfl

theorem driveTimeout (slot : SlotNo) : Statement (.driveTimeout slot) := of_none rfl

theorem irinEdge (high : Bool) : Statement (.irinEdge high) := of_none rfl

theorem stretchTaken (durationNs : Nat) : Statement (.stretchTaken durationNs) := of_none rfl

theorem gapReached : Statement (.gapReached) := of_none rfl

theorem learnTimeout : Statement (.learnTimeout) := of_none rfl

theorem lockoutExpiry : Statement (.lockoutExpiry) := of_none rfl

theorem minuteStep : Statement (.minuteStep) := of_none rfl

theorem secondsCountTick : Statement (.secondsCountTick) := of_none rfl

end Sys2Proof.Laws.Frame
end

