-- ==== Sys2Proof/Tests/Slice0.lean ====
section
/-! SUPPORT. Tests: well-formedness, frames written out from the manual's layouts, the worked examples of the manual, and for
every statement with hypotheses a state and operands that meet them. -/

namespace Sys2Proof.Tests

open Sys2Proof Sys2Proof.Machine

set_option Elab.async false

/-! ## Well-formedness: each check refuses an ill-formed command -/

theorem test_wf_emptyTransaction_with_code : (Instr.emptyTransaction [0x0A, 0]).wellFormed = false := by decide
theorem test_wf_malformedRequest_without_code : (Instr.malformedRequest []).wellFormed = false := by decide
theorem test_wf_setPeriod_write_without_fields : (Instr.setPeriod 0 0 none).wellFormed = false := by decide
theorem test_wf_setPeriod_clear_with_fields : (Instr.setPeriod 0 1 (some ⟨0, 1, 0⟩)).wellFormed = false := by decide
theorem test_wf_setKey_beyond_frame : (Instr.setKey 0 ⟨0, 1, 0, List.replicate 56 1⟩).wellFormed = false := by decide
theorem test_wf_stretchTaken_of_no_length : (Instr.stretchTaken 0).wellFormed = false := by decide
theorem test_wf_setKey_longest_frame : (Instr.setKey 0 ⟨0, 1, 0, List.replicate 55 1⟩).wellFormed = true := by decide

/-! ## Frames written out from R178, R188, R189, R190 and R193 -/

/-- Line readings of a sound line. -/
def sound : LineReadings := ⟨true, false, true, false⟩

theorem test_decode_hold : decodeFrame sound [0x0A, 0x01, 0x3F] = .hold 63 := by decide
theorem test_decode_readRecord : decodeFrame sound [0x03, 0x01, 0x05] = .readRecord 5 := by decide
theorem test_decode_amend : decodeFrame sound [0x05, 0x05, 0x07, 0x00, 0x01, 0x02, 0xBC] = .amend 7 0 (some 700) := by decide
theorem test_decode_linkSettings :
    decodeFrame sound [0x23, 0x06, 0x03, 0x04, 0xFE, 0x20, 0x00, 0x0A] = .linkSettings (some ⟨3, 4, 0xFE, 32, 10⟩) := by decide
theorem test_decode_budgetRead : decodeFrame sound [0x31, 0x02, 0x01, 0x23] = .budgetRead (some 35) := by decide
theorem test_decode_laneDone : decodeFrame sound [0x41, 0x02, 0x03, 0x09] = .laneDone 3 9 := by decide
theorem test_decode_checkout :
    decodeFrame sound [0x51, 0x05, 0x02, 0x12, 0x34, 0x01, 0x00] = .checkout 2 0x1234 true false := by decide
theorem test_decode_learnKey : decodeFrame sound [0x61, 0x03, 0x07, 0x01, 0x02] = .learnKey 7 1 2 := by decide
theorem test_decode_setPeriod :
    decodeFrame sound [0x71, 0x06, 0x02, 0x00, 0x04, 0x38, 0x7F, 0x01] = .setPeriod 2 0 (some ⟨1080, 0x7F, 1⟩) := by decide
theorem test_decode_eventAck :
    decodeFrame sound [0x7C, 0x09, 0x0E, 0, 0, 0, 0, 0, 0, 0x01, 0x00] = .eventAck 14 0x100 := by decide
theorem test_decode_bad_mark :
    decodeFrame sound [0x51, 0x05, 0x02, 0x12, 0x34, 0x02, 0x00] =
      .malformedRequest [0x51, 0x05, 0x02, 0x12, 0x34, 0x02, 0x00] := by decide
theorem test_decode_bad_selection :
    decodeFrame sound [0x09, 0x0C, 0, 1, 0x20, 0, 0, 0, 0, 0, 0, 0, 0, 0] =
      .malformedRequest [0x09, 0x0C, 0, 1, 0x20, 0, 0, 0, 0, 0, 0, 0, 0, 0] := by decide

/-- The worked check of section 10.5.4: charge 420, 31 degrees, generation 7. -/
theorem test_telemetry_frame : decodeReply 4 [0x23, 0x04, 0x01, 0xA4, 0x1F, 0x07, 0x0E] = .telemetryTaken 4 ⟨420, 31, 7⟩ := by decide
theorem test_telemetry_bad_check :
    decodeReply 4 [0x23, 0x04, 0x01, 0xA4, 0x1F, 0x07, 0x0F] = .badFrame 4 [0x23, 0x04, 0x01, 0xA4, 0x1F, 0x07, 0x0F] := by decide

/-! ## The worked examples of the manual -/

/-- The four bays of section 4.6.1, from the figures of its table. -/
def scaledCase : List PassBay :=
  [⟨3, true, false, 300, 247, 50, 297⟩, ⟨7, true, false, 450, 124, 50, 149⟩, ⟨12, true, false, 300, 264, 230, 69⟩,
    ⟨20, true, false, 600, 11, 50, 15⟩]

/-- Section 4.6.1: the needs of its four bays. -/
theorem test_scaled_energy :
    [energyNeeded 320 900 200 110, energyNeeded 450 900 650 110, energyNeeded 320 800 50 110, energyNeeded 500 900 880 110] =
      [247, 124, 264, 11] := by decide
theorem test_scaled_required :
    [requiredPower 15 300 247 50, requiredPower 15 450 124 50, requiredPower 15 300 264 230, requiredPower 15 600 11 50] =
      [297, 149, 69, 15] := by decide
/-- Section 4.6.1: the urgency order 3, 7, 20, 12 and the grants 220, 111, 15, 54. -/
theorem test_scaled_grants :
    (share 15 400 (rankBays scaledCase)).1.map (fun x => (x.1.bay.val, x.2)) = [(3, 220), (7, 111), (20, 15), (12, 54)] := by
  decide

/-- The five bays of section 4.6.2. -/
def surplusCase : List PassBay :=
  [⟨0, true, false, 200, 176, 120, 88⟩, ⟨1, true, false, 250, 17, 120, 15⟩, ⟨2, true, false, 450, 495, 60, 450⟩,
    PassBay.floorClass 5 false 15, ⟨8, true, true, 300, 39, 300, 15⟩]

theorem test_derated_limit : bayLimit 15 450 400 .derated = 200 := by decide
/-- Section 4.6.2: the grants in the urgency order. -/
theorem test_surplus_grants :
    (share 15 1200 (rankBays surplusCase)).1.map (fun x => (x.1.bay.val, x.2)) =
      [(8, 300), (2, 450), (0, 200), (1, 235), (5, 15)] := by decide

/-- Section 4.6.3: of five reservations the slot 1 latch alone is admitted. -/
theorem test_admission_walk :
    (admitAll 400 330 [⟨.latch 0, 50, .active⟩, ⟨.lane 2, 40, .active⟩, ⟨.lane 0, 40, .pending⟩, ⟨.lane 3, 40, .pending⟩,
      ⟨.latch 1, 50, .pending⟩]).map Reservation.state = [.active, .active, .pending, .pending, .admitted] := by decide
/-- Section 4.6.3: with B = 260, 17 of 22 bays are granted the floor. -/
theorem test_floors_short : (shareFloors 15 (260 / 15) (List.replicate 22 (PassBay.floorClass 0 false 15))).map Prod.snd =
    List.replicate 17 15 ++ List.replicate 5 0 := by decide

/-- The timetable of section 9.8 after SET_TIME for 19:30 on day 4. -/
def school : DayClock :=
  { DayClock.initial with
    minute := 1170, day := 4, timeValid := true
    periods := ((((DayClock.initial.periods.set 0 (some ⟨530, 0x1F, .deadline⟩)).set 1 (some ⟨785, 0x1F, .deadline⟩)).set 2
      (some ⟨1080, 0x7F, .provOpen⟩)).set 3 (some ⟨1320, 0x7F, .provClose⟩)).set 4 (some ⟨960, 0x1F, .loanDue⟩) }

/-- Section 9.8: 3680 minutes at the set time, 255 at 08:50 on day 0. -/
theorem test_deadline_query : school.nextDeadline = some 3680 := by decide +kernel
theorem test_deadline_query_monday :
    { school with minute := (530 : Minute), day := (0 : Day) }.nextDeadline = some 255 := by decide +kernel

/-! ## States for the witnesses -/

/-- The state a command leaves. -/
def after (c : Instr) (s : State) : State :=
  match exec c s with
  | .next t => t
  | _ => s

/-- A tablet IN_CART in bay 0. -/
def tablet : Record :=
  { Record.freeImage with
    custody := .inCart, tabletId := 7, currentBay := some 0, lastCharge := some 500, capacity := some 320
    acceptance := some 300 }

/-- Bay 0 with a tablet in it and the state given. -/
def occupied (x : BayState) (r : Option RecordIx) : Bay :=
  { State.reset.bay 0 with state := x, contact := true, rawContact := true, record := r }

/-- An UP link. -/
def upLink : Link := { Link.downValues with state := .up, advertised := some 2, pollRunning := true }

/-- The part with the tablet docked in bay 0. -/
def docked : State :=
  ((State.reset.putRecord 0 tablet).setBay 0 (occupied .identified (some 0))).setLink 0 upLink

/-- The part with one undocked tablet in a custody state. -/
def apart (c : CustodyState) : State :=
  State.reset.putRecord 0 { Record.freeImage with custody := c, tabletId := 7 }

/-- The part with a HELLO in progress in bay 1, which is in BRINGUP. -/
def greeting (s : State) : State :=
  (s.setBay 1 (occupied .bringup none)).setLink 1 { Link.downValues with state := .helloWait, exchange := some .hello }

/-- The part with bay 0 in a state and no record. -/
def bayIn (x : BayState) : State := State.reset.setBay 0 (occupied x none)

/-- An IDENT of tablet 7. -/
def ident : IdentReply := ⟨0xD7, 1, 7, 320, 300, 2, 0, 500⟩

/-! ## Witnesses: states and operands that meet the hypotheses of the statements -/

theorem docked_record (i : RecordIx) : docked.record i = if i = 0 then tablet else Record.freeImage := by
  revert i; decide +kernel

theorem docked_link (b : BayNo) : docked.link b = if b = 0 then upLink else Link.downValues := by
  revert b; decide +kernel

theorem witness_laws_naming : docked.NamingLaw ∧ docked.DisabledLaw := by decide +kernel
theorem witness_laws_presence : ∀ i : RecordIx, (docked.record i).PresenceLaw := by
  intro i; rw [docked_record]; split <;> simp [Record.PresenceLaw, tablet, Record.freeImage]
theorem witness_laws_release : docked.ReleaseLaw := by
  constructor
  · intro b
    have h : docked.release b = none := by revert b; decide +kernel
    simp [h]
  · decide +kernel
theorem witness_laws_output : docked.OutputLaw ∧ docked.LinkLaw := by decide +kernel
/-- O2 to O8: the docked state meets every law, and a command completes on it. -/
theorem witness_Inv : docked.Inv :=
  ⟨⟨witness_laws_naming.1, witness_laws_presence, witness_laws_release, witness_laws_naming.2⟩, witness_laws_output⟩
theorem witness_laws_port : docked.AttnLaw ∧ docked.LampLaw ∧ docked.MembersLaw ∧ docked.MisplacedLaw := by decide +kernel
theorem witness_laws_lanes : docked.QueueLaw ∧ docked.GrantLaw := by decide +kernel
theorem witness_laws_keys : docked.KeyLaw := by decide +kernel
theorem witness_laws_rate : docked.RateLaw := by
  intro b; rw [docked_link]; split <;> simp [upLink, Link.downValues, docked]
theorem witness_laws_range : docked.RangeLaw := by
  refine ⟨fun i => ?_, by decide +kernel, by decide, by decide⟩
  rw [docked_record]; split <;> simp [Record.RangeLaw, tablet, Record.freeImage]

/-- The docked part with the tablet's home in bay 23, the last populated one. -/
def homed : State := docked.putRecord 0 { tablet with homeBay := some 23 }

theorem homed_record (i : RecordIx) :
    homed.record i = if i = 0 then { tablet with homeBay := some 23 } else Record.freeImage := by
  revert i; decide +kernel

/-- O6, first part, with a home bay present: it is a populated bay, and bay 24 is none. -/
theorem witness_RecordMarksAndRangesAreKept :
    homed.MisplacedLaw ∧ homed.RangeLaw ∧ (homed.record 0).homeBay = some 23 ∧ (homed.bay 24).populated = false := by
  refine ⟨by decide +kernel, ⟨fun i => ?_, by decide +kernel, by decide, by decide⟩, by decide +kernel, by decide +kernel⟩
  rw [homed_record]; split <;> simp [Record.RangeLaw, tablet, Record.freeImage]
theorem witness_laws_budget : docked.BudgetLaw := by
  refine ⟨by decide +kernel, by decide +kernel, ?_⟩
  have h : docked.phase = .idle := rfl
  rw [h]
  have k : docked.Fits (fun b => (docked.output b).commitment) := by decide +kernel
  exact k
theorem witness_laws_ids : docked.TabletLaw ∧ docked.PeriodLaw ∧ docked.SweepLaw ∧ docked.BayLaw := by decide +kernel
theorem witness_laws_command : ∃ t, exec (.hold 0) docked = .next t := ⟨_, rfl⟩
/-- O3, second part: the commitments fit, and HOLD neither lowers B_eff nor counts a reservation. -/
theorem witness_PowerStaysWithinTheBudget :
    (docked.Fits fun b => (docked.output b).commitment) ∧ docked.effective ≤ (after (.hold 0) docked).effective ∧
      countedAmount (after (.hold 0) docked).reservations ≤ countedAmount docked.reservations := by decide +kernel

/-- The docked part with lane 0 in session with record 0 in bay 0, as the lane laws have it. -/
def laned (p : SessionPhase) : State :=
  (docked.setBay 0 { occupied .identified (some 0) with lane := some 0 }).setLane 0
    ⟨some ⟨p, 0, 0, 9, none⟩, none, if p.onLane then some 0 else none⟩

/-- The docked part with a lane session, a drive in slot 0, a request RESERVING in slot 1 and one waiting behind the drive. -/
def busy : State :=
  { ((((laned .waking).setBay 1 { State.reset.bay 1 with latch := .moving }).setSlot 0 (.driving ⟨1, .lock⟩)).setSlot 1
      (.reserving ⟨0, .unlock⟩)) with
    latchQueue := [⟨1, .unlock⟩]
    reservations := [⟨.lane 0, 40, .active⟩, ⟨.latch 0, 50, .active⟩, ⟨.latch 1, 50, .pending⟩] }

theorem busy_record (i : RecordIx) : busy.record i = if i = 0 then tablet else Record.freeImage := by
  revert i; decide +kernel
theorem witness_busy_custody : busy.CustodyLaw := by
  refine ⟨by decide +kernel, fun i => ?_, ⟨fun b => ?_, by decide +kernel⟩, by decide +kernel⟩
  · rw [busy_record]; split <;> simp [Record.PresenceLaw, tablet, Record.freeImage]
  · have h : busy.release b = none := by revert b; decide +kernel
    simp [h]
theorem witness_busy_lanes : busy.LaneLaw ∧ busy.LatchLaw := by decide +kernel
theorem witness_busy_reservations : busy.ReservationLaw := by
  refine ⟨by decide +kernel, by decide +kernel, by decide +kernel, fun e he => ?_⟩
  have h : busy.reservations = [⟨.lane 0, 40, .active⟩, ⟨.latch 0, 50, .active⟩, ⟨.latch 1, 50, .pending⟩] := rfl
  simp only [h, List.mem_cons, List.not_mem_nil, or_false] at he
  rcases he with rfl | rfl | rfl <;> decide +kernel
/-- O7 and O8: a state with sessions, drives and reservations meets every law. -/
theorem witness_busy : busy.Inv ∧ busy.LaneLaw ∧ busy.LatchLaw ∧ busy.ReservationLaw :=
  ⟨⟨witness_busy_custody, by decide +kernel⟩, witness_busy_lanes.1, witness_busy_lanes.2, witness_busy_reservations⟩

/-- The docked part with record 0, behind its profile target, at the head of the queue. -/
def waiting : State :=
  { docked.putRecord 0 { tablet with profileTarget := 9, profileHeld := some 1 } with queue := [0] }

/-- O7: the head of the queue and the lowest IDLE lane. -/
theorem witness_grants :
    waiting.NamingLaw ∧ waiting.QueueLaw ∧ waiting.queue = [0] ∧ (waiting.lane 0).session = none ∧
    (waiting.record 0).currentBay = some 0 ∧ (0 : Byte).toNat = WindowPolicy.always.ctorIdx ∧
    ({ waiting with laneWindow := true } : State).grantsPermitted = true := by
  refine ⟨?_, ?_, ?_, ?_, ?_, ?_, ?_⟩ <;> decide +kernel

/-- R116: LANE_SETTINGS with the policy ALWAYS grants lane 0 to record 0, which seeks generation 9. -/
theorem test_grant :
    let t := after (.laneSettings (some ⟨3, 30, 0⟩)) waiting
    ((t.lane 0).session.map fun x => (x.bay, x.record, x.sought, x.started)) = some (0, 0, 9, none) ∧
      (t.bay 0).lane = some 0 ∧ t.queue = [] := by decide +kernel

/-! ### Requests of the machine and the roster -/

theorem witness_RefusedRequestsChangeNothing :
    (encodeRequest (.hold 64)).isSome = true ∧ exec (.hold 64) docked = .next (docked.refuse .badIndex) ∧
      16 ≤ (docked.refuse .badIndex).port.response.status.code.toNat := ⟨rfl, rfl, by decide⟩

theorem witness_StepRunsTheFrontCommand :
    ({ docked with pending := [.hold 0, .selfTest] } : State).pending = .hold 0 :: [.selfTest] ∧ docked.pending = [] :=
  ⟨rfl, rfl⟩

theorem witness_FindAndReadRecordLookUp :
    ((docked.record 0).enrolled = true ∧ (docked.record 0).tabletId = 7 ∧
      ∀ j : RecordIx, (docked.record j).enrolled = true → (docked.record j).tabletId = 7 → j = 0) ∧
    (∀ j : RecordIx, (docked.record j).enrolled = true → (docked.record j).tabletId ≠ 8) ∧
    (63 : Byte).toNat = (63 : RecordIx).val ∧ 64 ≤ (64 : Byte).toNat := by decide +kernel

theorem witness_ListGivesTheRecordsOfAState :
    ((8 : Byte).toNat = CustodyState.retiring.ctorIdx ∧ (63 : Byte).toNat = (63 : RecordIx).val) ∧
    (9 ≤ (9 : Byte).toNat ∧ (63 : Byte).toNat < 64) ∧ (8 : Byte).toNat < 9 ∧ 64 ≤ (64 : Byte).toNat := by decide

theorem witness_ReadingRequestsOnlyReply :
    (35 : Byte).toNat = (35 : BayNo).val ∧ 36 ≤ (36 : Byte).toNat ∧ (63 : Byte).toNat = (63 : RecordIx).val ∧
    64 ≤ (64 : Byte).toNat ∧ (7 : Byte).toNat = (7 : KeyIx).val ∧ 8 ≤ (8 : Byte).toNat ∧
    (17 : Byte).toNat = (17 : SourceNo).val ∧ 18 ≤ (18 : Byte).toNat := by decide

/-- 33 records in the queue and 25 releases, in the bays 0 to 24. -/
def crowdedReads : State :=
  { State.reset with
    queue := (List.finRange 64).take 33
    releases := Vector.ofFn fun b => if b.val < 25 then some ⟨0, .unlocking⟩ else none }

theorem witness_reads_more :
    (0 : Byte).toNat = (0 : RecordIx).val ∧ crowdedReads.queue.length = 33 ∧
    (∀ k : BayNo, k ∈ (allBays.filter fun b => b.val < 25) ↔ 0 ≤ k ∧ (crowdedReads.release k).isSome = true) ∧
    (allBays.filter fun b => b.val < 25).Pairwise (· < ·) ∧ 24 < (allBays.filter fun b => b.val < 25).length := by
  refine ⟨?_, ?_, ?_, ?_, ?_⟩ <;> decide +kernel

theorem witness_key_images :
    State.reset.keyEntry 7 = ⟨.empty, none⟩ ∧
    (State.reset.setKeyEntry 7 ⟨.learning .teacher 1 30, some .erased⟩).keyEntry 7 = ⟨.learning .teacher 1 30, some .erased⟩ ∧
    (State.reset.setKeyEntry 7 ⟨.valid .technician [⟨true, 5⟩] 1 2 [1], none⟩).keyEntry 7 =
      ⟨.valid .technician [⟨true, 5⟩] 1 2 [1], none⟩ := by decide +kernel

/-- R126: of 33 queued records QUEUE_READ gives 32 and MORE from position 0, and the last one from position 32. -/
theorem test_queue_pages :
    (after (.queueRead 0) crowdedReads).port.response.data.head? = some 32 ∧
    (after (.queueRead 0) crowdedReads).port.response.data.getLast? = some 1 ∧
    (after (.queueRead 32) crowdedReads).port.response.data = [1, 32, 0] := by decide +kernel

/-- R151: of 25 release entries CUSTODY_READ gives 24 and MORE. -/
theorem test_release_pages :
    let m := (after (.custodyRead 0) crowdedReads).port.response.data
    m[22]? = some 24 ∧ m[23 + 6 * 23]? = some 23 ∧ m.getLast? = some 1 ∧ m.length = 168 := by decide +kernel

theorem witness_LineTestReportsTheFirstFailure :
    ((23 : Byte).toNat = (23 : BayNo).val ∧ (State.reset.bay 23).state = .empty) ∧
    (0 : Byte).toNat = (0 : BayNo).val ∧ (docked.bay 0).state ≠ .empty ∧ (docked.bay 0).state ≠ .fault := by
  decide +kernel

/-- The part with source 17 enabled and its subject pending. -/
def called : State :=
  { State.reset with
    port := { State.reset.port with subjects := State.reset.port.subjects.set 17 1, enables := 0x20000, attn := true } }

theorem witness_RecordImageFollowsItsLayout :
    (∀ n : SourceNo, (0x20000 : BitVec 24).getLsbD n.val = true ↔ called.subjectsOf n ≠ 0) ∧
      (0x20000 : BitVec 24).toNat < 2 ^ 18 ∧ (7 : Nat) < 8 := by decide +kernel

/-- ENROL as LOANED of tablet 7, with every optional field at the end of its range. -/
def loan : EnrolParams := ⟨7, 4, 1, some 23, some 1000, some 1439, 255, 255⟩

/-- ENROL as AWAY of tablet 7, without optional fields. -/
def plain : EnrolParams := ⟨7, 1, 0, none, none, none, 3, 0⟩

/-- A FOREIGN bay 0 that reports tablet 7. -/
def foreignBay : State :=
  State.reset.setBay 0 { occupied .foreign none with foreignCause := some .unknownId, reportedId := some 7 }

theorem witness_EnrolWritesTheLowestFreeRecord :
    (loan.initial.toNat = CustodyState.loaned.ctorIdx ∧ loan.holder ≠ 0 ∧ (State.reset.bay 23).populated = true ∧
      (∀ j : RecordIx, (State.reset.record j).custody ≠ .free → (State.reset.record j).tabletId ≠ loan.tabletId) ∧
      (State.reset.record 0).custody = .free ∧ (∀ j : RecordIx, j < 0 → (State.reset.record j).custody ≠ .free) ∧
      ∀ b : BayNo, ¬State.reset.ReportsUnknown b loan.tabletId) ∧
    (foreignBay.bay 23).populated = true ∧ ({ plain with initial := 7 } : EnrolParams).initial.toNat = CustodyState.held.ctorIdx ∧
    plain.initial.toNat = CustodyState.away.ctorIdx ∧ plain.holder = 0 ∧ (foreignBay.record 0).custody = .free ∧
      (∀ j : RecordIx, (foreignBay.record j).custody ≠ .free → (foreignBay.record j).tabletId ≠ plain.tabletId) ∧
      ∀ a : BayNo, a = 0 ↔ foreignBay.ReportsUnknown a plain.tabletId := by
  refine ⟨?_, ?_, ?_, ?_, ?_, ?_, ?_, ?_⟩ <;> decide +kernel

/-- A FOREIGN(BAD_CLASS) bay 1 that reports tablet 7 too. -/
def badClassBeside (s : State) : State := s.setBay 1 { foreignBay.bay 0 with foreignCause := some .badClass }

theorem witness_enrol_bad_class :
    (∀ b : BayNo, ¬(badClassBeside State.reset).ReportsUnknown b loan.tabletId) ∧
    (∀ a : BayNo, a = 0 ↔ (badClassBeside foreignBay).ReportsUnknown a plain.tabletId) := by
  refine ⟨?_, ?_⟩ <;> decide +kernel

/-- The FOREIGN bay 0, its link UP, while no latch request stands and the service window is closed. -/
theorem witness_enrol_locks :
    ((foreignBay.setLink 0 { foreignBay.link 0 with state := .up }).link 0).state ≠ .down ∧
    foreignBay.custodySettings.autoLock = true ∧ foreignBay.service = none ∧ foreignBay.LatchOrderly 0 := by
  refine ⟨?_, ?_, ?_, ?_⟩ <;> decide +kernel

/-- FOREIGN bays 0, 1 and 2 that report tablet 7. -/
def threeForeign : State := (foreignBay.setBay 1 (foreignBay.bay 0)).setBay 2 (foreignBay.bay 0)

theorem witness_enrol_collides :
    threeForeign.ReportsUnknown 0 plain.tabletId ∧ threeForeign.ReportsUnknown 1 plain.tabletId ∧
    (∀ a : BayNo, threeForeign.ReportsUnknown a plain.tabletId → a = 0 ∨ 1 ≤ a) ∧ (threeForeign.record 0).custody = .free ∧
    threeForeign.BayLaw := by
  refine ⟨?_, ?_, ?_, ?_, ?_⟩ <;> decide +kernel

/-- R140: the docked tablet is given LOCK, and its bay a LOCK request; a BAD_CLASS bay of the same ID stays as it was. -/
theorem test_enrol_locks :
    let s := badClassBeside (foreignBay.setLink 0 { foreignBay.link 0 with state := .rest })
    let t := after (.enrol plain) s
    t.CustodyOrdered 0 .lock ∧ t.LatchAsked 0 .lock ∧ (t.bay 1).state = .foreign := by
  refine ⟨?_, ?_, ?_⟩ <;> decide +kernel
theorem witness_enrol_plain (s : State) : s.EnrolInRange plain := ⟨nofun, nofun, nofun⟩

/-- R34: of three FOREIGN bays the two lowest collide, and the third stays. -/
theorem test_enrol_collides :
    let t := after (.enrol plain) threeForeign
    (t.bay 0).partner = some 1 ∧ (t.bay 1).partner = some 0 ∧ (t.bay 2).state = .foreign ∧
      (t.record 0).holdReason = some .collision := by decide +kernel

/-- R7, R15: a HELD record whose home is bay 23, HOME_ONLY set, docks in bay 0 HELD and MISPLACED. -/
theorem test_enrol_docks_held :
    let t := after (.enrol ⟨7, 7, 0, some 23, none, none, 255, 16⟩) foreignBay
    (t.record 0).custody = .held ∧ (t.record 0).currentBay = some 0 ∧ (t.record 0).misplaced = true := by decide +kernel

theorem witness_AmendWritesOneField :
    (0 : Byte).toNat = (0 : RecordIx).val ∧ (docked.record 0).custody ≠ .free ∧
    (200 ≤ (200 : Half).toNat ∧ (1000 : Half).toNat ≤ 1000) ∧ (1439 : Half).toNat = (1439 : Minute).val ∧
    ((23 : Half).toNat = (23 : BayNo).val ∧ (docked.bay 23).populated = true) ∧ (255 : Half).toNat < 256 ∧
    ((apart .overdue).record 0).custody = .overdue ∧ (65535 : Half) ≠ 0 := by decide +kernel

theorem witness_FlagRequestsExchangeTheSet :
    (0 : Byte).toNat = (0 : RecordIx).val ∧ (docked.record 0).custody ≠ .free ∧
      (docked.record 0).flags ||| 0x10 = 0x10 := by decide +kernel

theorem witness_FillWritesTheEnrolledRange :
    (0 : Byte).toNat = (0 : RecordIx).val ∧ 0 < (64 : Byte).toNat ∧ (64 : Byte).toNat ≤ 64 ∧
    (∀ v, (some 1000 : Option Half) = some v → 200 ≤ v.toNat ∧ v.toNat ≤ 1000) ∧
    (∀ v, (some (some 1439) : Option (Option Half)) = some (some v) → v.toNat < 1440) ∧
    ∀ v, (some none : Option (Option Byte)) = some (some v) → ∃ b : BayNo, v.toNat = b.val ∧ (docked.bay b).populated = true :=
  ⟨rfl, by decide, by decide, fun v h => by cases h; decide, fun v h => by cases h; decide, nofun⟩

theorem witness_HoldUnholdAndRetireMoveTheRecord :
    ((0 : Byte).toNat = (0 : RecordIx).val ∧ (docked.record 0).custody ≠ .free ∧ (docked.record 0).custody ≠ .releasing) ∧
    ((apart .held).record 0).custody = .held ∧ (apart .held).custodySettings.authority = .host ∧
    ((apart .held).record 0).currentBay = none ∧ ((apart .away).record 0).custody = .away ∧
    (docked.record 0).custody = .inCart := by decide +kernel

/-- The docked part with record 0 HELD in bay 0. -/
def heldHere : State := docked.putRecord 0 { tablet with custody := .held, holdReason := some .host }

/-- HOLD, RETIRE: the record's session; UNHOLD: a HELD record in bay 0, whose link is UP, with auto-lock and no window. -/
theorem witness_UnholdAndSessions :
    (laned .waking).laneOf 0 = some 0 ∧ ((laned .waking).lane 0).session = some ⟨.waking, 0, 0, 9, none⟩ ∧
    (heldHere.record 0).custody = .held ∧ (heldHere.record 0).currentBay = some 0 ∧ (heldHere.link 0).state ≠ .down ∧
      heldHere.release 0 = none ∧ heldHere.custodySettings.autoLock = true ∧ heldHere.service = none ∧
      heldHere.LatchOrderly 0 := by decide +kernel

/-- The custody authority KEY, with both windows closed. -/
def keyed (s : State) : State := { s with custodySettings := { s.custodySettings with authority := .key } }

theorem witness_RequestsAreRefusedInTheOrderOfTheirChecks :
    64 ≤ (64 : Byte).toNat ∧ (63 : Byte).toNat = (63 : RecordIx).val ∧ (docked.record 63).custody = .free ∧
    (4 : Byte).toNat < 5 ∧ ((apart .releasing).record 0).custody = .releasing ∧
    (((keyed (apart .held)).record 0).custody = .held ∧ (keyed (apart .held)).custodySettings.authority = .key ∧
      (keyed (apart .held)).service = none) ∧
    ((1 : Half) ≠ 0 ∧ ((apart .away).record 0).custody ≠ .inCart) ∧
    ((docked.record 0).custody = .inCart ∧ docked.custodySettings.authority = .host ∧
      (docked.record 0).loanBlock = false ∧ (docked.record 0).misplaced = false) ∧
    ((keyed docked).custodySettings.authority = .key ∧ (keyed docked).teacher = none ∧ (keyed docked).service = none) ∧
    36 ≤ (36 : Byte).toNat ∧ (docked.bay 35).populated = false ∧ (docked.bay 0).populated = true ∧
    (docked.bay 0).hostDisabled = false := by decide +kernel

/-- The docked part with LOAN_BLOCK, with MISPLACED, with a low charge or with a lane session of record 0. -/
def checkoutCases : List State :=
  [docked.putRecord 0 { tablet with flags := 4 }, docked.putRecord 0 { tablet with misplaced := true },
    docked.putRecord 0 { tablet with lastCharge := some 299 },
    docked.setLane 3 ⟨some ⟨.waking, 0, 0, 1, none⟩, none, some 0⟩]

theorem witness_checkout_refusals :
    checkoutCases.map (fun s => (s.record 0).loanBlock) = [true, false, false, false] ∧
    checkoutCases.map (fun s => (s.record 0).misplaced) = [false, true, false, false] ∧
    checkoutCases.map (fun s => (s.record 0).lastCharge) = [some 500, some 500, some 299, some 500] ∧
    checkoutCases.map (fun s => (s.laneOf 0).isSome) = [false, false, false, true] ∧
    checkoutCases.map (fun s => s.budget.checkoutMinimum) = [300, 300, 300, 300] := by decide +kernel

/-- Every index enrolled, none with tablet 7. -/
def crowded : State :=
  { State.reset with roster := Vector.replicate 64 { Record.freeImage with custody := .away, tabletId := 9 } }

theorem witness_enrol_order : StateInOrder loan ∧ ¬StateInOrder { loan with initial := 0 } ∧
    ¬StateInOrder { loan with holder := 0 } := by
  refine ⟨⟨.loaned, by decide⟩, ?_, ?_⟩
  · rintro ⟨c, h, hc, -⟩
    rcases hc with rfl | rfl | rfl <;> revert h <;> decide
  · rintro ⟨c, h, -, hl⟩
    cases c <;> revert h hl <;> decide

theorem docked_populated (b : BayNo) : (docked.bay b).populated = decide (b.val < 24) := by
  revert b; decide +kernel

theorem witness_home_range : docked.HomeInRange 23 ∧ ¬docked.HomeInRange 24 := by
  refine ⟨⟨23, rfl, by decide +kernel⟩, ?_⟩
  rintro ⟨b, hb, hp⟩
  rw [docked_populated, decide_eq_true_eq] at hp
  omega

theorem witness_enrol_range :
    docked.EnrolInRange loan ∧ ¬docked.EnrolInRange { loan with target := some 1001 } ∧
    ¬docked.EnrolInRange { loan with readyBy := some 1440 } ∧ ¬docked.EnrolInRange { loan with homeBay := some 24 } := by
  refine ⟨⟨fun v h => ?_, fun v h => ?_, fun v h => ?_⟩, fun h => ?_, fun h => ?_, fun h => ?_⟩
  · cases h; decide
  · cases h; decide
  · cases h; exact witness_home_range.1
  · exact absurd (h.1 _ rfl).2 (by decide)
  · exact absurd (h.2.1 _ rfl) (by decide)
  · exact witness_home_range.2 (h.2.2 _ rfl)

theorem witness_enrol_ids :
    (docked.record 0).custody ≠ .free ∧ (docked.record 0).tabletId = loan.tabletId ∧
    ∀ j : RecordIx, (crowded.record j).custody ≠ .free ∧ (crowded.record j).tabletId ≠ loan.tabletId := by decide +kernel

theorem witness_amend_refusals :
    docked.AmendOutOfRange 0 none ∧ docked.AmendOutOfRange 1 (some 1440) ∧ docked.AmendOutOfRange 2 (some 24) ∧
    docked.AmendOutOfRange 3 (some 256) ∧ docked.AmendOutOfRange 4 (some 0) :=
  ⟨.inl ⟨rfl, nofun⟩, .inr (.inl ⟨rfl, _, rfl, by decide⟩), .inr (.inr (.inl ⟨rfl, _, rfl, witness_home_range.2⟩)),
    .inr (.inr (.inr (.inl ⟨rfl, fun x h => by cases h; decide⟩))), .inr (.inr (.inr (.inr ⟨rfl, fun x h => by cases h; rfl⟩)))⟩

theorem witness_fill_refusals :
    64 < (65 : Byte).toNat ∧ ¬docked.FillInRange ⟨some 199, none, none, none, none⟩ ∧
    ¬docked.FillInRange ⟨none, some (some 1440), none, none, none⟩ :=
  ⟨by decide, fun h => absurd (h.1 _ rfl).1 (by decide), fun h => absurd (h.2.1 _ rfl) (by decide)⟩

theorem witness_holder_and_window :
    (1 : Half) ≠ 0 ∧ (docked.record 0).custody ≠ .loaned ∧ (docked.record 0).custody ≠ .overdue ∧
    (keyed { docked with teacher := some ⟨120, none⟩ }).teacher.isSome = true := by decide +kernel

/-! ### Bays, matching and dock lines -/

/-- The docked part with the tablet lifted out of bay 0, its contact still filtered PRESENT. -/
def lifted : State := docked.setBay 0 { occupied .identified (some 0) with rawContact := false }

/-- The part with bay 0 host disabled, a tablet in it. -/
def disabledBay : State := State.reset.setBay 0 { occupied .disabled none with hostDisabled := true }

/-- The part with bay 0 host disabled and its tablet lifted out. -/
def emptied : State := State.reset.setBay 0 { occupied .disabled none with hostDisabled := true, rawContact := false }

/-- The docked part RELEASING record 0 from bay 0, OPEN until second 60, its RELEASE order in progress. -/
def releasing : State :=
  ((docked.setLink 0
      { upLink with exchange := some .custodyOrder, custody := ⟨none, some (.release 1), false⟩ }).putRecord 0
    { tablet with custody := .releasing, holder := some 1 }).setRelease 0 (some ⟨0, .opened 60 .waiting⟩)

theorem witness_BayDisableAndContactLossEndTheBay :
    ((0 : Byte).toNat = (0 : BayNo).val ∧ (docked.bay 0).populated = true ∧ (docked.bay 0).hostDisabled = false ∧
      (docked.bay 0).partner ≠ some 0) ∧
    ((lifted.bay 0).populated = true ∧ (lifted.bay 0).contact = true ∧ (lifted.bay 0).rawContact = false ∧
      (lifted.bay 0).state ≠ .disabled) ∧
    (emptied.bay 0).populated = true ∧ (emptied.bay 0).contact = true ∧ (emptied.bay 0).rawContact = false ∧
      (emptied.bay 0).state = .disabled := by
  decide +kernel

/-- Bays 0 and 1 COLLIDED over tablet 7. -/
def collided : State :=
  (State.reset.setBay 0 { occupied .collided none with reportedId := some 7, partner := some 1 }).setBay 1
    { occupied .collided none with reportedId := some 7, partner := some 0 }

/-- BayEnded's own hypotheses: a record with a session on its lane, a RELEASE unacknowledged, a partner, requests standing. -/
theorem witness_BayEnded :
    ((busy.bay 0).record = some 0 ∧ busy.laneOf 0 = some 0 ∧ (busy.lane 0).switch = some 0) ∧
    (busy.NamingLaw ∧ busy.LaneLaw ∧ busy.LatchLaw) ∧ releasing.ReleaseUnacked 0 ∧ (releasing.bay 0).record = some 0 ∧
    (collided.bay 0).partner = some 1 ∧ (collided.bay 0).partnered = true ∧ (collided.bay 1).state = .collided := by
  decide +kernel

/-- The part with a tablet pushed into bay 0, its contact still filtered ABSENT. -/
def pushed (x : BayState) : State :=
  State.reset.setBay 0 { State.reset.bay 0 with state := x, rawContact := true }

theorem witness_BayEnableAndContactArrivalBeginBringup :
    ((disabledBay.bay 0).populated = true ∧ (disabledBay.bay 0).hostDisabled = true ∧ (disabledBay.bay 0).contact = true) ∧
    ((pushed .empty).bay 0).populated = true ∧ ((pushed .empty).bay 0).contact = false ∧
      ((pushed .empty).bay 0).rawContact = true ∧ ((pushed .empty).bay 0).state = .empty ∧
      ((pushed .disabled).bay 0).state = .disabled := by decide +kernel

theorem witness_IdentsMakeForeignBaysOrDocks :
    (((greeting State.reset).link 1).exchange = some .hello ∧ ((greeting State.reset).bay 1).state = .bringup ∧
      ((greeting State.reset).bay 1).record = none ∧
      ∀ i : RecordIx, ((greeting State.reset).record i).enrolled = true →
        ((greeting State.reset).record i).tabletId ≠ ident.tabletId) ∧
    ident.classMarker = 0xD7 ∧ ((greeting (apart .overdue)).record 0).enrolled = true ∧
      ((greeting (apart .overdue)).record 0).tabletId = ident.tabletId ∧
      (∀ j : RecordIx, ((greeting (apart .overdue)).record j).enrolled = true →
        ((greeting (apart .overdue)).record j).tabletId = ident.tabletId → j = 0) ∧
      ((greeting (apart .overdue)).record 0).currentBay = none ∧
      ((greeting (apart .overdue)).record 0).custody = .overdue := by decide +kernel

theorem witness_TwoTabletsOfOneIdCollide :
    ((greeting docked).link 1).exchange = some .hello ∧ ((greeting docked).bay 1).state = .bringup ∧
      ((greeting docked).bay 1).record = none ∧ ident.classMarker = 0xD7 ∧
      ((greeting docked).record 0).tabletId = ident.tabletId ∧
      (∀ j : RecordIx, ((greeting docked).record j).enrolled = true →
        ((greeting docked).record j).tabletId = ident.tabletId → j = 0) ∧
      ((greeting docked).record 0).currentBay = some 0 ∧ (0 : BayNo) ≠ 1 ∧ (greeting docked).NamingLaw ∧
      (greeting docked).LaneLaw := by decide +kernel

/-- Bay b, in a state, with its HELLO in progress again. -/
def regreeting (s : State) (b : BayNo) (f : Bay → Bay) : State :=
  (s.modBay b f).setLink b { upLink with state := .helloWait, exchange := some .hello }

/-- An IDENT of no enrolled record in IDENTIFIED. -/
theorem witness_other_identity_none :
    (regreeting docked 0 id).TakesAfresh 0 { ident with tabletId := 8 } ∧
    ((regreeting docked 0 id).link 0).exchange = some .hello ∧
    (∀ i : RecordIx, (docked.record i).enrolled = true → (docked.record i).tabletId ≠ 8) := by
  refine ⟨?_, ?_, ?_⟩ <;> decide +kernel

/-- Bay 0 IDENTIFIED, with record 63 undocked and holding tablet ID 8. -/
def strangerAway : State :=
  regreeting (docked.putRecord 63 { tablet with custody := .away, tabletId := 8, currentBay := none }) 0 id

theorem witness_other_identity_undocked :
    strangerAway.TakesAfresh 0 { ident with tabletId := 8 } ∧ (strangerAway.record 63).tabletId = 8 ∧
    (strangerAway.record 63).currentBay = none ∧ (strangerAway.bay 0).record ≠ some 63 ∧
    (strangerAway.link 0).state ≠ .down ∧ strangerAway.LatchOrderly 0 := by
  refine ⟨?_, ?_, ?_, ?_, ?_, ?_⟩ <;> decide +kernel

/-- Bay 0 IDENTIFIED with record 0, bay 1 with record 1. -/
def twoDocked : State :=
  regreeting ((docked.putRecord 1 { tablet with tabletId := 8, currentBay := some 1 }).setBay 1
    (occupied .identified (some 1))) 1 id

theorem witness_other_identity_elsewhere :
    twoDocked.TakesAfresh 1 ident ∧ (twoDocked.record 0).currentBay = some 0 ∧ (twoDocked.bay 1).record ≠ some 0 ∧
    (twoDocked.bay 1).partner ≠ some 0 := by
  refine ⟨?_, ?_, ?_, ?_⟩ <;> decide +kernel

/-- Bay 0 in FAULT with its record and the recovery mark. -/
def recovering : State := regreeting docked 0 fun x => { x with state := .fault, recovery := true }

/-- An IDENT of the same identity in IDENTIFIED, and in FAULT with the recovery mark. -/
theorem witness_same_identity :
    (regreeting docked 0 id).SameIdentity 0 ident ∧ recovering.SameIdentity 0 ident ∧
    (recovering.bay 0).record = some 0 ∧ (recovering.bay 0).recovery = true ∧ (recovering.bay 0).partner ≠ some 0 := by
  refine ⟨?_, ?_, ?_, ?_, ?_⟩ <;> decide +kernel

/-- Bay 0 in FOREIGN with tablet ID 7, by its class marker. -/
def foreigner : State :=
  regreeting (bayIn .foreign) 0 fun x => { x with reportedId := some 7, foreignCause := some .badClass }

/-- The same in COLLIDED and in FOREIGN; and FAULT without identity. -/
theorem witness_same_identity_unowned :
    (regreeting collided 0 id).SameIdentity 0 ident ∧ foreigner.SameIdentity 0 { ident with classMarker := 0 } ∧
    ((regreeting (bayIn .fault) 0 id).bay 0).state = .fault ∧ ((regreeting (bayIn .fault) 0 id).bay 0).record = none ∧
    ((regreeting (bayIn .fault) 0 id).bay 0).reportedId = none := by
  refine ⟨?_, ?_, ?_, ?_, ?_⟩ <;> decide +kernel

/-- Bay 1 FOREIGN(UNKNOWN_ID) with tablet ID 7, which record 0 holds, docked in bay 0 or not. -/
def foreignOne (s : State) : State :=
  regreeting s 1 fun x => { x with state := .foreign, reportedId := some 7, foreignCause := some .unknownId }

theorem witness_foreign_by_now_enrolled :
    (foreignOne (apart .away)).SameIdentity 1 ident ∧ ((foreignOne (apart .away)).record 0).currentBay = none ∧
    (foreignOne docked).SameIdentity 1 ident ∧ ((foreignOne docked).record 0).currentBay = some 0 ∧
    ((foreignOne docked).bay 0).state ≠ .fault ∧ ((foreignOne docked).record 0).enrolled = true := by
  refine ⟨?_, ?_, ?_, ?_, ?_, ?_⟩ <;> decide +kernel

/-- A FAULT bay with its recovery mark whose record a collision took (log entry 15). -/
theorem witness_struck_while_recovering :
    let s := regreeting (bayIn .fault) 0 fun x => { x with recovery := true, reportedId := some 7, partner := some 1 }
    s.SameIdentity 0 ident ∧ (s.bay 0).record = none ∧ (s.bay 0).recovery = true := by
  refine ⟨?_, ?_, ?_⟩ <;> decide +kernel

/-- The docked part with bay 0's link as given. -/
def linked (x : Link) : State := docked.setLink 0 x

theorem witness_RestEndsAndPollInstantsSend :
    ((linked { upLink with state := .rest }).link 0).state = .rest ∧ (docked.link 0).state = .up ∧
      (docked.link 0).pollRunning = true ∧ (docked.link 0).exchange = none ∧ (docked.link 0).custody.waiting = none ∧
      (docked.link 0).lane.waiting = none ∧ (docked.link 0).verify = false ∧ (docked.link 0).queryDue = false ∧
      docked.linkSettings.retrainInterval ≤ ((linked { upLink with step := 2, retrain := 32 }).link 0).retrain := by
  decide +kernel

/-- IdentSetsTheRateStep: an IDENT that names step 2 at step 0, one that names step 2 at step 2, one that names step 0. -/
theorem witness_IdentSetsTheRateStep :
    ((greeting State.reset).link 1).exchange = some .hello ∧ ((greeting State.reset).bay 1).record = none ∧
    2 = min State.reset.linkSettings.maxStep.val (min (min ident.maxStep.toNat 3) ((greeting State.reset).link 1).ceiling.val) ∧
    2 ≠ ((greeting State.reset).link 1).step.val ∧
    0 = min State.reset.linkSettings.maxStep.val (min (min (0 : Byte).toNat 3) ((greeting State.reset).link 1).ceiling.val) := by
  decide +kernel

/-- A link whose sweep, begun with a tap offset, stands at a tap, with the first tap that passed. -/
def sweeping (offset : Int) (tap : Tap) (first : Option Tap) : Link :=
  { Link.downValues with
    state := .training, step := 2, advertised := some 2, tap := tap, exchange := some .train
    sweep := some ⟨first, false, 4, offset⟩ }

/-- EchoJudgesTheTap: a pass at tap 30 and at tap 31, a failure at tap 20 after a run from 7, a failure before any run, by an
ECHO, a reply timeout or a bad frame. -/
theorem witness_EchoJudgesTheTap :
    ((linked (sweeping 0 30 none)).link 0).exchange = some .train ∧ ((linked (sweeping 0 30 none)).link 0).tap.val < 31 ∧
    ((linked (sweeping 0 31 (some 25))).link 0).tap = 31 ∧
    ((linked (sweeping (-2) 20 (some 7))).link 0).sweep = some ⟨some 7, false, 4, -2⟩ ∧
      ((linked (sweeping (-2) 20 (some 7))).link 0).tap.val = (19 : Tap).val + 1 ∧
    (0 : BitVec 64) ≠ Config.trainingPattern ∧ Exchange.train.succeeds [] = false ∧
    (linked (sweeping (-2) 20 (some 7))).SweepLaw := by decide +kernel

/-- R55: a reply timeout fails its tap, the sweep goes on, and no failed exchange is counted; after a run it ends the sweep. -/
theorem test_tap_times_out :
    let t := after (.replyTimeout 0) (linked (sweeping 0 20 none))
    (t.link 0).tap = 21 ∧ (t.link 0).failedExchanges = 0 ∧
      ((after (.replyTimeout 0) (linked (sweeping (-2) 20 (some 7)))).link 0).window = some (7, 19) := by decide +kernel

/-- Section 3.4.1, first row: taps 7 to 19 pass, offset -2 when the sweep began (R51), tap 11. -/
theorem test_tap_choice :
    let t := after (.echoTaken 0 0) { linked (sweeping (-2) 20 (some 7)) with linkSettings := ⟨2, 16, 7, 32, 10⟩ }
    (t.link 0).tap = 11 ∧ (t.link 0).window = some (7, 19) := by decide +kernel

/-- Section 3.4.1, second row: taps 25 to 31 pass, offset 5, tap 31. -/
theorem test_tap_clamped :
    let t := after (.echoTaken 0 Config.trainingPattern) (linked (sweeping 5 31 (some 25)))
    (t.link 0).tap = 31 ∧ (t.link 0).window = some (25, 31) := by decide +kernel

/-- The docked part with a QUERY in progress, a verification pending and lane 0 CLOSING with generation 9 claimed. -/
def verifying : State :=
  (linked { upLink with exchange := some .query, verify := true }).setLane 0 ⟨some ⟨.closing 9, 0, 0, 9, none⟩, none, none⟩

theorem witness_TelemetryWritesAndVerifies :
    (((linked { upLink with exchange := some .query }).link 0).exchange = some .query ∧
      ((linked { upLink with exchange := some .query }).link 0).verify = false) ∧
    (verifying.link 0).exchange = some .query ∧ (verifying.link 0).verify = true ∧ verifying.laneAt 0 = some 0 ∧
      (verifying.lane 0).session = some ⟨.closing 9, 0, 0, 9, none⟩ ∧ (verifying.record 0).custody ≠ .free := by
  decide +kernel

/-- The docked part with lane 0 WAKING bay 0, its WAKE order in progress. -/
def waking : State :=
  (linked { upLink with exchange := some .laneOrder, lane := ⟨none, some (.wake 0), false⟩ }).setLane 0
    ⟨some ⟨.waking, 0, 0, 9, none⟩, none, none⟩

theorem witness_OrdersEndWithAckOrNak :
    ((releasing.link 0).exchange = some .custodyOrder ∧ (releasing.link 0).custody = ⟨none, some (.release 1), false⟩ ∧
      releasing.release 0 = some ⟨0, .opened 60 .waiting⟩) ∧
    (waking.link 0).exchange = some .laneOrder ∧ (waking.link 0).lane.inFlight = some (.wake 0) ∧
      (waking.lane 0).session = some ⟨.waking, 0, 0, 9, none⟩ ∧
    (State.reset.link 0).state = .down ∧ (docked.link 0).state = .up ∧ (docked.link 0).exchange = none ∧
      (docked.link 0).custody.waiting = none ∧ (releasing.link 0).exchange = some .custodyOrder := by decide +kernel

/-- The lane law state with the session's WAKE in flight. -/
def awakening : State :=
  (laned .waking).setLink 0 { upLink with exchange := some .laneOrder, lane := ⟨none, some (.wake 0), false⟩ }

/-- The docked part with an order in flight on bay 0's link, and another waiting or none. -/
def locking (w : Option CustodyOrder) : State :=
  linked { upLink with exchange := some .custodyOrder, custody := ⟨w, some .lock, w.isSome⟩ }
def quieting (w : Option LaneOrder) : State :=
  linked { upLink with exchange := some .laneOrder, lane := ⟨w, some .quiet, w.isSome⟩ }

/-- The WAKE of an ended session of lane 0 in flight, while lane 0 is WAKING bay 0 again with its own WAKE behind it. -/
def wakingAgain : State :=
  (linked { upLink with exchange := some .laneOrder, lane := ⟨some (.wake 0), some (.wake 0), true⟩ }).setLane 0
    ⟨some ⟨.waking, 0, 0, 9, none⟩, none, some 0⟩

/-- R127, rows 1 and 3: the report of an ended session's WAKE is ignored, and the waking session's own WAKE goes out; its ACK
connects. -/
theorem test_old_wake_report :
    let t := after (.ackTaken 0) wakingAgain
    let u := after (.nakTaken 0 1) wakingAgain
    t.lane 0 = wakingAgain.lane 0 ∧ (t.link 0).lane = ⟨none, some (.wake 0), false⟩ ∧ u.lane 0 = wakingAgain.lane 0 ∧
      ((after (.ackTaken 0) t).lane 0).session = some ⟨.connected 30, 0, 0, 9, none⟩ := by
  refine ⟨?_, ?_, ?_, ?_⟩ <;> decide +kernel

theorem witness_old_wake_report :
    (wakingAgain.link 0).lane = ⟨some (.wake 0), some (.wake 0), true⟩ ∧
    (wakingAgain.link 0).exchange = some .laneOrder ∧ wakingAgain.GrantsNone ∧
    (∀ l : LaneNo, (wakingAgain.lane l).session.map Session.phase ≠ some .admitting) ∧
    (waking.link 0).lane.waiting ≠ some (.wake 0) ∧
    ∀ x : Session, ((quieting none).lane 0).session = some x → x.phase = .waking → x.bay ≠ 0 := by
  refine ⟨?_, ?_, .inl rfl, ?_, ?_, fun x h => nomatch (show none = some x from h)⟩ <;> decide +kernel

/-- Bay 0 with an order in flight and one waiting in its custody slot, and a release entry, or none of them. -/
def reported (w f : Option CustodyOrder) (r : Option Release) : State :=
  (linked { upLink with exchange := some .custodyOrder, custody := ⟨w, f, w.isSome⟩ }).setRelease 0 r

/-- An open release with LOCK waiting; a newer RELEASE waiting; a lapsed release with LOCK waiting, one gone, one UNLOCKING
again; and an emptied slot. -/
theorem witness_release_reports :
    ((reported (some .lock) (some (.release 1)) (some ⟨0, .opened 60 .waiting⟩)).release 0 = some ⟨0, .opened 60 .waiting⟩ ∧
      ∀ g : Nat, (some .lock : Option CustodyOrder) ≠ some (.release g)) ∧
    ((reported (some (.release 2)) (some (.release 1)) (some ⟨0, .opened 60 .waiting⟩)).link 0).custody =
      ⟨some (.release 2), some (.release 1), true⟩ ∧
    (∀ (i : RecordIx) (e : Nat) (o : OrderOutcome),
      (reported (some .lock) (some (.release 1)) none).release 0 ≠ some ⟨i, .opened e o⟩ ∧
      (reported none (some (.release 1)) (some ⟨0, .unlocking⟩)).release 0 ≠ some ⟨i, .opened e o⟩) ∧
    ((reported none none none).link 0).custody = ⟨none, none, false⟩ ∧
      ((reported none none none).link 0).exchange = some .custodyOrder := by
  refine ⟨⟨by decide +kernel, nofun⟩, by decide +kernel, fun i e o => ⟨?_, ?_⟩, by decide +kernel, by decide +kernel⟩
  · rw [show (reported (some .lock) (some (.release 1)) none).release 0 = none by decide +kernel]; nofun
  · rw [show (reported none (some (.release 1)) (some ⟨0, .unlocking⟩)).release 0 = some ⟨0, .unlocking⟩ by decide +kernel]
    nofun

/-- R62, R63, R147: the ACK of an older RELEASE leaves the open release WAITING and sends the newer one; the NAK of a lapsed
release's sends the LOCK that waits. -/
theorem test_release_reports :
    let t := after (.ackTaken 0) (reported (some (.release 2)) (some (.release 1)) (some ⟨0, .opened 60 .waiting⟩))
    let u := after (.nakTaken 0 1) (reported (some .lock) (some (.release 1)) none)
    t.release 0 = some ⟨0, .opened 60 .waiting⟩ ∧ (t.link 0).custody = ⟨none, some (.release 2), false⟩ ∧
      u.release 0 = none ∧ (u.link 0).custody = ⟨none, some .lock, false⟩ := by decide +kernel

theorem docked_lanes (l : LaneNo) : (docked.lane l).session = none := by revert l; decide +kernel
theorem quieting_idle (w : Option LaneOrder) : (quieting w).NoWakeDue 0 :=
  ⟨.inl rfl, fun l _ h => nomatch (docked_lanes l).symm.trans h⟩

theorem witness_every_order_in_flight :
    (awakening.GrantsNone ∧ awakening.LaneLaw ∧ (awakening.link 0).lane.waiting = none ∧
      (awakening.link 0).lane.inFlight = some (.wake 0)) ∧
    (((locking (some (.release 1))).link 0).custody = ⟨some (.release 1), some .lock, true⟩ ∧
      ∀ i : RecordIx, (locking none).release 0 ≠ some ⟨i, .unlocking⟩) ∧
    ((quieting none).link 0).lane = ⟨none, some .quiet, false⟩ ∧ ((quieting none).link 0).instantPending = none ∧
      ((quieting (some (.wake 1))).link 0).failedExchanges + 1 < 3 := by
  refine ⟨⟨.inl rfl, ?_, ?_, ?_⟩, ⟨?_, ?_⟩, ?_, ?_, ?_⟩ <;> decide +kernel

/-- R118, R63: an ACK of WAKE empties the slot; a QUIET whose exchange fails waits, and the next poll instant sends it. -/
theorem test_lane_orders :
    ((after (.ackTaken 0) awakening).link 0).lane = ⟨none, none, false⟩ ∧
      ((after (.replyTimeout 0) (quieting none)).link 0).lane = ⟨some .quiet, none, false⟩ ∧
      ((after (.pollInstant 0) (after (.replyTimeout 0) (quieting none))).link 0).lane = ⟨none, some .quiet, false⟩ := by
  decide +kernel

/-- R62: LOCK placed while RELEASE is in flight waits; placed on the idle UP link it is sent. -/
theorem test_place_order :
    ((releasing.placeCustodyOrder 0 .lock).link 0).custody = ⟨some .lock, some (.release 1), true⟩ ∧
      ((docked.placeCustodyOrder 0 .lock).link 0).sent = [0x14, 3, 0, 0, 0, 0xE9] := by decide +kernel

theorem witness_FailedExchangesAreCounted :
    (Exchange.query.succeeds [] = false ∧ ((linked { upLink with exchange := some .query }).link 0).exchange = some .query) ∧
    ((linked { upLink with exchange := some .query, failedExchanges := 2 }).link 0).failedExchanges + 1 = 3 ∧
    ((greeting docked).link 1).exchange = some .hello ∧ ((greeting docked).bay 1).partner ≠ some 1 ∧
    ((greeting docked).link 1).helloAttempts < 2 ∧
    2 ≤ ({ upLink with helloAttempts := 2, failedBringups := 2 } : Link).failedBringups ∧
    ((releasing.link 0).custody.inFlight = some (.release 1) ∧ (releasing.link 0).custody.waiting = none ∧
      (releasing.link 0).instantPending = none ∧ (∀ i : RecordIx, releasing.release 0 ≠ some ⟨i, .unlocking⟩) ∧
      (({ releasing.link 0 with failedExchanges := 1 } : Link).failedExchanges + 1 < 3)) ∧
    ((linked { upLink with custody := ⟨some .lock, none, false⟩ }).link 0).custody.waiting = some .lock ∧
    ((linked { upLink with lane := ⟨some .quiet, none, false⟩ }).link 0).lane.waiting = some .quiet := by decide +kernel

/-- R47: a TELEMETRY in answer to an ORDER fails the exchange; an ACK in answer to a QUERY does. -/
theorem test_wrong_kind :
    ((after (.telemetryTaken 0 ⟨500, 20, 0⟩) releasing).link 0).failedExchanges = 1 ∧
      ((after (.ackTaken 0) (linked { upLink with exchange := some .query })).link 0).failedExchanges = 1 := by decide +kernel

/-- R63: a RELEASE whose exchange failed waits for the next poll instant, and a newer LOCK replaces it. -/
theorem test_failed_order :
    ((after (.replyTimeout 0) releasing).link 0).custody = ⟨some (.release 1), none, false⟩ ∧
      ((after (.replyTimeout 0) (releasing.placeCustodyOrder 0 .lock)).link 0).custody = ⟨none, some .lock, false⟩ := by
  decide +kernel

/-- Bay 0 before the third failure of the third bring-up, with a verification pending or not. -/
def lastHello (verify : Bool) (s : State) : State :=
  s.setLink 0 { Link.downValues with
    state := .helloWait, exchange := some .hello, helloAttempts := 2, failedBringups := 2, verify := verify }

/-- The record RELEASING from bay 0 while its latch is being unlocked, or its UNLOCK waits. -/
def releasingLatch : State :=
  { ((docked.putRecord 0 { tablet with custody := .releasing, holder := some 1 }).setRelease 0 (some ⟨0, .unlocking⟩)) with
    latchQueue := [⟨0, .unlock⟩] }

theorem witness_links_fail :
    ((lastHello false docked).link 0).exchange = some .hello ∧ ((lastHello false docked).link 0).failedBringups = 2 ∧
    ((lastHello true verifying).link 0).verify = true ∧ (lastHello true verifying).laneAt 0 = some 0 ∧
      (lastHello true verifying).NamingLaw ∧ (lastHello true (laned (.closing 9))).LaneLaw ∧
    ((lastHello false collided).bay 0).partner = some 1 ∧ ((lastHello false collided).bay 0).state = .collided ∧
    ((lastHello false releasingLatch).record 0).custody = .releasing ∧ (lastHello false releasingLatch).LatchLaw ∧
      ((lastHello false releasingLatch).bay 0).latch ≠ .locked := by
  refine ⟨?_, ?_, ?_, ?_, ?_, ?_, ?_, ?_, ?_, ?_, ?_⟩ <;> decide +kernel

/-- R37, R35: the failure of a COLLIDED bay's link brings its partner into BRINGUP. -/
theorem test_link_failure_releases :
    let t := after (.replyTimeout 0) (lastHello false collided)
    (t.bay 0).state = .fault ∧ (t.bay 0).partner = none ∧ (t.bay 1).state = .bringup ∧ (t.bay 1).partner = none := by
  decide +kernel

/-- R121, R149: the link fails under a CLOSING session, and under a release. -/
theorem test_link_failure_ends :
    ((after (.replyTimeout 0) (lastHello true (laned (.closing 9)))).lane 0).last = some ⟨.unverified, 0, some 9⟩ ∧
    (let t := after (.replyTimeout 0) (lastHello false releasingLatch)
     t.release 0 = none ∧ (t.link 0).custody.waiting = some .lock ∧ (t.slot 0).request = some ⟨0, .lock⟩ ∧
       (t.record 0).holder = none) := by decide +kernel

/-- LinkSettingsAreClampedAndTakeEffect: a write of step 1 while bay 0 is at step 2 and bay 1 at step 0. -/
theorem witness_LinkSettingsAreClampedAndTakeEffect :
    (1 : RateStep) < ((linked { upLink with step := 2 }).link 0).step ∧
      ((linked { upLink with step := 2 }).link 1).step ≤ (1 : RateStep) := by decide +kernel

/-- Second 5 of the docked part, whose telemetry interval is 10 and whose latest poll instant is second 0, with or without an
exchange in progress. -/
def fifthSecond (x : Option Exchange) : State := { linked { upLink with exchange := x } with clk32 := 5 }

theorem witness_overdue_polls :
    (fifthSecond none).linkSettings.telemetryInterval = 10 ∧ ((fifthSecond none).link 0).step ≤ (2 : RateStep) ∧
    ((fifthSecond none).link 0).state = .up ∧ ((fifthSecond none).link 0).pollRunning = true ∧
    ((fifthSecond none).link 0).pollLast + 5 ≤ (fifthSecond none).clk32 ∧
    (fifthSecond none).clk32 < ((fifthSecond none).link 0).pollLast + 6 ∧ ((fifthSecond none).link 0).exchange = none ∧
    ((fifthSecond none).link 0).custody.waiting = none ∧ ((fifthSecond none).link 0).lane.waiting = none ∧
    ((fifthSecond none).link 0).verify = false ∧ ((fifthSecond none).link 0).queryDue = false ∧
    ((fifthSecond (some .query)).link 0).exchange = some .query := by decide +kernel

/-- R51: an interval of 5 written in second 5 makes the poll at once, one of 6 leaves the link as it is. -/
theorem test_overdue_polls :
    ((after (.linkSettings (some ⟨2, 4, 0, 32, 5⟩)) (fifthSecond none)).link 0).exchange = some .query ∧
      ((after (.linkSettings (some ⟨2, 4, 0, 32, 5⟩)) (fifthSecond none)).link 0).pollLast = 5 ∧
      (after (.linkSettings (some ⟨2, 4, 0, 32, 6⟩)) (fifthSecond none)).link 0 = (fifthSecond none).link 0 := by
  decide +kernel

/-- A bay 0 in FAULT(LINK) with its link FAILED, with or without a record. -/
def failed (r : Option RecordIx) : State :=
  (linked { Link.downValues with state := .failed }).setBay 0 { occupied .fault r with faultReason := some .link }

theorem witness_LinkResetBeginsAfresh :
    ((failed none).link 0).state = .failed ∧ ((failed none).bay 0).record = none ∧
      ((failed (some 0)).bay 0).record.isSome = true ∧ (docked.link 0).state = .up ∧
      (State.reset.link 0).state ≠ .failed ∧ (State.reset.link 0).state ≠ .up ∧ 36 ≤ (36 : Byte).toNat := by decide +kernel

/-- Bay 0 in FAULT without a record, its link FAILED, bay 1 its COLLIDED partner. -/
def faultPartner : State :=
  (collided.setLink 0 { Link.downValues with state := .failed }).modBay 0 fun x =>
    { x with state := .fault, faultReason := some .output }

/-- R39, R35: LINK_RESET of that bay begins two bring-ups. -/
theorem test_reset_releases :
    let t := after (.linkReset 0) faultPartner
    (faultPartner.bay 0).partner = some 1 ∧ (t.bay 0).state = .bringup ∧ (t.bay 0).partner = none ∧
      (t.bay 1).state = .bringup ∧ (t.link 1).state = .rest := by decide +kernel

/-! ### Settings, budget and outputs -/

/-- A write of the budget settings as they are by default. -/
def budgetWrite (policy : Byte) : BudgetSettingsParams := ⟨6000, 3000, 150, 15, 110, 450, 900, 300, 40, 50, policy⟩

theorem witness_SettingsAreReadAndWritten :
    (1 : Byte).toNat < 2 ∧ 2 ≤ (2 : Byte).toNat ∧ (3 : Byte).toNat < 4 ∧ 4 ≤ (4 : Byte).toNat ∧
    (1 : Byte).toNat = WindowPolicy.period.ctorIdx ∧ (3 : Byte).toNat = SamplePeriod.us200.ctorIdx := by decide

theorem witness_BudgetFollowsItsSettingsAndTheSupply :
    (budgetWrite 1).foreignPolicy.toNat < 2 ∧ 2 ≤ (budgetWrite 2).foreignPolicy.toNat := by decide

/-- Section 4.6.2's setting: B_eff with SUPPLY_LIMIT asserted, overhead 150, foldback 1440. -/
theorem test_foldback_budget :
    (after (.supplyLimitChange true) { docked with budget := { docked.budget with foldback := 1440 } }).effective = 1290 := by
  decide +kernel

/-- Bay 0 and bay 1 in the decreasing phase, each with an issued setpoint in motion or not. -/
def decreasing (moving0 moving1 : Bool) : State :=
  { (docked.setOutput 0 ⟨true, 100, 200, moving0, some 300, .charging, 0⟩).setOutput 1
      ⟨true, 50, 80, moving1, some 50, .charging, 0⟩ with phase := .decreasing }

theorem witness_SettledReportsConfirmAndEndThePhase :
    ((decreasing true true).phase = .decreasing ∧ ((decreasing true true).output 1).inMotion = true ∧ (1 : BayNo) ≠ 0) ∧
    ((decreasing true false).output 0).inMotion = true ∧ (100 : Half).toNat = ((decreasing true false).output 0).issued ∧
      (∀ c : BayNo, c ≠ 0 → ((decreasing true false).output c).inMotion = false) ∧
      ((decreasing true false).output 0).target = some 300 ∧ (100 : Half).toNat < 300 := by decide +kernel

/-- Bay 0 alone in motion, to a target of 100, in a phase, with lane and latch reservations ADMITTED if asked for. -/
def ending (p : Phase) (x : List Reservation) : State :=
  { (((laned .admitting).setOutput 0 ⟨true, 100, 200, true, some 100, .charging, 0⟩).setSlot 0 (.reserving ⟨1, .lock⟩)) with
    phase := p, reservations := x }

/-- The phases that end the pass; and the lane and the slot whose reservations are ADMITTED, the latch off its target, and at
it with no request waiting. -/
theorem witness_phase_ends :
    ((ending .decreasing []).phase = .decreasing ∧ ((ending .increasing []).output 0).inMotion = true ∧
      (100 : Half).toNat = ((ending .increasing []).output 0).issued ∧
      (∀ c : BayNo, c ≠ 0 → ((ending .increasing []).output c).inMotion = false) ∧
      (∀ c : BayNo, c ≠ 0 → ((ending .increasing []).output c).target = none)) ∧
    ((ending .increasing []).passPending = false ∧ (ending .increasing []).reallocRequest = false ∧
      (ending .increasing []).grantsPermitted = false) ∧
    ((ending .decreasing [⟨.lane 0, 40, .admitted⟩, ⟨.latch 0, 50, .admitted⟩]).NamingLaw ∧
      (ending .decreasing []).LaneLaw ∧ (ending .decreasing []).LatchLaw) ∧
    ((ending .decreasing []).link 0).state ≠ .down ∧ (ending .decreasing []).slot 0 = .reserving ⟨1, .lock⟩ ∧
      ((ending .decreasing []).bay 1).latch ≠ .locked ∧ ((ending .decreasing []).bay 1).targetClosed .lock = false ∧
      (ending .decreasing []).latchQueue = [] ∧
      (((ending .decreasing []).setBay 1 { State.reset.bay 1 with lockedSwitch := true }).bay 1).targetClosed .lock = true := by
  decide +kernel

/-- R91, R117, R137: the last report of the decreasing phase wakes the lane and starts the drive. -/
theorem test_admitted_start :
    let t := after (.settledReport 0 100) (ending .decreasing [⟨.lane 0, 40, .admitted⟩, ⟨.latch 0, 50, .admitted⟩])
    (t.lane 0).switch = some 0 ∧ (t.link 0).lane.inFlight = some (.wake 0) ∧ t.slot 0 = .driving ⟨1, .lock⟩ := by
  decide +kernel

/-- The state in which a fall of B_eff to 2850 leaves an applying pass, before the next one is taken. -/
def fallen (s : State) : State :=
  { s with
    supplyLimit := true, effective := 2850, phase := .idle, passPending := false, outputs := Vector.ofFn s.RestoredOutput
    reservations := if s.phase = .decreasing then
        s.reservations.map fun r => if r.state = .admitted then { r with state := .pending } else r
      else s.reservations }

/-- R104: SUPPLY_LIMIT asserted in any state; in the increasing phase with bay 0 in motion; and in IDLE. -/
theorem witness_budget_falls (s : State) : s.EndedEarly (fallen s) s.budget true 2850 :=
  ⟨rfl, rfl, rfl, fun b => by simp only [State.output, fallen, Vector.getElem_ofFn], rfl⟩
theorem witness_fall_grants_none (p : Phase) (x : List Reservation) : (fallen (ending p x)).grantsPermitted = false := rfl
theorem witness_budget_requests :
    2850 = (if true then min docked.budget.supplyRating docked.budget.foldback else docked.budget.supplyRating) -
      docked.budget.overhead ∧ 2850 < docked.effective ∧ docked.phase = .idle ∧ docked.reservations = [] ∧
    (ending .increasing []).phase ≠ .idle ∧ ((ending .increasing []).output 0).inMotion = true ∧
    docked.reallocRequest = false ∧ docked.effective = docked.budget.supplyRating - docked.budget.overhead ∧
    (1 : Byte).toNat = ForeignPolicy.floor.ctorIdx := by decide +kernel

/-- R104, R96: in the increasing phase the fall restores the settled 100 of a setpoint moving to 200, and takes the next pass;
in the decreasing phase the admitted reservation is judged again. -/
theorem test_budget_fall :
    let s := { ending .increasing [] with outputs := State.reset.outputs.set 0 ⟨true, 200, 100, true, some 200, .charging, 0⟩ }
    let t := after (.supplyLimitChange true) s
    let u := after (.supplyLimitChange true) (ending .decreasing [⟨.lane 0, 3000, .admitted⟩])
    t.phase = .decreasing ∧ t.figures.budget = 2850 ∧ (t.output 0).issued = 100 ∧ (t.output 0).inMotion = true ∧
      u.reservations = [⟨.lane 0, 3000, .pending⟩] := by decide +kernel

theorem witness_CutsDropTheOutput :
    ((decreasing true true).output 0).inMotion = true ∧ ((decreasing true true).output 0).closed = true ∧
      (State.reset.output 0).closed = false := by decide +kernel

/-- R38, R35: a fault signal of a COLLIDED bay whose switch is CLOSED releases its partner. -/
theorem test_cut_releases :
    let s := collided.setOutput 0 ⟨true, 15, 15, false, none, .charging, 0⟩
    let t := after (.stageFaultSignal 0) s
    (s.output 0).closed = true ∧ (s.bay 0).partner = some 1 ∧ (t.bay 0).state = .fault ∧ (t.bay 0).reportedId = none ∧
      (t.bay 1).state = .bringup := by decide +kernel

theorem witness_EnergyIsAccountedEachSecond : docked.NamingLaw ∧ (docked.bay 0).record = some 0 :=
  ⟨witness_laws_naming.1, rfl⟩

/-- Section 5.9: 220 for an hour is 220 units of 0.1 Wh; the last of the 3600 seconds carries the unit. -/
theorem test_energy_carry :
    let t := after .energyAccountingTick (docked.setOutput 0 ⟨true, 220, 220, false, some 220, .charging, 3380⟩)
    (t.record 0).energy = 1 ∧ (t.output 0).remainder = 0 ∧ t.clk32 = docked.clk32 + 1 := by decide +kernel

/-- Two tablets in full class, in bays 0 and 1, the second URGENT. -/
def pair : State :=
  { (docked.setBay 1 (occupied .identified (some 1))).putRecord 1
      { tablet with tabletId := 8, currentBay := some 1, flags := 2, readyBy := some 60 } with
    clock := { docked.clock with timeValid := true } }

theorem witness_GrantsOfAPassFitTheBudget :
    pair.disposition 0 = .full ∧ pair.disposition 2 ≠ .full ∧ pair.disposition 2 ≠ .floor ∧
      (pair.takePass.figures).count * pair.budget.floorF ≤ (pair.takePass.figures).budget ∧
      ({ pair with effective := 40 } : State).takePass.figures.result = .scaled ∧
      ({ pair with effective := 20 } : State).takePass.figures.result = .floorsShort := by decide +kernel

/-- The docked part with a QUERY in progress and what the last pass saw of bay 0. -/
def polled (seen : Nat) : State :=
  (linked { upLink with exchange := some .query }).modEntry 0 fun e =>
    { e with chargeSeen := some seen, bandSeen := some .normal }

/-- The requests for a pass: URGENT set, in IDLE and while a pass is applied with a bay in motion; a charge of 500 against a
charge seen of 490, which calls for a pass, and of 491, which does not. -/
theorem witness_passes_called_for :
    ((0 : Byte).toNat = (0 : RecordIx).val ∧ (docked.record 0).custody ≠ .free ∧ docked.reservations = [] ∧
      (docked.putRecord 0 { tablet with flags := 2 }).grantsPermitted = false ∧ docked.phase = .idle ∧
      (1439 : Half).toNat = (1439 : Minute).val ∧
      (2 : Byte).getLsbD 1 ≠ tablet.flags.getLsbD 1) ∧
    ((decreasing true true).phase ≠ .idle ∧ ((decreasing true true).output 0).inMotion = true) ∧
    (((polled 490).link 0).exchange = some .query ∧ ((polled 490).entry 0).chargeSeen = some 490 ∧ 490 + 10 ≤ 500) ∧
    ((polled 491).entry 0).chargeSeen = some 491 ∧ 500 < 491 + 10 ∧ 491 < 500 + 10 ∧
      ((polled 491).entry 0).bandSeen = some .normal ∧ ((polled 491).entry 0).hot = false ∧
      (polled 491).reallocRequest = false ∧ (polled 491).phase = .idle := by decide +kernel

/-- R77: a charge that has moved by 10 since the last pass takes one, a charge that has moved by 9 does not. -/
theorem test_charge_moved :
    (after (.telemetryTaken 0 ⟨500, 20, 0⟩) (polled 490)).figures.count = 1 ∧
      (after (.telemetryTaken 0 ⟨500, 20, 0⟩) (polled 491)).figures.count = 0 := by decide +kernel

theorem witness_PassFiguresFollowTheStages :
    pair.disposition 0 = .full ∧ pair.disposition 1 = .full ∧ (pair.bay 0).record = some 0 ∧ (pair.bay 1).record = some 1 ∧
    (pair.record 0).lastCharge = some 500 ∧ (pair.record 0).capacity = some 320 ∧ (pair.record 0).acceptance = some 300 ∧
    (pair.takePass.entry 1).rank = some 1 ∧ (pair.takePass.entry 0).rank = some 2 ∧
    (pair.takePass.entry 0).energy = some 141 ∧ (pair.takePass.entry 0).minutes = some 720 ∧
    (pair.takePass.entry 0).limit = some 300 := by decide +kernel

theorem witness_AdmissionJudgesInListOrder :
    (⟨.latch 1, 50, .pending⟩ : Reservation).state = .pending ∧
    countedLatches [⟨.latch 0, 50, .active⟩, ⟨.latch 1, 50, .pending⟩] ≤ 2 ∧
    countedAmount [⟨.latch 0, 50, .active⟩, ⟨.latch 1, 50, .pending⟩] ≤ 100 := by decide

/-- A lane behind one admitted earlier in the walk fits exactly up to B_eff. -/
theorem test_admission_counts_earlier :
    (admitAll 200 100 [⟨.lane 0, 50, .pending⟩, ⟨.lane 1, 50, .pending⟩, ⟨.lane 2, 1, .pending⟩]).map Reservation.state =
      [.admitted, .admitted, .pending] := by decide

/-! ### Lanes and custody -/

/-- The docked part with lane 0 in session with record 0 in bay 0. -/
def session (p : SessionPhase) : State := docked.setLane 0 ⟨some ⟨p, 0, 0, 9, none⟩, none, some 0⟩

theorem witness_LaneSessionsCloseAndEnd :
    (3 : Byte).toNat = (3 : LaneNo).val ∧ 4 ≤ (4 : Byte).toNat ∧ ((session (.connected 30)).lane 0).session =
      some ⟨.connected 30, 0, 0, 9, none⟩ ∧ ((session .waking).lane 0).session = some ⟨.waking, 0, 0, 9, none⟩ ∧
    ((session .waking).record 0).custody ≠ .free ∧ ((session (.closing 9)).lane 0).session =
      some ⟨.closing 9, 0, 0, 9, none⟩ ∧ (docked.lane 3).session = none := by decide +kernel

/-- LaneFreed and QUIET: sessions of every phase as the laws have them, no grant permitted, the link UP; STALE in ADMITTING. -/
theorem witness_lanes_freed :
    (laned .waking).grantsPermitted = false ∧ (laned .waking).NamingLaw ∧ (laned .waking).LaneLaw ∧
    (laned (.connected 30)).LaneLaw ∧ ((laned (.connected 30)).link 0).state ≠ .down ∧
    ((laned .waking).bay 0).record = some 0 ∧ ((laned .admitting).lane 0).session = some ⟨.admitting, 0, 0, 9, none⟩ ∧
    SessionPhase.waking.onLane = true := by decide +kernel

/-- LANE_DONE of the connected session: CLOSING with the claim, and nothing else of the session. -/
theorem test_laneDone :
    ((after (.laneDone 0 9) (session (.connected 30))).lane 0).session = some ⟨.closing 9, 0, 0, 9, none⟩ := by
  decide +kernel

theorem witness_CheckoutBeginsARelease :
    (0 : Byte).toNat = (0 : RecordIx).val ∧ (docked.record 0).custody = .inCart ∧ (docked.record 0).currentBay = some 0 ∧
    (docked.bay 0).record = some 0 ∧ docked.custodySettings.authority = .host ∧ (docked.record 0).flags.getLsbD 2 = false ∧
    (docked.record 0).misplaced = false ∧ (docked.record 0).lastCharge = some 500 ∧ docked.budget.checkoutMinimum ≤ 500 ∧
    docked.laneOf 0 = none ∧ docked.LatchOrderly 0 ∧
    (docked.setSlot 1 (.reserving ⟨0, .lock⟩)).LatchOrderly 0 := by decide +kernel

/-- Section 7.9: a checkout is accepted, the record is RELEASING with its holder, and a latch request takes slot 0. -/
theorem test_checkout :
    let t := after (.checkout 0 412 false false) docked
    t.port.response.status = .accepted ∧ (t.record 0).custody = .releasing ∧ (t.record 0).holder = some 412 ∧
      (t.slot 0).request = some ⟨0, .unlock⟩ := by decide +kernel

theorem witness_LapsedReleasesReturnToTheCart :
    (releasing.record 0).custody = .releasing ∧ (releasing.record 0).currentBay = some 0 ∧
      releasing.release 0 = some ⟨0, .opened 60 .waiting⟩ ∧ releasing.service = none ∧ releasing.LatchOrderly 0 ∧
      (releasing.link 0).state ≠ .down := by
  decide +kernel

theorem witness_LatchAsksForAMove :
    36 ≤ (36 : Byte).toNat ∧ (35 : Byte).toNat = (35 : BayNo).val ∧ 2 ≤ (2 : Byte).toNat ∧
    (1 : Byte).toNat = Direction.unlock.ctorIdx ∧ (docked.bay 35).populated = false ∧ (docked.bay 0).populated = true ∧
    (keyed docked).custodySettings.authority = .key ∧ (keyed docked).service = none ∧
    docked.custodySettings.authority = .host ∧ (releasing.bay 0).record = some 0 ∧
    (releasing.record 0).custody = .releasing ∧ (docked.record 0).custody ≠ .releasing ∧ docked.LatchOrderly 0 := by
  decide +kernel

/-- The docked part with the service window open. -/
def serviced : State := { docked with service := some ⟨300, none⟩ }

theorem witness_WindowsCloseAndServiceOpens :
    serviced.service = some ⟨300, none⟩ ∧ (serviced.bay 0).record = some 0 ∧ serviced.LatchOrderly 0 ∧
    (serviced.bay 0).latch ≠ .locked ∧ (serviced.record 0).custody = .inCart ∧
    ({ docked with serviceLevel := true } : State).serviceInput = false ∧
    ({ docked with serviceInput := true } : State).serviceLevel = false ∧ docked.slotHolds 0 = false ∧
    (docked.bay 0).populated = true := by decide +kernel

/-- A window restarted at second 9: an expiry of second 10 is overtaken, one of second 11 is its own (log entry 3). -/
theorem witness_window_restarts :
    (let s : State := { docked with teacher := some ⟨129, some 9⟩, clk32 := 10 }
     ∃ x ∈ (some 9 : Option Nat), s.clk32 ≤ x + 1) ∧
    (let s : State := { docked with teacher := some ⟨129, some 9⟩, clk32 := 11 }
     ∀ x ∈ (some 9 : Option Nat), x + 1 < s.clk32) ∧ docked.teacher = none ∧
    docked.serviceInput = docked.serviceLevel ∧ (busy.slotHolds 0 = true ∧ busy.LatchLaw) := by decide +kernel

/-- A drive of bay 0 in slot 0, the record in the custody state and the release given. -/
def driving (d : Direction) (r : Record) (x : Option Release) : State :=
  ((docked.putRecord 0 r).setSlot 0 (.driving ⟨0, d⟩)).setRelease 0 x

/-- Record 0 while its release is UNLOCKING. -/
def leaving : State := driving .unlock { tablet with custody := .releasing, holder := some 1 } (some ⟨0, .unlocking⟩)

theorem witness_DrivesEndBySwitchOrTimer :
    docked.LatchIdle 0 ∧ true ≠ (docked.bay 0).lockedSwitch ∧
    ((driving .lock tablet none).slot 0 = .driving ⟨0, .lock⟩ ∧ leaving.slot 0 = .driving ⟨0, .unlock⟩) ∧
    (∀ j : SlotNo, j ≠ 0 → (leaving.slot j).request.map LatchRequest.bay ≠ some 0) ∧
    (∀ q ∈ leaving.latchQueue, q.bay ≠ 0) ∧ (leaving.bay 0).record = some 0 ∧ (leaving.record 0).custody = .releasing ∧
    leaving.release 0 = some ⟨0, .unlocking⟩ ∧ leaving.latchQueue = [] ∧ (leaving.record 0).holder = some 1 ∧
    (leaving.link 0).state ≠ .down ∧ ((driving .lock tablet none).record 0).custody = .inCart ∧
    ∀ c : BayNo, ((driving .lock tablet none).bay c).record = some 0 → c = 0 := by decide +kernel

/-- R138, R145: the UNLOCKED switch closes: the release opens for 60 s, RELEASE goes out and the slot is FREE. -/
theorem test_release_opens :
    let t := after (.latchSwitchChange 0 false true) leaving
    t.release 0 = some ⟨0, .opened 60 .waiting⟩ ∧ (t.link 0).custody.inFlight = some (.release 1) ∧ t.slot 0 = .free := by
  decide +kernel

/-- R148: the UNLOCK drive fails: the record is IN_CART again, LOCK goes out and is asked of the latch. -/
theorem test_unlock_fails :
    let t := after (.driveTimeout 0) leaving
    leaving.service = none ∧ (t.record 0).custody = .inCart ∧ (t.link 0).custody.inFlight = some .lock ∧
      (t.slot 0).request = some ⟨0, .lock⟩ := by decide +kernel

/-! ### Keys, clock, port -/

/-- The part with key entry 7 as given, and the receiver changed. -/
def keyed7 (x : KeyEntry) (f : Receiver → Receiver) : State :=
  let s := State.reset.setKeyEntry 7 x
  { s with keys := f s.keys }

/-- A VALID entry of eight samples that ignores its fourth. -/
def valid8 : KeyEntry :=
  ⟨.valid .teacher [⟨true, 20⟩, ⟨false, 10⟩, ⟨true, 5⟩, ⟨false, 9⟩, ⟨true, 5⟩, ⟨false, 5⟩, ⟨true, 5⟩, ⟨false, 5⟩] 8 1 [4], none⟩

theorem witness_KeyRequestsWriteTheirEntry :
    (7 : Byte).toNat = (7 : KeyIx).val ∧ (1 : Byte).toNat = KeyRole.technician.ctorIdx ∧ (15 : Byte).toNat ≤ 15 ∧
    (∀ f : KeyIx, ((keyed7 valid8 id).keyEntry f).state.isLearning = false) ∧ (keyed7 valid8 id).keyEntry 7 = valid8 ∧
    (1 ≤ (8 : Byte).toNat ∧ (8 : Byte).toNat ≤ 8) ∧ [(1 : Byte), 8].Nodup ∧
    (∀ x ∈ [(1 : Byte), 8], 1 ≤ x.toNat ∧ x.toNat ≤ 8) ∧ valid8.state ≠ .empty ∧
    (State.reset.keyEntry 7).state = .empty := by decide +kernel

/-- R163: an erased VALID entry leaves the candidate set, and the other candidate stays; no one takes the burst in progress
after the erasing of a LEARNING entry. -/
theorem test_erase_and_candidates :
    valid8.state.isValid = true ∧
    (after (.eraseKey 7) (keyed7 valid8 fun r => { r with candidates := [3, 7], judged := true })).keys.candidates = [3] ∧
    (after (.eraseKey 7) (keyed7 ⟨.learning .teacher 1 30, none⟩ fun r => { r with taker := some .learner })).keys.taker =
      none := by decide +kernel

theorem witness_key_refusals :
    8 ≤ (8 : Byte).toNat ∧ (7 : Byte).toNat < 8 ∧ 2 ≤ (2 : Byte).toNat ∧ (1 : Byte).toNat < 2 ∧ 15 < (16 : Byte).toNat ∧
    ((keyed7 ⟨.learning .teacher 1 30, none⟩ id).keyEntry 7).state.isLearning = true ∧
    4 < [(1 : Byte), 2, 3, 4, 5].length ∧ ((keyed7 ⟨.learning .teacher 1 30, none⟩ id).keyEntry 7).state.isValid = false ∧
    8 < (9 : Byte).toNat ∧ ¬[(1 : Byte), 1].Nodup ∧ (0 : Byte) = 0 := by decide +kernel

/-- A burst in progress after n samples, with its taker, the level of the present stretch SPACE to MARK. -/
def burst (x : KeyEntry) (taker : Taker) (n : Nat) (k : List KeyIx) : State :=
  keyed7 x fun r =>
    { r with burst := .inBurst, count := n, taker := some taker, irinHigh := false, stretchHigh := true, candidates := k,
             judged := k != [] }

theorem witness_StretchesAreLearnedAndMatched :
    (burst valid8 .matcher 7 [7]).keys.irinHigh ≠ (burst valid8 .matcher 7 [7]).keys.stretchHigh ∧
    (5 : Nat) = max 1 (min 127 ((2 * 480000 + SamplePeriod.us100.ns) / (2 * SamplePeriod.us100.ns))) ∧
    (burst valid8 .matcher 7 [7]).keys.candidates = [7] ∧ (burst valid8 .matcher 7 [7]).keyEntry 7 = valid8 ∧
    (burst ⟨.learning .teacher 1 30, none⟩ .learner 48 []).learningKey = some 7 ∧
    ({ State.reset.keys with burst := .idle, stretchHigh := false } : Receiver).stretchHigh =
      ({ State.reset.keys with burst := .idle, stretchHigh := false } : Receiver).invert := by decide +kernel

/-- Three VALID entries whose patterns begin alike, of depths 8, 8 and 9, and a burst about to start or at its eighth sample. -/
def threeKeys (f : Receiver → Receiver) : State :=
  let x (r : KeyRole) (d : Nat) : KeyEntry := ⟨.valid r (List.replicate 10 ⟨true, 5⟩) d 0 [], none⟩
  let s := ((State.reset.setKeyEntry 2 (x .technician 8)).setKeyEntry 5 (x .teacher 8)).setKeyEntry 7 (x .teacher 9)
  { s with keys := f { s.keys with irinHigh := true, stretchHigh := false } }

/-- The eighth sample, a MARK, of a burst of three candidates, while the service window stands open. -/
def eighth : State :=
  { threeKeys fun k =>
      { k with burst := .inBurst, count := 7, taker := some .matcher, candidates := [2, 5, 7], judged := true } with
    service := some ⟨300, none⟩, clk32 := 20 }

theorem witness_burst_starts_and_candidates :
    (let s := threeKeys fun k => { k with burst := .idle }
     s.keys.irinHigh ≠ s.keys.stretchHigh ∧ s.keys.stretchHigh = s.keys.invert ∧ s.learningKey = none ∧
       s.keys.lockout = none ∧ ∀ f : KeyIx, f ∈ [2, 5, 7] ↔ (s.keyEntry f).state.isValid = true) ∧
    (eighth.keys.burst = .inBurst ∧ eighth.keys.taker = some .matcher ∧ eighth.keys.count < 48 ∧
      ([2, 5, 7] : List KeyIx).Pairwise (· < ·) ∧ ∀ f ∈ ([2, 5, 7] : List KeyIx), f < 2 → False) := by decide +kernel
theorem witness_candidate_fits : eighth.SampleFits 8 true 5 2 ∧ eighth.DepthIs 8 2 ∧ ¬eighth.DepthIs 8 7 :=
  ⟨.inr ⟨⟨true, 5⟩, rfl, rfl, by decide, by decide⟩, rfl, fun h => absurd (show 9 = 8 from h) (by decide)⟩

/-- R162, R164, R131: of two candidates at their depth the lower matches; its window, the service window, restarts. -/
theorem test_lowest_candidate :
    let t := after (.stretchTaken 500000) eighth
    t.keys.matched = true ∧ t.Holds Source.key 2 ∧ t.service = some ⟨320, some 20⟩ ∧ t.teacher = none := by decide +kernel

/-- R167, last row: a match, and the expiry of the window it restarted at the same moment: the window stays open. -/
theorem test_match_then_expiry :
    (after .serviceWindowExpiry (after (.stretchTaken 500000) eighth)).service = some ⟨320, none⟩ := by decide +kernel

/-- R161: a MARK starts a burst with every VALID entry a candidate. -/
theorem test_burst_start :
    let t := after (.stretchTaken 500000) (threeKeys fun k => { k with burst := .idle })
    t.keys.candidates = [2, 5, 7] ∧ t.keys.judged = true ∧ t.keys.taker = some .matcher := by decide +kernel

/-- The eighth sample of the entry, a SPACE of 5 sample periods at depth 8, opens the teacher window for 120 s. -/
theorem test_key_match :
    let t := after (.stretchTaken 480000) (burst valid8 .matcher 7 [7])
    t.teacher = some ⟨120, none⟩ ∧ t.keys.matched = true ∧ t.Holds Source.key 7 := by decide +kernel

theorem witness_BurstsLearningAndLockoutsEnd :
    (burst valid8 .matcher 8 [7]).keys.stretchHigh ≠ (burst valid8 .matcher 8 [7]).keys.invert ∧
    (burst valid8 .matcher 8 [7]).keys.burst = .inBurst ∧ (burst valid8 .matcher 8 [7]).keys.judged = true ∧
    (burst valid8 .matcher 8 [7]).keys.matched = false ∧ (burst valid8 .matcher 8 [7]).keys.failures < 4 ∧
    (burst ⟨.learning .teacher 1 30, none⟩ .learner 8 []).learningKey = some 7 ∧
    (burst ⟨.learning .teacher 1 30, none⟩ .learner 8 []).keyEntry 7 = ⟨.learning .teacher 1 30, none⟩ ∧
    ({ State.reset.keys with lockout := some 120, failures := 5 } : Receiver).lockout.isSome = true := by decide +kernel

/-- The SPACE of a burst of eight samples, with its burst end overtaken or not. -/
def spaceAfter8 (late : Bool) : State :=
  let s := burst valid8 .matcher 8 [7]
  { s with keys := { s.keys with gapOvertaken := late, burst := if late then .waitingGap else .inBurst } }

theorem witness_gaps_overtaken :
    (spaceAfter8 true).keys.stretchHigh ≠ (spaceAfter8 true).keys.invert ∧ (spaceAfter8 true).keys.burst ≠ .idle ∧
    (spaceAfter8 true).keys.gapOvertaken = true ∧ (spaceAfter8 false).keys.gapOvertaken = false ∧
    (after (.keySettings (some ⟨0, 3, 60⟩)) (spaceAfter8 false)).keys.period ≠ (spaceAfter8 false).keys.period ∧
    (after (.keySettings (some ⟨0, 3, 60⟩)) (spaceAfter8 false)).keys.invert = (spaceAfter8 false).keys.invert := by
  decide +kernel

/-- The SPACE of a burst of eight samples, with a change of the sample period and the burst end waiting in this order. -/
def settingsFirst : State := { spaceAfter8 false with pending := [.keySettings (some ⟨0, 3, 60⟩), .gapReached] }

theorem witness_settings_meet_gap :
    settingsFirst.keys.stretchHigh ≠ settingsFirst.keys.invert ∧ settingsFirst.keys.burst = .inBurst ∧
    ((0 : Byte) = 1 ↔ settingsFirst.keys.invert = true) ∧ (0 : Byte).toNat < 2 ∧ (3 : Byte).toNat < 4 ∧
    (3 : Byte).toNat ≠ settingsFirst.keys.period.ctorIdx ∧ Instr.gapReached ∈ settingsFirst.pending ∧
    Instr.gapReached ∉ (spaceAfter8 false).pending := by
  refine ⟨?_, ?_, ?_, ?_, ?_, ?_, ?_, ?_⟩ <;> decide +kernel

/-- The state a step leaves. -/
def stepped (s : State) : State :=
  match step s with
  | .next t => t
  | _ => s

/-- R167, row 9: a change of the sample period taken before a burst end that waits leaves WAITING_GAP and no failure, and the
next burst end leads to IDLE; taken after it, the burst is judged. -/
theorem test_settings_against_burst_end :
    let t := stepped (stepped settingsFirst)
    let u := after (.keySettings (some ⟨0, 3, 60⟩)) (after .gapReached (spaceAfter8 false))
    t.keys.burst = .waitingGap ∧ t.keys.failures = 0 ∧ t.pending = [] ∧ (after .gapReached t).keys.burst = .idle ∧
      u.keys.burst = .waitingGap ∧ u.keys.failures = 1 := by
  refine ⟨?_, ?_, ?_, ?_, ?_, ?_⟩ <;> decide +kernel

/-- The SPACE of the burst with its reaching the gap limit, 60, waiting. -/
def gapWaiting : State := { spaceAfter8 false with pending := [.gapReached] }

theorem witness_gap_limit_meets_gap :
    Instr.gapReached ∈ gapWaiting.pending ∧ gapWaiting.keys.gapOvertaken = false ∧ gapWaiting.keys.burst = .inBurst ∧
    gapWaiting.keys.gapLimit < (after (.keySettings (some ⟨0, 2, 61⟩)) gapWaiting).keys.gapLimit ∧
    (after (.keySettings (some ⟨0, 2, 61⟩)) gapWaiting).keys.period = gapWaiting.keys.period ∧
    (after (.keySettings (some ⟨0, 2, 60⟩)) gapWaiting).keys.gapLimit ≤ gapWaiting.keys.gapLimit := by
  refine ⟨?_, ?_, ?_, ?_, ?_, ?_⟩ <;> decide +kernel

/-- R153: a higher gap limit alone, taken before the old limit's reaching, which waits: the burst ends at the new limit. -/
theorem test_higher_gap_limit :
    let t := after .gapReached (after (.keySettings (some ⟨0, 2, 61⟩)) gapWaiting)
    t.keys.burst = .inBurst ∧ t.keys.count = 8 ∧ (after .gapReached t).keys.failures = 1 ∧
      (after .gapReached (after (.keySettings (some ⟨0, 2, 59⟩)) gapWaiting)).keys.failures = 1 := by
  refine ⟨?_, ?_, ?_, ?_⟩ <;> decide +kernel

/-- R155, row 1: with no burst end waiting when the sample period is changed, the SPACE's reaching the limit leads to IDLE. -/
theorem test_gap_after_settings :
    let t := after .gapReached (after (.keySettings (some ⟨0, 3, 60⟩)) (spaceAfter8 false))
    t.keys.burst = .idle ∧ t.keys.failures = 0 := by decide +kernel

/-- The fifth failure: a lockout of 120 s and the LOCKOUT marker. -/
theorem test_lockout :
    let s := burst valid8 .matcher 8 [7]
    let t := after .gapReached { s with keys := { s.keys with failures := 4 } }
    t.keys.lockout = some 120 ∧ t.keys.failures = 5 ∧ t.Holds Source.key 8 := by decide +kernel

theorem witness_ClockRequestsSetTimeAndPeriods :
    ((1439 : Half).toNat = (1439 : Minute).val ∧ (6 : Byte).toNat = (6 : Day).val) ∧ 1440 ≤ (1440 : Half).toNat ∧
    7 ≤ (7 : Byte).toNat ∧ (15 : Byte).toNat = (15 : PeriodIx).val ∧ (127 : Byte) ≠ 0 ∧ (127 : Byte).toNat < 128 ∧
    (3 : Byte).toNat = PeriodKind.loanDue.ctorIdx ∧ 16 ≤ (16 : Byte).toNat ∧ 2 ≤ (2 : Byte).toNat ∧
    4 ≤ (4 : Byte).toNat ∧ 128 ≤ (128 : Byte).toNat := by decide

/-- Section 9.8: SET_TIME for 19:30 on day 4 finds the window OPEN. -/
theorem test_setTime_window :
    (after (.setTime 1170 4) { State.reset with clock := { school with minute := 0, day := 0 } }).clock.windowOpen = true := by
  decide +kernel

/-- The school's part one second before 16:00 on day 4, with a loan. -/
def beforeFour : State :=
  { apart .loaned with clock := { school with minute := 959, day := 4, seconds := 59 } }

/-- MinuteStepsFireTheirEntries: entry 4, LOAN_DUE, fires at the step to minute 960 of day 4. -/
theorem witness_MinuteStepsFireTheirEntries :
    beforeFour.clock.seconds = 59 ∧ 960 = (beforeFour.clock.minute.val + 1) % 1440 ∧ beforeFour.clock.timeValid = true ∧
      beforeFour.period 4 = some ⟨960, 0x1F, .loanDue⟩ ∧ (0x1F : BitVec 7).getLsbD 4 = true ∧
      (beforeFour.record 0).custody = .loaned ∧ State.reset.clock.seconds.val < 59 ∧ State.reset.clock.seconds ≠ 59 := by
  decide +kernel

/-- Section 9.8: the step to 16:00 makes the loan OVERDUE, with BOUNDARY 4. -/
theorem test_loan_due :
    let t := after .secondsCountTick beforeFour
    (t.record 0).custody = .overdue ∧ t.Holds Source.boundary 4 ∧ t.Holds Source.overdue 0 ∧ t.clk32 = beforeFour.clk32 := by
  decide +kernel

/-- The school's part one second before 18:00 on day 4, the window CLOSED there and at the Lane Scheduler. -/
def beforeSix : State := { State.reset with clock := { school with minute := 1079, day := 4, seconds := 59 } }

/-- R113, R172, R173: entry 2, PROV_OPEN, fires at the step to 18:00, and the Lane Scheduler is handed the OPEN window. -/
theorem test_window_handed :
    beforeSix.laneWindow = beforeSix.clock.windowOpen ∧ beforeSix.clock.windowOpen = false ∧
      beforeSix.period 2 = some ⟨1080, 0x7F, .provOpen⟩ ∧ (0x7F : BitVec 7).getLsbD 4 = true ∧
      (after .minuteStep beforeSix).clock.windowOpen = true ∧ (after .minuteStep beforeSix).laneWindow = true := by
  decide +kernel

/-- The docked part a second before a DEADLINE boundary, with no lane to grant and nothing reserved. -/
def beforeDeadline : State := { docked with clock := { school with minute := 529, day := 0, seconds := 59 } }

/-- R169, R171, R172: SET_TIME, SET_PERIOD and the boundary each take a pass, over the one bay. -/
theorem test_clock_requests :
    beforeDeadline.reservations = [] ∧ beforeDeadline.phase = .idle ∧ beforeDeadline.figures.count = 0 ∧
    (after (.setTime 0 0) beforeDeadline).figures.count = 1 ∧ (after (.setPeriod 9 1 none) beforeDeadline).figures.count = 1 ∧
    (after .minuteStep beforeDeadline).figures.count = 1 := by decide +kernel

/-- No lane is granted in the states in which those requests are served. -/
theorem witness_clock_requests (c : DayClock) :
    ({ beforeDeadline with clock := c, laneWindow := false } : State).GrantsNone := .inl rfl

/-- R176, first row: SET_TIME for 15:59 taken before the MINUTE_STEP that was due makes the next step 60 s off. -/
theorem test_setTime_then_step :
    let s := after (.setTime 959 4) beforeFour
    after .minuteStep s = s ∧ s.clock.seconds = 0 ∧ (s.record 0).custody = .loaned := by decide +kernel

theorem witness_DeadlineQueryFindsTheNextDeadline :
    school.timeValid = true ∧ school.periods[0] = some ⟨530, 0x1F, .deadline⟩ ∧
      (∀ (e : PeriodIx), ∀ x ∈ school.periods[e.val], x.days ≠ 0) ∧
      (∀ (e : PeriodIx), ∀ x ∈ DayClock.initial.periods[e.val], x.kind ≠ .deadline) := by decide +kernel

theorem witness_TransactionsWithoutARequest :
    (called.port.enables.getLsbD 17 = true ∧ called.subjectsOf 17 ≠ 0 ∧
      ∀ m : SourceNo, m < 17 → called.port.enables.getLsbD m.val = false ∨ called.subjectsOf m = 0) ∧
    (∀ m : SourceNo, State.reset.port.enables.getLsbD m.val = false ∨ State.reset.subjectsOf m = 0) ∧
    60 < (61 : Byte).toNat ∧ ([] : List Byte).length < (1 : Byte).toNat ∧
    ([0, 5] : List Byte).head? = some 0 := by decide +kernel

/-- Codes that name no request, and parameter lengths a request does not accept. -/
theorem witness_unnamed_codes :
    ¬NamesRequest 0x0D ∧ ¬NamesRequest 0x26 ∧ ¬NamesRequest 0x74 ∧ ¬NamesRequest 0x7E ∧ NamesRequest 0x0A := by
  simp [NamesRequest]
theorem witness_wrong_lengths : (2 : Byte).toNat ∉ acceptedLengths 0x0A ∧ (4 : Byte).toNat ∉ acceptedLengths 0x62 := by
  decide

theorem witness_EventAckRemovesTheNamedSubjects :
    18 ≤ (18 : Byte).toNat ∧ (17 : Byte).toNat = (17 : SourceNo).val ∧
    (∃ k : Fin 64, (2 : BitVec 64).getLsbD k.val = true ∧ (Source.members 17).getLsbD k.val = false) ∧
    ∀ k : Fin 64, (1 : BitVec 64).getLsbD k.val = true → (Source.members 17).getLsbD k.val = true := by decide +kernel

/-- EVENT_ACK of the SERVICE mark: the set is empty and ATTN falls. -/
theorem test_eventAck :
    let t := after (.eventAck 17 1) called
    t.subjectsOf 17 = 0 ∧ t.port.attn = false ∧ t.port.response.data = [17, 1, 0, 0, 0, 0, 0, 0, 0, 0] := by decide +kernel

theorem witness_EventEnableReplacesTheSet :
    (0x3FFFF : BitVec 24).toNat < 2 ^ 18 ∧ 2 ^ 18 ≤ (0x40000 : BitVec 24).toNat := by decide

theorem witness_RequestFramesRoundTrip :
    (Instr.checkout 63 65535 true false).wellFormed = true ∧
      encodeFrame (.checkout 63 65535 true false) = some [0x51, 5, 63, 0xFF, 0xFF, 1, 0] := by decide

theorem witness_DockLineFramesAreChecked :
    replyLength 0x23 = some [(1 : Byte), 0xA4, 0x1F, 7].length ∧
      (0x23 : Byte) + byte 4 + byteSum [1, 0xA4, 0x1F, 7] + 0x0F ≠ 0 ∧ (releasing.link 0).exchange = some .custodyOrder ∧
      (releasing.link 0).custody.inFlight = some (.release 1) := by decide +kernel

end Sys2Proof.Tests
end

