-- ==== Sys2Proof/Proofs/DeadlineQuery.lean ====
section
/-! SUPPORT. The deadline query (R174): what the Period Table's readers and the search say, that every VALID entry occurs in
the coming week, and the settling of O54. -/

namespace Sys2Proof.Machine

variable {c : DayClock} {kind : PeriodKind}

/-! ### Reading the Period Table -/

/-- A test over the table is a test of some VALID entry at its number (R170). -/
theorem DayClock.any_period_iff (p : PeriodEntry → Bool) :
    (c.periods.toList.any fun e => e.any p) = true ↔
      ∃ (e : PeriodIx) (x : PeriodEntry), c.periods[e.val] = some x ∧ p x = true := by
  simp only [List.any_eq_true, Option.any_eq_true_iff_get, Vector.mem_toList_iff, Vector.mem_iff_getElem]
  constructor
  · rintro ⟨_, ⟨i, hi, rfl⟩, hsome, hp⟩
    exact ⟨⟨i, hi⟩, _, (Option.some_get hsome).symm, hp⟩
  · rintro ⟨e, x, hx, hp⟩
    exact ⟨some x, ⟨e.val, e.isLt, hx⟩, rfl, hp⟩

theorem DayClock.hasKind_iff :
    c.hasKind kind = true ↔ ∃ (e : PeriodIx) (x : PeriodEntry), c.periods[e.val] = some x ∧ x.kind = kind :=
  (DayClock.any_period_iff _).trans (by simp)

theorem DayClock.occurs_iff {minute day : Nat} :
    c.occurs kind minute day = true ↔ ∃ (e : PeriodIx) (x : PeriodEntry), c.periods[e.val] = some x ∧ x.kind = kind ∧
      x.minute.val = minute ∧ x.days.getLsbD day = true :=
  (DayClock.any_period_iff _).trans (by simp [PeriodEntry.occursAt])

theorem DayClock.deadlineAt_iff {t : Nat} :
    c.deadlineAt t = true ↔ ∃ (e : PeriodIx) (x : PeriodEntry), c.periods[e.val] = some x ∧ x.kind = .deadline ∧
      x.minute.val = (c.minute.val + t) % 1440 ∧
      x.days.getLsbD ((c.day.val + (c.minute.val + t) / 1440) % 7) = true :=
  DayClock.occurs_iff

/-! ### The search -/

/-- The search answers the first DEADLINE of its span, where the span holds one (R174). -/
theorem DayClock.searchDeadline_finds_first {fuel t u : Nat} (hle : t ≤ u) (hlt : u < t + fuel)
    (hat : c.deadlineAt u = true) :
    ∃ v, c.searchDeadline fuel t = some v ∧ t ≤ v ∧ v < t + fuel ∧ c.deadlineAt v = true ∧
      ∀ w, t ≤ w → w < v → ¬c.deadlineAt w = true := by
  induction fuel generalizing t with
  | zero => omega
  | succ fuel ih =>
    by_cases hnow : c.deadlineAt t = true
    · exact ⟨t, by simp [DayClock.searchDeadline, hnow], by omega, by omega, hnow, by omega⟩
    · have hne : t ≠ u := fun h => hnow (h ▸ hat)
      obtain ⟨v, hfound, hv, hvlt, hvat, hfirst⟩ := ih (t := t + 1) (by omega) (by omega)
      refine ⟨v, by simpa [DayClock.searchDeadline, hnow] using hfound, by omega, by omega, hvat, fun w hw hwv => ?_⟩
      obtain rfl | hlater := Nat.eq_or_lt_of_le hw
      · exact hnow
      · exact hfirst w hlater hwv

/-! ### The coming week -/

/-- Every moment of the week comes 1 to 10080 minutes from now, in the minutes and days the search counts (R174). -/
theorem exists_offset_to_moment (minute target : Minute) (day d : Day) :
    ∃ t : Nat, 1 ≤ t ∧ t ≤ 10080 ∧ target.val = (minute.val + t) % 1440 ∧
      d.val = (day.val + (minute.val + t) / 1440) % 7 := by
  obtain ⟨t, hone, hweek, hmoment⟩ : ∃ t, 1 ≤ t ∧ t ≤ 10080 ∧
      (day.val * 1440 + minute.val + t) % 10080 = d.val * 1440 + target.val :=
    ⟨(d.val * 1440 + target.val + 10079 - (day.val * 1440 + minute.val)) % 10080 + 1, by omega, by omega, by omega⟩
  exact ⟨t, hone, hweek, by omega, by omega⟩

/-- A day mask that is not 0 names a day (R170). -/
theorem exists_day_of_mask_ne_zero {days : BitVec 7} (h : days ≠ 0) : ∃ d : Day, days.getLsbD d.val = true := by
  by_contra hnone
  push Not at hnone
  exact h (BitVec.eq_of_getLsbD_eq fun i hi => by simpa using hnone ⟨i, hi⟩)

/-- A VALID DEADLINE entry whose mask names a day occurs in the coming week (R174). -/
theorem DayClock.exists_deadlineAt {e : PeriodIx} {x : PeriodEntry} (hx : c.periods[e.val] = some x)
    (hkind : x.kind = .deadline) (hdays : x.days ≠ 0) :
    ∃ t : Nat, 1 ≤ t ∧ t ≤ 10080 ∧ c.deadlineAt t = true := by
  obtain ⟨d, hd⟩ := exists_day_of_mask_ne_zero hdays
  obtain ⟨t, hone, hweek, hminute, hday⟩ := exists_offset_to_moment c.minute x.minute c.day d
  exact ⟨t, hone, hweek, DayClock.deadlineAt_iff.mpr ⟨e, x, hx, hkind, hminute, hday ▸ hd⟩⟩

/-! ### The query -/

theorem DayClock.nextDeadline_of_valid (htime : c.timeValid = true) (hkind : c.hasKind .deadline = true) :
    c.nextDeadline = c.searchDeadline 10080 1 := by
  simp [DayClock.nextDeadline, htime, hkind, Config.weekMinutes]

theorem DayClock.nextDeadline_eq_none (h : c.timeValid = false ∨ c.hasKind .deadline = false) :
    c.nextDeadline = none := by
  obtain htime | hkind := h
  · simp [DayClock.nextDeadline, htime]
  · simp [DayClock.nextDeadline, hkind]

/-- Settles O54: a VALID DEADLINE entry occurs in the coming week, so the search over that week ends at the first one. -/
theorem deadlineQueryFindsTheNextDeadline : Obligations.DeadlineQueryFindsTheNextDeadline := by
  intro c occurs hoccurs hdays
  have hat : ∀ t, occurs t ↔ c.deadlineAt t = true := fun t => (hoccurs t).trans DayClock.deadlineAt_iff.symm
  refine ⟨fun hnone => DayClock.nextDeadline_eq_none (hnone.imp_right fun habsent => ?_), ?_⟩
  · rw [Bool.eq_false_iff, Ne, DayClock.hasKind_iff]
    rintro ⟨e, x, hx, hkind⟩
    exact habsent e x hx hkind
  · rintro htime ⟨e, x, hx, hkind⟩
    obtain ⟨u, hone, hweek, hu⟩ := DayClock.exists_deadlineAt hx hkind (hdays e x hx)
    obtain ⟨t, hfound, ht, htlt, htat, hfirst⟩ :=
      DayClock.searchDeadline_finds_first (fuel := 10080) hone (by omega) hu
    refine ⟨t, ?_, ht, by omega, (hat t).mpr htat, fun v hv hvt => mt (hat v).mp (hfirst v hv hvt)⟩
    rwa [DayClock.nextDeadline_of_valid htime (DayClock.hasKind_iff.mpr ⟨e, x, hx, hkind⟩)]

end Sys2Proof.Machine
end

/-! SUPPORT. The event requests that write the port (R185, R186): how an operand names a source and its members, what a
removal from a subject set leaves, ATTN after either request, and the settling of O56 and O57. -/

namespace Sys2Proof.Machine

/-! ### Operands -/

theorem index?_eq_some_iff {n : Nat} {b : Byte} {i : Fin n} : index? n b = some i ↔ b.toNat = i.val := by
  simp only [index?, Option.dite_none_right_eq_some, Option.some.injEq, Fin.ext_iff]
  exact ⟨fun ⟨_, h⟩ => h, fun h => ⟨h ▸ i.isLt, h⟩⟩

theorem index?_eq_none_iff {n : Nat} {b : Byte} : index? n b = none ↔ n ≤ b.toNat := by
  simp [index?]

/-- A mask lies within another exactly if each of its members is one of the other's. -/
theorem and_not_eq_zero_iff {w : Nat} {x m : BitVec w} :
    x &&& ~~~m = 0 ↔ ∀ k : Nat, x.getLsbD k = true → m.getLsbD k = true := by
  constructor
  · intro h k hk
    have hbit : (x &&& ~~~m).getLsbD k = false := by simp [h]
    simpa [hk, BitVec.lt_of_getLsbD hk] using hbit
  · intro h
    refine BitVec.eq_of_getLsbD_eq fun k hlt => ?_
    cases hk : x.getLsbD k
    · simp [hk]
    · simp [hlt, hk, h k hk]

/-! ### The port's writes -/

section
variable (p : Port) (n : SourceNo) (x : BitVec 64)

@[simp] theorem Port.ack_enables : (p.ack n x).enables = p.enables := rfl

theorem Port.ack_subjects_same : (p.ack n x).subjects[n.val] = p.subjects[n.val] &&& ~~~x := by
  simp [Port.ack, Port.reAttn]

theorem Port.ack_subjects_other {a : SourceNo} (h : a ≠ n) : (p.ack n x).subjects[a.val] = p.subjects[a.val] := by
  have hval : n.val ≠ a.val := fun e => h (Fin.ext e.symm)
  simp [Port.ack, Port.reAttn, hval]

end

/-- After ATTN is re-derived ATTN is right, whatever the response (R183). -/
theorem State.respond_reAttn_attnLaw (s : State) (p : Port) (status : Status) (data : List Byte) :
    (State.respond { s with port := p.reAttn } status data).AttnLaw :=
  p.attnNow_iff

/-! ### EVENT_ACK -/

section
variable {s : State} {b : Byte} {n : SourceNo} {x : BitVec 64}

theorem State.eventAck_of_no_source (h : 18 ≤ b.toNat) : s.eventAck b x = s.refuse .badIndex := by
  have hnone : sourceNo? b = none := index?_eq_none_iff.mpr h
  simp [State.eventAck, hnone]

theorem State.eventAck_of_source (h : b.toNat = n.val) :
    s.eventAck b x =
      if x &&& ~~~(Source.members n) ≠ 0 then s.refuse .outOfRange
      else State.respond { s with port := s.port.ack n x } .done ((s.port.ack n x).snapshot n) := by
  have hsome : sourceNo? b = some n := index?_eq_some_iff.mpr h
  simp [State.eventAck, hsome]

theorem exec_eventAck : exec (.eventAck b x) s = .next (s.eventAck b x) := rfl

end

/-- Settles O56: the three outcomes of EVENT_ACK, by the source and then by the members that the operand names. -/
theorem eventAckRemovesTheNamedSubjects : Obligations.EventAckRemovesTheNamedSubjects := by
  intro s b n x
  refine ⟨fun hrange => ?_, fun hsource hforeign => ?_, fun hsource hmembers => ?_⟩
  · rw [Replies, exec_eventAck, State.eventAck_of_no_source hrange]
    rfl
  · obtain ⟨k, hx, hm⟩ := hforeign
    have hbad : x &&& ~~~(Source.members n) ≠ 0 := fun h => by
      simpa [hm] using and_not_eq_zero_iff.mp h k hx
    rw [Replies, exec_eventAck, State.eventAck_of_source hsource, if_pos hbad]
    rfl
  · have hgood : x &&& ~~~(Source.members n) = 0 := and_not_eq_zero_iff.mpr hmembers
    refine ⟨State.respond { s with port := s.port.ack n x } .done ((s.port.ack n x).snapshot n), ?_, rfl, ⟨rfl, rfl⟩,
      fun k => ?_, fun a ha => s.port.ack_subjects_other n x ha, rfl, s.respond_reAttn_attnLaw _ _ _⟩
    · rw [exec_eventAck, State.eventAck_of_source hsource, if_neg (not_not.mpr hgood)]
    · calc
        _ = (s.subjectsOf n &&& ~~~x).getLsbD k := congrArg (·.getLsbD k) (s.port.ack_subjects_same n x)
        _ = ((s.subjectsOf n).getLsbD k && !x.getLsbD k) := by
          by_cases hk : k < 64
          · simp [hk]
          · simp [BitVec.getLsbD_of_ge _ k (not_lt.mp hk)]

/-! ### EVENT_ENABLE -/

section
variable {s : State} {x : BitVec 24}

theorem State.eventEnable_of_lt (h : x.toNat < 2 ^ 18) :
    s.eventEnable (some x) =
      State.respond { s with port := Port.reAttn { s.port with enables := x.setWidth 18 } } .done (be24 x) :=
  if_pos h

theorem State.eventEnable_of_ge (h : 2 ^ 18 ≤ x.toNat) : s.eventEnable (some x) = s.refuse .outOfRange :=
  if_neg (not_lt.mpr h)

theorem exec_eventEnable {e : Option (BitVec 24)} : exec (.eventEnable e) s = .next (s.eventEnable e) := rfl

end

/-- Settles O57: the reading form changes the response alone, and a set that names sources 0 to 17 alone is kept whole. -/
theorem eventEnableReplacesTheSet : Obligations.EventEnableReplacesTheSet := by
  intro s x
  refine ⟨rfl, fun hnames => ?_, fun houtside => ?_⟩
  · refine ⟨_, exec_eventEnable.trans (congrArg _ (State.eventEnable_of_lt hnames)), rfl, ⟨rfl, rfl⟩, ?_, rfl,
      s.respond_reAttn_attnLaw _ _ _⟩
    exact (BitVec.toNat_setWidth 18 x).trans (Nat.mod_eq_of_lt hnames)
  · rw [Replies, exec_eventEnable, State.eventEnable_of_ge houtside]
    rfl

end Sys2Proof.Machine

section
/-! SUPPORT. The laws that every single write keeps by itself. -/

namespace Sys2Proof.Machine

set_option Elab.async false

/-! ### One record -/

/-- MISPLACED equals its condition (R7), for one record. -/
abbrev Record.MarkRight (r : Record) : Prop := r.misplaced = r.misplacedNow

theorem Record.misplacedNow_iff (r : Record) : r.misplacedNow = true ↔
    r.homeStrict = true ∧ r.homeBay.isSome = true ∧ r.currentBay.isSome = true ∧ r.homeBay ≠ r.currentBay := by
  unfold Record.misplacedNow
  cases r.homeBay <;> cases r.currentBay <;> simp

theorem State.misplacedLaw_iff (s : State) : s.MisplacedLaw ↔ ∀ i, (s.record i).MarkRight := by
  refine forall_congr' fun i => ?_
  rw [← Record.misplacedNow_iff]
  exact Bool.eq_iff_iff.symm

theorem Record.remark_markRight (r : Record) : r.remark.MarkRight := rfl

/-- A write that keeps the fields MISPLACED reads, and MISPLACED, keeps it right. -/
theorem Record.MarkRight.congr {r q : Record} (h : r.MarkRight) (hm : q.misplaced = r.misplaced)
    (hf : q.flags = r.flags) (hh : q.homeBay = r.homeBay) (hc : q.currentBay = r.currentBay) : q.MarkRight := by
  have hn : q.misplacedNow = r.misplacedNow := by
    unfold Record.misplacedNow Record.homeStrict
    rw [hf, hh, hc]
  exact hm.trans (h.trans hn.symm)

/-! ### One link -/

/-- R55, for one link: no poll is due while a sweep makes its exchanges. -/
abbrev Link.SweepRight (l : Link) : Prop := l.exchange = some .train → l.pollDue = false ∧ l.sweepDue = false

/-- R54, for one link under a cart max step. -/
abbrev Link.RateRight (m : RateStep) (l : Link) : Prop :=
  l.step ≤ m ∧ match l.advertised with
    | some v => l.step ≤ v
    | none => True

/-- A change of one link that keeps the sweep law (R55) and, under a cart max step, the rate law (R54). -/
structure Link.Keeps (m : RateStep) (l k : Link) : Prop where
  sweep : l.SweepRight → k.SweepRight
  rate : l.RateRight m → k.RateRight m

namespace Link.Keeps

variable {m : RateStep} {l k j : Link}

theorem refl (l : Link) : Link.Keeps m l l := ⟨id, id⟩

theorem trans (h : Link.Keeps m l k) (g : Link.Keeps m k j) : Link.Keeps m l j := ⟨g.sweep ∘ h.sweep, g.rate ∘ h.rate⟩

/-- A change that leaves the fields of both laws alone. -/
theorem of_same (he : k.exchange = l.exchange := by rfl) (hp : k.pollDue = l.pollDue := by rfl)
    (hd : k.sweepDue = l.sweepDue := by rfl) (hs : k.step = l.step := by rfl)
    (ha : k.advertised = l.advertised := by rfl) : Link.Keeps m l k := by
  constructor
  · intro h; simpa only [Link.SweepRight, he, hp, hd] using h
  · intro h; simpa only [Link.RateRight, hs, ha] using h

/-- A change after which no training exchange is in progress, at a step no higher than before. -/
theorem of_lower (he : k.exchange ≠ some .train) (hs : k.step ≤ l.step) (ha : k.advertised = l.advertised := by rfl) :
    Link.Keeps m l k := by
  refine ⟨fun _ h => absurd h he, fun ⟨h, hv⟩ => ⟨hs.trans h, ?_⟩⟩
  rw [ha]
  split at hv
  · exact hs.trans hv
  · trivial

section
variable (l) (m)

theorem beginSweep (set : LinkSettings) (r : Bool) : Link.Keeps m l (l.beginSweep set r) := ⟨fun _ _ => ⟨rfl, rfl⟩, id⟩

theorem takeInstant (h : l.exchange = none) : Link.Keeps m l l.takeInstant := by
  unfold Link.takeInstant
  split
  · exact of_lower (by simp [h]) le_rfl
  · exact refl l

theorem pump (set : LinkSettings) : Link.Keeps m l (l.pump set) := by
  unfold Link.pump
  split
  · next h =>
    refine (takeInstant m l h.2).trans ?_
    rcases l.takeInstant.next_cases set with ⟨-, e⟩ | ⟨-, -, e⟩ | ⟨-, -, ⟨-, -, -, -, e⟩ | ⟨-, ⟨-, e⟩ | ⟨-, e⟩⟩⟩ <;> rw [e]
    · exact of_lower (by simp) le_rfl
    · exact of_lower (by simp) le_rfl
    · exact beginSweep m _ set true
    · exact of_lower (by simp) le_rfl
    · exact refl _
  · exact refl l

theorem beginBringup (fresh : Bool) : Link.Keeps m l (l.beginBringup fresh) := of_lower (by simp [Link.beginBringup]) (Fin.zero_le _)

theorem restAt {v : RateStep} (h : v ≤ l.step) : Link.Keeps m l (l.restAt v) := of_lower (by simp [Link.restAt]) h

theorem stepDown : Link.Keeps m l l.stepDown :=
  of_lower (by simp [Link.stepDown, Link.restAt]) (Fin.le_def.mpr (Nat.sub_le _ _))

theorem judgeRun (now : Nat) (w : Sweep) (first last : Tap) : Link.Keeps m l (l.judgeRun now w first last) := by
  unfold Link.judgeRun
  split
  · simp only
    split
    · exact of_lower (by simp [Link.returnUp]) le_rfl
    · exact of_lower (by simp [Link.enterUp]) le_rfl
  · exact stepDown m l

/-- The next tap of a sweep that makes its exchanges already. -/
theorem goOn (h : l.exchange = some .train) (t : Tap) (w : Option Sweep) :
    Link.Keeps m l { l with tap := t, sweep := w, exchange := some .train } := of_same h.symm

theorem judgeTap (now : Nat) (passed : Bool) (h : l.exchange = some .train) :
    Link.Keeps m l (l.judgeTap now passed) := by
  unfold Link.judgeTap
  split
  · exact refl l
  · split
    · simp only
      split
      · exact judgeRun m l _ _ _ _
      · exact goOn m l h _ _
    · exact judgeRun m l _ _ _ _
    · split
      · exact stepDown m l
      · exact goOn m l h _ l.sweep

theorem bringDown (v : RateStep) : Link.Keeps v l (l.bringDown v) := by
  unfold Link.bringDown
  split
  · next h => exact of_lower (by simp [Link.restAt]) h.le
  · exact refl l

theorem exchangeFailed : Link.Keeps m l l.exchangeFailed := by
  unfold Link.exchangeFailed
  simp only
  split
  · exact of_lower (by simp [Link.beginBringup]) (Fin.zero_le _)
  · exact of_lower (by simp) le_rfl

end

/-- The target step lies within the cart max step and the step advertised, whatever the link's was (R54). -/
theorem afterIdent (l : Link) (set : LinkSettings) (advertised : RateStep) (now : Nat) :
    Link.Keeps set.maxStep l (l.afterIdent set advertised now) := by
  let k : Link := { l with advertised := some advertised, exchange := none }
  let v := k.targetStep set.maxStep advertised
  have hm : v ≤ set.maxStep := min_le_left _ _
  have ha : v ≤ advertised := (min_le_right _ _).trans (min_le_left _ _)
  change Link.Keeps set.maxStep l
    (if v ≠ k.step then k.restAt v else if 2 ≤ k.step.val then k.beginSweep set false
      else { k with tap := Config.middleTap, window := none }.enterUp now)
  split
  · exact ⟨fun _ h => by simp [Link.restAt] at h, fun _ => ⟨hm, ha⟩⟩
  · next h =>
    have hv : k.step = v := (not_not.mp h).symm
    split
    · exact ⟨fun _ _ => ⟨rfl, rfl⟩, fun _ => ⟨hv.le.trans hm, hv.le.trans ha⟩⟩
    · exact ⟨fun _ h => by simp [Link.enterUp] at h, fun _ => ⟨hv.le.trans hm, hv.le.trans ha⟩⟩

end Link.Keeps

/-- A link brought down to a cart max step lies within it, and within the step advertised still. -/
theorem Link.bringDown_rateRight (l : Link) {m v : RateStep} (h : l.RateRight m) : (l.bringDown v).RateRight v := by
  obtain ⟨-, ha⟩ := h
  unfold Link.bringDown
  split
  · next hl =>
    refine ⟨le_rfl, ?_⟩
    simp only [Link.restAt] at ha ⊢
    split at ha
    · exact hl.le.trans ha
    · trivial
  · exact ⟨not_lt.mp ‹_›, ha⟩

/-! ### The whole state -/

/-- A change that keeps the model's queue of commands and every law that a single write keeps by itself: R181, R7, R2, R55,
R54, the key laws and R170. -/
structure State.Keeps (s t : State) : Prop where
  pending : t.pending = s.pending
  members : s.MembersLaw → t.MembersLaw
  misplaced : s.MisplacedLaw → t.MisplacedLaw
  range : s.RangeLaw → t.RangeLaw
  sweep : s.SweepLaw → t.SweepLaw
  rate : s.RateLaw → t.RateLaw
  key : s.KeyLaw → t.KeyLaw
  period : s.PeriodLaw → t.PeriodLaw

namespace State.Keeps

variable {s t u : State}

theorem refl (s : State) : s.Keeps s := ⟨rfl, id, id, id, id, id, id, id⟩

theorem trans (h : s.Keeps t) (g : t.Keeps u) : s.Keeps u where
  pending := g.pending.trans h.pending
  members := g.members ∘ h.members
  misplaced := g.misplaced ∘ h.misplaced
  range := g.range ∘ h.range
  sweep := g.sweep ∘ h.sweep
  rate := g.rate ∘ h.rate
  key := g.key ∘ h.key
  period := g.period ∘ h.period

/-- The same, the later change first. -/
theorem after (g : t.Keeps u) (h : s.Keeps t) : s.Keeps u := h.trans g

/-- A change that leaves alone every table the laws read, but that it may write bay entries without their populated marks. -/
theorem of_bays (hb : ∀ b, (t.bay b).populated = (s.bay b).populated) (h1 : t.roster = s.roster := by rfl)
    (h2 : t.links = s.links := by rfl) (h3 : t.linkSettings = s.linkSettings := by rfl)
    (h4 : t.budget.defaultTarget = s.budget.defaultTarget := by rfl) (h5 : t.keys = s.keys := by rfl)
    (h6 : t.clock.periods = s.clock.periods := by rfl) (h7 : t.port.subjects = s.port.subjects := by rfl)
    (h8 : t.pending = s.pending := by rfl) : s.Keeps t where
  pending := h8
  members h := by simpa only [State.MembersLaw, State.subjectsOf, h7] using h
  misplaced h := by simpa only [State.MisplacedLaw, State.record, h1] using h
  range h := by simpa only [State.RangeLaw, State.record, h1, h4, hb] using h
  sweep h := by simpa only [State.SweepLaw, State.link, h2] using h
  rate h := by simpa only [State.RateLaw, State.link, h2, h3] using h
  key h := by simpa only [State.KeyLaw, State.keyEntry, State.learningKey, h5] using h
  period h := by simpa only [State.PeriodLaw, State.period, h6] using h

/-- A change that leaves alone every table the laws read. -/
theorem of_same (hb : t.bays = s.bays := by rfl) (h1 : t.roster = s.roster := by rfl)
    (h2 : t.links = s.links := by rfl) (h3 : t.linkSettings = s.linkSettings := by rfl)
    (h4 : t.budget.defaultTarget = s.budget.defaultTarget := by rfl) (h5 : t.keys = s.keys := by rfl)
    (h6 : t.clock.periods = s.clock.periods := by rfl) (h7 : t.port.subjects = s.port.subjects := by rfl)
    (h8 : t.pending = s.pending := by rfl) : s.Keeps t :=
  of_bays (fun b => by rw [State.bay_congr hb]) h1 h2 h3 h4 h5 h6 h7 h8

theorem foldl {α : Type} {f : State → α → State} (hf : ∀ s x, State.Keeps s (f s x)) :
    ∀ (l : List α) (s : State), s.Keeps (l.foldl f s)
  | [], s => refl s
  | x :: l, s => (hf s x).trans (foldl hf l _)

theorem ite {c : Prop} [Decidable c] (h : s.Keeps t) (g : s.Keeps u) : s.Keeps (if c then t else u) := by
  split
  · exact h
  · exact g

variable (s)

theorem modBay (b : BayNo) (f : Bay → Bay) (hf : (f (s.bay b)).populated = (s.bay b).populated := by rfl) :
    s.Keeps (s.modBay b f) :=
  of_bays fun c => by
    rw [State.bay_modBay]
    split
    · next h => subst h; exact hf
    · rfl

theorem modLink (b : BayNo) (f : Link → Link) (hf : Link.Keeps s.linkSettings.maxStep (s.link b) (f (s.link b))) :
    s.Keeps (s.modLink b f) where
  pending := rfl
  members := id
  misplaced := id
  range := id
  sweep h c := by
    rw [State.link_modLink]
    split
    · exact hf.sweep (h b)
    · exact h c
  rate h c := by
    rw [State.link_modLink]
    split
    · exact hf.rate (h b)
    · exact h c
  key := id
  period := id

theorem putRecord (i : RecordIx) (r : Record) (hm : (s.record i).MarkRight → r.MarkRight)
    (hr : s.RangeLaw → r.RangeLaw ∧ ∀ b ∈ r.homeBay, (s.bay b).populated = true) : s.Keeps (s.putRecord i r) where
  pending := rfl
  members := id
  misplaced h := by
    rw [State.misplacedLaw_iff] at h ⊢
    intro j
    rw [State.record_putRecord]
    split
    · exact hm (h i)
    · exact h j
  range h := by
    refine ⟨fun j => ?_, fun j => ?_, h.2.2⟩
    · rw [State.record_putRecord]
      split
      · exact (hr h).1
      · exact h.1 j
    · rw [State.record_putRecord]
      split
      · exact (hr h).2
      · exact h.2.1 j
  sweep := id
  rate := id
  key := id
  period := id

/-- A record rewritten in fields that MISPLACED does not read. -/
theorem editRecord (i : RecordIx) (f : Record → Record) (hr : (s.record i).RangeLaw → (f (s.record i)).RangeLaw)
    (hm : (f (s.record i)).misplaced = (s.record i).misplaced := by rfl)
    (hf : (f (s.record i)).flags = (s.record i).flags := by rfl)
    (hh : (f (s.record i)).homeBay = (s.record i).homeBay := by rfl)
    (hc : (f (s.record i)).currentBay = (s.record i).currentBay := by rfl) : s.Keeps (s.editRecord i f) :=
  putRecord s i _ (fun h => h.congr hm hf hh hc) fun h => ⟨hr (h.1 i), by rw [hh]; exact h.2.1 i⟩

/-- A record rewritten with MISPLACED re-evaluated. -/
theorem setRecord (i : RecordIx) (r : Record)
    (hr : s.RangeLaw → r.RangeLaw ∧ ∀ b ∈ r.homeBay, (s.bay b).populated = true) : s.Keeps (s.setRecord i r) :=
  putRecord s i _ (fun _ => rfl) hr

theorem modRecord (i : RecordIx) (f : Record → Record) (hr : (s.record i).RangeLaw → (f (s.record i)).RangeLaw)
    (hh : (f (s.record i)).homeBay = (s.record i).homeBay := by rfl) : s.Keeps (s.modRecord i f) :=
  setRecord s i _ fun h => ⟨hr (h.1 i), by rw [hh]; exact h.2.1 i⟩

theorem addSubject (n : SourceNo) (m : Nat) (h : memberMask m &&& ~~~(Source.members n) = 0) :
    s.Keeps (s.addSubject n m) where
  pending := rfl
  members hs k := by
    rw [State.subjectsOf_addSubject]
    split
    · next e => subst e; rw [BitVec.and_comm, BitVec.and_or_distrib_left, BitVec.and_comm, hs n, BitVec.and_comm, h]; rfl
    · exact hs k
  misplaced := id
  range := id
  sweep := id
  rate := id
  key := id
  period := id

theorem setSlot (k : SlotNo) (x : DriveSlot) : s.Keeps (s.setSlot k x) := of_same

theorem setLane (l : LaneNo) (x : Lane) : s.Keeps (s.setLane l x) := of_same

theorem setRelease (b : BayNo) (x : Option Release) : s.Keeps (s.setRelease b x) := of_same

theorem setEntry (b : BayNo) (x : AllocEntry) : s.Keeps (s.setEntry b x) := of_same

theorem setOutput (b : BayNo) (x : Output) : s.Keeps (s.setOutput b x) := of_same

theorem raiseReservation (o : Owner) (n : Nat) : s.Keeps (s.raiseReservation o n) := of_same

theorem dropReservation (o : Owner) : s.Keeps (s.dropReservation o) := of_same

theorem requestPass : s.Keeps s.requestPass := of_same

theorem reAttn : s.Keeps s.reAttn := of_same

theorem respond (status : Status) (data : List Byte) : s.Keeps (s.respond status data) := of_same

theorem relamp : s.Keeps s.relamp := by
  refine of_bays (fun b => by rw [s.relamp_bay]) (by simp) (by simp) (by simp) (by simp) (by simp) (by simp) (by simp)
    (by simp)

theorem requestPassIf (c : Bool) : s.Keeps (s.requestPassIf c) := by
  unfold State.requestPassIf
  split
  · exact of_same
  · exact refl s

end State.Keeps

end Sys2Proof.Machine
end

section
/-! SUPPORT. Every operation of the part keeps the laws that a single write keeps by itself. -/

namespace Sys2Proof.Machine

set_option Elab.async false

/-! ### Members of the sources (R181) -/

theorem memberMask_bay (b : BayNo) : memberMask b.val &&& ~~~(BitVec.ofNat 64 (2 ^ 36 - 1)) = 0 := by
  revert b; decide

theorem memberMask_lane (l : LaneNo) : memberMask l.val &&& ~~~(0xF : BitVec 64) = 0 := by revert l; decide

theorem memberMask_key (e : KeyIx) : memberMask e.val &&& ~~~(0x1FF : BitVec 64) = 0 := by revert e; decide

theorem memberMask_period (e : PeriodIx) : memberMask e.val &&& ~~~(0xFFFF : BitVec 64) = 0 := by revert e; decide

theorem Record.afterSession_range {r : Record} (limit : Nat) (x : SessionResult) (h : r.RangeLaw) :
    (r.afterSession limit x).RangeLaw := by
  unfold Record.afterSession
  split
  · exact h
  · split
    · exact ⟨h.1, Nat.zero_le _, h.2.2⟩
    · split
      · exact ⟨h.1, Nat.min_le_left _ _, h.2.2⟩
      · exact h

namespace State.Keeps

variable (s : State)

theorem subjectOfBay (n : SourceNo) (b : BayNo) (h : n.val ≤ 6) : s.Keeps (s.addSubject n b.val) :=
  addSubject s n _ (by rw [Source.members, if_pos h]; exact memberMask_bay b)

theorem subjectOfRecord (n : SourceNo) (i : RecordIx) (h : ¬n.val ≤ 6) (h' : n.val ≤ 11) :
    s.Keeps (s.addSubject n i.val) :=
  addSubject s n _ (by rw [Source.members, if_neg h, if_pos h']; simp)

theorem subjectOfLane (n : SourceNo) (l : LaneNo) (h : n.val = 12 ∨ n.val = 13) : s.Keeps (s.addSubject n l.val) :=
  addSubject s n _ (by
    rw [Source.members, if_neg (by omega), if_neg (by omega), if_pos (by omega)]; exact memberMask_lane l)

/-! ### Links -/

theorem pumpLink (b : BayNo) : s.Keeps (s.pumpLink b) := modLink s b _ (.pump _ _ _)

theorem placeCustodyOrder (b : BayNo) (o : CustodyOrder) : s.Keeps (s.placeCustodyOrder b o) := by
  unfold State.placeCustodyOrder
  split
  · exact refl s
  · exact (modLink s b _ .of_same).trans (pumpLink _ b)

theorem placeLaneOrder (b : BayNo) (o : LaneOrder) : s.Keeps (s.placeLaneOrder b o) := by
  unfold State.placeLaneOrder
  split
  · exact refl s
  · exact (modLink s b _ .of_same).trans (pumpLink _ b)

theorem emptySlots (b : BayNo) : s.Keeps (s.emptySlots b) := modLink s b _ .of_same

/-! ### Latches -/

theorem setLatch (b : BayNo) (p : LatchPosition) : s.Keeps (s.setLatch b p) := modBay s b _

theorem latchSuccess (b : BayNo) (d : Direction) : s.Keeps (s.latchSuccess b d) := by
  cases d with
  | lock =>
    simp only [State.latchSuccess]
    split
    · exact editRecord s _ _ id
    · exact refl s
  | unlock =>
    simp only [State.latchSuccess]
    split
    · exact (of_same (s := s)).trans (placeCustodyOrder _ _ _)
    · exact refl s

theorem serviceOne (q : LatchRequest) : s.Keeps (s.serviceOne q) := by
  unfold State.serviceOne
  split
  · exact refl s
  · split
    · exact .after (latchSuccess _ _ _) of_same
    · split
      · exact of_same
      · exact refl s

theorem slotService : s.Keeps s.slotService := foldl (fun s q => serviceOne s q) _ s

theorem placeRequest (b : BayNo) (d : Direction) : s.Keeps (s.placeRequest b d) := by
  unfold State.placeRequest
  split
  · split
    · exact .after (slotService _) (.after (latchSuccess _ _ _) of_same)
    · exact .after (slotService _) of_same
  · exact .after (slotService _) of_same

theorem lockUnlessService (b : BayNo) : s.Keeps (s.lockUnlessService b) := by
  unfold State.lockUnlessService
  split
  · exact refl s
  · exact placeRequest s b _

theorem lapseRelease (b : BayNo) (i : RecordIx) : s.Keeps (s.lapseRelease b i) :=
  .after (lockUnlessService _ b) (.after (placeCustodyOrder _ _ _) (.after (setRelease _ _ _)
    (.after (subjectOfRecord _ _ _ (by decide) (by decide)) (editRecord s i _ fun h => by
      simp only [Record.RangeLaw] at h ⊢; exact ⟨h.1, h.2.1, h.2.2.1, trivial, h.2.2.2.2⟩))))

theorem latchFailure (b : BayNo) (d : Direction) : s.Keeps (s.latchFailure b d) := by
  cases d with
  | lock =>
    simp only [State.latchFailure]
    split
    · split
      · exact editRecord s _ _ id
      · exact refl s
    · exact refl s
  | unlock =>
    simp only [State.latchFailure]
    split
    · exact lapseRelease s _ _
    · exact refl s

theorem endSlot (k : SlotNo) : s.Keeps (s.endSlot k) := of_same

theorem driveSuccess (k : SlotNo) (q : LatchRequest) : s.Keeps (s.driveSuccess k q) :=
  .after (slotService _) (.after (latchSuccess _ _ _) (.after (setLatch _ _ _) of_same))

theorem driveFailure (k : SlotNo) (q : LatchRequest) : s.Keeps (s.driveFailure k q) :=
  .after (slotService _) (.after (latchFailure _ _ _) (.after (subjectOfBay _ _ _ (by decide))
    (.after (setLatch _ _ _) of_same)))

theorem startDrive (k : SlotNo) : s.Keeps (s.startDrive k) := by
  unfold State.startDrive
  split
  · split
    · exact driveSuccess s _ _
    · exact .after (setLatch _ _ _) of_same
  · exact refl s
  · exact refl s

theorem dropReserving (b : BayNo) (d : Direction) : s.Keeps (s.dropReserving b d) := by
  unfold State.dropReserving
  split
  · split
    · exact .after (slotService _) of_same
    · exact refl s
  · exact refl s

theorem dropLocks (b : BayNo) : s.Keeps (s.dropLocks b) := .after (dropReserving _ _ _) of_same

theorem endReleaseByHold (b : BayNo) : s.Keeps (s.endReleaseByHold b) := .after (dropReserving _ _ _) of_same

theorem relockAfterHold (b : BayNo) : s.Keeps (s.relockAfterHold b) := by
  unfold State.relockAfterHold
  simp only
  split
  · exact placeCustodyOrder _ _ _
  · exact .after (placeRequest _ _ _) (placeCustodyOrder _ _ _)

theorem receiveInCart (b : BayNo) : s.Keeps (s.receiveInCart b) := by
  unfold State.receiveInCart
  simp only
  split
  · exact .after (placeRequest _ _ _) (placeCustodyOrder _ _ _)
  · exact placeCustodyOrder _ _ _

theorem releaseReported (b : BayNo) (o : OrderOutcome) : s.Keeps (s.releaseReported b o) := by
  obtain ⟨-, e⟩ | ⟨-, _, _, _, -, e⟩ := s.releaseReported_cases b o <;> rw [e]
  · exact refl s
  · exact of_same

/-! ### Lanes -/

theorem wakeLane (l : LaneNo) : s.Keeps (s.wakeLane l) := by
  unfold State.wakeLane
  split
  · split
    · exact .after (placeLaneOrder _ _ _) of_same
    · exact refl s
  · exact refl s

theorem grantLane (l : LaneNo) (i : RecordIx) (b : BayNo) : s.Keeps (s.grantLane l i b) :=
  .after (raiseReservation _ _ _) (.after (modBay _ b _) (.after (setLane _ _ _) of_same))

theorem grantLanes : ∀ (n : Nat) (s : State), s.Keeps (State.grantLanes n s)
  | 0, s => refl s
  | n + 1, s => by
    unfold State.grantLanes
    split
    · split
      · split
        · exact (grantLane s _ _ _).trans (grantLanes n _)
        · exact refl s
      · exact refl s
    · exact refl s

theorem quietFor (x : Session) : s.Keeps (s.quietFor x) := by
  unfold State.quietFor
  split
  · exact placeLaneOrder s _ _
  · exact refl s

theorem endSession (l : LaneNo) (r : SessionResult) : s.Keeps (s.endSession l r) := by
  unfold State.endSession
  split
  · exact refl s
  · refine .after (subjectOfLane _ _ _ (.inr rfl)) (.after (editRecord _ _ _ (Record.afterSession_range _ _) ?_ ?_ ?_ ?_)
      (.after (modBay _ _ _) (.after (dropReservation _ _) (.after (quietFor _ _) (setLane _ _ _)))))
    all_goals unfold Record.afterSession; grind

theorem endSessionOf (i : RecordIx) (r : SessionResult) : s.Keeps (s.endSessionOf i r) := by
  unfold State.endSessionOf
  split
  · exact endSession s _ r
  · exact refl s

theorem verificationAnswered (b : BayNo) (g : Byte) : s.Keeps (s.verificationAnswered b g) := by
  unfold State.verificationAnswered
  split
  · exact endSession s _ _
  · exact refl s

theorem verificationUnanswered (b : BayNo) : s.Keeps (s.verificationUnanswered b) := by
  unfold State.verificationUnanswered
  split
  · exact endSession s _ _
  · exact refl s

theorem wakeDelivered (b : BayNo) (l : LaneNo) : s.Keeps (s.wakeDelivered b l) := by
  unfold State.wakeDelivered
  split
  · exact .after (subjectOfLane _ _ _ (.inl rfl)) (setLane _ _ _)
  · exact refl s

theorem wakeRefused (b : BayNo) (l : LaneNo) : s.Keeps (s.wakeRefused b l) := by
  unfold State.wakeRefused
  split
  · exact endSession s _ _
  · exact refl s

theorem closeSession (l : LaneNo) (x : Session) (g : Byte) : s.Keeps (s.closeSession l x g) :=
  .after (pumpLink _ _) (.after (modLink _ _ _ .of_same) (.after (placeLaneOrder _ _ _) (setLane _ _ _)))

/-! ### Passes -/

theorem dropOutput (b : BayNo) (c : ChargeState) : s.Keeps (s.dropOutput b c) := .after (modBay _ _ _) (setOutput _ _ _)

theorem takePass : s.Keeps s.takePass := by
  unfold State.takePass
  simp only
  split
  · exact .after (addSubject _ _ _ (by decide)) (of_bays fun b => by simp [State.bay])
  · exact of_bays fun b => by simp [State.bay]

theorem tellActive (o : Owner) : s.Keeps (s.tellActive o) := by
  cases o with
  | latch k => exact startDrive s k
  | lane l => exact wakeLane s l

theorem endDecreasing : s.Keeps s.endDecreasing := .after (foldl (fun s o => tellActive s o) _ _) of_same

theorem endPass : s.Keeps s.endPass := of_same

theorem serveRequest : s.Keeps s.serveRequest := by
  unfold State.serveRequest
  split
  · simp only
    split
    · exact .after (takePass _) of_same
    · exact of_same
    · exact of_same
  · exact refl s

theorem settle : ∀ (n : Nat) (s : State), s.Keeps (State.settle n s)
  | 0, s => refl s
  | n + 1, s => by
    unfold State.settle
    simp only
    split
    · exact serveRequest s
    · split
      · exact serveRequest s
      · exact ((serveRequest s).trans (endDecreasing _)).trans (settle n _)
    · split
      · exact serveRequest s
      · exact ((serveRequest s).trans (endPass _)).trans (settle n _)

theorem closeChange : s.Keeps s.closeChange :=
  .after (reAttn _) (.after (relamp _) (.after (settle _ _) (.after (grantLanes _ _) of_same)))

theorem finish (status : Status) (data : State → List Byte) : s.Keeps (s.finish status data) :=
  .after (respond _ _ _) (closeChange s)

theorem budgetFall : s.Keeps s.budgetFall := by
  unfold State.budgetFall
  split
  · exact refl s
  · exact of_same
  · exact .after (endPass _) of_same

theorem recomputeBudget : s.Keeps s.recomputeBudget := by
  unfold State.recomputeBudget
  simp only
  split
  · exact refl s
  · split
    · exact .after (budgetFall _) of_same
    · exact of_same

end State.Keeps
end Sys2Proof.Machine
end

section
/-! SUPPORT. The Dock Supervisor's operations and the meanings of the commands keep the laws that a single write keeps by
itself. -/

namespace Sys2Proof.Machine

set_option Elab.async false

theorem Record.freeImage_range : Record.freeImage.RangeLaw :=
  ⟨by decide, by decide, by decide, trivial, trivial, trivial, trivial, trivial⟩

/-- A custody move that leaves the ranged fields alone, or gives up the holder tag. -/
theorem Record.RangeLaw.of_same {r q : Record} (h : r.RangeLaw) (h1 : q.target = r.target := by rfl)
    (h2 : q.failureCount = r.failureCount := by rfl) (h3 : q.energy = r.energy := by rfl)
    (h4 : q.holder = r.holder ∨ q.holder = none := by exact .inl rfl)
    (h5 : q.lastCharge = r.lastCharge ∨ q.lastCharge = none := by exact .inl rfl)
    (h6 : q.lastTemp = r.lastTemp ∨ q.lastTemp = none := by exact .inl rfl)
    (h7 : q.capacity = r.capacity := by rfl) (h8 : q.acceptance = r.acceptance := by rfl) : q.RangeLaw := by
  obtain ⟨ht, hf, he, hh, hc, hp, hk, ha⟩ := h
  refine ⟨by rwa [h1], by rwa [h2], by rwa [h3], ?_, ?_, ?_, by rwa [h7], by rwa [h8]⟩
  · obtain e | e := h4 <;> rw [e]
    · exact hh
    · trivial
  · obtain e | e := h5 <;> rw [e]
    · exact hc
    · trivial
  · obtain e | e := h6 <;> rw [e]
    · exact hp
    · trivial

theorem Record.RangeLaw.enterBay {r : Record} (b : BayNo) (h : r.RangeLaw) : (r.enterBay b).RangeLaw := by
  have h0 : Record.RangeLaw { r with
      currentBay := some b, lastCharge := none, lastTemp := none, energy := 0, orderUndelivered := false } :=
    ⟨h.1, h.2.1, Nat.zero_le _, h.2.2.2.1, trivial, trivial, h.2.2.2.2.2.2⟩
  unfold Record.enterBay
  simp only
  split
  iterate 4 exact h0.of_same (h4 := .inr rfl)
  iterate 5 exact h0

theorem Record.enterBay_homeBay (b : BayNo) (r : Record) : (r.enterBay b).homeBay = r.homeBay := by
  unfold Record.enterBay
  simp only
  split <;> rfl

theorem clampNat_mem {lo hi : Nat} (v : Nat) (h : lo ≤ hi) : lo ≤ clampNat lo hi v ∧ clampNat lo hi v ≤ hi := by
  unfold clampNat; split <;> [skip; split] <;> omega

theorem clampInt_mem {lo hi : Int} (v : Int) (h : lo ≤ hi) : lo ≤ clampInt lo hi v ∧ clampInt lo hi v ≤ hi := by
  unfold clampInt; split <;> [skip; split] <;> omega

/-- The figures an IDENT writes lie in their ranges (R5, R49). -/
theorem Record.RangeLaw.takeIdent {r : Record} (p : IdentReply) (h : r.RangeLaw) :
    (r.takeIdent (Ident.ofReply p)).RangeLaw :=
  ⟨h.1, h.2.1, h.2.2.1, h.2.2.2.1, h.2.2.2.2.1, h.2.2.2.2.2.1, clampNat_mem _ (by decide), clampNat_mem _ (by decide)⟩

namespace State.Keeps

variable (s : State)

theorem ceaseNaming (b : BayNo) : s.Keeps (s.ceaseNaming b) :=
  .after (setOutput _ _ _) (.after (setEntry _ _ _) (.after (emptySlots _ _) (modBay _ _ _)))

theorem holdByHost (i : RecordIx) : s.Keeps (s.holdByHost i) :=
  .after (requestPassIf _ _) (.after (editRecord _ _ _ fun h => h.of_same (h4 := .inr rfl)) (endSessionOf _ _ _))

theorem freeRecord (i : RecordIx) : s.Keeps (s.freeRecord i) :=
  setRecord _ _ _ fun _ => ⟨Record.freeImage_range, nofun⟩

theorem undockRecord (b : BayNo) (i : RecordIx) (u : Bool) : s.Keeps (s.undockRecord b i u) := by
  have h : s.Keeps (s.modRecord i (Record.leaveBay u)) := modRecord _ _ _ fun h => h.of_same
  unfold State.undockRecord
  simp only
  split
  · exact .after (subjectOfRecord _ _ _ (by decide) (by decide)) (.after (editRecord _ _ _ fun h => h.of_same) h)
  · exact .after (setRelease _ _ _) (.after (subjectOfRecord _ _ _ (by decide) (by decide))
      (.after (editRecord _ _ _ fun h => h.of_same) h))
  · exact .after (freeRecord _ _) h
  · exact .after (subjectOfRecord _ _ _ (by decide) (by decide)) h
  iterate 5 exact h

theorem undock (b : BayNo) (e : Bool) : s.Keeps (s.undock b e) := by
  unfold State.undock
  split
  · exact refl s
  · simp only
    split
    · exact .after (requestPass _) (.after (dropLocks _ _) (.after (undockRecord _ _ _ _) (.after (endSessionOf _ _ _)
        (ceaseNaming _ _))))
    · exact .after (requestPass _) (.after (undockRecord _ _ _ _) (.after (endSessionOf _ _ _) (ceaseNaming _ _)))

theorem releasePartner (b : BayNo) : s.Keeps (s.releasePartner b) := by
  unfold State.releasePartner
  split
  · exact refl s
  · split
    · exact .after (requestPass _) (.after (dropOutput _ _ _) (.after (modLink _ _ _ (.beginBringup _ _ _)) (modBay _ _ _)))
    · exact modBay _ _ _
    iterate 5 exact refl s

theorem downLink (b : BayNo) : s.Keeps (s.modLink b fun _ => Link.downValues) :=
  modLink _ _ _ ⟨fun _ h => by simp [Link.downValues] at h, fun _ => ⟨Fin.zero_le _, trivial⟩⟩

theorem emptyBay (b : BayNo) (d : BayState) : s.Keeps (s.emptyBay b d) := by
  have h : s.Keeps (((s.undock b true).modLink b fun _ => Link.downValues).dropOutput b .off) :=
    .after (dropOutput _ _ _) (.after (downLink _ _) (undock _ _ _))
  unfold State.emptyBay
  simp only
  refine .after (requestPassIf _ _) ?_
  split
  · refine .after (subjectOfBay _ _ _ (by decide)) (.after (modBay _ _ _) ?_)
    split
    · exact .after (releasePartner _ _) h
    · exact h
  · refine .after (modBay _ _ _) ?_
    split
    · exact .after (releasePartner _ _) h
    · exact h

theorem enterBringup (b : BayNo) : s.Keeps (s.enterBringup b) :=
  .after (dropOutput _ _ _) (.after (modLink _ _ _ (.beginBringup _ _ _)) (modBay _ _ _))

theorem dock (b : BayNo) (i : RecordIx) : s.Keeps (s.dock b i) := by
  unfold State.dock
  simp only
  refine .after (requestPass _) ?_
  have h : s.Keeps ((((s.modBay b fun x => { x.strip with state := .identified, record := some i }).modEntry b
      AllocEntry.forget).modOutput b fun o => { o with remainder := 0 }).modRecord i (Record.enterBay b)) :=
    .after (modRecord _ _ _ (.enterBay b) (Record.enterBay_homeBay _ _))
      (.after (setOutput _ _ _) (.after (setEntry _ _ _) (modBay _ _ _)))
  exact .after (ite (receiveInCart _ _) (refl _)) (ite (.after (subjectOfRecord _ _ _ (by decide) (by decide)) h) h)

theorem writeIdent (b : BayNo) (p : IdentReply) : s.Keeps (s.writeIdent b (Ident.ofReply p)) := by
  unfold State.writeIdent
  split
  · exact editRecord _ _ _ (.takeIdent p)
  · exact refl s

theorem becomeForeign (b : BayNo) (x : TabletId) (c : ForeignCause) : s.Keeps (s.becomeForeign b x c) :=
  .after (requestPass _) (.after (subjectOfBay _ _ _ (by decide)) (modBay _ _ _))

theorem collideRecord (c : BayNo) (i : RecordIx) : s.Keeps (s.collideRecord c i) := by
  unfold State.collideRecord
  simp only
  have h : s.Keeps (((s.ceaseNaming c).endSessionOf i .aborted).modRecord i fun r =>
      { r.held .collision with currentBay := none }) :=
    .after (modRecord _ _ _ fun h => h.of_same (h4 := .inr rfl)) (.after (endSessionOf _ _ _) (ceaseNaming _ _))
  split
  · exact .after (endReleaseByHold _ _) h
  · exact h

theorem markCollision (b c : BayNo) (x : TabletId) : s.Keeps (s.markCollision b c x) :=
  .after (requestPass _) (.after (subjectOfBay _ _ _ (by decide)) (.after (subjectOfBay _ _ _ (by decide))
    (.after (modBay _ _ _) (modBay _ _ _))))

theorem collide (b c : BayNo) (i : RecordIx) (x : TabletId) : s.Keeps (s.collide b c i x) :=
  .after (markCollision _ _ _ _) (collideRecord _ _ _)

theorem matchId (b : BayNo) (x : TabletId) : s.Keeps (s.matchId b x) := by
  unfold State.matchId
  split
  · exact becomeForeign _ _ _ _
  · split
    · exact dock _ _ _
    · exact collide _ _ _ _ _

theorem matchIdent (b : BayNo) (p : IdentReply) : s.Keeps (s.matchIdent b (Ident.ofReply p)) := by
  unfold State.matchIdent
  simp only
  refine .after (requestPass _) (.after (subjectOfBay _ _ _ (by decide)) ?_)
  split
  · exact .after (writeIdent _ _ _) (matchId _ _ _)
  · exact becomeForeign _ _ _ _

theorem matchEnrol (i : RecordIx) (x : TabletId) : s.Keeps (s.matchEnrol i x) := by
  unfold State.matchEnrol
  split
  · exact refl s
  · exact .after (subjectOfBay _ _ _ (by decide)) (dock _ _ _)
  · exact .after (subjectOfBay _ _ _ (by decide)) (.after (collide _ _ _ _ _)
      (.after (subjectOfBay _ _ _ (by decide)) (dock _ _ _)))

theorem recover (b : BayNo) : s.Keeps (s.recover b) :=
  .after (requestPass _) (.after (setOutput _ _ _) (.after (modBay _ _ _) (ite (releasePartner _ _) (refl s))))

theorem sameIdentity (b : BayNo) (p : IdentReply) : s.Keeps (s.sameIdentity b (Ident.ofReply p)) := by
  unfold State.sameIdentity
  simp only
  split
  · exact .after (recover _ _) (writeIdent _ _ _)
  · split
    · exact .after (matchIdent _ _ _) (writeIdent _ _ _)
    · exact writeIdent _ _ _

theorem otherIdentity (b : BayNo) (p : IdentReply) : s.Keeps (s.otherIdentity b (Ident.ofReply p)) :=
  .after (matchIdent _ _ _) (.after (subjectOfBay _ _ _ (by decide)) (.after (modBay _ _ _)
    (.after (ite (releasePartner _ _) (refl _)) (undock _ _ _))))

theorem superviseIdent (b : BayNo) (p : IdentReply) : s.Keeps (s.superviseIdent b (Ident.ofReply p)) := by
  unfold State.superviseIdent
  split
  · exact matchIdent _ _ _
  iterate 4
    split
    · exact .after (requestPass _) (sameIdentity _ _ _)
    · exact otherIdentity _ _ _
    · exact requestPass _
  iterate 2 exact refl s

theorem holdByLink (b : BayNo) (i : RecordIx) : s.Keeps (s.holdByLink b i) := by
  unfold State.holdByLink
  simp only
  have h : s.Keeps ((s.endSessionOf i .aborted).editRecord i (Record.held .link)) :=
    .after (editRecord _ _ _ fun h => h.of_same (h4 := .inr rfl)) (endSessionOf _ _ _)
  split
  · exact .after (relockAfterHold _ _) (.after (endReleaseByHold _ _) h)
  · exact h

theorem loseIdentity (b : BayNo) : s.Keeps (s.loseIdentity b) := by
  unfold State.loseIdentity
  split
  iterate 2 exact .after (modBay _ _ _) (ite (releasePartner _ _) (refl s))
  iterate 5 exact refl s

theorem faultLink (b : BayNo) : s.Keeps (s.faultLink b) := by
  unfold State.faultLink
  simp only
  refine .after (requestPass _) (.after (subjectOfBay _ _ _ (by decide)) (.after (dropOutput _ _ _) (.after (modBay _ _ _)
    (.after (loseIdentity _ _) ?_))))
  split
  · exact holdByLink _ _ _
  · exact refl s

theorem cut (b : BayNo) : s.Keeps (s.cut b) :=
  .after (requestPass _) (.after (subjectOfBay _ _ _ (by decide)) (.after (dropOutput _ _ _) (.after (modBay _ _ _)
    (loseIdentity _ _))))

theorem linkFailed (b : BayNo) : s.Keeps (s.linkFailed b) := by
  unfold State.linkFailed
  simp only
  have h : s.Keeps (s.modLink b fun l => { l with
      state := .failed, pollRunning := false, verify := false, verifyDue := false, exchange := none, sweep := none }) :=
    modLink _ _ _ (.of_lower (by simp) le_rfl)
  split
  · exact .after (faultLink _ _) (.after (verificationUnanswered _ _) h)
  · exact .after (faultLink _ _) h

theorem bringupFailed (b : BayNo) : s.Keeps (s.bringupFailed b) := by
  unfold State.bringupFailed
  simp only
  have h : s.Keeps (s.modLink b fun l => { l with failedBringups := l.failedBringups + 1, exchange := none }) :=
    modLink _ _ _ (.of_lower (by simp) le_rfl)
  split
  · exact .after (linkFailed _ _) h
  · exact .after (modLink _ _ _ (.beginBringup _ _ _)) h

theorem helloFailed (b : BayNo) : s.Keeps (s.helloFailed b) := by
  unfold State.helloFailed
  simp only
  have h : s.Keeps (s.modLink b fun l => { l with helloAttempts := l.helloAttempts + 1, exchange := none }) :=
    modLink _ _ _ (.of_lower (by simp) le_rfl)
  split
  · exact .after (modLink _ _ _ .of_same) h
  · split
    · exact .after (bringupFailed _ _) h
    · exact .after (modLink _ _ _ (.stepDown _ _)) h

theorem exchangeFails (b : BayNo) : s.Keeps (s.exchangeFails b) := by
  unfold State.exchangeFails
  split
  · exact refl s
  · exact helloFailed _ _
  · next h => exact modLink _ _ _ (.judgeTap _ _ _ _ h)
  iterate 3 exact modLink _ _ _ (.exchangeFailed _ _)

theorem failExchange (b : BayNo) : s.Keeps (s.failExchange b) :=
  .after (pumpLink _ _) (.after (closeChange _) (exchangeFails _ _))

end State.Keeps
end Sys2Proof.Machine
end

section
/-! SUPPORT. The Key Receiver (chapter 8): which parts of the state its operations may write, and the key laws of R157, R161
and R165, which hold where a command ends. -/

namespace Sys2Proof.Machine

set_option Elab.async false

/-! ### What the receiver's operations leave alone -/

/-- Only the Key Receiver, the windows and the port's sets were written, and no subject of another source joined a set. -/
structure State.KeysWritten (s t : State) : Prop where
  only : s.OnlyKeys t
  members : s.MembersLaw → t.MembersLaw

namespace State.KeysWritten

variable {s t u : State}

theorem refl (s : State) : s.KeysWritten s := ⟨⟨rfl, rfl, rfl, fun _ => BitVec.and_self⟩, id⟩

theorem trans (h : s.KeysWritten t) (g : t.KeysWritten u) : s.KeysWritten u := by
  obtain ⟨⟨ht, hr, he, hs⟩, hm⟩ := h
  obtain ⟨⟨gt, gr, ge, gs⟩, gm⟩ := g
  refine ⟨⟨by rw [gt, ht], gr.trans hr, ge.trans he, fun n => ?_⟩, gm ∘ hm⟩
  rw [← hs n, BitVec.and_assoc, gs n]

theorem after (g : t.KeysWritten u) (h : s.KeysWritten t) : s.KeysWritten u := h.trans g

variable (s)

theorem setKeys (k : Receiver) : s.KeysWritten { s with keys := k } := ⟨⟨rfl, rfl, rfl, fun _ => BitVec.and_self⟩, id⟩

theorem addKeySubject (m : Nat) (h : memberMask m &&& ~~~(0x1FF : BitVec 64) = 0) :
    s.KeysWritten (s.addSubject Source.key m) :=
  ⟨⟨rfl, rfl, (s.addSubject_untouched _ m).events⟩, (State.Keeps.addSubject s Source.key m h).members⟩

theorem reAttn : s.KeysWritten s.reAttn := ⟨⟨rfl, rfl, rfl, fun _ => BitVec.and_self⟩, id⟩

theorem openFor (r : Option KeyRole) : s.KeysWritten (s.openFor r) := by
  rcases r with _ | _ | _
  · exact refl s
  iterate 2 exact ⟨⟨rfl, rfl, rfl, fun _ => BitVec.and_self⟩, id⟩

theorem endLearning (x : KeyState) (r : LearnResult) : s.KeysWritten (s.endLearning x r) := by
  unfold State.endLearning
  split
  · exact .after (addKeySubject _ _ (memberMask_key _)) (.after (setKeys _ _) (setKeys _ _))
  · exact setKeys _ _

theorem learnSample (x : Sample) : s.KeysWritten (s.learnSample x) := by
  unfold State.learnSample
  split
  · exact endLearning _ _ _
  · exact setKeys _ _

theorem learnBurst : s.KeysWritten s.learnBurst := by
  unfold State.learnBurst
  split
  · exact setKeys _ _
  · split
    · exact endLearning _ _ _
    · exact setKeys _ _

theorem keyMatch (e : KeyIx) : s.KeysWritten (s.keyMatch e) :=
  .after (openFor _ _) (.after (addKeySubject _ _ (memberMask_key _)) (setKeys _ _))

theorem matchSample (x : Sample) : s.KeysWritten (s.matchSample x) := by
  unfold State.matchSample
  simp only
  split
  · exact keyMatch _ _
  · exact setKeys _ _

theorem judgeBurst : s.KeysWritten s.judgeBurst := by
  unfold State.judgeBurst
  split
  · unfold State.keyFailure
    simp only
    split
    · exact .after (addKeySubject _ _ (by decide)) (setKeys _ _)
    · exact setKeys _ _
  · exact refl s

theorem nextSample (x : Sample) : s.KeysWritten (s.nextSample x) := by
  unfold State.nextSample
  simp only
  split
  · exact .after (learnSample _ _) (setKeys _ _)
  · exact .after (matchSample _ _) (setKeys _ _)
  · exact setKeys _ _

theorem burstSample (x : Sample) : s.KeysWritten (s.burstSample x) := by
  unfold State.burstSample
  split
  · exact refl s
  · split
    · exact .after (nextSample _ _) (setKeys _ _)
    · exact refl s
  · exact nextSample _ _

theorem stretchTaken (d : Nat) : s.KeysWritten (s.stretchTaken d) := by
  unfold State.stretchTaken
  split
  · exact refl s
  · exact .after (reAttn _) (.after (burstSample _ _) (setKeys _ _))

theorem burstTaken : s.KeysWritten s.burstTaken := by
  unfold State.burstTaken
  split
  · exact learnBurst _
  · exact judgeBurst _
  · exact refl s

theorem gapEnd : s.KeysWritten s.gapEnd := by
  unfold State.gapEnd
  simp only
  split
  · exact .after (setKeys _ _) (burstTaken _)
  · exact setKeys _ _

end State.KeysWritten

/-! ### The key laws (R157, R161, R165) -/

section
variable {s : State}

theorem State.learningKey_isSome_iff : s.learningKey.isSome = true ↔
    ∃ e : KeyIx, (s.keyEntry e).state.isLearning = true := by
  simp [State.learningKey, List.find?_isSome, allKeys]

theorem State.learningKey_eq_some {e : KeyIx} (h : s.learningKey = some e) : (s.keyEntry e).state.isLearning = true :=
  List.find?_some (p := fun e => (s.keyEntry e).state.isLearning) h

theorem KeyState.not_valid_of_learning {x : KeyState} (h : x.isLearning = true) : x.isValid = false := by
  cases x <;> simp_all [KeyState.isLearning, KeyState.isValid]

/-- The key laws read the candidates, the failure count, the lockout and the Key Table alone. -/
theorem State.KeyLaw.congr {t : State} (h : s.KeyLaw) (hc : t.keys.candidates = s.keys.candidates)
    (he : t.keys.entries = s.keys.entries) (hf : t.keys.failures = s.keys.failures)
    (hl : t.keys.lockout = s.keys.lockout) : t.KeyLaw := by
  simpa only [State.KeyLaw, State.learningKey, State.keyEntry, hc, he, hf, hl] using h

/-- No candidate stands, and the Key Table is left alone. -/
theorem State.KeyLaw.clear {t : State} (h : s.KeyLaw) (hc : t.keys.candidates = [])
    (he : t.keys.entries = s.keys.entries) (hf : t.keys.failures ≤ 5)
    (hl : t.keys.failures = 5 ↔ t.keys.lockout.isSome = true) : t.KeyLaw := by
  refine ⟨by simp [hc], fun _ => hc, ?_, hf, hl⟩
  simpa only [State.keyEntry, he] using h.2.2.1

/-- Fewer candidates stand, and nothing else the laws read is written. -/
theorem State.KeyLaw.fewer {t : State} (h : s.KeyLaw) (hc : ∀ e ∈ t.keys.candidates, e ∈ s.keys.candidates)
    (he : t.keys.entries = s.keys.entries) (hf : t.keys.failures = s.keys.failures)
    (hl : t.keys.lockout = s.keys.lockout) : t.KeyLaw := by
  have hk : ∀ e, t.keyEntry e = s.keyEntry e := fun e => by simp only [State.keyEntry, he]
  have hn : t.learningKey = s.learningKey := by simp only [State.learningKey, hk]
  obtain ⟨hv, hs, hu, hr⟩ := h
  refine ⟨fun e m => by rw [hk]; exact hv e (hc e m), fun g => ?_, by simpa only [hk] using hu, by rwa [hf, hl]⟩
  rw [hn, hl] at g
  exact List.eq_nil_iff_forall_not_mem.mpr fun e m => by simpa [hs g] using hc e m

/-- One entry is written while no candidate is left that it was, and no other entry LEARNING where it now is. -/
theorem State.KeyLaw.setEntry {t : State} (h : s.KeyLaw) (e : KeyIx) (x : KeyEntry)
    (ht : ∀ f, t.keyEntry f = if e = f then x else s.keyEntry f)
    (hc : ∀ f ∈ t.keys.candidates, f ∈ s.keys.candidates ∧ (f = e → x.state.isValid = true))
    (hx : x.state.isLearning = true → t.keys.candidates = [] ∧ ∀ f, (s.keyEntry f).state.isLearning = false)
    (hf : t.keys.failures = s.keys.failures) (hl : t.keys.lockout = s.keys.lockout) : t.KeyLaw := by
  obtain ⟨hv, hs, hu, hr⟩ := h
  refine ⟨fun f m => ?_, fun g => ?_, fun f g hfl hgl => ?_, by rwa [hf, hl]⟩
  · rw [ht]
    split
    · next k => exact (hc f m).2 k.symm
    · exact hv f (hc f m).1
  · refine List.eq_nil_iff_forall_not_mem.mpr fun f m => ?_
    rw [State.learningKey_isSome_iff, hl] at g
    obtain ⟨k, hk⟩ | g := g
    · rw [ht] at hk
      split at hk
      · simp [(hx hk).1] at m
      · simpa [hs (.inl (State.learningKey_isSome_iff.mpr ⟨k, hk⟩))] using (hc f m).1
    · simpa [hs (.inr g)] using (hc f m).1
  · rw [ht] at hfl hgl
    split at hfl <;> split at hgl
    · next a b => exact a.symm.trans b
    · exact absurd hgl (by simp [(hx hfl).2 g])
    · exact absurd hfl (by simp [(hx hgl).2 f])
    · exact hu f g hfl hgl

theorem State.KeyLaw.endLearning (h : s.KeyLaw) (x : KeyState) (r : LearnResult) (hx : x.isLearning = false) :
    (s.endLearning x r).KeyLaw := by
  unfold State.endLearning
  split
  · next e he =>
    have hc : s.keys.candidates = [] := h.2.1 (.inl (by simp [he]))
    refine h.setEntry e ⟨x, some r⟩ (fun f => s.dropTaker.keyEntry_setKeyEntry e f _) (fun f m => ?_) (fun g => ?_) rfl rfl
    · exact absurd m (by simp [State.addSubject, State.setKeyEntry, State.dropTaker, hc])
    · simp [hx] at g
  · exact h.congr rfl rfl rfl rfl

theorem State.KeyLaw.learnSample (h : s.KeyLaw) (x : Sample) : (s.learnSample x).KeyLaw := by
  unfold State.learnSample
  split
  · exact h.endLearning _ _ rfl
  · exact h.congr rfl rfl rfl rfl

theorem KeyState.learned_not_learning (l : List Sample) (x : KeyState) : (x.learned l).isLearning = false := by
  cases x <;> rfl

theorem State.KeyLaw.learnBurst (h : s.KeyLaw) : s.learnBurst.KeyLaw := by
  unfold State.learnBurst
  split
  · exact h.congr rfl rfl rfl rfl
  · split
    · exact h.endLearning _ _ (KeyState.learned_not_learning _ _)
    · exact h.congr rfl rfl rfl rfl

/-- A candidate stands only while no lockout is in force, so the failure count that a match clears was below 5. -/
theorem State.KeyLaw.matchSample (h : s.KeyLaw) (x : Sample) : (s.matchSample x).KeyLaw := by
  unfold State.matchSample
  simp only
  split
  · next e he =>
    have hm : e ∈ s.keys.candidates := (List.mem_filter.mp (List.mem_of_find?_eq_some he)).1
    have hl : s.keys.lockout = none := by
      by_contra g
      simp [h.2.1 (.inr (Option.isSome_iff_ne_none.mpr g))] at hm
    unfold State.keyMatch State.openFor
    simp only
    split <;> exact h.clear rfl rfl (Nat.zero_le _) (by simp [State.addSubject, State.openTeacher, State.openService, hl])
  · exact h.fewer (fun e m => (List.mem_filter.mp m).1) rfl rfl rfl

theorem State.KeyLaw.nextSample (h : s.KeyLaw) (x : Sample) : (s.nextSample x).KeyLaw := by
  unfold State.nextSample
  simp only
  split
  · refine State.KeyLaw.learnSample ?_ x; exact h.congr rfl rfl rfl rfl
  · refine State.KeyLaw.matchSample ?_ x; exact h.congr rfl rfl rfl rfl
  · exact h.congr rfl rfl rfl rfl

theorem State.KeyLaw.startBurst (h : s.KeyLaw) : s.startBurst.KeyLaw := by
  obtain ⟨-, -, hu, hr⟩ := h
  have hm : s.startBurst.keys.candidates = if s.takerNow = some .matcher then s.validKeys else [] := rfl
  refine ⟨fun e m => ?_, fun g => ?_, hu, hr⟩
  · rw [hm] at m
    split at m
    · exact (List.mem_filter.mp m).2
    · simp at m
  · have hn : s.takerNow ≠ some .matcher := by
      unfold State.takerNow
      obtain g | g := g
      · simp [show s.learningKey.isSome = true from g]
      · split
        · simp
        · simp [Option.isNone_iff_eq_none, Option.isSome_iff_ne_none.mp (show s.keys.lockout.isSome = true from g)]
    rw [hm, if_neg hn]

theorem State.KeyLaw.burstSample (h : s.KeyLaw) (x : Sample) : (s.burstSample x).KeyLaw := by
  unfold State.burstSample
  split
  · exact h
  · split
    · exact h.startBurst.nextSample x
    · exact h
  · exact h.nextSample x

theorem State.KeyLaw.stretchTaken (h : s.KeyLaw) (d : Nat) : (s.stretchTaken d).KeyLaw := by
  unfold State.stretchTaken
  split
  · exact h
  · exact State.KeyLaw.congr (State.KeyLaw.burstSample (h.congr (t := { s with keys := { s.keys with
      stretchHigh := s.keys.irinHigh, gapOvertaken := false } }) rfl rfl rfl rfl) _) rfl rfl rfl rfl

/-- The end of a burst puts the candidates away with it, so that the failure it may count keeps the laws. -/
theorem State.KeyLaw.gapEnd (h : s.KeyLaw) : s.gapEnd.KeyLaw := by
  have rest : ∀ {u : State}, u.KeyLaw → State.KeyLaw { u with keys := u.keys.rest .idle } := fun k =>
    k.clear rfl rfl k.2.2.2.1 k.2.2.2.2
  unfold State.gapEnd State.burstTaken
  simp only
  split
  · split
    · exact rest h.learnBurst
    · unfold State.judgeBurst State.keyFailure
      simp only
      split
      · split
        · exact h.clear rfl rfl le_rfl (by simp [State.addSubject])
        · next hn =>
          have hl : s.keys.lockout.isSome ≠ true := fun g => by have := h.2.2.2.2.mpr g; omega
          exact h.clear rfl rfl (by simp; omega) ⟨fun g => by simp at g; omega, fun g => absurd g hl⟩
      · exact rest h
    · exact rest h
  · exact rest h

end

end Sys2Proof.Machine
end

section
/-! SUPPORT. The meanings of the commands keep the laws that a single write keeps by itself, and every command is taken
whole. -/

namespace Sys2Proof.Machine

set_option Elab.async false

/-- What a command of the Key Receiver writes, with the key laws kept, keeps the other laws too. -/
theorem State.KeysWritten.keeps {s t : State} (h : s.KeysWritten t) (hk : s.KeyLaw → t.KeyLaw) : s.Keeps t := by
  obtain ⟨⟨ht, -, -, -⟩, hm⟩ := h
  refine ⟨by rw [ht], hm, ?_, ?_, ?_, ?_, hk, ?_⟩ <;> intro g <;> rw [ht] <;> exact g

theorem setKey_valid_mem {s : State} {e f : KeyIx} (h : f ∈ (s.dropCandidate e).keys.candidates) :
    f ∈ s.keys.candidates ∧ f ≠ e := by
  simpa [State.dropCandidate] using h

/-- An initial state that ENROL accepts is AWAY, LOANED or HELD, with a holder tag exactly for LOANED (R14, check 1). -/
theorem enrolState?_eq_some {p : EnrolParams} {c : CustodyState} : enrolState? p = some c ↔
    custody? p.initial = some c ∧ (c = .away ∨ c = .loaned ∨ c = .held) ∧ (c = .loaned ↔ p.holder ≠ 0) := by
  unfold enrolState?
  cases custody? p.initial with
  | none => simp
  | some d => by_cases h : p.holder = 0 <;> cases d <;> cases c <;> simp [h]

namespace State.Keeps

variable (s : State)

theorem refuse (x : Status) : s.Keeps (s.refuse x) := respond s x []

/-! ### Resets -/

theorem afterReset_keyLaw {s : State} {high : Bool} (h : s.keys = Receiver.afterReset high) : s.KeyLaw := by
  have he : ∀ e, (s.keyEntry e).state = .empty := fun e => by simp [State.keyEntry, h, Receiver.afterReset]
  refine ⟨by simp [h, Receiver.afterReset], fun _ => by simp [h, Receiver.afterReset], fun e _ g => ?_,
    by simp [h, Receiver.afterReset], by simp [h, Receiver.afterReset]⟩
  simp [he, KeyState.isLearning] at g

/-- The tables that either reset empties meet their laws. -/
theorem of_cleared {t : State} (hp : t.pending = s.pending) (hr : t.roster = State.reset.roster)
    (hl : t.links = State.reset.links) (hs : ∀ n, t.subjectsOf n = 0)
    (hd : s.RangeLaw → 200 ≤ t.budget.defaultTarget ∧ t.budget.defaultTarget ≤ 1000) (hk : s.KeyLaw → t.KeyLaw)
    (hc : s.PeriodLaw → t.PeriodLaw) : s.Keeps t := by
  have hi : ∀ i, t.record i = Record.freeImage := fun i => by simp [State.record, hr, State.reset]
  have hb : ∀ b, t.link b = Link.downValues := fun b => by simp [State.link, hl, State.reset]
  refine ⟨hp, fun _ n => by simp [hs], fun _ => ?_, fun h => ⟨fun i => ?_, fun i => ?_, hd h⟩, fun _ b => ?_, fun _ b => ?_,
    hk, hc⟩
  · rw [State.misplacedLaw_iff]; intro i; rw [hi]; rfl
  · rw [hi]; exact Record.freeImage_range
  · rw [hi]; exact nofun
  · rw [hb]; exact nofun
  · rw [hb]; exact ⟨Fin.zero_le _, trivial⟩

theorem coldReset (straps : BitVec 2) : s.Keeps (s.coldReset straps) :=
  of_cleared s rfl rfl rfl (fun n => by simp [State.subjectsOf, State.coldReset, State.reset, Port.initial])
    (fun _ => ⟨by simp [State.coldReset, State.reset, BudgetSettings.defaults],
      by simp [State.coldReset, State.reset, BudgetSettings.defaults]⟩) (fun _ => afterReset_keyLaw (high := s.keys.irinHigh) rfl)
    fun _ e x => by simp [State.period, State.coldReset, State.reset, DayClock.initial]

theorem warmReset : s.Keeps s.warmReset := by
  have he : ∀ e, (s.warmReset.keyEntry e).state.isLearning = false := fun e => by
    simp only [State.keyEntry, State.warmReset, Receiver.warm, Vector.getElem_ofFn, KeyEntry.warm]
    split
    · rfl
    · exact Bool.eq_false_iff.mpr ‹_›
  refine of_cleared s rfl rfl rfl (fun n => by simp [State.subjectsOf, State.warmReset, Port.warm, Port.reAttn])
    (fun h => h.2.2) (fun _ => ⟨nofun, fun _ => rfl, fun e _ g => ?_, Nat.zero_le _, by simp [State.warmReset]⟩) id
  simp [he] at g

/-! ### The roster -/

theorem enrol (p : EnrolParams) : s.Keeps (s.enrol p) := by
  unfold State.enrol
  split
  · exact refuse _ _
  · next c hc =>
    split
    · next target ready home ht _ hh =>
      split
      · exact refuse _ _
      · split
        · exact refuse _ _
        · next i _ =>
          refine .after (finish _ _ _) (.after (matchEnrol _ _ _) (setRecord _ _ _ fun h => ⟨⟨?_, ?_⟩, ?_⟩))
          · simp only [Record.enrolment]
            cases target with
            | none => exact h.2.2
            | some v =>
              obtain ⟨x, -, hx⟩ : ∃ x, p.target = some x ∧ target? x = some v := by
                cases hp : p.target with
                | none => simp [optional?, hp] at ht
                | some x => exact ⟨x, rfl, by simpa [optional?, hp] using ht⟩
              unfold target? at hx
              split at hx
              · cases hx; assumption
              · simp at hx
          · refine ⟨Nat.zero_le _, Nat.zero_le _, ?_, trivial, trivial, trivial, trivial⟩
            simp only [Record.enrolment]
            split
            · next hold hh' =>
              split at hh'
              · next hl =>
                have hp : p.holder ≠ 0 := (enrolState?_eq_some.mp hc).2.2.mp hl
                cases hh'
                have := p.holder.isLt
                have : p.holder.toNat ≠ 0 := fun g => hp (BitVec.eq_of_toNat_eq g)
                omega
              · simp at hh'
            · trivial
          · intro b hb
            simp only [Record.enrolment] at hb
            cases hp : p.homeBay with
            | none => simp [optional?, hp] at hh; subst hh; simp at hb
            | some x =>
              cases hb
              have hv : s.populatedBay? x.toNat = some b := by simpa [optional?, hp] using hh
              exact ((s.populatedBay?_eq_some _ _).mp hv).2
    · exact refuse _ _

/-- The write of an amendment keeps a record in its ranges, a home bay being a populated bay (R18). -/
theorem amendment {f : AmendField} {v : Option Half} {w : Record → Record} (h : s.amendment f v = some w) (r : Record) :
    (r.RangeLaw → (w r).RangeLaw) ∧
      ((∀ b ∈ r.homeBay, (s.bay b).populated = true) → ∀ b ∈ (w r).homeBay, (s.bay b).populated = true) ∧
      (w r).misplaced = r.misplaced ∧ (w r).flags = r.flags ∧ (w r).currentBay = r.currentBay ∧
      (f ≠ .homeBay → (w r).homeBay = r.homeBay) := by
  unfold State.amendment at h
  split at h
  · obtain ⟨t, ht, rfl⟩ := Option.map_eq_some_iff.mp h
    refine ⟨fun g => ⟨?_, g.2⟩, id, rfl, rfl, rfl, fun _ => rfl⟩
    unfold target? at ht
    split at ht
    · cases ht; assumption
    · simp at ht
  · simp at h
  · obtain ⟨y, -, rfl⟩ := Option.map_eq_some_iff.mp h
    exact ⟨id, id, rfl, rfl, rfl, fun _ => rfl⟩
  · cases h
    exact ⟨id, id, rfl, rfl, rfl, fun _ => rfl⟩
  · obtain ⟨b, hb, rfl⟩ := Option.map_eq_some_iff.mp h
    refine ⟨id, fun _ c hc => ?_, rfl, rfl, rfl, fun g => absurd rfl g⟩
    cases hc
    exact ((s.populatedBay?_eq_some _ _).mp hb).2
  · cases h
    exact ⟨id, fun _ => nofun, rfl, rfl, rfl, fun g => absurd rfl g⟩
  · split at h
    · cases h
      exact ⟨id, id, rfl, rfl, rfl, fun _ => rfl⟩
    · simp at h
  · simp at h
  · split at h
    · simp at h
    · next x hx =>
      cases h
      refine ⟨fun g => ⟨g.1, g.2.1, g.2.2.1, ?_, g.2.2.2.2⟩, id, rfl, rfl, rfl, fun _ => rfl⟩
      have := x.isLt
      have : x.toNat ≠ 0 := fun g => hx (BitVec.eq_of_toNat_eq g)
      simp only
      omega
  · simp at h

theorem writeField {f : AmendField} {v : Option Half} {w : Record → Record} (h : s.amendment f v = some w)
    (i : RecordIx) : s.Keeps (s.writeField f i w) := by
  obtain ⟨hr, hb, hm, hf, hc, hh⟩ := amendment s h (s.record i)
  unfold State.writeField
  split
  · exact setRecord _ _ _ fun g => ⟨hr (g.1 i), hb (g.2.1 i)⟩
  · exact editRecord _ _ _ hr hm hf (hh ‹_›) hc

theorem amend (n f : Byte) (v : Option Half) : s.Keeps (s.amend n f v) := by
  unfold State.amend
  split
  · exact refuse _ _
  · split
    · exact refuse _ _
    · refine ite (refuse _ _) ?_
      split
      · exact refuse _ _
      · next h => exact ite (refuse _ _) (.after (finish _ _ _) (.after (requestPassIf _ _) (writeField s h _)))

theorem writeFlags (i : RecordIx) (x : Byte) : s.Keeps (s.writeFlags i x) :=
  .after (requestPassIf _ _) (modRecord _ _ _ fun h => h.of_same)

theorem changeFlags (n : Byte) (f : Byte → Byte) : s.Keeps (s.changeFlags n f) := by
  unfold State.changeFlags
  split
  · exact refuse _ _
  · exact ite (refuse _ _) (.after (finish _ _ _) (writeFlags _ _ _))

/-- Every selected value of a FILL that is accepted lies in its range (R20, check 4). -/
theorem fillWrite_range {t : FillTemplate} {w : FillWrite} (h : s.fillWrite? t = some w) :
    (∀ v ∈ w.target, 200 ≤ v ∧ v ≤ 1000) ∧ ∀ b, w.homeBay = some (some b) → (s.bay b).populated = true := by
  unfold State.fillWrite? at h
  split at h
  · next target ready home ht _ hh =>
    cases h
    constructor
    · rintro v ⟨⟩
      cases hp : t.target with
      | none => simp [optional?, hp] at ht
      | some x =>
        have hx : target? x = some v := by simpa [optional?, hp] using ht
        unfold target? at hx
        split at hx
        · cases hx; assumption
        · simp at hx
    · rintro b ⟨⟩
      rcases hp : t.homeBay with _ | _ | x
      · simp [optional?, hp] at hh
      · simp [optional?, hp] at hh
      · have hv : s.populatedBay? x.toNat = some b := by simpa [optional?, hp] using hh
        exact ((s.populatedBay?_eq_some _ _).mp hv).2
  · simp at h

theorem fillRecord (w : FillWrite) (i : RecordIx) (ht : ∀ v ∈ w.target, 200 ≤ v ∧ v ≤ 1000)
    (hb : ∀ b, w.homeBay = some (some b) → (s.bay b).populated = true) : s.Keeps (s.fillRecord w i) := by
  have h : s.Keeps ((s.modRecord i w.apply).requestPassIf (w.target.isSome || w.readyBy.isSome)) := by
    refine .after (requestPassIf _ _) (setRecord _ _ _ fun g => ⟨⟨?_, (g.1 i).2⟩, ?_⟩)
    · cases hw : w.target with
      | none => simpa [FillWrite.apply, hw] using (g.1 i).1
      | some v => simpa [FillWrite.apply, hw] using ht v hw
    · cases hw : w.homeBay with
      | none => simpa [FillWrite.apply, hw] using g.2.1 i
      | some x => intro b hx; exact hb b (by simpa [FillWrite.apply, hw] using hx)
  unfold State.fillRecord
  simp only
  split
  · exact .after (writeFlags _ _ _) h
  · exact h

theorem fillRecord_bay (w : FillWrite) (i : RecordIx) (b : BayNo) : (s.fillRecord w i).bay b = s.bay b := by
  unfold State.fillRecord State.writeFlags State.requestPassIf
  simp only
  split <;> split <;> (try split) <;> rfl

theorem fillRecords (w : FillWrite) (ht : ∀ v ∈ w.target, 200 ≤ v ∧ v ≤ 1000) : ∀ (l : List RecordIx) (s : State),
    (∀ b, w.homeBay = some (some b) → (s.bay b).populated = true) → s.Keeps (l.foldl (State.fillRecord w) s)
  | [], s, _ => refl s
  | i :: l, s, hb => (fillRecord s w i ht hb).trans
    (fillRecords w ht l _ fun b h => by rw [fillRecord_bay]; exact hb b h)

theorem fill (n k : Byte) (t : FillTemplate) : s.Keeps (s.fill n k t) := by
  unfold State.fill
  split
  · exact refuse _ _
  · refine ite (refuse _ _) (ite (respond _ _ _) ?_)
    split
    · exact refuse _ _
    · next h =>
      obtain ⟨ht, hb⟩ := fillWrite_range s h
      exact ite (.after (finish _ _ _) (fillRecords _ ht _ s hb)) (respond _ _ _)

theorem hold (n : Byte) : s.Keeps (s.hold n) := by
  unfold State.hold
  split
  · exact refuse _ _
  · exact ite (refuse _ _) (.after (finish _ _ _) (holdByHost _ _))

theorem unholdRecord (i : RecordIx) : s.Keeps (s.unholdRecord i) := by
  have h : s.Keeps (s.editRecord i Record.unheld) := editRecord _ _ _ fun g => ⟨g.1, Nat.zero_le _, g.2.2⟩
  unfold State.unholdRecord
  split
  · exact h
  · exact .after (requestPass _) (.after (receiveInCart _ _) h)

theorem unhold (n : Byte) : s.Keeps (s.unhold n) := by
  unfold State.unhold
  split
  · exact refuse _ _
  · exact ite (refuse _ _) (ite (.after (finish _ _ _) (unholdRecord _ _)) (refuse _ _))

theorem retireDocked (i : RecordIx) : s.Keeps (s.retireDocked i) :=
  .after (requestPassIf _ _) (.after (editRecord _ _ _ fun h => h.of_same) (endSessionOf _ _ _))

theorem retire (n : Byte) : s.Keeps (s.retire n) := by
  unfold State.retire
  split
  · exact refuse _ _
  · split
    iterate 2 exact refuse _ _
    iterate 4 exact .after (finish _ _ _) (freeRecord _ _)
    iterate 2 exact .after (finish _ _ _) (retireDocked _ _)
    exact ite (.after (finish _ _ _) (retireDocked _ _)) (.after (finish _ _ _) (freeRecord _ _))

/-! ### Bays -/

theorem bayDisable (n : Byte) : s.Keeps (s.bayDisable n) := by
  unfold State.bayDisable
  split
  · exact refuse _ _
  · exact ite (refuse _ _) (ite (respond _ _ _) (.after (finish _ _ _) (.after (modBay _ _ _) (emptyBay _ _ _))))

theorem enableBay (b : BayNo) : s.Keeps (s.enableBay b) := by
  unfold State.enableBay
  exact ite (.after (enterBringup _ _) (modBay _ _ _)) (modBay _ _ _)

theorem bayEnable (n : Byte) : s.Keeps (s.bayEnable n) := by
  unfold State.bayEnable
  split
  · exact refuse _ _
  · exact ite (refuse _ _) (ite (respond _ _ _) (.after (finish _ _ _) (enableBay _ _)))

theorem contactArrival (b : BayNo) : s.Keeps (s.contactArrival b) := by
  unfold State.contactArrival
  exact ite (ite (.after (closeChange _) (.after (enterBringup _ _) (modBay _ _ _))) (modBay _ _ _)) (refl s)

theorem contactLoss (b : BayNo) : s.Keeps (s.contactLoss b) := by
  unfold State.contactLoss
  exact ite (ite (modBay _ _ _) (.after (closeChange _) (.after (emptyBay _ _ _) (modBay _ _ _)))) (refl s)

/-! ### The budget -/

theorem budgetSettings (p : Option BudgetSettingsParams) : s.Keeps (s.budgetSettingsRequest p) := by
  unfold State.budgetSettingsRequest
  split
  · exact respond _ _ _
  · next p =>
    split
    · exact refuse _ _
    · next policy _ =>
      refine .after (finish _ _ _) (.after (requestPassIf _ _) (.after (recomputeBudget _) ?_))
      exact ⟨rfl, id, id, fun h => ⟨h.1, h.2.1, clampNat_mem _ (by decide)⟩, id, id, id, id⟩

theorem supplyLimit (v : Bool) : s.Keeps (State.recomputeBudget { s with supplyLimit := v }).closeChange :=
  .after (closeChange _) (.after (recomputeBudget _) of_same)

/-! ### The clock -/

theorem setTime (m : Half) (d : Byte) : s.Keeps (s.setTime m d) := by
  unfold State.setTime
  split
  · exact .after (finish _ _ _) (.after (requestPass _) of_same)
  · exact refuse _ _

/-- The entry a WRITE of SET_PERIOD makes has a day in its mask (R171, check 3). -/
theorem periodWrite_days {p : PeriodParams} {x : PeriodEntry} (h : periodWrite p = .ok x) : x.days ≠ 0 := by
  unfold periodWrite at h
  split at h
  · simp at h
  · split at h
    · next days _ hd =>
      cases h
      unfold dayMask? at hd
      split at hd
      · simp at hd
      · next hn =>
        obtain rfl := Option.some.inj hd
        intro h0
        refine hn ?_
        by_cases h7 : p.days.getLsbD 7 = true
        · exact .inr h7
        · refine .inl (BitVec.eq_of_getLsbD_eq fun k hk => ?_)
          obtain rfl | hk' : k = 7 ∨ k < 7 := by omega
          · simpa using h7
          · have := congrArg (fun v => v.getLsbD k) h0
            simpa [hk'] using this
    · simp at h

theorem periodChange_days {op : Byte} {p : Option PeriodParams} {x : Option PeriodEntry}
    (h : periodChange op p = .ok x) : ∀ y ∈ x, y.days ≠ 0 := by
  unfold periodChange at h
  split at h
  · split at h
    · next q _ =>
      split at h
      · cases hw : periodWrite q with
        | error e => simp [hw, Except.map] at h
        | ok y =>
          simp [hw, Except.map] at h
          subst h
          rintro _ ⟨⟩
          exact periodWrite_days hw
      · simp at h
    · split at h
      · cases h; exact nofun
      · simp at h
  · simp at h

theorem setPeriod (n op : Byte) (p : Option PeriodParams) : s.Keeps (s.setPeriod n op p) := by
  unfold State.setPeriod
  split
  · exact refuse _ _
  · next e _ =>
    split
    · exact refuse _ _
    · next x hx =>
      refine .after (finish _ _ _) (.after (requestPass _) ?_)
      refine ⟨rfl, id, id, id, id, id, id, fun h f y hy => ?_⟩
      have hp : y ∈ if e = f then x else s.period f := by
        simpa [State.period, State.handWindow, DayClock.rewindow, Vector.getElem_set, Fin.ext_iff] using hy
      split at hp
      · exact periodChange_days hx y hp
      · exact h f y hp

theorem overdueRecord (i : RecordIx) : s.Keeps (s.overdueRecord i) := by
  unfold State.overdueRecord
  exact ite (.after (subjectOfRecord _ _ _ (by decide) (by decide)) (editRecord _ _ _ fun h => h.of_same)) (refl s)

theorem fire (l : List (PeriodIx × PeriodKind)) : s.Keeps (s.fire l) := by
  unfold State.fire
  simp only
  have h : s.Keeps (l.foldl (fun t x => t.addSubject Source.boundary x.1.val) s) :=
    foldl (fun t x => addSubject t _ _ (memberMask_period x.1)) l s
  refine .after (requestPassIf _ _) (ite (.after (foldl (fun t i => overdueRecord t i) _ _) (.after of_same h))
    (.after of_same h))

theorem minuteStep : s.Keeps s.minuteStep := by
  unfold State.minuteStep
  simp only
  exact ite of_same (.after (closeChange _) (.after (fire _ _) of_same))

/-! ### Custody -/

theorem custodySettings (p : Option CustodySettingsParams) : s.Keeps (s.custodySettingsRequest p) := by
  unfold State.custodySettingsRequest
  split
  · exact respond _ _ _
  · split
    · exact .after (respond _ _ _) of_same
    · exact refuse _ _

theorem beginRelease (i : RecordIx) (b : BayNo) (h : Half) (hh : h ≠ 0) : s.Keeps (s.beginRelease i b h) := by
  refine .after (placeRequest _ _ _) (.after (setRelease _ _ _) (.after (editRecord _ _ _ fun g => ?_) (endSessionOf _ _ _)))
  refine ⟨g.1, g.2.1, g.2.2.1, ?_, g.2.2.2.2⟩
  have := h.isLt
  have : h.toNat ≠ 0 := fun k => hh (BitVec.eq_of_toNat_eq k)
  simp only
  omega

theorem checkout (n : Byte) (h : Half) (p o : Bool) : s.Keeps (s.checkout n h p o) := by
  unfold State.checkout
  split
  · exact refuse _ _
  · split
    · exact refuse _ _
    · next hh =>
      split
      · exact refuse _ _
      · exact refuse _ _
      · exact .after (finish _ _ _) (beginRelease _ _ _ _ hh)

theorem cancelRelease (n : Byte) : s.Keeps (s.cancelRelease n) := by
  unfold State.cancelRelease
  split
  · exact refuse _ _
  · split
    · exact .after (finish _ _ _) (lapseRelease _ _ _)
    · exact refuse _ _

theorem latchRequest (n d : Byte) : s.Keeps (s.latchRequest n d) := by
  unfold State.latchRequest
  split
  · exact refuse _ _
  · split
    · exact refuse _ _
    · exact ite (refuse _ _) (ite (refuse _ _) (ite (refuse _ _) (.after (finish _ _ _) (placeRequest _ _ _))))

theorem closeService : s.Keeps s.closeService := .after (foldl (fun t b => placeRequest t b .lock) _ _) of_same

theorem serviceWindowExpiry : s.Keeps s.serviceWindowExpiry := by
  unfold State.serviceWindowExpiry
  split
  · exact refl s
  · exact ite of_same (.after (closeChange _) (closeService _))

theorem serviceRise : s.Keeps s.serviceRise := by
  unfold State.serviceRise
  simp only
  have h : s.Keeps (s.openService.addSubject Source.service 0) := .after (addSubject _ _ _ (by decide)) of_same
  exact ite h (.after (foldl (fun t b => placeRequest t b .unlock) _ _) (.after of_same h))

theorem serviceEdge : s.Keeps s.serviceEdge := by
  unfold State.serviceEdge
  simp only
  exact ite (refl s) (ite (.after (closeChange _) (.after (serviceRise _) of_same)) of_same)

theorem releaseWindowExpiry (b : BayNo) : s.Keeps (s.releaseWindowExpiry b) := by
  unfold State.releaseWindowExpiry
  split
  · exact .after (closeChange _) (lapseRelease _ _ _)
  · exact refl s
  · exact refl s

theorem latchSwitchChange (b : BayNo) (x y : Bool) : s.Keeps (s.latchSwitchChange b x y) := by
  have h : s.Keeps (s.setSwitches b x y) := modBay _ _ _
  unfold State.latchSwitchChange
  simp only
  split
  · exact refl s
  · split
    · exact ite (.after (closeChange _) (.after (driveSuccess _ _ _) h)) h
    · exact .after (closeChange _) (.after (slotService _) (.after (setLatch _ _ _) h))

theorem driveTimeout (k : SlotNo) : s.Keeps (s.driveTimeout k) := by
  unfold State.driveTimeout
  split
  · exact .after (closeChange _) (driveFailure _ _ _)
  iterate 2 exact refl s

/-! ### Dock lines -/

theorem reachPoll (b : BayNo) : s.Keeps (s.reachPoll b) := .after (pumpLink _ _) (modLink _ _ _ .of_same)

/-- The links rewritten, under link settings of their own. -/
theorem setLinks (v : LinkSettings) (k : Vector Link 36)
    (hk : ∀ b : BayNo, (s.link b).SweepRight → k[b.val].SweepRight)
    (hr : ∀ b : BayNo, (s.link b).RateRight s.linkSettings.maxStep → k[b.val].RateRight v.maxStep) :
    s.Keeps { s with linkSettings := v, links := k } where
  pending := rfl
  members h := h
  misplaced h := h
  range h := h
  sweep h b := hk b (h b)
  rate h b := hr b (h b)
  key h := h
  period h := h

theorem writeLinkSettings (t : LinkSettings) : s.Keeps (s.writeLinkSettings t) := by
  have h : s.Keeps { s with linkSettings := t, links := Vector.ofFn fun b => (s.link b).bringDown t.maxStep } := by
    refine setLinks s t _ (fun b h => ?_) fun b h => ?_
    · simpa using (Link.Keeps.bringDown (s.link b) t.maxStep).sweep h
    · simpa using (s.link b).bringDown_rateRight h
  unfold State.writeLinkSettings
  exact ite (.after (foldl (fun u b => reachPoll u b) _ _) h) h

theorem linkSettings (p : Option LinkSettingsParams) : s.Keeps (s.linkSettingsRequest p) := by
  unfold State.linkSettingsRequest
  split
  · exact respond _ _ _
  · exact .after (respond _ _ _) (writeLinkSettings _ _)

theorem resetLink (b : BayNo) : s.Keeps (s.resetLink b) := by
  have h : s.Keeps (s.modLink b (Link.beginBringup true)) := modLink _ _ _ (.beginBringup _ _ _)
  unfold State.resetLink
  simp only
  split
  · split
    · exact .after (modBay _ _ _) h
    · exact .after (requestPass _) (.after (enterBringup _ _) (ite (.after (releasePartner _ _) h) h))
  · exact h

theorem linkReset (n : Byte) : s.Keeps (s.linkReset n) := by
  unfold State.linkReset
  split
  · exact refuse _ _
  · exact ite (.after (finish _ _ _) (resetLink _ _)) (refuse _ _)

theorem lineTest (n : Byte) (r : LineReadings) : s.Keeps (s.lineTest n r) := by
  unfold State.lineTest
  split
  · exact refuse _ _
  · exact ite (respond _ _ _) (refuse _ _)

/-- A reply whose kind the exchange in progress calls for is taken; the proof of the taking knows that exchange. -/
theorem takeReply (b : BayNo) (kind : Byte) (f : Exchange → State)
    (h : ∀ x, (s.link b).exchange = some x → x.calls kind = true → s.Keeps (f x)) : s.Keeps (s.takeReply b kind f) := by
  unfold State.takeReply
  split
  · exact refl s
  · next x hx =>
    split
    · exact h x hx ‹_›
    · exact failExchange _ _

theorem takeIdent (b : BayNo) (p : IdentReply) : s.Keeps (s.takeIdent b (Ident.ofReply p)) :=
  .after (pumpLink _ _) (.after (closeChange _) (.after (modLink _ _ _ (.afterIdent _ _ _ _)) (.after (superviseIdent _ _ _)
    (modLink _ _ _ (.of_lower (by simp) le_rfl)))))

theorem takeEcho (b : BayNo) (v : BitVec 64) (h : (s.link b).exchange = some .train) : s.Keeps (s.takeEcho b v) :=
  .after (pumpLink _ _) (modLink _ _ _ (.judgeTap _ _ _ _ h))

theorem writeTelemetry (b : BayNo) (i : RecordIx) (p : TelemetryReply) :
    s.Keeps (s.writeTelemetry b i (Telemetry.ofReply p)) := by
  refine .after (requestPassIf _ _) (.after (setEntry _ _ _) (editRecord _ _ _ fun h => ?_))
  exact ⟨h.1, h.2.1, h.2.2.1, h.2.2.2.1, (clampNat_mem _ (Nat.zero_le _)).2, clampInt_mem _ (by decide), h.2.2.2.2.2.2⟩

theorem answerVerify (b : BayNo) (g : Byte) : s.Keeps (s.answerVerify b g) := by
  unfold State.answerVerify
  exact ite (.after (verificationAnswered _ _ _) (modLink _ _ _ .of_same)) (refl s)

theorem takeTelemetry (b : BayNo) (p : TelemetryReply) : s.Keeps (s.takeTelemetry b (Telemetry.ofReply p)) := by
  have h : s.Keeps (s.modLink b fun l => l.exchangeDone.countTelemetry) :=
    modLink _ _ _ (.of_lower (by simp [Link.countTelemetry, Link.exchangeDone]) le_rfl)
  refine .after (pumpLink _ _) (.after (closeChange _) (.after (answerVerify _ _ _) ?_))
  split
  · exact .after (writeTelemetry _ _ _ _) h
  · exact h

theorem reportCustody (b : BayNo) (o : OrderOutcome) (x : Option CustodyOrder) : s.Keeps (s.reportCustody b o x) := by
  unfold State.reportCustody
  split
  · exact releaseReported _ _ _
  iterate 2 exact refl s

theorem reportLane (b : BayNo) (d : Bool) (x : Option LaneOrder) : s.Keeps (s.reportLane b d x) := by
  unfold State.reportLane
  split
  · exact ite (wakeDelivered _ _ _) (wakeRefused _ _ _)
  iterate 2 exact refl s

theorem endOrder (b : BayNo) (d : Bool) (x : Exchange) : s.Keeps (s.endOrder b d x) := by
  refine .after (pumpLink _ _) (.after (closeChange _) ?_)
  split
  · exact .after (reportCustody _ _ _ _) (modLink _ _ _ (.of_lower (by simp [Link.exchangeDone]) le_rfl))
  · exact .after (reportLane _ _ _ _) (modLink _ _ _ (.of_lower (by simp [Link.exchangeDone]) le_rfl))
  iterate 3 exact refl s

/-! ### Keys -/

theorem keySettings (p : Option KeySettingsParams) : s.Keeps (s.keySettingsRequest p) := by
  unfold State.keySettingsRequest
  split
  · exact respond _ _ _
  · split
    · refine .after (respond _ _ _) ((State.KeysWritten.setKeys _ _).keeps fun h => ?_)
      obtain ⟨-, -, e⟩ | ⟨-, e⟩ := s.keys.write_cases _ _ _ _ <;> rw [e]
      · exact h.congr rfl rfl rfl rfl
      · exact h.clear rfl rfl h.2.2.2.1 h.2.2.2.2
    · exact refuse _ _

theorem learnKey (n r t : Byte) : s.Keeps (s.learnKey n r t) := by
  unfold State.learnKey
  split
  · exact refuse _ _
  · next e _ =>
    split
    · exact refuse _ _
    · next r _ =>
      refine ite (refuse _ _) ?_
      split
      · exact refuse _ _
      · next hn =>
        have hf : ∀ f, (s.keyEntry f).state.isLearning = false := fun f => by
          by_contra g
          exact hn (State.learningKey_isSome_iff.mpr ⟨f, by simpa using g⟩)
        refine .after (respond _ _ _) ((State.KeysWritten.after (.setKeys _ _) (.after (.setKeys _ _)
          (.setKeys _ _))).keeps fun h => ?_)
        exact h.setEntry e _ (fun f => s.dropTaker.keyEntry_setKeyEntry e f _) nofun (fun _ => ⟨rfl, hf⟩) rfl rfl

theorem setKey (n : Byte) (p : SetKeyParams) : s.Keeps (s.setKey n p) := by
  unfold State.setKey
  split
  · exact refuse _ _
  · next e _ =>
    split
    · exact refuse _ _
    · refine ite (refuse _ _) ?_
      split
      iterate 2 exact refuse _ _
      refine ite (.after (respond _ _ _) ((State.KeysWritten.after (.setKeys _ _) (.setKeys _ _)).keeps fun h => ?_))
        (refuse _ _)
      exact h.setEntry e _ (fun f => s.keyEntry_setKeyEntry e f _)
        (fun f m => ⟨(setKey_valid_mem m).1, fun _ => rfl⟩) nofun rfl rfl

theorem eraseKey (n : Byte) : s.Keeps (s.eraseKey n) := by
  unfold State.eraseKey
  split
  · exact refuse _ _
  · next e _ =>
    split
    · exact respond _ _ _
    · refine .after (respond _ _ _) ((State.KeysWritten.after (.setKeys _ _) (.setKeys _ _)).keeps fun h => ?_)
      exact h.setEntry e _ (fun f => s.keyEntry_setKeyEntry e f _)
        (fun f m => ⟨(setKey_valid_mem m).1, fun k => absurd k (setKey_valid_mem m).2⟩) nofun rfl rfl
    · next r w x he =>
      refine .after (respond _ _ _) ((State.KeysWritten.after (.setKeys _ _) (.setKeys _ _)).keeps fun h => ?_)
      have hc : s.keys.candidates = [] := h.2.1 (.inl (State.learningKey_isSome_iff.mpr ⟨e, by rw [he]; rfl⟩))
      refine h.setEntry e _ (fun f => s.dropTaker.keyEntry_setKeyEntry e f _) (fun f m => ?_) nofun rfl rfl
      exact absurd m (by simp [State.dropTaker, hc])

theorem lockoutExpiry (h : s.keys.lockout.isSome = true) :
    s.Keeps { s with keys := { s.keys with lockout := none, failures := 0 } } :=
  (State.KeysWritten.setKeys _ _).keeps fun k => k.clear (k.2.1 (.inr h)) rfl (Nat.zero_le _) (by simp)

/-! ### Lanes, outputs and the port -/

theorem laneSettings (p : Option LaneSettingsParams) : s.Keeps (s.laneSettingsRequest p) := by
  unfold State.laneSettingsRequest
  split
  · exact respond _ _ _
  · split
    · exact refuse _ _
    · exact .after (finish _ _ _) of_same

theorem laneDone (n g : Byte) : s.Keeps (s.laneDone n g) := by
  unfold State.laneDone
  split
  · exact refuse _ _
  · split
    · exact refuse _ _
    · exact ite (.after (finish _ _ _) (closeSession _ _ _ _)) (refuse _ _)

theorem laneCancel (n : Byte) : s.Keeps (s.laneCancel n) := by
  unfold State.laneCancel
  split
  · exact refuse _ _
  · split
    · exact refuse _ _
    · exact ite (refuse _ _) (.after (finish _ _ _) (endSession _ _ _))

theorem wakeTimeout (l : LaneNo) : s.Keeps (s.wakeTimeout l) := by
  unfold State.wakeTimeout
  split
  · exact ite (.after (closeChange _) (endSession _ _ _)) (refl s)
  · exact refl s

theorem sessionTimeout (l : LaneNo) : s.Keeps (s.sessionTimeout l) := by
  unfold State.sessionTimeout
  split
  · exact ite (.after (closeChange _) (endSession _ _ _)) (refl s)
  · exact refl s

theorem countSecond : s.Keeps s.countSecond := of_same

theorem accountBay (b : BayNo) : s.Keeps (s.accountBay b) := by
  unfold State.accountBay
  split
  · exact refl s
  · exact .after (editRecord _ _ _ fun h => ⟨h.1, h.2.1, Nat.min_le_left _ _, h.2.2.2⟩) (setOutput _ _ _)

theorem eventAck (n : Byte) (x : BitVec 64) : s.Keeps (s.eventAck n x) := by
  unfold State.eventAck
  split
  · exact refuse _ _
  · next n _ =>
    refine ite (refuse _ _) (.after (respond _ _ _) ⟨rfl, fun h k => ?_, id, id, id, id, id, id⟩)
    have e : State.subjectsOf { s with port := s.port.ack n x } k =
        if n = k then s.subjectsOf n &&& ~~~x else s.subjectsOf k := by
      simp only [State.subjectsOf, Port.ack, Port.reAttn, Vector.getElem_set, Fin.ext_iff]
    rw [e]
    split
    · next g => subst g; rw [BitVec.and_assoc, BitVec.and_comm (~~~x), ← BitVec.and_assoc, h n]; simp
    · exact h k

theorem eventEnable (e : Option (BitVec 24)) : s.Keeps (s.eventEnable e) := by
  unfold State.eventEnable
  split
  · exact respond _ _ _
  · exact ite (.after (respond _ _ _) of_same) (refuse _ _)

end State.Keeps

/-! ### Every command -/

open State.Keeps in
/-- Every command answers a next state, and keeps the laws that a single write keeps by itself. -/
theorem exec_keeps (c : Instr) (s : State) : ∃ t, exec c s = .next t ∧ s.Keeps t := by
  cases c with
  | coldReset v => exact ⟨_, rfl, coldReset s v⟩
  | csNAsserted => exact ⟨_, rfl, of_same⟩
  | emptyTransaction l => exact ⟨_, rfl, respond _ _ _⟩
  | malformedRequest l => exact ⟨_, rfl, refuse _ _⟩
  | enrol p => exact ⟨_, rfl, enrol s p⟩
  | find x =>
    simp only [exec, execFind]
    split
    · exact ⟨_, rfl, respond _ _ _⟩
    · exact ⟨_, rfl, refuse _ _⟩
  | readRecord n =>
    simp only [exec, execReadRecord]
    split
    · exact ⟨_, rfl, respond _ _ _⟩
    · exact ⟨_, rfl, refuse _ _⟩
  | list c n =>
    simp only [exec, execList]
    split
    · exact ⟨_, rfl, refuse _ _⟩
    · split
      · exact ⟨_, rfl, refuse _ _⟩
      · exact ⟨_, rfl, respond _ _ _⟩
  | amend n f v => exact ⟨_, rfl, amend s n f v⟩
  | flagSwap n f => exact ⟨_, rfl, changeFlags s n _⟩
  | flagAnd n f => exact ⟨_, rfl, changeFlags s n _⟩
  | flagOr n f => exact ⟨_, rfl, changeFlags s n _⟩
  | fill n k t => exact ⟨_, rfl, fill s n k t⟩
  | hold n => exact ⟨_, rfl, hold s n⟩
  | unhold n => exact ⟨_, rfl, unhold s n⟩
  | retire n => exact ⟨_, rfl, retire s n⟩
  | bayDisable n => exact ⟨_, rfl, bayDisable s n⟩
  | bayEnable n => exact ⟨_, rfl, bayEnable s n⟩
  | readBay n =>
    simp only [exec, execReadBay]
    split
    · exact ⟨_, rfl, respond _ _ _⟩
    · exact ⟨_, rfl, refuse _ _⟩
  | linkSettings p => exact ⟨_, rfl, linkSettings s p⟩
  | linkReset n => exact ⟨_, rfl, linkReset s n⟩
  | lineTest n r => exact ⟨_, rfl, lineTest s n r⟩
  | budgetSettings p => exact ⟨_, rfl, budgetSettings s p⟩
  | budgetRead n =>
    simp only [exec, execBudgetRead]
    split
    · exact ⟨_, rfl, respond _ _ _⟩
    · exact ⟨_, rfl, refuse _ _⟩
  | laneSettings p => exact ⟨_, rfl, laneSettings s p⟩
  | laneDone n g => exact ⟨_, rfl, laneDone s n g⟩
  | laneCancel n => exact ⟨_, rfl, laneCancel s n⟩
  | laneRead => exact ⟨_, rfl, respond _ _ _⟩
  | queueRead n =>
    simp only [exec, execQueueRead]
    split
    · exact ⟨_, rfl, respond _ _ _⟩
    · exact ⟨_, rfl, refuse _ _⟩
  | custodySettings p => exact ⟨_, rfl, custodySettings s p⟩
  | checkout n h p o => exact ⟨_, rfl, checkout s n h p o⟩
  | cancelRelease n => exact ⟨_, rfl, cancelRelease s n⟩
  | latch n d => exact ⟨_, rfl, latchRequest s n d⟩
  | custodyRead n =>
    simp only [exec, execCustodyRead]
    split
    · exact ⟨_, rfl, respond _ _ _⟩
    · exact ⟨_, rfl, refuse _ _⟩
  | keySettings p => exact ⟨_, rfl, keySettings s p⟩
  | learnKey n r t => exact ⟨_, rfl, learnKey s n r t⟩
  | setKey n p => exact ⟨_, rfl, setKey s n p⟩
  | eraseKey n => exact ⟨_, rfl, eraseKey s n⟩
  | keyRead n =>
    simp only [exec, execKeyRead]
    split
    · exact ⟨_, rfl, respond _ _ _⟩
    · exact ⟨_, rfl, refuse _ _⟩
  | setTime m d => exact ⟨_, rfl, setTime s m d⟩
  | setPeriod n o p => exact ⟨_, rfl, setPeriod s n o p⟩
  | clockRead => exact ⟨_, rfl, respond _ _ _⟩
  | periodRead => exact ⟨_, rfl, respond _ _ _⟩
  | selfTest => exact ⟨_, rfl, respond _ _ _⟩
  | partReset => exact ⟨_, rfl, warmReset s⟩
  | eventSummary => exact ⟨_, rfl, respond _ _ _⟩
  | eventRead n =>
    simp only [exec, execEventRead]
    split
    · exact ⟨_, rfl, respond _ _ _⟩
    · exact ⟨_, rfl, refuse _ _⟩
  | eventAck n x => exact ⟨_, rfl, eventAck s n x⟩
  | eventEnable e => exact ⟨_, rfl, eventEnable s e⟩
  | rawContactChange b v => exact ⟨_, rfl, modBay _ _ _⟩
  | contactArrival b => exact ⟨_, rfl, contactArrival s b⟩
  | contactLoss b => exact ⟨_, rfl, contactLoss s b⟩
  | restEnd b =>
    simp only [exec, execRestEnd]
    split
    · exact ⟨_, rfl, modLink _ _ _ (.of_lower (by simp [Link.sendHello]) le_rfl)⟩
    · exact ⟨_, rfl, refl s⟩
  | identTaken b p => exact ⟨_, rfl, takeReply s b _ _ fun _ _ _ => takeIdent s b p⟩
  | echoTaken b v =>
    refine ⟨_, rfl, takeReply s b _ _ fun x hx hc => takeEcho s b v ?_⟩
    cases x <;> simp_all [Exchange.calls]
  | telemetryTaken b p => exact ⟨_, rfl, takeReply s b _ _ fun _ _ _ => takeTelemetry s b p⟩
  | ackTaken b => exact ⟨_, rfl, takeReply s b _ _ fun x _ _ => endOrder s b true x⟩
  | nakTaken b r => exact ⟨_, rfl, takeReply s b _ _ fun x _ _ => endOrder s b false x⟩
  | badFrame b l =>
    simp only [exec, execBadFrame]
    split
    · exact ⟨_, rfl, refl s⟩
    · split
      · exact ⟨_, rfl, refl s⟩
      · exact ⟨_, rfl, failExchange s b⟩
  | replyTimeout b =>
    simp only [exec, execReplyTimeout]
    split
    · exact ⟨_, rfl, refl s⟩
    · exact ⟨_, rfl, failExchange s b⟩
  | pollInstant b =>
    simp only [exec, execPollInstant]
    split
    · exact ⟨_, rfl, reachPoll s b⟩
    · exact ⟨_, rfl, refl s⟩
  | supplyLimitChange v => exact ⟨_, rfl, supplyLimit s v⟩
  | settledReport b v => exact ⟨_, rfl, .after (closeChange _) (setOutput _ _ _)⟩
  | settleTimeout b =>
    simp only [exec, execSettleTimeout]
    split
    · exact ⟨_, rfl, .after (closeChange _) (cut _ _)⟩
    · exact ⟨_, rfl, refl s⟩
  | stageFaultSignal b =>
    simp only [exec, execStageFaultSignal]
    split
    · exact ⟨_, rfl, .after (closeChange _) (cut _ _)⟩
    · exact ⟨_, rfl, refl s⟩
  | energyAccountingTick => exact ⟨_, rfl, .after (countSecond _) (foldl (fun t b => accountBay t b) _ s)⟩
  | wakeTimeout l => exact ⟨_, rfl, wakeTimeout s l⟩
  | sessionTimeout l => exact ⟨_, rfl, sessionTimeout s l⟩
  | teacherWindowExpiry => exact ⟨_, rfl, of_same⟩
  | serviceWindowExpiry => exact ⟨_, rfl, serviceWindowExpiry s⟩
  | serviceInputChange v => exact ⟨_, rfl, of_same⟩
  | serviceEdge => exact ⟨_, rfl, serviceEdge s⟩
  | releaseWindowExpiry b => exact ⟨_, rfl, releaseWindowExpiry s b⟩
  | latchSwitchChange b x y => exact ⟨_, rfl, latchSwitchChange s b x y⟩
  | driveTimeout k => exact ⟨_, rfl, driveTimeout s k⟩
  | irinEdge v => exact ⟨_, rfl, (State.KeysWritten.setKeys _ _).keeps fun h => h.congr rfl rfl rfl rfl⟩
  | stretchTaken d => exact ⟨_, rfl, (State.KeysWritten.stretchTaken s d).keeps fun h => h.stretchTaken d⟩
  | gapReached =>
    simp only [exec, execGapReached]
    split
    · exact ⟨_, rfl, refl s⟩
    · split
      · exact ⟨_, rfl, (State.KeysWritten.setKeys _ _).keeps fun h => h.congr rfl rfl rfl rfl⟩
      · exact ⟨_, rfl, (State.KeysWritten.after (.reAttn _) (.gapEnd s)).keeps fun h => h.gapEnd⟩
  | learnTimeout =>
    simp only [exec, execLearnTimeout]
    split
    · exact ⟨_, rfl, (State.KeysWritten.after (.reAttn _) (.endLearning s _ _)).keeps fun h => h.endLearning _ _ rfl⟩
    · exact ⟨_, rfl, refl s⟩
  | lockoutExpiry =>
    simp only [exec, execLockoutExpiry]
    split
    · exact ⟨_, rfl, lockoutExpiry s ‹_›⟩
    · exact ⟨_, rfl, refl s⟩
  | minuteStep =>
    simp only [exec, execMinuteStep]
    split
    · exact ⟨_, rfl, minuteStep s⟩
    · exact ⟨_, rfl, refl s⟩
  | secondsCountTick =>
    simp only [exec, execSecondsCountTick]
    split
    · exact ⟨_, rfl, of_same⟩
    · exact ⟨_, rfl, minuteStep s⟩

theorem State.Keeps.of_exec {c : Instr} {s t : State} (h : exec c s = .next t) : s.Keeps t := by
  obtain ⟨u, hu, hk⟩ := exec_keeps c s
  cases hu.symm.trans h
  exact hk

/-- Settles O11: no command stops, and none writes the queue of commands. -/
theorem everyCommandIsTakenWhole : Obligations.EveryCommandIsTakenWhole := by
  intro c s
  obtain ⟨t, ht, hk⟩ := exec_keeps c s
  exact ⟨t, ht, hk.pending⟩

/-- Settles O4: the key laws and the day masks are among the laws that every command keeps. -/
theorem keyLawsAreKept : Obligations.KeyLawsAreKept :=
  ⟨fun _ _ _ hs h => (State.Keeps.of_exec h).key hs, fun _ _ _ hs h => (State.Keeps.of_exec h).period hs⟩

end Sys2Proof.Machine
end

section
/-! SUPPORT. The requests that only read: what a refused operand is, the lookups and LIST, and the settling of O10, O12, O13
and O15. -/

namespace Sys2Proof.Machine

set_option Elab.async false

/-- Settles O10, by the two shapes of the queue. -/
theorem stepRunsTheFrontCommand : Obligations.StepRunsTheFrontCommand := by
  refine ⟨fun c rest s h => ?_, fun s h => ?_⟩ <;> rw [step, h]

/-! ### Operands -/

section
variable {b : Byte}

theorem recordIx?_of_eq {i : RecordIx} (h : b.toNat = i.val) : recordIx? b = some i := index?_eq_some_iff.mpr h
theorem recordIx?_of_ge (h : 64 ≤ b.toNat) : recordIx? b = none := index?_eq_none_iff.mpr h
theorem bayNo?_of_eq {c : BayNo} (h : b.toNat = c.val) : bayNo? b = some c := index?_eq_some_iff.mpr h
theorem bayNo?_of_ge (h : 36 ≤ b.toNat) : bayNo? b = none := index?_eq_none_iff.mpr h
theorem laneNo?_of_eq {l : LaneNo} (h : b.toNat = l.val) : laneNo? b = some l := index?_eq_some_iff.mpr h
theorem laneNo?_of_ge (h : 4 ≤ b.toNat) : laneNo? b = none := index?_eq_none_iff.mpr h
theorem keyIx?_of_eq {e : KeyIx} (h : b.toNat = e.val) : keyIx? b = some e := index?_eq_some_iff.mpr h
theorem keyIx?_of_ge (h : 8 ≤ b.toNat) : keyIx? b = none := index?_eq_none_iff.mpr h
theorem periodIx?_of_eq {e : PeriodIx} (h : b.toNat = e.val) : periodIx? b = some e := index?_eq_some_iff.mpr h
theorem periodIx?_of_ge (h : 16 ≤ b.toNat) : periodIx? b = none := index?_eq_none_iff.mpr h
theorem sourceNo?_of_eq {n : SourceNo} (h : b.toNat = n.val) : sourceNo? b = some n := index?_eq_some_iff.mpr h
theorem sourceNo?_of_ge (h : 18 ≤ b.toNat) : sourceNo? b = none := index?_eq_none_iff.mpr h

theorem byte_toNat (b : Byte) : byte b.toNat = b := BitVec.ofNat_toNat 8 b

theorem byte_of_eq {n : Nat} (h : b.toNat = n) : byte n = b := h ▸ byte_toNat b

/-- The byte of a custody state's number names that state (R188). -/
theorem custody?_of_eq {c : CustodyState} (h : b.toNat = c.ctorIdx) : custody? b = some c := by
  unfold custody? enum?
  rw [h]
  cases c <;> rfl

theorem enum?_of_ge {α : Type} {values : List α} (h : values.length ≤ b.toNat) : enum? values b = none :=
  List.getElem?_eq_none h

theorem enum?_of_lt {α : Type} {values : List α} (h : b.toNat < values.length) : ∃ x, enum? values b = some x :=
  ⟨_, List.getElem?_eq_getElem h⟩

end

/-! ### FIND and READ_RECORD -/

section
variable {s : State} {x : TabletId} {i : RecordIx}

/-- The lookup by tablet ID finds an enrolled record of that ID (R3, R16). -/
theorem State.findTablet_eq_some (h : s.findTablet x = some i) :
    (s.record i).enrolled = true ∧ (s.record i).tabletId = x := by
  simpa using List.find?_some h

theorem State.findTablet_eq_none_iff :
    s.findTablet x = none ↔ ∀ j : RecordIx, (s.record j).enrolled = true → (s.record j).tabletId ≠ x := by
  simp [State.findTablet, allRecords]

/-- The one enrolled record that holds an ID is the one found (R16). -/
theorem State.findTablet_of_unique (he : (s.record i).enrolled = true) (hx : (s.record i).tabletId = x)
    (hu : ∀ j : RecordIx, (s.record j).enrolled = true → (s.record j).tabletId = x → j = i) : s.findTablet x = some i := by
  cases hf : s.findTablet x with
  | none => exact absurd hx (State.findTablet_eq_none_iff.mp hf i he)
  | some j =>
    obtain ⟨hj, hxj⟩ := State.findTablet_eq_some hf
    rw [hu j hj hxj]

end

/-- Settles O12, by what the lookup of an ID and of an index finds. -/
theorem findAndReadRecordLookUp : Obligations.FindAndReadRecordLookUp := by
  intro s x n i
  refine ⟨fun he hx hu => ?_, fun hn => ?_, fun hi => ?_, fun hn => ?_⟩
  · simp only [Replies, exec, execFind, State.findTablet_of_unique he hx hu, State.respond]
  · simp only [Replies, exec, execFind, State.findTablet_eq_none_iff.mpr hn, State.refuse, State.respond]
  · simp only [Replies, exec, execReadRecord, recordIx?_of_eq hi, byte_of_eq hi, State.respond]
  · simp only [Replies, exec, execReadRecord, recordIx?_of_ge hn, State.refuse, State.respond]

/-! ### LIST -/

theorem allRecords_pairwise : allRecords.Pairwise (· < ·) := List.pairwise_lt_finRange 64

theorem allBays_pairwise : allBays.Pairwise (· < ·) := List.pairwise_lt_finRange 36

/-- A list of members of one byte each: its count and the bytes (R188). -/
theorem listBytes_bytes {α : Type} (f : α → Byte) (l : List α) :
    listBytes (fun x => [f x]) l = byte l.length :: l.map f := by
  rw [listBytes, ← List.map_eq_flatMap]

theorem page_bytes {α : Type} (n : Nat) (f : α → Byte) (l : List α) :
    page n (fun x => [f x]) l = byte (l.take n).length :: (l.take n).map f ++ [mark (decide (n < l.length))] := by
  rw [page, listBytes_bytes]

theorem State.mem_listFrom {s : State} {c : CustodyState} {i j : RecordIx} :
    j ∈ s.listFrom c i ↔ i ≤ j ∧ (s.record j).custody = c := by
  simp [State.listFrom, allRecords]

/-- Settles O13, by what each operand names. -/
theorem listGivesTheRecordsOfAState : Obligations.ListGivesTheRecordsOfAState := by
  intro s c i custody start
  refine ⟨fun hc hi => ⟨s.listFrom c i, allRecords_pairwise.filter _, fun j => State.mem_listFrom, ?_⟩, fun hc _ => ?_,
    fun hc hi => ?_⟩
  · simp only [Replies, exec, execList, custody?_of_eq hc, recordIx?_of_eq hi, State.respond, page_bytes]
  · have hn : custody? custody = none := enum?_of_ge hc
    simp only [Replies, exec, execList, hn, State.refuse, State.respond]
  · obtain ⟨d, hd⟩ : ∃ d, custody? custody = some d := enum?_of_lt hc
    simp only [Replies, exec, execList, hd, recordIx?_of_ge hi, State.refuse, State.respond]

/-! ### LINE_TEST -/

/-- The result code of LINE_TEST is the place of the first failing check in R67's order. -/
theorem lineResult_ctorIdx (r : LineReadings) : byte (lineResult r).ctorIdx =
    if r.clockHigh = false then 0 else if r.clockLow = true then 1 else if r.dataReleased = false then 2
      else if r.dataLow = true then 3 else 4 := by
  obtain ⟨a, b, c, d⟩ := r
  cases a <;> cases b <;> cases c <;> cases d <;> rfl

/-- Settles O15, by the bay's number and then its state. -/
theorem lineTestReportsTheFirstFailure : Obligations.LineTestReportsTheFirstFailure := by
  refine ⟨fun s n r hn => ?_, fun s n b r hb => ⟨fun h => ?_, fun h1 h2 => ?_⟩⟩
  · simp only [Replies, exec, execLineTest, State.lineTest, bayNo?_of_ge hn, State.refuse, State.respond]
  · simp only [Replies, exec, execLineTest, State.lineTest, bayNo?_of_eq hb, if_pos h, lineResult_ctorIdx, State.respond]
  · have h : ¬((s.bay b).state = .empty ∨ (s.bay b).state = .fault) := not_or.mpr ⟨h1, h2⟩
    simp only [Replies, exec, execLineTest, State.lineTest, bayNo?_of_eq hb, if_neg h, State.refuse, State.respond]

end Sys2Proof.Machine
end

section
/-! SUPPORT. The images of records and bays, byte by byte, and the settling of O16. -/

namespace Sys2Proof.Machine

set_option Elab.async false

/-! ### Numbers and marks -/

/-- A weight that stands where a mark is set. -/
theorem weight_eq (b : Bool) (n : Nat) : (if b = true then n else 0) = n * b.toNat := by cases b <;> simp

theorem byte_congr {m n : Nat} (h : m % 256 = n % 256) : byte m = byte n := BitVec.eq_of_toNat_eq (by simpa [byte] using h)

theorem mark_eq (b : Bool) : mark b = if b then 1 else 0 := rfl

/-- Eight bytes, most significant first, read back byte by byte. -/
theorem be64_get (v : BitVec 64) (k : Nat) (h : k < 8) : (be64 v)[k]? = some (v.extractLsb' (56 - 8 * k) 8) := by
  obtain rfl | rfl | rfl | rfl | rfl | rfl | rfl | rfl : k = 0 ∨ k = 1 ∨ k = 2 ∨ k = 3 ∨ k = 4 ∨ k = 5 ∨ k = 6 ∨ k = 7 := by
    omega
  all_goals rfl

/-! ### The record image -/

section
variable (r : Record)

/-- Byte 1 of the record image holds bits 8 to 10 of the presence field (R191). -/
theorem Record.presence_high : byte (r.presence / 256) = byte ((if r.profileHeld.isSome then 1 else 0) +
    (if r.holdReason.isSome then 2 else 0) + (if r.adriftReason.isSome then 4 else 0)) := by
  simp only [Record.presence, bitField, weight_eq]
  have h (b : Bool) := b.toNat_le
  have h0 := h r.homeBay.isSome
  have h1 := h r.currentBay.isSome
  have h2 := h r.holder.isSome
  have h3 := h r.readyBy.isSome
  have h4 := h r.lastCharge.isSome
  have h5 := h r.lastTemp.isSome
  have h6 := h r.capacity.isSome
  have h7 := h r.acceptance.isSome
  congr 1
  omega

/-- Byte 2 of the record image holds bits 0 to 7 of the presence field (R191). -/
theorem Record.presence_low : byte r.presence = byte ((if r.homeBay.isSome then 1 else 0) +
    (if r.currentBay.isSome then 2 else 0) + (if r.holder.isSome then 4 else 0) + (if r.readyBy.isSome then 8 else 0) +
    (if r.lastCharge.isSome then 16 else 0) + (if r.lastTemp.isSome then 32 else 0) +
    (if r.capacity.isSome then 64 else 0) + (if r.acceptance.isSome then 128 else 0)) := by
  simp only [Record.presence, bitField, weight_eq]
  apply byte_congr
  omega

theorem Record.conditions_eq (h : r.failureCount < 8) : byte r.conditions = byte (r.failureCount +
    (if r.provStuck then 8 else 0) + (if r.unsecured then 16 else 0) + (if r.orderUndelivered then 32 else 0) +
    (if r.misplaced then 64 else 0)) := by
  simp only [Record.conditions, bitField, weight_eq]
  congr 1
  omega

/-- A two-byte number of an image, byte by byte; absent reads 0 (R188). -/
theorem opt16_eq {α : Type} (f : α → Nat) (o : Option α) :
    opt16 f o = [byte ((o.map f).getD 0 / 256), byte ((o.map f).getD 0)] := rfl

theorem optByte_byte {α : Type} (f : α → Nat) (o : Option α) : optByte (fun x => byte (f x)) o = byte ((o.map f).getD 0) := by
  cases o <;> rfl

theorem Record.image_eq : r.image =
    byte r.custody.ctorIdx :: byte (r.presence / 256) :: byte r.presence :: (be64 r.tabletId ++
      [byte ((r.homeBay.map Fin.val).getD 0), byte ((r.currentBay.map Fin.val).getD 0),
        byte (r.holder.getD 0 / 256), byte (r.holder.getD 0), byte (r.target / 256), byte r.target,
        byte ((r.readyBy.map Fin.val).getD 0 / 256), byte ((r.readyBy.map Fin.val).getD 0),
        byte (r.lastCharge.getD 0 / 256), byte (r.lastCharge.getD 0), BitVec.ofInt 8 (r.lastTemp.getD 0),
        byte (r.capacity.getD 0 / 256), byte (r.capacity.getD 0), byte (r.acceptance.getD 0 / 256),
        byte (r.acceptance.getD 0), r.profileTarget, r.profileHeld.getD 0, r.flags, byte r.conditions,
        byte ((r.holdReason.map HoldReason.ctorIdx).getD 0), byte ((r.adriftReason.map AdriftReason.ctorIdx).getD 0),
        byte (r.energy / 256), byte r.energy]) := by
  have ht : optByte signedByte r.lastTemp = BitVec.ofInt 8 (r.lastTemp.getD 0) := by cases r.lastTemp <;> rfl
  have hp : optByte id r.profileHeld = r.profileHeld.getD 0 := by cases r.profileHeld <;> rfl
  simp [Record.image, be16, opt16, optByte_byte, ht, hp]

theorem Record.image_tabletId (k : Nat) (h : k < 8) : r.image[3 + k]? = some (r.tabletId.extractLsb' (56 - 8 * k) 8) := by
  have hk : 3 + k = k + 1 + 1 + 1 := by omega
  rw [r.image_eq, hk, List.getElem?_cons_succ, List.getElem?_cons_succ, List.getElem?_cons_succ,
    List.getElem?_append_left (by exact h), be64_get _ _ h]

end

/-! ### The bay image -/

section
variable (s : State) (b : BayNo)

theorem State.bayImage_eq : s.bayImage b =
    byte b.val :: byte (bitField [(s.bay b).populated, (s.bay b).hostDisabled, (s.bay b).contact, (s.bay b).recovery]) ::
      byte (bitField [(s.bay b).record.isSome, (s.bay b).reportedId.isSome, (s.bay b).foreignCause.isSome,
        (s.bay b).partner.isSome, (s.bay b).faultReason.isSome, (s.link b).window.isSome, (s.bay b).lane.isSome]) ::
      byte (s.bay b).state.ctorIdx :: byte (((s.bay b).record.map Fin.val).getD 0) ::
      (be64 ((s.bay b).reportedId.getD 0) ++
        [byte (((s.bay b).foreignCause.map ForeignCause.ctorIdx).getD 0), byte (((s.bay b).partner.map Fin.val).getD 0),
          byte (((s.bay b).faultReason.map FaultReason.ctorIdx).getD 0), byte (s.link b).state.ctorIdx,
          byte (s.link b).step.val, byte (s.link b).tap.val, byte (((s.link b).window.map fun w => w.1.val).getD 0),
          byte (((s.link b).window.map fun w => w.2.val).getD 0), byte (s.bay b).latch.ctorIdx,
          byte (s.output b).charge.ctorIdx, byte ((s.bay b).grant / 256), byte (s.bay b).grant,
          byte ((s.output b).issued / 256), byte (s.output b).issued, byte ((s.output b).settled / 256),
          byte (s.output b).settled, byte (((s.bay b).lane.map Fin.val).getD 0), byte (s.bay b).lamp.ctorIdx,
          byte (((s.bay b).record.map fun i => (s.record i).custody.ctorIdx).getD 0)]) := by
  have hc : (s.namedCustody b).map CustodyState.ctorIdx = (s.bay b).record.map fun i => (s.record i).custody.ctorIdx := by
    rw [State.namedCustody, Option.map_map]
    rfl
  simp [State.bayImage, be16, optByte_byte, hc]

theorem State.bayImage_reportedId (k : Nat) (h : k < 8) :
    (s.bayImage b)[5 + k]? = some (((s.bay b).reportedId.getD 0).extractLsb' (56 - 8 * k) 8) := by
  have hk : 5 + k = k + 1 + 1 + 1 + 1 + 1 := by omega
  rw [s.bayImage_eq, hk]
  iterate 5 rw [List.getElem?_cons_succ]
  rw [List.getElem?_append_left (by exact h), be64_get _ _ h]

end

/-! ### The event snapshot and EVENT_SUMMARY -/

/-- The bit at a place of a bit field is the mark at that place of the list. -/
theorem bitField_testBit (l : List Bool) (k : Nat) : (bitField l).testBit k = l.getD k false := by
  induction l generalizing k with
  | nil => simp [bitField]
  | cons b l ih =>
    cases k with
    | zero => cases b <;> simp [bitField, Nat.testBit_zero]
    | succ k =>
      have hb := b.toNat_le
      have h : (b.toNat + 2 * bitField l) / 2 = bitField l := by omega
      simp [bitField, Nat.testBit_succ, h, ih]

/-- A mask whose members are the non-empty sources is the mask that EVENT_SUMMARY answers (R184). -/
theorem Port.nonEmptySet_eq (p : Port) (set : BitVec 24)
    (h : ∀ n : SourceNo, set.getLsbD n.val = true ↔ p.subjects[n.val] ≠ 0) (hs : set.toNat < 2 ^ 18) :
    BitVec.ofNat 24 p.nonEmptySet = set := by
  apply BitVec.eq_of_getLsbD_eq
  intro k hk
  rw [BitVec.getLsbD_ofNat, Port.nonEmptySet, bitField_testBit]
  by_cases hk8 : k < 18
  · have hb := h ⟨k, hk8⟩
    simp only [hk, decide_true, Bool.true_and]
    have : ((List.finRange 18).map p.nonEmpty).getD k false = p.nonEmpty ⟨k, hk8⟩ := by
      simp [List.getD_eq_getElem?_getD, hk8]
    rw [this, Bool.eq_iff_iff, hb]
    simp [Port.nonEmpty]
  · have hz : set.getLsbD k = false := Nat.testBit_lt_two_pow (hs.trans_le (Nat.pow_le_pow_right (by omega) (not_lt.mp hk8)))
    simp [List.getD_eq_getElem?_getD, hz, not_lt.mp hk8]

/-- Settles O16: each image is spelled out as its list of bytes, and read at each place. -/
theorem recordImageFollowsItsLayout : Obligations.RecordImageFollowsItsLayout := by
  refine ⟨fun r => ?_, fun s b m hm => ?_, fun s n => ⟨rfl, rfl, rfl, fun k hk => ?_⟩, fun s set hset hlt => ?_⟩
  · refine ⟨?_, rfl, congrArg some r.presence_high, congrArg some r.presence_low, r.image_tabletId, ?_⟩
    · rw [r.image_eq]; rfl
    · rw [r.image_eq]
      exact ⟨rfl, rfl, rfl, rfl, rfl, rfl, rfl, rfl, rfl, rfl, rfl, rfl, rfl, rfl, rfl, rfl, rfl, rfl,
        fun h => congrArg some (r.conditions_eq h), rfl, rfl, rfl, rfl⟩
  · subst hm
    have h1 : byte (bitField [(s.bay b).populated, (s.bay b).hostDisabled, (s.bay b).contact, (s.bay b).recovery]) =
        byte ((if (s.bay b).populated then 1 else 0) + (if (s.bay b).hostDisabled then 2 else 0) +
          (if (s.bay b).contact then 4 else 0) + (if (s.bay b).recovery then 8 else 0)) := by
      simp only [bitField, weight_eq]
      congr 1
      omega
    have h2 : byte (bitField [(s.bay b).record.isSome, (s.bay b).reportedId.isSome, (s.bay b).foreignCause.isSome,
        (s.bay b).partner.isSome, (s.bay b).faultReason.isSome, (s.link b).window.isSome, (s.bay b).lane.isSome]) =
        byte ((if (s.bay b).record.isSome then 1 else 0) + (if (s.bay b).reportedId.isSome then 2 else 0) +
          (if (s.bay b).foreignCause.isSome then 4 else 0) + (if (s.bay b).partner.isSome then 8 else 0) +
          (if (s.bay b).faultReason.isSome then 16 else 0) + (if (s.link b).window.isSome then 32 else 0) +
          (if (s.bay b).lane.isSome then 64 else 0)) := by
      simp only [bitField, weight_eq]
      congr 1
      omega
    refine ⟨?_, ?_, ?_, ?_, ?_, ?_, s.bayImage_reportedId b, ?_⟩
    all_goals rw [s.bayImage_eq]
    · rfl
    · rfl
    · exact congrArg some h1
    · exact congrArg some h2
    · rfl
    · rfl
    · exact ⟨rfl, rfl, rfl, rfl, rfl, rfl, rfl, rfl, rfl, rfl, rfl, rfl, rfl, rfl, rfl, rfl, rfl, rfl, rfl⟩
  · rw [Nat.add_comm 2 k]
    exact be64_get _ k hk
  · have he (k : Nat) (h : k + 8 ≤ 24) :
        (s.port.enables.setWidth 24).extractLsb' k 8 = s.port.enables.extractLsb' k 8 := by
      apply BitVec.eq_of_getLsbD_eq
      intro j hj
      have hjk : k + j < 24 := by omega
      simp [hjk]
    rw [Port.eventSummary, s.port.nonEmptySet_eq set hset hlt]
    simp only [be24, BitVec.truncate_eq_setWidth, he 16 le_rfl, he 8 (by omega), he 0 (by omega)]
    rfl

end Sys2Proof.Machine
end

section
/-! SUPPORT. The data of the reading requests, and the settling of O14. -/

namespace Sys2Proof.Machine

set_option Elab.async false

theorem mark_not (b : Bool) : mark (!b) = if b then 0 else 1 := by cases b <;> rfl

/-! ### BUDGET_READ -/

section
variable (s : State)

theorem AllocEntry.bytes_eq (e : AllocEntry) : e.bytes =
    [byte ((if e.chargeSeen.isSome then 1 else 0) + (if e.bandSeen.isSome then 2 else 0) +
        (if e.limit.isSome then 4 else 0) + (if e.energy.isSome then 8 else 0) + (if e.minutes.isSome then 16 else 0) +
        (if e.required.isSome then 32 else 0) + (if e.rank.isSome then 64 else 0)), mark e.hot] ++
      be16 (e.chargeSeen.getD 0) ++ [byte ((e.bandSeen.map Band.ctorIdx).getD 0), byte e.disposition.ctorIdx] ++
      be16 (e.limit.getD 0) ++ be16 (e.energy.getD 0) ++ be16 (e.minutes.getD 0) ++ be16 (e.required.getD 0) ++
      [byte (e.rank.getD 0)] := by
  have hp : byte (bitField [e.chargeSeen.isSome, e.bandSeen.isSome, e.limit.isSome, e.energy.isSome, e.minutes.isSome,
      e.required.isSome, e.rank.isSome]) = byte ((if e.chargeSeen.isSome then 1 else 0) +
        (if e.bandSeen.isSome then 2 else 0) + (if e.limit.isSome then 4 else 0) + (if e.energy.isSome then 8 else 0) +
        (if e.minutes.isSome then 16 else 0) + (if e.required.isSome then 32 else 0) + (if e.rank.isSome then 64 else 0)) := by
    simp only [bitField, weight_eq]
    congr 1
    omega
  have hr : optByte byte e.rank = byte (e.rank.getD 0) := by cases e.rank <;> rfl
  rw [AllocEntry.bytes, hp, hr]
  simp [opt16, optByte_byte]

theorem Reservation.bytes_eq (e : Reservation) : e.bytes =
    (match e.owner with | .latch k => [0, byte k.val] | .lane l => [1, byte l.val] : List Byte) ++ be16 e.amount ++
      [byte e.state.ctorIdx] := by
  obtain ⟨o, n, x⟩ := e
  cases o <;> rfl

theorem Phase.applying_mark (x : Phase) : mark x.applying = if x = .idle then 0 else 1 := by cases x <;> rfl

theorem State.budgetImage_none : s.budgetImage none =
    [if s.phase = .idle then 0 else 1, mark s.passPending, mark s.supplyLimit] ++
      be16 s.effective ++ be16 ((s.reservations.filter fun x => x.state != .pending).map Reservation.amount).sum ++
      be16 s.figures.budget ++ [byte s.figures.count] ++ be16 s.figures.demand ++
      [byte s.figures.result.ctorIdx, byte s.figures.zeroGrants, byte s.reservations.length] ++
      s.reservations.flatMap fun x =>
        (match x.owner with | .latch k => [0, byte k.val] | .lane l => [1, byte l.val] : List Byte) ++ be16 x.amount ++
          [byte x.state.ctorIdx] := by
  have hr : (Reservation.bytes : Reservation → List Byte) = _ := funext Reservation.bytes_eq
  rw [State.budgetImage, Phase.applying_mark, listBytes, hr]
  simp [countedAmount]
  rfl

theorem State.budgetImage_some (b : BayNo) :
    s.budgetImage (some b) = s.budgetImage none ++ ((s.entry b).bytes ++ be16 (s.bay b).grant) := by
  simp [State.budgetImage]

/-! ### LANE_READ and QUEUE_READ -/

theorem Lane.bytes_length (x : Lane) : x.bytes.length = 16 := rfl

/-- The mark bits of a lane without a session. -/
theorem lane_presence_none (x y : Bool) : byte (bitField [false, false, false, false, false, x, x, y]) =
    (if x then 96 else 0) + (if y then 128 else 0) := by cases x <;> cases y <;> rfl

/-- The mark bits of a lane with a session. -/
theorem lane_presence_some (p q x y : Bool) : byte (bitField [true, true, true, p, q, x, x, y]) =
    7 + (if p then 8 else 0) + (if q then 16 else 0) + (if x then 96 else 0) + (if y then 128 else 0) := by
  cases p <;> cases q <;> cases x <;> cases y <;> rfl

theorem Lane.bytes_session (x : Lane) (rest : List Byte) : (x.bytes ++ rest).take 9 = match x.session with
    | none => [0, (if x.last.isSome then 96 else 0) + (if (x.last.bind LastSession.claimed).isSome then 128 else 0),
        0, 0, 0, 0, 0, 0, 1]
    | some y => [byte (y.phase.ctorIdx + 1), 7 + (if y.started.isSome then 8 else 0) +
        (if y.phase.claimed.isSome then 16 else 0) + (if x.last.isSome then 96 else 0) +
        (if (x.last.bind LastSession.claimed).isSome then 128 else 0),
        byte y.bay.val, byte y.record.val, y.sought] ++ be16 ((y.started.map fun v => v.1.val).getD 0) ++
        [byte ((y.started.map fun v => v.2.val).getD 0), if y.phase = .waking then 0 else 1] := by
  obtain ⟨session, last, switch⟩ := x
  cases session with
  | none =>
    simpa [Lane.bytes, Lane.stateCode, optByte, opt16, be16, mark, byte] using lane_presence_none _ _
  | some y =>
    have hw : mark (y.phase.ctorIdx + 1 != 2) = if y.phase = .waking then 0 else 1 := by cases y.phase <;> rfl
    have hd : optByte (fun t : Minute × Day => byte t.2.val) y.started = byte ((y.started.map fun v => v.2.val).getD 0) :=
      optByte_byte (fun t : Minute × Day => t.2.val) y.started
    dsimp only
    rw [← hw, ← hd, ← lane_presence_some]
    rfl

theorem Lane.bytes_timers (x : Lane) (rest : List Byte) : ((x.bytes ++ rest).drop 9).take 3 =
    match x.session.map Session.phase with
    | some (.connected v) => [0, byte v, 0]
    | some (.closing v) => [1, 0, v]
    | some .admitting | some .waking | none => [1, 0, 0] := by
  obtain ⟨session, last, switch⟩ := x
  cases session with
  | none => rfl
  | some y =>
    obtain ⟨phase, -⟩ := y
    cases phase <;> rfl

theorem Lane.bytes_last (x : Lane) (rest : List Byte) : ((x.bytes ++ rest).drop 12).take 4 =
    (match x.last with
      | some y => [byte y.result.ctorIdx, byte y.record.val, y.claimed.getD 0]
      | none => [0, 0, 0] : List Byte) ++ [mark x.switch.isSome] := by
  obtain ⟨session, last, switch⟩ := x
  cases last with
  | none => rfl
  | some y =>
    have hc : optByte id y.claimed = y.claimed.getD 0 := by cases y.claimed <;> rfl
    dsimp only
    rw [← hc]
    rfl

/-- Chunks of one length: the part from chunk k on is what the members from k on give. -/
theorem drop_flatMap_of_length {α : Type} {f : α → List Byte} {n : Nat} (hf : ∀ x, (f x).length = n) (l : List α) (k : Nat) :
    (l.flatMap f).drop (n * k) = (l.drop k).flatMap f := by
  induction k generalizing l with
  | zero => simp
  | succ k ih =>
    cases l with
    | nil => simp
    | cons x l =>
      have h : n * (k + 1) = (f x).length + n * k := by rw [hf, Nat.mul_succ, Nat.add_comm]
      rw [List.flatMap_cons, h, List.drop_append, List.drop_succ_cons]
      simp [ih]

theorem length_flatMap_of_length {α : Type} {f : α → List Byte} {n : Nat} (hf : ∀ x, (f x).length = n) (l : List α) :
    (l.flatMap f).length = n * l.length := by
  simp [List.length_flatMap, hf, Nat.mul_comm]

theorem allLanes_bytes_length : (allLanes.flatMap fun l => (s.lane l).bytes).length = 64 :=
  length_flatMap_of_length (n := 16) (fun _ => rfl) _

/-- The bytes of each lane stand at its place. -/
theorem State.laneImage_lane (l : LaneNo) : ∃ rest, s.laneImage.drop (16 * l.val) = (s.lane l).bytes ++ rest := by
  have hl : l.val ≤ 3 := Nat.le_of_lt_succ l.isLt
  have hd : allLanes.drop l.val = l :: allLanes.drop (l.val + 1) := by
    rw [List.drop_eq_getElem_cons (by simp [allLanes])]
    simp [allLanes]
  rw [State.laneImage, List.append_assoc, List.drop_append_of_le_length (by rw [allLanes_bytes_length]; omega),
    drop_flatMap_of_length (f := fun l => (s.lane l).bytes) (n := 16) (fun _ => rfl), hd, List.flatMap_cons, List.append_assoc]
  exact ⟨_, rfl⟩

theorem State.laneImage_tail : s.laneImage.drop 64 = s.laneSettings.bytes ++
    [if s.laneWindow then 0 else 1, byte s.queue.length, if s.queue = [] then 0 else 1,
      byte ((s.queue.head?.map Fin.val).getD 0)] := by
  have hq : mark s.queue.head?.isSome = if s.queue = [] then 0 else 1 := by cases s.queue <;> rfl
  rw [State.laneImage, List.append_assoc, List.drop_left' (allLanes_bytes_length s), windowCode, mark_not, hq,
    optByte_byte]

theorem State.queueImage_eq (n : Nat) : s.queueImage n =
    byte (min 32 (s.queue.length - n)) :: ((s.queue.drop n).take 32).map (fun j => byte j.val) ++
      [mark (decide (n + 32 < s.queue.length))] := by
  have h : decide (32 < s.queue.length - n) = decide (n + 32 < s.queue.length) := by
    congr 1
    exact propext (by omega)
  rw [State.queueImage, page_bytes, List.length_take, List.length_drop, h]

end

/-! ### CUSTODY_READ -/

section
variable (s : State)

theorem DriveSlot.bytes_eq (k : DriveSlot) : k.bytes = (match k with
    | .free => [0, 0, 0]
    | .reserving q => [1, byte q.bay.val, byte q.direction.ctorIdx]
    | .driving q => [2, byte q.bay.val, byte q.direction.ctorIdx] : List Byte) := by cases k <;> rfl

/-- The bays from a start bay on that hold a release entry (R151). -/
def State.releaseBays (start : BayNo) : List BayNo := allBays.filter fun b => decide (start ≤ b) && (s.release b).isSome

theorem State.mem_releaseBays {start b : BayNo} : b ∈ s.releaseBays start ↔ start ≤ b ∧ (s.release b).isSome = true := by
  simp [State.releaseBays, allBays]

/-- The bytes of bay b's release entry (R151). -/
theorem Release.bytes_eq (now : Nat) (b : BayNo) (e : Release) : e.bytes now b = (match some e with
    | some ⟨i, .unlocking⟩ => [byte b.val, byte i.val, 0, 0, 0, 0]
    | some ⟨i, .opened x o⟩ => [byte b.val, byte i.val, 1] ++ be16 (x - now) ++ [byte o.ctorIdx]
    | none => [] : List Byte) := by
  obtain ⟨i, x⟩ := e
  cases x <;> rfl

/-- The release entries from a start bay on are those of the bays that hold one. -/
theorem State.releasesFrom_eq (start : BayNo) : s.releasesFrom start =
    (s.releaseBays start).map fun b => (b, (s.release b).getD ⟨0, .unlocking⟩) := by
  unfold State.releasesFrom State.releaseBays
  induction allBays with
  | nil => rfl
  | cons b l ih =>
    by_cases hb : start ≤ b
    · cases hr : s.release b <;> simp_all
    · simp_all

/-- A page of release entries, by the bays that hold them. -/
theorem State.releasePage_eq (start : BayNo) : page 24 (fun x => x.2.bytes s.clk32 x.1) (s.releasesFrom start) =
    [byte ((s.releaseBays start).take 24).length] ++ (((s.releaseBays start).take 24).flatMap fun k => (match s.release k with
      | some ⟨i, .unlocking⟩ => [byte k.val, byte i.val, 0, 0, 0, 0]
      | some ⟨i, .opened x o⟩ => [byte k.val, byte i.val, 1] ++ be16 (x - s.clk32) ++ [byte o.ctorIdx]
      | none => [] : List Byte)) ++ [mark (decide (24 < (s.releaseBays start).length))] := by
  have h : ((s.releaseBays start).take 24).flatMap (fun k => ((s.release k).getD ⟨0, .unlocking⟩).bytes s.clk32 k) =
      ((s.releaseBays start).take 24).flatMap fun k => (match s.release k with
        | some ⟨i, .unlocking⟩ => [byte k.val, byte i.val, 0, 0, 0, 0]
        | some ⟨i, .opened x o⟩ => [byte k.val, byte i.val, 1] ++ be16 (x - s.clk32) ++ [byte o.ctorIdx]
        | none => [] : List Byte) := by
    refine List.flatMap_congr fun k hk => ?_
    obtain ⟨-, hr⟩ := s.mem_releaseBays.mp (List.mem_of_mem_take hk)
    obtain ⟨e, he⟩ := Option.isSome_iff_exists.mp hr
    rw [he]
    exact e.bytes_eq _ _
  rw [← h, State.releasesFrom_eq, page, listBytes, ← List.map_take, List.flatMap_map, List.length_map, List.length_map]
  rfl

theorem State.custodyImage_eq (start : BayNo) : s.custodyImage start = s.custodySettings.bytes ++
      [mark s.teacher.isSome] ++ be16 ((s.teacher.map fun w => w.expiry - s.clk32).getD 0) ++
      [mark s.service.isSome] ++ be16 ((s.service.map fun w => w.expiry - s.clk32).getD 0) ++
      [mark s.serviceLevel, byte s.latchQueue.length] ++
      (s.latchQueue.flatMap fun q => [byte q.bay.val, byte q.direction.ctorIdx]) ++
      (([0, 1] : List SlotNo).flatMap fun k => (match s.slot k with
        | .free => [0, 0, 0]
        | .reserving q => [1, byte q.bay.val, byte q.direction.ctorIdx]
        | .driving q => [2, byte q.bay.val, byte q.direction.ctorIdx] : List Byte)) ++
      [byte ((s.releaseBays start).take 24).length] ++
      (((s.releaseBays start).take 24).flatMap fun k => (match s.release k with
        | some ⟨i, .unlocking⟩ => [byte k.val, byte i.val, 0, 0, 0, 0]
        | some ⟨i, .opened x o⟩ => [byte k.val, byte i.val, 1] ++ be16 (x - s.clk32) ++ [byte o.ctorIdx]
        | none => [] : List Byte)) ++ [mark (decide (24 < (s.releaseBays start).length))] := by
  have hs : ((List.finRange 2).flatMap fun k => (s.slot k).bytes) = ([0, 1] : List SlotNo).flatMap fun k =>
      (match s.slot k with
        | .free => [0, 0, 0]
        | .reserving q => [1, byte q.bay.val, byte q.direction.ctorIdx]
        | .driving q => [2, byte q.bay.val, byte q.direction.ctorIdx] : List Byte) :=
    List.flatMap_congr fun k _ => (s.slot k).bytes_eq
  have hq : (LatchRequest.bytes : LatchRequest → List Byte) = fun q => [byte q.bay.val, byte q.direction.ctorIdx] := rfl
  rw [State.custodyImage, State.releasePage_eq, hs, hq]
  simp only [windowBytes, opt16, secondsTo, listBytes, List.append_assoc, List.cons_append, List.nil_append]

end

/-! ### KEY_READ -/

section
variable (s : State) (e : KeyIx)

/-- The part of KEY_READ's data behind the entry (R166). -/
theorem State.keyImage_eq : s.keyImage e = (s.keyEntry e).bytes s.clk32 ++
    ([if s.keys.invert then 1 else 0, byte s.keys.period.ctorIdx, byte s.keys.gapLimit, byte s.keys.burst.ctorIdx,
      byte s.keys.failures, mark s.keys.lockout.isSome] ++ be16 ((s.keys.lockout.map fun v => v - s.clk32).getD 0) ++
      (([0, 1, 2, 3, 4, 5, 6, 7] : List KeyIx).map fun k => byte (s.keyEntry k).state.ctorIdx)) := by
  simp only [State.keyImage, Receiver.settingsBytes, mark_eq, opt16, List.append_assoc, List.cons_append,
    List.nil_append]
  rfl

theorem KeyState.ctorIdx_empty : KeyState.empty.ctorIdx = 0 := rfl

theorem KeyState.ctorIdx_learning (r : KeyRole) (w v : Nat) : (KeyState.learning r w v).ctorIdx = 1 := rfl

theorem KeyState.ctorIdx_valid (r : KeyRole) (p : List Sample) (d w : Nat) (g : List Nat) :
    (KeyState.valid r p d w g).ctorIdx = 2 := rfl

theorem KeyEntry.bytes_empty (now : Nat) (last : Option LearnResult) : (⟨.empty, last⟩ : KeyEntry).bytes now =
    [0, if last.isSome then 64 else 0, 0, 0, 0, 0, 0, 0, 0, byte ((last.map LearnResult.ctorIdx).getD 0)] := by
  cases last <;>
    simp [KeyEntry.bytes, KeyState.pattern?, KeyState.role?, KeyState.tolerance?, KeyState.expiry?, listBytes_bytes,
      optByte, opt16, be16, bitField, byte, KeyState.ctorIdx_empty]

theorem KeyEntry.bytes_learning (now : Nat) (last : Option LearnResult) (r : KeyRole) (w v : Nat) :
    (⟨.learning r w v, last⟩ : KeyEntry).bytes now =
      [1, if last.isSome then 99 else 35, byte r.ctorIdx, byte w, 0, 0, 0] ++ be16 (v - now) ++
        [byte ((last.map LearnResult.ctorIdx).getD 0)] := by
  cases last <;>
    simp [KeyEntry.bytes, KeyState.pattern?, KeyState.role?, KeyState.tolerance?, KeyState.expiry?, listBytes_bytes,
      optByte, opt16, secondsTo, be16, bitField, byte, KeyState.ctorIdx_learning]

theorem KeyEntry.bytes_valid (now : Nat) (last : Option LearnResult) (r : KeyRole) (pattern : List Sample) (d w : Nat)
    (g : List Nat) : (⟨.valid r pattern d w g, last⟩ : KeyEntry).bytes now =
      [2, if last.isSome then 95 else 31, byte r.ctorIdx, byte w, byte pattern.length] ++
        (pattern.map fun y => byte ((if y.mark then 128 else 0) + y.length % 128)) ++ [byte d, byte g.length] ++
        g.map byte ++ [0, 0, byte ((last.map LearnResult.ctorIdx).getD 0)] := by
  have hp : listBytes (fun x : Sample => [x.byte]) pattern =
      byte pattern.length :: pattern.map fun y => byte ((if y.mark then 128 else 0) + y.length % 128) :=
    listBytes_bytes _ _
  cases last <;>
    simp [KeyEntry.bytes, KeyState.pattern?, KeyState.role?, KeyState.tolerance?, KeyState.expiry?, hp, listBytes_bytes,
      optByte, opt16, be16, bitField, byte, KeyState.ctorIdx_valid]

end

/-! ### CLOCK_READ and PERIOD_READ -/

theorem DayClock.image_eq (c : DayClock) : c.image = be16 c.minute.val ++ [byte c.day.val] ++ be16 c.seconds.val ++
    [mark c.timeValid, if c.windowOpen then 0 else 1, mark c.nextDeadline.isSome] ++ be16 (c.nextDeadline.getD 0) := by
  simp only [DayClock.image, windowCode, mark_not, opt16, Option.map_id_fun, id]

theorem periodBytes_eq (e : Option PeriodEntry) : periodBytes e = match e with
    | none => [0, 0, 0, 0, 0]
    | some x => [1] ++ be16 x.minute.val ++ [x.days.setWidth 8, byte x.kind.ctorIdx] := by
  cases e <;> rfl

theorem DayClock.periodImage_length (c : DayClock) : c.periodImage.length = 80 := by
  rw [DayClock.periodImage, length_flatMap_of_length (n := 5) (fun e => by cases e <;> rfl), Vector.length_toList]

theorem DayClock.periodImage_entry (c : DayClock) (e : PeriodIx) :
    (c.periodImage.drop (5 * e.val)).take 5 = periodBytes c.periods[e.val] := by
  have hd : c.periods.toList.drop e.val = c.periods[e.val] :: c.periods.toList.drop (e.val + 1) := by
    rw [List.drop_eq_getElem_cons (by simp)]
    simp
  rw [DayClock.periodImage, drop_flatMap_of_length (n := 5) (fun e => by cases e <;> rfl), hd, List.flatMap_cons]
  exact List.take_left' (by cases c.periods[e.val] <;> rfl)

/-- Settles O14: each request's data by the equation of its image. -/
theorem readingRequestsOnlyReply : Obligations.ReadingRequestsOnlyReply := by
  refine ⟨fun s n b i e m => ?_, fun k => rfl, mark_eq, fun s => ⟨rfl, s.budgetImage_none⟩, fun s n b hb => ?_, fun s => ?_,
    fun s e x last m he hm => ?_, fun s => ?_, fun c => ⟨c.periodImage_length, fun e => ?_⟩⟩
  · refine ⟨fun hb => ⟨?_, ?_⟩, fun hn => ⟨?_, ?_, ?_⟩, fun hi => ?_, fun hn => ?_, fun he => ?_, fun hn => ?_, fun hm => ?_,
      fun hn => ?_, rfl, rfl, rfl, rfl⟩
    · simp only [Replies, exec, execReadBay, bayNo?_of_eq hb, State.respond]
    · simp only [Replies, exec, execBudgetRead, optional?, bayNo?_of_eq hb, Option.map_some, State.respond,
        s.budgetImage_some b, AllocEntry.bytes_eq, List.append_assoc]
    · simp only [Replies, exec, execReadBay, bayNo?_of_ge hn, State.refuse, State.respond]
    · simp only [Replies, exec, execBudgetRead, optional?, bayNo?_of_ge hn, Option.map_none, State.refuse, State.respond]
    · simp only [Replies, exec, execCustodyRead, bayNo?_of_ge hn, State.refuse, State.respond]
    · simp only [Replies, exec, execQueueRead, recordIx?_of_eq hi, State.queueImage_eq, State.respond]
    · simp only [Replies, exec, execQueueRead, recordIx?_of_ge hn, State.refuse, State.respond]
    · simp only [Replies, exec, execKeyRead, keyIx?_of_eq he, State.respond]
    · simp only [Replies, exec, execKeyRead, keyIx?_of_ge hn, State.refuse, State.respond]
    · simp only [Replies, exec, execEventRead, sourceNo?_of_eq hm, State.respond]
    · simp only [Replies, exec, execEventRead, sourceNo?_of_ge hn, State.refuse, State.respond]
  · refine ⟨s.releaseBays b, allBays_pairwise.filter _, fun k => s.mem_releaseBays, ?_⟩
    have h : exec (.custodyRead n) s = .next (s.respond .done (s.custodyImage b)) := by
      simp only [exec, execCustodyRead, bayNo?_of_eq hb]
    exact h.trans (congrArg (fun d => Host.Outcome.next (s.respond .done d)) (s.custodyImage_eq b))
  · refine ⟨?_, fun l => ?_, fun l => ?_, fun l => ?_, s.laneImage_tail⟩
    · rw [State.laneImage, List.append_assoc, List.length_append, allLanes_bytes_length]
      rfl
    all_goals obtain ⟨rest, h⟩ := s.laneImage_lane l
    all_goals rw [h]
    · exact Lane.bytes_session _ _
    · exact Lane.bytes_timers _ _
    · exact Lane.bytes_last _ _
  · subst hm
    rw [State.keyImage_eq, he]
    refine ⟨fun hx => ?_, fun r w v hx => ?_, fun r p d w g hx => ?_⟩ <;> subst hx
    · rw [KeyEntry.bytes_empty]
    · rw [KeyEntry.bytes_learning]
    · rw [KeyEntry.bytes_valid]
  · simp only [Replies, exec, execClockRead, DayClock.image_eq, State.respond]
  · exact (c.periodImage_entry e).trans (periodBytes_eq _)

end Sys2Proof.Machine
end

section
/-! SUPPORT. The part at rest, as every reset leaves it: what it holds, that it meets every law, and the settling of O9 and
O58. -/

namespace Sys2Proof.Machine

set_option Elab.async false

/-! ### The part at rest -/

/-- Nothing is enrolled, docked, driven, powered or waiting: what the cold and the warm reset leave (R24, R45, R50, R89, R108,
R110, R114, R134 to R136, R142). -/
structure State.AtRest (s : State) : Prop where
  record : ∀ i, s.record i = Record.freeImage
  bay : ∀ b, ∃ x : Bay, ∃ latch : LatchPosition, latch ≠ .moving ∧
    s.bay b = Bay.afterReset x.populated x.rawContact x.lockedSwitch x.unlockedSwitch latch
  link : ∀ b, s.link b = Link.downValues
  output : ∀ b, s.output b = Output.initial
  lane : ∀ l, s.lane l = ⟨none, none, none⟩
  slot : ∀ k, s.slot k = .free
  release : ∀ b, s.release b = none
  reservations : s.reservations = []
  queue : s.queue = []
  latchQueue : s.latchQueue = []
  phase : s.phase = .idle

namespace State.AtRest

variable {s : State}

/-- A bay at rest names nothing, is EMPTY or DISABLED, and its latch does not move. -/
theorem bay_fields (h : s.AtRest) (b : BayNo) : ((s.bay b).state = .empty ∨ (s.bay b).state = .disabled) ∧
    (s.bay b).hostDisabled = false ∧ (s.bay b).record = none ∧ (s.bay b).reportedId = none ∧
    (s.bay b).foreignCause = none ∧ (s.bay b).partner = none ∧ (s.bay b).faultReason = none ∧
    (s.bay b).recovery = false ∧ (s.bay b).latch ≠ .moving ∧ (s.bay b).lane = none ∧ (s.bay b).lamp = .off := by
  obtain ⟨x, latch, hl, e⟩ := h.bay b
  rw [e]
  refine ⟨?_, rfl, rfl, rfl, rfl, rfl, rfl, rfl, hl, rfl, rfl⟩
  simp only [Bay.afterReset]
  split
  · exact .inl rfl
  · exact .inr rfl

theorem inv (h : s.AtRest) : s.Inv := by
  refine ⟨⟨⟨fun i b => ?_, fun b hb => ?_⟩, fun i => ?_, ⟨fun b => ?_, fun i hi => ?_⟩, fun b hb => ?_⟩,
    ⟨fun b _ => ?_, fun b hb => ?_, fun b hb => ?_⟩, fun b _ => ?_, fun b hb => ?_⟩
  · obtain ⟨-, -, hr, -⟩ := h.bay_fields b
    simp [h.record, hr, Record.freeImage]
  · obtain ⟨-, -, hr, -⟩ := h.bay_fields b
    simp [hr] at hb
  · rw [h.record]
    exact ⟨rfl, rfl, rfl, rfl⟩
  · rw [h.release]
    trivial
  · simp [h.record, Record.freeImage] at hi
  · obtain ⟨-, hd, -⟩ := h.bay_fields b
    simp [hd] at hb
  · rw [h.output]
    exact ⟨rfl, rfl, rfl, rfl, rfl⟩
  · simp [h.output, Output.commitment, Output.initial] at hb
  · obtain ⟨-, hd, -⟩ := h.bay_fields b
    simp [hd] at hb
  · rw [h.link]
    exact ⟨rfl, rfl, rfl⟩
  · obtain ⟨-, -, -, -, -, hp, -⟩ := h.bay_fields b
    simp [hp] at hb

theorem bayLaw (h : s.AtRest) : s.BayLaw := by
  intro b
  obtain ⟨hs, -, hr, hi, hc, hp, hf, hm, -⟩ := h.bay_fields b
  rcases hs with hs | hs <;> simp [Bay.FieldLaw, hs, hr, hi, hc, hp, hf, hm]

theorem lampLaw (h : s.AtRest) : s.LampLaw := by
  intro b
  obtain ⟨hs, -, hr, -, -, -, -, -, -, hl, hlamp⟩ := h.bay_fields b
  have hn : s.namedCustody b = none := by
    rw [State.namedCustody]
    exact congrArg (Option.map _) hr
  have hc : (s.output b).charge = .off := by rw [h.output]; rfl
  rw [hlamp, State.lampFor, hn]
  change Lamp.off = lampOf (s.bay b) none (s.output b).charge
  rw [hc]
  rcases hs with hs | hs <;> simp [lampOf, hs, hl]

theorem misplacedLaw (h : s.AtRest) : s.MisplacedLaw := by
  intro i
  simp [h.record, Record.freeImage]

theorem queueLaw (h : s.AtRest) : s.QueueLaw := by
  simp [State.QueueLaw, h.queue, State.eligible, h.record, Record.freeImage]

theorem grantLaw (h : s.AtRest) : s.GrantLaw := fun _ _ => h.queue

theorem tabletLaw (h : s.AtRest) : s.TabletLaw := by
  intro i j hi
  simp [h.record, Record.freeImage, Record.enrolled] at hi

theorem laneLaw (h : s.AtRest) : s.LaneLaw := by
  refine ⟨?_, fun b l hl => ?_, ?_, ?_⟩
  · simp [h.lane]
  · obtain ⟨-, -, -, -, -, -, -, -, -, hn, -⟩ := h.bay_fields b
    simp [hn] at hl
  · simp [h.lane]
  · simp [h.lane]

theorem latchLaw (h : s.AtRest) : s.LatchLaw := by
  refine ⟨?_, ?_, fun b => ?_⟩
  · simp [h.latchQueue]
  · simp [h.slot, DriveSlot.request]
  · obtain ⟨-, -, -, -, -, -, -, -, hm, -⟩ := h.bay_fields b
    simp [hm, State.drivingSlot, h.slot]

theorem reservationLaw (h : s.AtRest) : s.ReservationLaw := by
  simp [State.ReservationLaw, h.reservations, h.slot, h.lane]

theorem rateLaw (h : s.AtRest) : s.RateLaw := by
  intro b
  rw [h.link]
  exact ⟨Fin.zero_le _, trivial⟩

theorem sweepLaw (h : s.AtRest) : s.SweepLaw := by
  intro b hb
  simp [h.link, Link.downValues] at hb

theorem rangeLaw (h : s.AtRest) (hd : 200 ≤ s.budget.defaultTarget ∧ s.budget.defaultTarget ≤ 1000) : s.RangeLaw := by
  refine ⟨fun i => ?_, fun i b hb => ?_, hd⟩
  · rw [h.record]
    exact Record.freeImage_range
  · simp [h.record, Record.freeImage] at hb

theorem fits (h : s.AtRest) : s.Fits fun b => (s.output b).commitment :=
  .inr fun b => by simp only [h.output]; rfl

theorem budgetLaw (h : s.AtRest) : s.BudgetLaw := by
  refine ⟨fun b => .inr (by rw [h.output]; rfl), fun b hb => ?_, ?_⟩
  · obtain ⟨hs, -⟩ := h.bay_fields b
    simp [hb] at hs
  · rw [h.phase]
    exact h.fits

end State.AtRest

/-! ### The resets -/

theorem positionOf_ne_moving (x y : Bool) : positionOf x y ≠ .moving := by cases x <;> cases y <;> nofun

theorem Bay.warmLatch_ne_moving (x : Bay) : x.warmLatch ≠ .moving := by
  unfold Bay.warmLatch
  split
  · exact positionOf_ne_moving _ _
  · assumption

section
variable (s : State) (v : BitVec 2)

theorem State.reset_record (i : RecordIx) : State.reset.record i = Record.freeImage := by
  simp [State.record, State.reset]
theorem State.reset_bay (b : BayNo) : State.reset.bay b = Bay.afterReset (decide (b.val < 24)) false false false .unknown := by
  simp [State.bay, State.reset]
theorem State.reset_link (b : BayNo) : State.reset.link b = Link.downValues := by simp [State.link, State.reset]
theorem State.reset_output (b : BayNo) : State.reset.output b = Output.initial := by simp [State.output, State.reset]
theorem State.reset_lane (l : LaneNo) : State.reset.lane l = ⟨none, none, none⟩ := by simp [State.lane, State.reset]
theorem State.reset_slot (k : SlotNo) : State.reset.slot k = .free := by simp [State.slot, State.reset]
theorem State.reset_release (b : BayNo) : State.reset.release b = none := by simp [State.release, State.reset]
theorem State.reset_period (e : PeriodIx) : State.reset.period e = none := by
  simp [State.period, State.reset, DayClock.initial]
theorem State.reset_keyEntry (e : KeyIx) : State.reset.keyEntry e = ⟨.empty, none⟩ := by
  simp [State.keyEntry, State.reset, Receiver.afterReset]
theorem State.reset_subjectsOf (n : SourceNo) : State.reset.subjectsOf n = 0 := by
  simp [State.subjectsOf, State.reset, Port.initial]

theorem State.coldReset_bay (b : BayNo) : (s.coldReset v).bay b =
    Bay.afterReset (decide (b.val < populatedCount v)) (s.bay b).rawContact (s.bay b).lockedSwitch
      (s.bay b).unlockedSwitch (positionOf (s.bay b).lockedSwitch (s.bay b).unlockedSwitch) := by
  simp [State.bay, State.coldReset]

theorem State.warmReset_bay (b : BayNo) : s.warmReset.bay b = (s.bay b).warm := by simp [State.bay, State.warmReset]

theorem State.warmReset_keyEntry (e : KeyIx) : s.warmReset.keyEntry e = (s.keyEntry e).warm := by
  simp [State.keyEntry, State.warmReset, Receiver.warm]

theorem State.warmReset_subjectsOf (n : SourceNo) : s.warmReset.subjectsOf n = 0 := by
  simp [State.subjectsOf, State.warmReset, Port.warm, Port.reAttn]

/-- A state whose moving tables are those of the reset, each bay fresh from one, is at rest. -/
theorem State.AtRest.of_reset {t : State}
    (hb : ∀ b, ∃ x : Bay, ∃ latch : LatchPosition, latch ≠ .moving ∧
      t.bay b = Bay.afterReset x.populated x.rawContact x.lockedSwitch x.unlockedSwitch latch)
    (h1 : t.roster = State.reset.roster) (h2 : t.links = State.reset.links) (h3 : t.outputs = State.reset.outputs)
    (h4 : t.lanes = State.reset.lanes) (h5 : t.slots = State.reset.slots) (h6 : t.releases = State.reset.releases)
    (h7 : t.reservations = []) (h8 : t.queue = []) (h9 : t.latchQueue = []) (h10 : t.phase = .idle) : t.AtRest where
  record i := by simpa only [State.record, h1] using State.reset_record i
  bay := hb
  link b := by simpa only [State.link, h2] using State.reset_link b
  output b := by simpa only [State.output, h3] using State.reset_output b
  lane l := by simpa only [State.lane, h4] using State.reset_lane l
  slot k := by simpa only [State.slot, h5] using State.reset_slot k
  release b := by simpa only [State.release, h6] using State.reset_release b
  reservations := h7
  queue := h8
  latchQueue := h9
  phase := h10

theorem State.reset_atRest : State.reset.AtRest :=
  .of_reset (fun b => ⟨Bay.afterReset (decide (b.val < 24)) false false false .unknown, .unknown, nofun,
    State.reset_bay b⟩) rfl rfl rfl rfl rfl rfl rfl rfl rfl rfl

theorem State.coldReset_atRest : (s.coldReset v).AtRest :=
  .of_reset (fun b => ⟨{ s.bay b with populated := decide (b.val < populatedCount v) }, _, positionOf_ne_moving _ _,
    s.coldReset_bay v b⟩) rfl rfl rfl rfl rfl rfl rfl rfl rfl rfl

theorem State.warmReset_atRest : s.warmReset.AtRest :=
  .of_reset (fun b => ⟨s.bay b, _, (s.bay b).warmLatch_ne_moving, s.warmReset_bay b⟩)
    rfl rfl rfl rfl rfl rfl rfl rfl rfl rfl

end

/-- With every set empty and ATTN deasserted, ATTN is right (R183). -/
theorem State.attnLaw_of_empty {s : State} (hn : ∀ n, s.subjectsOf n = 0) (ha : s.port.attn = false) : s.AttnLaw := by
  simp [State.AttnLaw, hn, ha]

/-- Settles O9: the part after reset is at rest, with no key, no Period Table entry and no subject. -/
theorem resetMeetsEveryLaw : Obligations.ResetMeetsEveryLaw := by
  have h := State.reset_atRest
  refine ⟨h.inv, State.attnLaw_of_empty State.reset_subjectsOf rfl, h.lampLaw, h.misplacedLaw, fun n => ?_, h.queueLaw,
    h.grantLaw, h.rateLaw, ?_, h.rangeLaw ⟨by decide, by decide⟩, h.budgetLaw, h.tabletLaw, fun e => ?_, h.laneLaw, h.latchLaw,
    h.reservationLaw, h.sweepLaw, h.bayLaw⟩
  · simp [State.reset_subjectsOf]
  · refine ⟨by simp [State.reset, Receiver.afterReset], by simp [State.reset, Receiver.afterReset], fun e f he => ?_, ?_⟩
    · simp [State.reset_keyEntry, KeyState.isLearning] at he
    · simp [State.reset, Receiver.afterReset]
  · simp [State.reset_period]

theorem positionOf_eq (x y : Bool) : positionOf x y =
    match x, y with
    | true, false => .locked
    | false, true => .unlocked
    | _, _ => .unknown := by cases x <;> cases y <;> rfl

theorem populatedCount_eq (v : BitVec 2) : populatedCount v =
    match v.toNat with
    | 0 => 24
    | 1 => 30
    | 2 => 36
    | _ => 18 := by
  revert v
  decide

/-- Settles O58, table by table of each reset. -/
theorem resetsEmptyAndKeep : Obligations.ResetsEmptyAndKeep := by
  refine ⟨⟨fun i => ?_, fun b => ?_, rfl, rfl, rfl, rfl, rfl, rfl, rfl, rfl, rfl, State.reset_period, fun e => ?_, rfl, rfl,
    rfl, rfl, rfl, State.reset_subjectsOf, rfl, rfl, rfl⟩, fun s v => ⟨s.coldReset v, rfl, rfl, ?_, fun e => ?_, rfl, rfl,
    rfl, rfl, rfl, rfl, rfl, fun b => ?_⟩, fun s => ⟨s.warmReset, rfl, ⟨rfl, rfl⟩, ⟨rfl, rfl, rfl, rfl⟩, ⟨rfl, rfl, rfl⟩, rfl, rfl,
    ?_, s.warmReset_subjectsOf, s.warmReset_atRest.record, rfl, rfl, rfl, rfl, rfl, rfl, rfl, s.warmReset_atRest.lane,
    s.warmReset_atRest.slot, s.warmReset_keyEntry, rfl, rfl, rfl, fun b => ?_⟩⟩
  · rw [State.reset_record]
    exact ⟨rfl, rfl, rfl, rfl, rfl, rfl, rfl⟩
  · rw [State.reset_bay, State.reset_link, State.reset_output, State.reset_release]
    exact ⟨by simp [Bay.afterReset], rfl, rfl, rfl, rfl, rfl, rfl, rfl, rfl, rfl, rfl, rfl⟩
  · rw [State.reset_keyEntry]
  · cases h : s.supplyLimit <;> simp [State.coldReset, h] <;> rfl
  · simp [State.keyEntry, State.coldReset, Receiver.afterReset]
  · rw [State.coldReset_bay]
    refine ⟨by rw [populatedCount_eq]; exact decide_eq_true_iff, rfl, rfl, rfl, rfl, rfl, positionOf_eq _ _⟩
  · exact Port.attnNow_iff _
  · rw [State.warmReset_bay, s.warmReset_atRest.link, s.warmReset_atRest.output, s.warmReset_atRest.release]
    exact ⟨rfl, rfl, rfl, rfl, rfl, rfl, fun h => if_neg h⟩

end Sys2Proof.Machine
end

section
/-! SUPPORT. Request frames: the codings of R188 read back, every request by its parameters, and the settling of O59. -/

namespace Sys2Proof

set_option Elab.async false

open Machine

/-! ### The codings of R188 read back -/

theorem half_bytes (v : Half) : half (v.extractLsb' 8 8) (v.extractLsb' 0 8) = v := by
  simp only [half]
  rw [BitVec.extractLsb'_append_extractLsb'_eq_extractLsb' (by omega)]
  exact BitVec.extractLsb'_eq_self

theorem eight_bytes (v : BitVec 64) :
    eight (v.extractLsb' 56 8) (v.extractLsb' 48 8) (v.extractLsb' 40 8) (v.extractLsb' 32 8)
      (v.extractLsb' 24 8) (v.extractLsb' 16 8) (v.extractLsb' 8 8) (v.extractLsb' 0 8) = v := by
  unfold eight
  iterate 7 rw [BitVec.extractLsb'_append_extractLsb'_eq_extractLsb' (by omega)]
  exact BitVec.extractLsb'_eq_self

theorem three_bytes (v : BitVec 24) : v.extractLsb' 16 8 ++ v.extractLsb' 8 8 ++ v.extractLsb' 0 8 = v := by
  iterate 2 rw [BitVec.extractLsb'_append_extractLsb'_eq_extractLsb' (by omega)]
  exact BitVec.extractLsb'_eq_self

theorem flag?_mark (b : Bool) : flag? (mark b) = some b := by cases b <;> rfl

theorem present?_zero {α : Type} (v : α) : present? 0 v = some none := rfl

theorem present?_one {α : Type} (v : α) : present? 1 v = some (some v) := rfl

/-! ### Requests by their code and parameters -/

/-- A code and parameters that make a frame, and that a port whose lines show r reads as the request i. -/
structure ReadsBack (r : LineReadings) (i : Instr) (x : Byte × List Byte) : Prop where
  code : (x.1 == 0) = false
  length : x.2.length ≤ Config.maxParameters
  reads : decodeRequest r x.1 x.2 = some i

/-- A frame that reads back is decoded, whatever follows it. -/
theorem ReadsBack.decodeFrame {r : LineReadings} {i : Instr} {x : Byte × List Byte} (h : ReadsBack r i x)
    (after : List Byte) : decodeFrame r (requestFrame x ++ after) = i := by
  obtain ⟨code, p⟩ := x
  obtain ⟨hc, hl, hr⟩ := h
  have hl' : p.length ≤ 60 := hl
  have hn : (byte p.length).toNat = p.length := by
    rw [byte, BitVec.toNat_ofNat]
    exact Nat.mod_eq_of_lt (by omega)
  have hfit : ¬((p ++ after).length < (byte p.length).toNat ∨ Config.maxParameters < (byte p.length).toNat) := by
    rw [hn, List.length_append, not_or, not_lt, not_lt]
    exact ⟨Nat.le_add_right _ _, hl⟩
  have ht : (p ++ after).take (byte p.length).toNat = p := by rw [hn]; exact List.take_left' rfl
  have hreq : carriesNoRequest (requestFrame (code, p) ++ after) = false := hc
  have hd : Sys2Proof.decodeFrame r (requestFrame (code, p) ++ after) =
      (decodeRequest r code ((p ++ after).take (byte p.length).toNat)).getD
        (.malformedRequest (requestFrame (code, p) ++ after)) := by
    unfold Sys2Proof.decodeFrame
    rw [hreq, if_neg Bool.false_ne_true]
    exact if_neg hfit
  rw [hd, ht, hr]
  rfl

section
variable (r : LineReadings)

/-- A request whose parameters take n bytes, not above 60. -/
theorem ReadsBack.of {i : Instr} {x : Byte × List Byte} (n : Nat) (hc : (x.1 == 0) = false) (hl : x.2.length = n)
    (hr : decodeRequest r x.1 x.2 = some i) (hn : n ≤ 60 := by decide) : ReadsBack r i x :=
  ⟨hc, hl.trans_le hn, hr⟩

theorem enrol_readsBack (p : EnrolParams) : ∀ x ∈ encodeRequest (.enrol p), ReadsBack r (.enrol p) x := by
  obtain ⟨id, initial, holder, home, target, ready, profile, flags⟩ := p
  rintro x ⟨⟩
  refine .of r 21 rfl (by cases home <;> cases target <;> cases ready <;> rfl) ?_
  have hd : enrolParams (be64 id ++ [initial] ++ halfBytes holder ++ optionalBytes 1 (fun b => [b]) home ++
      optionalBytes 2 halfBytes target ++ optionalBytes 2 halfBytes ready ++ [profile, flags]) =
        some ⟨id, initial, holder, home, target, ready, profile, flags⟩ := by
    cases home <;> cases target <;> cases ready <;>
      simp [enrolParams, be64, halfBytes, optionalBytes, present?, flag?, eight_bytes, half_bytes, List.replicate]
  exact congrArg (Option.map Instr.enrol) hd

theorem amend_readsBack (i f : Byte) (v : Option Half) :
    ∀ x ∈ encodeRequest (.amend i f v), ReadsBack r (.amend i f v) x := by
  rintro x ⟨⟩
  refine .of r 5 rfl (by cases v <;> rfl) ?_
  change amendRequest ([i, f] ++ optionalBytes 2 halfBytes v) = _
  cases v <;> simp [amendRequest, optionalBytes, halfBytes, present?, flag?, half_bytes, List.replicate]

/-- The selection byte of a template names the fields selected, and no bit above 4. -/
theorem selection_bits (a b c d e : Bool) : selection? (byte (bitField [a, b, c, d, e])) = some (byte (bitField [a, b, c, d, e])) ∧
    (byte (bitField [a, b, c, d, e])).getLsbD 0 = a ∧ (byte (bitField [a, b, c, d, e])).getLsbD 1 = b ∧
    (byte (bitField [a, b, c, d, e])).getLsbD 2 = c ∧ (byte (bitField [a, b, c, d, e])).getLsbD 3 = d ∧
    (byte (bitField [a, b, c, d, e])).getLsbD 4 = e := by
  revert a b c d e
  decide

/-- A field of FILL's template, its bytes and what they are read as where the selection names it exactly if it is there. -/
theorem selected_half (o : Option Half) : ∃ a b, (o.map halfBytes).getD [0, 0] = [a, b] ∧
    ∀ (sel : Byte) (bit : Nat), sel.getLsbD bit = o.isSome → selected sel bit (some (half a b)) = some o := by
  cases o with
  | none => exact ⟨0, 0, rfl, fun sel bit h => by rw [selected, h]; rfl⟩
  | some v => exact ⟨_, _, rfl, fun sel bit h => by rw [selected, h, half_bytes]; rfl⟩

theorem selected_optional_half (o : Option (Option Half)) : ∃ p a b,
    (o.map (optionalBytes 2 halfBytes)).getD [0, 0, 0] = [p, a, b] ∧
      ∀ (sel : Byte) (bit : Nat), sel.getLsbD bit = o.isSome → selected sel bit (present? p (half a b)) = some o := by
  rcases o with _ | _ | v
  · exact ⟨0, 0, 0, rfl, fun sel bit h => by rw [selected, h]; rfl⟩
  · exact ⟨0, 0, 0, rfl, fun sel bit h => by rw [selected, h]; rfl⟩
  · exact ⟨1, _, _, rfl, fun sel bit h => by rw [selected, h, half_bytes]; rfl⟩

theorem selected_optional_byte (o : Option (Option Byte)) : ∃ p a,
    (o.map (optionalBytes 1 fun b => [b])).getD [0, 0] = [p, a] ∧
      ∀ (sel : Byte) (bit : Nat), sel.getLsbD bit = o.isSome → selected sel bit (present? p a) = some o := by
  rcases o with _ | _ | v
  · exact ⟨0, 0, rfl, fun sel bit h => by rw [selected, h]; rfl⟩
  · exact ⟨0, 0, rfl, fun sel bit h => by rw [selected, h]; rfl⟩
  · exact ⟨1, _, rfl, fun sel bit h => by rw [selected, h]; rfl⟩

theorem selected_byte (o : Option Byte) (sel : Byte) (bit : Nat) (h : sel.getLsbD bit = o.isSome) :
    selected sel bit (some (o.getD 0)) = some o := by
  cases o <;> rw [selected, h] <;> rfl

theorem fill_readsBack (i n : Byte) (t : FillTemplate) :
    ∀ x ∈ encodeRequest (.fill i n t), ReadsBack r (.fill i n t) x := by
  obtain ⟨target, ready, home, profile, flags⟩ := t
  rintro x ⟨⟩
  obtain ⟨hs, h0, h1, h2, h3, h4⟩ :=
    selection_bits target.isSome ready.isSome home.isSome profile.isSome flags.isSome
  obtain ⟨t1, t0, ht, htr⟩ := selected_half target
  obtain ⟨rp, r1, r0, hr, hrr⟩ := selected_optional_half ready
  obtain ⟨hp, hb, hh, hhr⟩ := selected_optional_byte home
  have hbytes : FillTemplate.bytes ⟨target, ready, home, profile, flags⟩ =
      [byte (bitField [target.isSome, ready.isSome, home.isSome, profile.isSome, flags.isSome]), t1, t0, rp, r1, r0, hp, hb,
        profile.getD 0, flags.getD 0] := by
    simp only [FillTemplate.bytes, ht, hr, hh]
    rfl
  refine .of r 12 rfl (by simp [hbytes]) ?_
  change fillRequest ([i, n] ++ FillTemplate.bytes ⟨target, ready, home, profile, flags⟩) = _
  rw [hbytes]
  simp only [List.cons_append, List.nil_append, fillRequest, hs, htr _ _ h0, hrr _ _ h1, hhr _ _ h2, selected_byte _ _ _ h3,
    selected_byte _ _ _ h4]

theorem linkSettings_readsBack (p : Option LinkSettingsParams) :
    ∀ x ∈ encodeRequest (.linkSettings p), ReadsBack r (.linkSettings p) x := by
  cases p with
  | none => rintro x ⟨⟩; exact .of r 0 rfl rfl rfl
  | some p =>
    rintro x ⟨⟩
    refine .of r 6 rfl rfl ?_
    change linkSettingsParams ([p.maxStep, p.minWindow, p.tapOffset, p.retrainInterval] ++ halfBytes p.telemetryInterval) = _
    simp only [halfBytes, List.cons_append, List.nil_append, linkSettingsParams, half_bytes]

theorem budgetSettings_readsBack (p : Option BudgetSettingsParams) :
    ∀ x ∈ encodeRequest (.budgetSettings p), ReadsBack r (.budgetSettings p) x := by
  cases p with
  | none => rintro x ⟨⟩; exact .of r 0 rfl rfl rfl
  | some p =>
    rintro x ⟨⟩
    refine .of r 20 rfl rfl ?_
    change budgetSettingsParams (halfBytes p.supplyRating ++ halfBytes p.foldback ++ halfBytes p.overhead ++
      halfBytes p.floorF ++ [p.deliveryK] ++ halfBytes p.bayCeiling ++ halfBytes p.defaultTarget ++
      halfBytes p.checkoutMinimum ++ halfBytes p.wakeReserve ++ halfBytes p.driveReserve ++ [p.foreignPolicy]) = _
    simp only [halfBytes, List.cons_append, List.nil_append, budgetSettingsParams, half_bytes]

theorem laneSettings_readsBack (p : Option LaneSettingsParams) :
    ∀ x ∈ encodeRequest (.laneSettings p), ReadsBack r (.laneSettings p) x := by
  cases p with
  | none => rintro x ⟨⟩; exact .of r 0 rfl rfl rfl
  | some p => rintro x ⟨⟩; exact .of r 3 rfl rfl rfl

theorem custodySettings_readsBack (p : Option CustodySettingsParams) :
    ∀ x ∈ encodeRequest (.custodySettings p), ReadsBack r (.custodySettings p) x := by
  cases p with
  | none => rintro x ⟨⟩; exact .of r 0 rfl rfl rfl
  | some p =>
    rintro x ⟨⟩
    refine .of r 8 rfl rfl ?_
    change custodySettingsParams ([p.authority, p.autoLock] ++ halfBytes p.teacherLength ++ halfBytes p.serviceLength ++
      halfBytes p.releaseLength) = _
    simp only [halfBytes, List.cons_append, List.nil_append, custodySettingsParams, half_bytes]

theorem keySettings_readsBack (p : Option KeySettingsParams) :
    ∀ x ∈ encodeRequest (.keySettings p), ReadsBack r (.keySettings p) x := by
  cases p with
  | none => rintro x ⟨⟩; exact .of r 0 rfl rfl rfl
  | some p => rintro x ⟨⟩; exact .of r 3 rfl rfl rfl

theorem find_readsBack (v : TabletId) : ∀ x ∈ encodeRequest (.find v), ReadsBack r (.find v) x := by
  rintro x ⟨⟩
  refine .of r 8 rfl rfl ?_
  change findRequest (be64 v) = _
  simp only [be64, findRequest, eight_bytes]

theorem budgetRead_readsBack (b : Option Byte) : ∀ x ∈ encodeRequest (.budgetRead b), ReadsBack r (.budgetRead b) x := by
  rintro x ⟨⟩
  cases b <;> exact .of r 2 rfl rfl rfl

theorem checkout_readsBack (i : Byte) (h : Half) (p o : Bool) :
    ∀ x ∈ encodeRequest (.checkout i h p o), ReadsBack r (.checkout i h p o) x := by
  rintro x ⟨⟩
  refine .of r 5 rfl rfl ?_
  change checkoutRequest ([i] ++ halfBytes h ++ [mark p, mark o]) = _
  simp only [halfBytes, List.cons_append, List.nil_append, checkoutRequest, flag?_mark, half_bytes]

theorem setKey_readsBack (e : Byte) (p : SetKeyParams) (hw : p.ignored.length ≤ 55) :
    ∀ x ∈ encodeRequest (.setKey e p), ReadsBack r (.setKey e p) x := by
  rintro x ⟨⟩
  have hn : p.ignored.length = (byte p.ignored.length).toNat := by
    rw [byte, BitVec.toNat_ofNat]
    exact (Nat.mod_eq_of_lt (by omega)).symm
  refine ⟨rfl, ?_, ?_⟩
  · change p.ignored.length + 5 ≤ 60
    omega
  · exact if_pos hn

theorem setTime_readsBack (m : Half) (d : Byte) : ∀ x ∈ encodeRequest (.setTime m d), ReadsBack r (.setTime m d) x := by
  rintro x ⟨⟩
  refine .of r 3 rfl rfl ?_
  change setTimeRequest (halfBytes m ++ [d]) = _
  simp only [halfBytes, List.cons_append, List.nil_append, setTimeRequest, half_bytes]

theorem setPeriod_readsBack (e o : Byte) (p : Option PeriodParams) (hw : periodParamsFit o p = true) :
    ∀ x ∈ encodeRequest (.setPeriod e o p), ReadsBack r (.setPeriod e o p) x := by
  cases p with
  | none =>
    rintro x ⟨⟩
    have ho : o ≠ 0 := by
      rintro rfl
      simp [periodParamsFit] at hw
    exact .of r 2 rfl rfl (if_neg ho)
  | some p =>
    rintro x ⟨⟩
    have ho : o ≠ 1 := by
      rintro rfl
      simp [periodParamsFit] at hw
    refine .of r 6 rfl rfl ?_
    change setPeriodRequest ([e, o] ++ halfBytes p.minute ++ [p.days, p.kind]) = _
    simp only [halfBytes, List.cons_append, List.nil_append, setPeriodRequest, if_neg ho, half_bytes]

theorem eventAck_readsBack (n : Byte) (m : BitVec 64) : ∀ x ∈ encodeRequest (.eventAck n m), ReadsBack r (.eventAck n m) x := by
  rintro x ⟨⟩
  refine .of r 9 rfl rfl ?_
  change eventAckRequest (n :: be64 m) = _
  simp only [be64, eventAckRequest, eight_bytes]

theorem eventEnable_readsBack (e : Option (BitVec 24)) :
    ∀ x ∈ encodeRequest (.eventEnable e), ReadsBack r (.eventEnable e) x := by
  cases e with
  | none => rintro x ⟨⟩; exact .of r 0 rfl rfl rfl
  | some m =>
    rintro x ⟨⟩
    refine .of r 3 rfl rfl ?_
    change threeOrNone .eventEnable (fun a b c => a ++ b ++ c) (be24 m) = _
    simp only [be24, threeOrNone, three_bytes]

/-- Every well-formed request reads back from its code and parameters. -/
theorem encodeRequest_readsBack (i : Instr) (hw : i.wellFormed = true)
    (hl : ∀ (b : Byte) (x : LineReadings), i = .lineTest b x → x = r) : ∀ x ∈ encodeRequest i, ReadsBack r i x := by
  cases i with
  | enrol p => exact enrol_readsBack r p
  | find v => exact find_readsBack r v
  | amend i f v => exact amend_readsBack r i f v
  | fill i n t => exact fill_readsBack r i n t
  | linkSettings p => exact linkSettings_readsBack r p
  | budgetSettings p => exact budgetSettings_readsBack r p
  | laneSettings p => exact laneSettings_readsBack r p
  | custodySettings p => exact custodySettings_readsBack r p
  | keySettings p => exact keySettings_readsBack r p
  | budgetRead b => exact budgetRead_readsBack r b
  | checkout i h p o => exact checkout_readsBack r i h p o
  | setKey e p => exact setKey_readsBack r e p (of_decide_eq_true hw)
  | setTime m d => exact setTime_readsBack r m d
  | setPeriod e o p => exact setPeriod_readsBack r e o p hw
  | eventAck n m => exact eventAck_readsBack r n m
  | eventEnable e => exact eventEnable_readsBack r e
  | lineTest b x =>
    obtain rfl := hl b x rfl
    rintro y ⟨⟩
    exact .of x 1 rfl rfl rfl
  | laneRead | clockRead | periodRead | selfTest | partReset | eventSummary =>
    rintro x ⟨⟩
    exact .of r 0 rfl rfl rfl
  | readRecord | hold | unhold | retire | bayDisable | bayEnable | readBay | linkReset | laneCancel | queueRead
  | cancelRelease | custodyRead | eraseKey | keyRead | eventRead =>
    rintro x ⟨⟩
    exact .of r 1 rfl rfl rfl
  | list | flagSwap | flagAnd | flagOr | laneDone | latch =>
    rintro x ⟨⟩
    exact .of r 2 rfl rfl rfl
  | learnKey =>
    rintro x ⟨⟩
    exact .of r 3 rfl rfl rfl
  | _ => exact fun x h => nomatch h

end

/-- Settles O59: every request reads back from its code and parameters, and a frame that reads back is decoded. -/
theorem requestFramesRoundTrip : Obligations.RequestFramesRoundTrip := by
  intro i r f after hw hf hl
  obtain ⟨x, hx, rfl⟩ := Option.map_eq_some_iff.mp hf
  exact (encodeRequest_readsBack r i hw hl x hx).decodeFrame after

end Sys2Proof
end

section
/-! SUPPORT. The lengths a request accepts, dock-line frames and their sums, and the settling of O55 and O60. -/

namespace Sys2Proof

set_option Elab.async false

open Machine

/-! ### The lengths a request accepts -/

section
variable {p : List Byte} {i : Instr}

theorem one_length {f : Byte → Instr} (h : one f p = some i) : p.length = 1 := by
  unfold one at h
  split at h
  · rfl
  · cases h

theorem two_length {f : Byte → Byte → Instr} (h : two f p = some i) : p.length = 2 := by
  unfold two at h
  split at h
  · rfl
  · cases h

theorem bare_length {j : Instr} (h : bare j p = some i) : p.length = 0 := by
  unfold bare at h
  split at h
  · rfl
  · cases h

theorem threeOrNone_length {α : Type} {f : Option α → Instr} {g : Byte → Byte → Byte → α} (h : threeOrNone f g p = some i) :
    p.length ∈ [0, 3] := by
  unfold threeOrNone at h
  split at h
  · simp
  · simp
  · cases h

theorem enrolParams_length {x : EnrolParams} (h : enrolParams p = some x) : p.length = 21 := by
  unfold enrolParams at h
  split at h
  · rfl
  · cases h

theorem fillRequest_length (h : fillRequest p = some i) : p.length = 12 := by
  unfold fillRequest at h
  split at h
  · rfl
  · cases h

theorem linkSettingsParams_length (h : linkSettingsParams p = some i) : p.length ∈ [0, 6] := by
  unfold linkSettingsParams at h
  split at h
  · simp
  · simp
  · cases h

theorem budgetSettingsParams_length (h : budgetSettingsParams p = some i) : p.length ∈ [0, 20] := by
  unfold budgetSettingsParams at h
  split at h
  · simp
  · simp
  · cases h

theorem custodySettingsParams_length (h : custodySettingsParams p = some i) : p.length ∈ [0, 8] := by
  unfold custodySettingsParams at h
  split at h
  · simp
  · simp
  · cases h

theorem setKeyRequest_length (h : setKeyRequest p = some i) : ∃ k, p.length = k + 5 := by
  unfold setKeyRequest at h
  split at h
  · next ignored =>
    split at h
    · exact ⟨ignored.length, rfl⟩
    · cases h
  · cases h

theorem setPeriodRequest_length (h : setPeriodRequest p = some i) : p.length ∈ [2, 6] := by
  unfold setPeriodRequest at h
  split at h
  · simp
  · simp
  · cases h

theorem checkoutRequest_length (h : checkoutRequest p = some i) : p.length = 5 := by
  unfold checkoutRequest at h
  split at h
  · rfl
  · cases h

theorem amendRequest_length (h : amendRequest p = some i) : p.length = 5 := by
  unfold amendRequest at h
  split at h
  · rfl
  · cases h

theorem budgetReadRequest_length (h : budgetReadRequest p = some i) : p.length = 2 := by
  unfold budgetReadRequest at h
  split at h
  · rfl
  · cases h

theorem findRequest_length (h : findRequest p = some i) : p.length = 8 := by
  unfold findRequest at h
  split at h
  · rfl
  · cases h

theorem learnKeyRequest_length (h : learnKeyRequest p = some i) : p.length = 3 := by
  unfold learnKeyRequest at h
  split at h
  · rfl
  · cases h

theorem setTimeRequest_length (h : setTimeRequest p = some i) : p.length = 3 := by
  unfold setTimeRequest at h
  split at h
  · rfl
  · cases h

theorem eventAckRequest_length (h : eventAckRequest p = some i) : p.length = 9 := by
  unfold eventAckRequest at h
  split at h
  · rfl
  · cases h

/-- A request that is read has a code the index names and a length its request accepts (R178, R189). -/
theorem decodeRequest_accepts {r : LineReadings} {code : Byte} (h : decodeRequest r code p = some i) (hp : p.length ≤ 60) :
    NamesRequest code.toNat ∧ p.length ∈ acceptedLengths code.toNat := by
  unfold decodeRequest at h
  split at h
  case h_1 hc =>
    obtain ⟨x, hx, -⟩ := Option.map_eq_some_iff.mp h
    rw [hc, enrolParams_length hx]
    decide
  case h_2 hc =>
    rw [hc, findRequest_length h]
    decide
  case h_3 hc | h_10 hc | h_11 hc | h_12 hc | h_13 hc | h_14 hc | h_15 hc | h_17 hc | h_18 hc | h_23 hc | h_25 hc | h_28 hc | h_30 hc | h_34 hc | h_35 hc | h_43 hc =>
    rw [hc, one_length h]
    decide
  case h_4 hc | h_6 hc | h_7 hc | h_8 hc | h_22 hc | h_29 hc =>
    rw [hc, two_length h]
    decide
  case h_5 hc =>
    rw [hc, amendRequest_length h]
    decide
  case h_9 hc =>
    rw [hc, fillRequest_length h]
    decide
  case h_20 hc =>
    rw [hc, budgetReadRequest_length h]
    decide
  case h_24 hc | h_38 hc | h_39 hc | h_40 hc | h_41 hc | h_42 hc =>
    rw [hc, bare_length h]
    decide
  case h_27 hc =>
    rw [hc, checkoutRequest_length h]
    decide
  case h_32 hc =>
    rw [hc, learnKeyRequest_length h]
    decide
  case h_36 hc =>
    rw [hc, setTimeRequest_length h]
    decide
  case h_44 hc =>
    rw [hc, eventAckRequest_length h]
    decide
  case h_16 hc =>
    rw [hc]
    exact ⟨by decide, linkSettingsParams_length h⟩
  case h_19 hc =>
    rw [hc]
    exact ⟨by decide, budgetSettingsParams_length h⟩
  case h_21 hc | h_31 hc | h_45 hc =>
    rw [hc]
    exact ⟨by decide, threeOrNone_length h⟩
  case h_26 hc =>
    rw [hc]
    exact ⟨by decide, custodySettingsParams_length h⟩
  case h_37 hc =>
    rw [hc]
    exact ⟨by decide, setPeriodRequest_length h⟩
  case h_33 hc =>
    obtain ⟨k, hk⟩ := setKeyRequest_length h
    rw [hc]
    exact ⟨by decide, List.mem_map.mpr ⟨k, List.mem_range.mpr (by omega), hk.symm⟩⟩
  case h_46 => cases h

end

/-- The first number of a range that passes a test. -/
theorem find?_finRange_eq_some {n : Nat} {p : Fin n → Bool} {i : Fin n} :
    (List.finRange n).find? p = some i ↔ p i = true ∧ ∀ j < i, p j = false := by
  rw [List.find?_eq_some_iff_getElem]
  constructor
  · rintro ⟨hp, k, hk, rfl, hl⟩
    refine ⟨hp, fun j hj => ?_⟩
    simpa using hl j.val (by simpa [Fin.lt_def] using hj)
  · rintro ⟨hp, hl⟩
    refine ⟨hp, i.val, by simp, by simp, fun j hj => ?_⟩
    simpa using hl ⟨j, hj.trans i.isLt⟩ hj

theorem find?_finRange_eq_none {n : Nat} {p : Fin n → Bool} :
    (List.finRange n).find? p = none ↔ ∀ j, p j = false := by
  simp

theorem Machine.Port.calling_eq_true {p : Port} {n : SourceNo} :
    p.calling n = true ↔ p.enables.getLsbD n.val = true ∧ p.subjects[n.val] ≠ 0 := by
  simp [Port.calling, Port.nonEmpty]

theorem Machine.Port.calling_eq_false {p : Port} {n : SourceNo} :
    p.calling n = false ↔ p.enables.getLsbD n.val = false ∨ p.subjects[n.val] = 0 := by
  rw [← Bool.not_eq_true, Port.calling_eq_true, not_and_or, not_not, Bool.not_eq_true]

/-- Settles O55: the summary is the first calling source, and what no request accepts decodes to no request. -/
theorem transactionsWithoutARequest : Obligations.TransactionsWithoutARequest := by
  refine ⟨fun s => ⟨_, _, rfl, rfl, fun n he hn hl => ?_, fun h => ?_⟩, fun s l => ⟨rfl, rfl⟩, fun r l hl => ?_,
    fun r code len l hc => ⟨?_, fun h => ?_⟩⟩
  · have hf : (List.finRange 18).find? s.port.calling = some n :=
      find?_finRange_eq_some.mpr ⟨Port.calling_eq_true.mpr ⟨he, hn⟩, fun m hm => Port.calling_eq_false.mpr (hl m hm)⟩
    rw [Port.summary, hf]
    exact Nat.mod_eq_of_lt (by omega)
  · have hf : (List.finRange 18).find? s.port.calling = none :=
      find?_finRange_eq_none.mpr fun n => Port.calling_eq_false.mpr (h n)
    rw [Port.summary, hf]
  · have hn : carriesNoRequest l = true := by
      cases l with
      | nil => rfl
      | cons c l => simpa [carriesNoRequest] using hl
    unfold decodeFrame
    rw [if_pos hn]
  · have hn : carriesNoRequest [code] = false := by simpa [carriesNoRequest] using hc
    unfold decodeFrame
    rw [hn, if_neg Bool.false_ne_true]
  · have hn : carriesNoRequest (code :: len :: l) = false := by simpa [carriesNoRequest] using hc
    unfold decodeFrame
    rw [hn, if_neg Bool.false_ne_true]
    dsimp only
    split
    · rfl
    · next hfit =>
      obtain ⟨hlen, hmax⟩ := not_or.mp hfit
      have hp : (l.take len.toNat).length = len.toNat := List.length_take_of_le (not_lt.mp hlen)
      cases hd : decodeRequest r code (l.take len.toNat) with
      | none => rfl
      | some i =>
        obtain ⟨hname, hacc⟩ := decodeRequest_accepts hd (hp.trans_le (not_lt.mp hmax))
        rw [hp] at hacc
        rcases h with h | h | h | h
        · exact absurd h hlen
        · exact absurd h hmax
        · exact absurd hname h
        · exact absurd hacc h

/-! ### Dock-line frames -/

section
variable (b : BayNo) (kind : Byte) (payload : List Byte)

theorem byteSum_cons (x : Byte) (l : List Byte) : byteSum (x :: l) = x + byteSum l := by
  have h (y : Byte) : l.foldl (· + ·) y = y + l.foldl (· + ·) 0 := by
    induction l generalizing y with
    | nil => simp
    | cons z l ih => rw [List.foldl_cons, List.foldl_cons, ih (y + z), ih (0 + z), zero_add, add_assoc]
  rw [byteSum, List.foldl_cons, zero_add, h]
  rfl

theorem byteSum_append (l m : List Byte) : byteSum (l ++ m) = byteSum l + byteSum m := by
  induction l with
  | nil => simp [byteSum]
  | cons x l ih => rw [List.cons_append, byteSum_cons, byteSum_cons, ih, add_assoc]

theorem byteSum_singleton (x : Byte) : byteSum [x] = x := by simp [byteSum]

/-- The check byte makes the sum 0 (R47). -/
theorem byteSum_lineFrame : byteSum (lineFrame kind payload) = 0 := by
  rw [lineFrame, byteSum_append, byteSum_singleton]
  bv_omega

theorem replyLength_iff (n : Nat) : replyLength kind = some n ↔
    kind = 0x21 ∧ n = 18 ∨ kind = 0x22 ∧ n = 8 ∨ kind = 0x23 ∧ n = 4 ∨ kind = 0x24 ∧ n = 0 ∨ kind = 0x25 ∧ n = 1 := by
  unfold replyLength
  repeat' split
  all_goals simp_all [eq_comm]

/-- A frame of a reply kind with its kind's payload length, by the sum of its bytes (R47). -/
theorem wholeReply_frame (x : Byte) (h : replyLength kind = some payload.length) :
    wholeReply (kind :: byte payload.length :: (payload ++ [x])) =
      if kind + byte payload.length + byteSum payload + x = 0 then some (kind, payload) else none := by
  have hn : (byte payload.length).toNat = payload.length := by
    have hl : payload.length ≤ 18 := by
      rcases (replyLength_iff kind payload.length).mp h with h | h | h | h | h <;> omega
    rw [byte, BitVec.toNat_ofNat]
    exact Nat.mod_eq_of_lt (by omega)
  have hs : byteSum (kind :: byte payload.length :: (payload ++ [x])) =
      kind + byte payload.length + byteSum payload + x := by
    rw [byteSum_cons, byteSum_cons, byteSum_append, byteSum_singleton]
    ac_rfl
  have ht : (payload ++ [x]).take payload.length = payload := List.take_left' rfl
  simp [wholeReply, h, hn, hs, ht]

/-- The members of a list of a given length. -/
theorem eq_ofFn_of_length {α : Type} {l : List α} {n : Nat} (h : l.length = n) : ∃ f : Fin n → α, l = List.ofFn f := by
  subst h
  exact ⟨l.get, (List.ofFn_get l).symm⟩

/-- A reply kind's payload of its length makes that kind's event (R193). -/
theorem replyEvent_isSome (h : replyLength kind = some payload.length) : ∃ c, replyEvent b kind payload = some c := by
  rcases (replyLength_iff kind payload.length).mp h with ⟨rfl, hl⟩ | ⟨rfl, hl⟩ | ⟨rfl, hl⟩ | ⟨rfl, hl⟩ | ⟨rfl, hl⟩
  all_goals
    obtain ⟨f, rfl⟩ := eq_ofFn_of_length hl
    exact ⟨_, rfl⟩

end

/-- Settles O60: the frame of a kind sums to 0, and a reply is read by its length and its sum. -/
theorem dockLineFramesAreChecked : Obligations.DockLineFramesAreChecked := by
  refine ⟨byteSum_lineFrame, fun b kind payload h => ⟨?_, fun x hx => ?_⟩, replyLength_iff, fun l => ?_,
    fun b p q x reason => ⟨?_, ?_, ?_, rfl, rfl⟩⟩
  · obtain ⟨c, hc⟩ := replyEvent_isSome b kind payload h
    refine ⟨c, hc, ?_⟩
    have hw : wholeReply (lineFrame kind payload) = some (kind, payload) := by
      refine (wholeReply_frame kind payload _ h).trans (if_pos ?_)
      rw [byteSum_cons, byteSum_cons]
      bv_omega
    simp only [decodeReply, hw, hc, Option.getD_some]
  · have hw : wholeReply (kind :: byte payload.length :: (payload ++ [x])) = none :=
      (wholeReply_frame kind payload x h).trans (if_neg hx)
    simp only [decodeReply, hw]
  · refine ⟨fun h => ?_, fun h => ?_, fun h => ?_, fun h => ⟨fun ho => ?_, fun k ho => ?_⟩, fun h => ⟨fun ho => ?_, fun n ho => ?_⟩⟩
    all_goals rw [Link.sent, h]
    · rfl
    all_goals rw [ho]; rfl
  · have hid : eight (p.tabletId.extractLsb' 56 8) (p.tabletId.extractLsb' 48 8) (p.tabletId.extractLsb' 40 8)
        (p.tabletId.extractLsb' 32 8) (p.tabletId.extractLsb' 24 8) (p.tabletId.extractLsb' 16 8)
        (p.tabletId.extractLsb' 8 8) (p.tabletId.extractLsb' 0 8) = p.tabletId := eight_bytes _
    refine Eq.trans (b := some (.identTaken b ⟨_, _, eight _ _ _ _ _ _ _ _, half _ _, half _ _, _, _, half _ _⟩)) rfl ?_
    rw [half_bytes, half_bytes, half_bytes]
    exact congrArg (fun v => some (Instr.identTaken b { p with tabletId := v })) hid
  · exact congrArg (fun v => some (Instr.echoTaken b v)) (eight_bytes x)
  · exact congrArg (fun v => some (Instr.telemetryTaken b { q with charge := v })) (half_bytes q.charge)

end Sys2Proof
end

section
/-! SUPPORT. The admission walk of reservations (R90), and the settling of O42. -/

namespace Sys2Proof.Machine

set_option Elab.async false

theorem countedAmount_cons (e : Reservation) (l : List Reservation) :
    countedAmount (e :: l) = (if e.counted then e.amount else 0) + countedAmount l := by
  unfold countedAmount
  cases h : e.counted <;> simp [h]

theorem countedLatches_cons (e : Reservation) (l : List Reservation) :
    countedLatches (e :: l) = (if e.counted && e.owner.isLatch then 1 else 0) + countedLatches l := by
  unfold countedLatches
  cases h : (e.counted && e.owner.isLatch) <;> simp only [List.filter_cons, h] <;> simp [Nat.add_comm]

theorem countedAmount_append (l m : List Reservation) : countedAmount (l ++ m) = countedAmount l + countedAmount m := by
  simp [countedAmount]

theorem countedLatches_append (l m : List Reservation) : countedLatches (l ++ m) = countedLatches l + countedLatches m := by
  simp [countedLatches]

/-- An entry admitted (R90). -/
def Reservation.admitOne (e : Reservation) : Reservation := { e with state := .admitted }

theorem Reservation.counted_eq_false {e : Reservation} : e.counted = false ↔ e.state = .pending := by
  simp [Reservation.counted]

section
variable (effective floors : Nat)

/-- One entry of the walk: it counts already, or it fits and is admitted, or it stays. -/
theorem admitWalk_cons (amounts latches : Nat) (e : Reservation) (l : List Reservation) :
    admitWalk effective floors amounts latches (e :: l) =
      if e.counted = false ∧ e.fits effective floors amounts latches = true then
        e.admitOne :: admitWalk effective floors (amounts + e.amount) (latches + if e.owner.isLatch then 1 else 0) l
      else e :: admitWalk effective floors amounts latches l := by
  rw [admitWalk]
  cases h : e.counted <;> simp [Reservation.admitOne]

/-- A walk changes each entry at most from PENDING to ADMITTED (R90). -/
theorem admitWalk_forall₂ (l : List Reservation) (amounts latches : Nat) :
    List.Forall₂ (fun e f => f = e ∨ e.state = .pending ∧ f = { e with state := .admitted }) l
      (admitWalk effective floors amounts latches l) := by
  induction l generalizing amounts latches with
  | nil => exact .nil
  | cons e l ih =>
    rw [admitWalk_cons]
    split
    · next h => exact .cons (.inr ⟨Reservation.counted_eq_false.mp h.1, rfl⟩) (ih _ _)
    · exact .cons (.inl rfl) (ih _ _)

/-- What a walk adds to the amounts that count keeps them within B_eff (R90). -/
theorem admitWalk_amount_le (l : List Reservation) (amounts latches : Nat) (h : amounts ≤ effective) :
    amounts + countedAmount (admitWalk effective floors amounts latches l) ≤ effective + countedAmount l := by
  induction l generalizing amounts latches with
  | nil => exact Nat.add_le_add_right h _
  | cons e l ih =>
    rw [admitWalk_cons, countedAmount_cons e l]
    split
    · next hf =>
      have hfit : amounts + e.amount ≤ effective := by
        obtain ⟨-, hf⟩ := hf
        unfold Reservation.fits at hf
        split at hf
        · simp only [Bool.and_eq_true, decide_eq_true_eq] at hf
          exact hf.2
        · have := of_decide_eq_true hf
          omega
      have := ih (amounts + e.amount) (latches + if e.owner.isLatch then 1 else 0) hfit
      have ha : e.admitOne.counted = true := rfl
      have hm : e.admitOne.amount = e.amount := rfl
      rw [countedAmount_cons, ha, hm, if_pos rfl]
      omega
    · have := ih amounts latches h
      rw [countedAmount_cons]
      omega

/-- A walk leaves at most two LATCH entries that count (R90). -/
theorem admitWalk_latches_le (l : List Reservation) (amounts latches : Nat) (h : latches ≤ 2) :
    latches + countedLatches (admitWalk effective floors amounts latches l) ≤ 2 + countedLatches l := by
  induction l generalizing amounts latches with
  | nil => exact Nat.add_le_add_right h _
  | cons e l ih =>
    rw [admitWalk_cons, countedLatches_cons e l]
    split
    · next hf =>
      obtain ⟨hc, hf⟩ := hf
      have hfit : latches + (if e.owner.isLatch then 1 else 0) ≤ 2 := by
        unfold Reservation.fits at hf
        split at hf
        · next k hk =>
          simp only [Bool.and_eq_true, decide_eq_true_eq] at hf
          rw [hk]
          exact hf.1
        · next k hk =>
          rw [hk]
          exact h
      have := ih (amounts + e.amount) _ hfit
      have ha : e.admitOne.counted = true := rfl
      have hm : e.admitOne.owner = e.owner := rfl
      rw [countedLatches_cons, ha, hm, Bool.true_and]
      omega
    · have := ih amounts latches h
      rw [countedLatches_cons]
      omega

/-- A walk over a list in two parts: the second part is walked with what counts after the first. -/
theorem admitWalk_append (before after : List Reservation) (amounts latches : Nat) :
    ∃ done a n, admitWalk effective floors amounts latches (before ++ after) = done ++ admitWalk effective floors a n after ∧
      done.length = before.length ∧ a + countedAmount before = amounts + countedAmount done ∧
      n + countedLatches before = latches + countedLatches done := by
  induction before generalizing amounts latches with
  | nil => exact ⟨[], amounts, latches, rfl, rfl, rfl, rfl⟩
  | cons e l ih =>
    rw [List.cons_append, admitWalk_cons]
    split
    · next h =>
      obtain ⟨hc, -⟩ := h
      obtain ⟨done, a, n, hd, hl, ha, hn⟩ := ih (amounts + e.amount) (latches + if e.owner.isLatch then 1 else 0)
      have hac : e.admitOne.counted = true := rfl
      have ham : e.admitOne.amount = e.amount := rfl
      have hao : e.admitOne.owner = e.owner := rfl
      refine ⟨e.admitOne :: done, a, n, by rw [hd]; rfl, by simp [hl], ?_, ?_⟩
      · rw [countedAmount_cons, countedAmount_cons, hc, hac, ham, if_neg Bool.false_ne_true, if_pos rfl]
        omega
      · rw [countedLatches_cons, countedLatches_cons, hc, hac, hao, Bool.true_and, Bool.false_and,
          if_neg Bool.false_ne_true]
        omega
    · obtain ⟨done, a, n, hd, hl, ha, hn⟩ := ih amounts latches
      refine ⟨e :: done, a, n, by rw [hd]; rfl, by simp [hl], ?_, ?_⟩
      · rw [countedAmount_cons, countedAmount_cons]
        omega
      · rw [countedLatches_cons, countedLatches_cons]
        omega

/-- A PENDING entry of the list is admitted exactly if it fits beside the entries that count when the walk reaches it. -/
theorem admitAll_getElem?_iff {before after : List Reservation} {e : Reservation} (hp : e.state = .pending) :
    (admitAll effective floors (before ++ e :: after))[before.length]? = some e.admitOne ↔
      e.fits effective floors
        (countedAmount ((admitAll effective floors (before ++ e :: after)).take before.length ++ e :: after))
        (countedLatches ((admitAll effective floors (before ++ e :: after)).take before.length ++ e :: after)) = true := by
  obtain ⟨done, a, n, hd, hl, ha, hn⟩ := admitWalk_append effective floors before (e :: after)
    (countedAmount (before ++ e :: after)) (countedLatches (before ++ e :: after))
  have hc : e.counted = false := Reservation.counted_eq_false.mpr hp
  rw [admitAll, hd, List.take_left' hl, List.getElem?_append_right hl.le, hl, Nat.sub_self, admitWalk_cons,
    countedAmount_append, countedLatches_append]
  rw [countedAmount_append] at ha
  rw [countedLatches_append] at hn
  have hav : countedAmount done + countedAmount (e :: after) = a := by omega
  have hnv : countedLatches done + countedLatches (e :: after) = n := by omega
  rw [hav, hnv]
  split
  · next h => exact ⟨fun _ => h.2, fun _ => rfl⟩
  · next h =>
    refine ⟨fun he => ?_, fun hf => absurd ⟨hc, hf⟩ h⟩
    have : e = e.admitOne := Option.some.inj he
    rw [this] at hp
    cases hp

end

/-- Settles O42: the walk's parts, and the one entry it has reached. -/
theorem admissionJudgesInListOrder : Obligations.AdmissionJudgesInListOrder := by
  intro effective floors l
  refine ⟨admitWalk_forall₂ effective floors l _ _, fun h => ?_, fun h => ?_, fun before after sofar e hl hp hs => ?_⟩
  · have := admitWalk_latches_le effective floors l (countedAmount l) (countedLatches l) h
    unfold admitAll
    omega
  · have := admitWalk_amount_le effective floors l (countedAmount l) (countedLatches l) h
    unfold admitAll
    omega
  · subst hl hs
    refine ⟨fun k hk => ?_, fun k hk => ?_⟩
    · refine (admitAll_getElem?_iff effective floors hp).trans ?_
      rw [Reservation.fits, hk]
      simp only [Bool.and_eq_true, decide_eq_true_eq]
    · refine (admitAll_getElem?_iff effective floors hp).trans ?_
      rw [Reservation.fits, hk]
      exact decide_eq_true_iff

end Sys2Proof.Machine
end

section
/-! SUPPORT. The urgency order and the ranked bays of a pass (R84), the figures a pass leaves, and the settling of O41. -/

namespace Sys2Proof.Machine

set_option Elab.async false

/-! ### The urgency order -/

/-- The urgency order, key by key (R84). -/
theorem PassBay.before_iff (x y : PassBay) : x.before y = true ↔
    x.urgent = true ∧ y.urgent = false ∨ x.urgent = y.urgent ∧
      (x.minutes < y.minutes ∨ x.minutes = y.minutes ∧ (y.energy < x.energy ∨ x.energy = y.energy ∧ x.bay < y.bay)) := by
  unfold PassBay.before
  cases x.urgent <;> cases y.urgent <;> simp <;> split <;> simp_all
  all_goals (split <;> simp_all)

/-- The four keys of the urgency order, as one key of a linear order. -/
def PassBay.key (x : PassBay) : Lex (Bool × Lex (ℕ × Lex (ℕᵒᵈ × BayNo))) :=
  toLex (!x.urgent, toLex (x.minutes, toLex (OrderDual.toDual x.energy, x.bay)))

theorem PassBay.before_iff_key (x y : PassBay) : x.before y = true ↔ x.key < y.key := by
  rw [PassBay.before_iff]
  simp only [PassBay.key, Prod.Lex.toLex_lt_toLex, OrderDual.toDual_lt_toDual, OrderDual.toDual_inj]
  cases x.urgent <;> cases y.urgent <;> simp

theorem PassBay.before_asymm {x y : PassBay} (h : x.before y = true) : ¬y.before x = true := by
  rw [PassBay.before_iff_key] at h ⊢
  exact h.not_gt

theorem PassBay.before_trans {x y z : PassBay} (h : x.before y = true) (g : y.before z = true) : x.before z = true := by
  rw [PassBay.before_iff_key] at h g ⊢
  exact h.trans g

theorem PassBay.before_total {x y : PassBay} (h : x.bay ≠ y.bay) (hn : ¬x.before y = true) : y.before x = true := by
  rw [PassBay.before_iff_key] at hn ⊢
  refine lt_of_le_of_ne (not_lt.mp hn) fun e => h ?_
  have := congrArg (fun k => (ofLex (ofLex (ofLex k).2).2).2) e
  exact this.symm

/-! ### Ranking -/

theorem insertRanked_perm (x : PassBay) (l : List PassBay) : (insertRanked x l).Perm (x :: l) := by
  induction l with
  | nil => exact .refl _
  | cons y l ih =>
    rw [insertRanked]
    split
    · exact .refl _
    · exact (ih.cons y).trans (.swap _ _ _)

theorem rankBays_perm (l : List PassBay) : (rankBays l).Perm l := by
  induction l with
  | nil => exact .refl _
  | cons x l ih => exact (insertRanked_perm x _).trans (ih.cons x)

/-- Bays ranked: each comes before those after it. -/
abbrev Ranked (l : List PassBay) : Prop := l.Pairwise fun x y => x.before y = true

theorem insertRanked_ranked {x : PassBay} {l : List PassBay} (hl : Ranked l) (hx : ∀ y ∈ l, x.bay ≠ y.bay) :
    Ranked (insertRanked x l) := by
  induction l with
  | nil => exact List.pairwise_singleton _ _
  | cons y l ih =>
    obtain ⟨hy, hl'⟩ := List.pairwise_cons.mp hl
    rw [insertRanked]
    split
    · next hb =>
      refine List.pairwise_cons.mpr ⟨fun z hz => ?_, hl⟩
      rcases List.mem_cons.mp hz with rfl | hz
      · exact hb
      · exact PassBay.before_trans hb (hy z hz)
    · next hb =>
      refine List.pairwise_cons.mpr ⟨fun z hz => ?_, ih hl' fun z hz => hx z (List.mem_cons_of_mem _ hz)⟩
      rcases List.mem_cons.mp ((insertRanked_perm x l).mem_iff.mp hz) with rfl | hz
      · exact PassBay.before_total (hx y List.mem_cons_self) hb
      · exact hy z hz

theorem rankBays_ranked {l : List PassBay} (h : (l.map PassBay.bay).Nodup) : Ranked (rankBays l) := by
  induction l with
  | nil => exact .nil
  | cons x l ih =>
    obtain ⟨hx, hl⟩ := List.nodup_cons.mp h
    refine insertRanked_ranked (ih hl) fun y hy e => hx ?_
    rw [e]
    exact List.mem_map_of_mem ((rankBays_perm l).mem_iff.mp hy)

/-! ### The bays of a pass -/

section
variable (s : State) (b : BayNo)

theorem State.passBay_bay {x : PassBay} (h : s.passBay b = some x) : x.bay = b := by
  unfold State.passBay at h
  split at h
  · cases h; rfl
  · split at h
    · split at h
      · cases h; rfl
      · cases h
    · cases h
  all_goals cases h

theorem State.mem_passBays {x : PassBay} : x ∈ s.passBays ↔ s.passBay x.bay = some x := by
  simp only [State.passBays, List.mem_filterMap, allBays, List.mem_finRange, true_and]
  exact ⟨fun ⟨c, hc⟩ => by rw [s.passBay_bay c hc]; exact hc, fun h => ⟨_, h⟩⟩

theorem State.passBays_nodup : (s.passBays.map PassBay.bay).Nodup := by
  have h : (s.passBays.map PassBay.bay).Sublist allBays := by
    unfold State.passBays
    induction allBays with
    | nil => exact .slnil
    | cons c l ih =>
      rw [List.filterMap_cons]
      split
      · exact ih.cons _
      · next x hx => rw [List.map_cons, s.passBay_bay c hx]; exact ih.cons_cons _
  exact h.nodup (List.nodup_finRange 36)

theorem State.passRanked_ranked : Ranked s.passRanked := rankBays_ranked s.passBays_nodup

theorem State.mem_passRanked {x : PassBay} : x ∈ s.passRanked ↔ s.passBay x.bay = some x :=
  (rankBays_perm _).mem_iff.trans s.mem_passBays

/-! ### What a pass leaves -/

theorem State.takePass_figures : s.takePass.figures = ⟨s.passBudget, s.passBays.length, demand s.passRanked, s.passShare.2,
    (s.passShare.1.filter fun x => x.2 == 0).length⟩ := by
  unfold State.takePass
  simp only
  split <;> rfl

theorem State.takePass_entry : s.takePass.entry b = (s.entry b).afterPass (s.disposition b) (s.passBay b)
    (rankOf s.passRanked b) (s.seenAt b) (s.toppedLimitAt b) := by
  unfold State.takePass
  simp only
  split <;> simp [State.entry]

theorem State.takePass_bay : s.takePass.bay b = { s.bay b with grant := grantOf s.passShare.1 b } := by
  unfold State.takePass
  simp only
  split <;> simp [State.bay]

end

/-! ### Figures of a full-class bay -/

/-- The record and the figures behind the disposition FULL (R79). -/
theorem State.passBay_of_full {s : State} {b : BayNo} {i : RecordIx} {charge capacity acceptance : Nat}
    (hd : s.disposition b = .full) (hr : (s.bay b).record = some i) (hc : (s.record i).lastCharge = some charge)
    (hk : (s.record i).capacity = some capacity) (ha : (s.record i).acceptance = some acceptance) :
    s.passBay b = some (PassBay.fullClass b s.budget s.clock (s.record i) charge capacity acceptance) := by
  have hf : (s.record i).chargeFields = some (charge, capacity, acceptance) := by
    simp only [Record.chargeFields, hc, hk, ha]
  simp only [State.passBay, hd, hr, hf]

theorem ceilDiv_eq (a b : Nat) : ceilDiv a b = (a + b - 1) / b := rfl

theorem clampNat_eq_max {lo hi v : Nat} (h : lo ≤ hi) : clampNat lo hi v = max lo (min hi v) := by
  unfold clampNat
  split
  · omega
  · split <;> omega

theorem bayLimit_eq (F ceiling acceptance : Nat) (t : Option Int) : bayLimit F ceiling acceptance (bandOf t) =
    max F (min (min acceptance ceiling) (match t with
      | some x => if 45 ≤ x then acceptance / 2 else acceptance
      | none => acceptance)) := by
  cases t with
  | none => rfl
  | some x =>
    simp only [bandOf]
    split <;> rfl

theorem le_bayLimit (F ceiling acceptance : Nat) (band : Band) : F ≤ bayLimit F ceiling acceptance band := Nat.le_max_left _ _

theorem energyNeeded_eq (capacity target charge k : Nat) :
    energyNeeded capacity target charge k = (capacity * (target - charge) * k + 99999) / 100000 := by
  unfold energyNeeded
  split
  · next h => rw [Nat.sub_eq_zero_of_le h]; simp
  · rfl

theorem DayClock.minutesLeft_eq (c : DayClock) (readyBy : Option Minute) : c.minutesLeft readyBy =
    if c.timeValid = false then 720
    else match readyBy with
      | some y => max 5 (min 720 (if c.minute < y then y.val - c.minute.val else y.val + 1440 - c.minute.val))
      | none => max 5 (min 720 (c.nextDeadline.getD 720)) := by
  unfold DayClock.minutesLeft
  cases c.timeValid with
  | false => rfl
  | true =>
    cases readyBy with
    | none => exact clampNat_eq_max (by omega)
    | some y => exact clampNat_eq_max (by omega)

theorem DayClock.minutesLeft_pos (c : DayClock) (readyBy : Option Minute) : 0 < c.minutesLeft readyBy := by
  rw [DayClock.minutesLeft_eq]
  split
  · omega
  · split <;> exact Nat.lt_of_lt_of_le (by omega) (Nat.le_max_left _ _)

theorem State.passBay_of_energy (s : State) {b : BayNo} {n : Nat} (hd : s.disposition b = .full)
    (h : (s.takePass.entry b).energy = some n) : ∃ x, s.passBay b = some x := by
  rw [s.takePass_entry, hd] at h
  obtain ⟨x, hx, -⟩ := Option.map_eq_some_iff.mp h
  exact ⟨x, hx⟩

/-- A full-class bay of the pass is ranked by its record's URGENT, and its entry shows its minutes and energy. -/
theorem State.passBay_full {s : State} {b : BayNo} {i : RecordIx} {x : PassBay} (hd : s.disposition b = .full)
    (hr : (s.bay b).record = some i) (hx : s.passBay b = some x) :
    x.urgent = (s.record i).urgent ∧ (s.takePass.entry b).energy = some x.energy ∧
      (s.takePass.entry b).minutes = some x.minutes ∧ (s.takePass.entry b).rank = rankOf s.passRanked b := by
  rw [s.takePass_entry, hx, hd]
  refine ⟨?_, rfl, rfl, rfl⟩
  simp only [State.passBay, hd, hr] at hx
  split at hx
  · cases hx; rfl
  · cases hx

theorem requiredPower_eq {F a : Nat} (E m : Nat) (h : F ≤ a) (hm : 0 < m) :
    requiredPower F a E m = max F (min a ((E * 60 + (m - 1)) / m)) := by
  rw [requiredPower, clampNat_eq_max h, ceilDiv_eq]
  congr 4
  omega

/-- The rank of a bay in a ranked list is its place, counted from 1 (R84). -/
theorem rankOf_eq_some {l : List PassBay} {b : BayNo} {k : Nat} (h : rankOf l b = some k) :
    ∃ i x, k = i + 1 ∧ l[i]? = some x ∧ x.bay = b := by
  obtain ⟨i, hi, rfl⟩ := Option.map_eq_some_iff.mp h
  obtain ⟨hlt, hp, -⟩ := List.findIdx?_eq_some_iff_getElem.mp hi
  exact ⟨i, l[i], rfl, List.getElem?_eq_getElem hlt, by simpa using hp⟩

/-- In a ranked list the places follow the urgency order. -/
theorem Ranked.lt_iff {l : List PassBay} (h : Ranked l) {i j : Nat} {x y : PassBay} (hx : l[i]? = some x)
    (hy : l[j]? = some y) (hne : x.bay ≠ y.bay) : i < j ↔ x.before y = true := by
  obtain ⟨hi, rfl⟩ := List.getElem?_eq_some_iff.mp hx
  obtain ⟨hj, rfl⟩ := List.getElem?_eq_some_iff.mp hy
  have hp := List.pairwise_iff_getElem.mp h
  refine ⟨fun hij => hp i j hi hj hij, fun hb => ?_⟩
  rcases Nat.lt_trichotomy i j with hij | rfl | hij
  · exact hij
  · exact absurd rfl hne
  · exact absurd (hp j i hj hi hij) (PassBay.before_asymm hb)

/-- Settles O41: the entry of a full-class bay is its figures as a bay of the pass, and the ranked list is in the urgency
order. -/
theorem passFiguresFollowTheStages : Obligations.PassFiguresFollowTheStages := by
  refine ⟨?_, ?_⟩
  · intro s t b i charge capacity acceptance a E m ht hd hr hc hk hacc ha hE hm
    have hx := State.passBay_of_full hd hr hc hk hacc
    have hlim := (bayLimit_eq s.budget.floorF s.budget.bayCeiling acceptance (s.record i).lastTemp).trans ha.symm
    have hen := (energyNeeded_eq capacity (s.record i).target charge s.budget.deliveryK).trans hE.symm
    have hmin := (s.clock.minutesLeft_eq (s.record i).readyBy).trans hm.symm
    have hFa : s.budget.floorF ≤ a := hlim ▸ le_bayLimit _ _ _ _
    have hm0 : 0 < m := by
      rw [← hmin]
      exact s.clock.minutesLeft_pos _
    subst ht
    rw [s.takePass_entry, hx, hd]
    refine ⟨congrArg some hlim, congrArg some hen, congrArg some hmin, ?_⟩
    rw [← requiredPower_eq E m hFa hm0, ← hlim, ← hen, ← hmin]
    rfl
  · intro s t b c i j kb kc Eb Ec mb mc ht hbc hdb hdc hrb hrc hkb hkc hEb hEc hmb hmc
    subst ht
    obtain ⟨x, hx⟩ : ∃ x, s.passBay b = some x := s.passBay_of_energy hdb hEb
    obtain ⟨y, hy⟩ : ∃ y, s.passBay c = some y := s.passBay_of_energy hdc hEc
    obtain ⟨hux, hxE, hxm, hxr⟩ := State.passBay_full hdb hrb hx
    obtain ⟨huy, hyE, hym, hyr⟩ := State.passBay_full hdc hrc hy
    obtain ⟨ib, x', rfl, hxi, hxb⟩ := rankOf_eq_some (hxr.symm.trans hkb)
    obtain ⟨ic, y', rfl, hyi, hyb⟩ := rankOf_eq_some (hyr.symm.trans hkc)
    obtain rfl : x' = x := Option.some.inj ((s.mem_passRanked.mp (List.mem_of_getElem? hxi)).symm.trans (by rw [hxb, hx]))
    obtain rfl : y' = y := Option.some.inj ((s.mem_passRanked.mp (List.mem_of_getElem? hyi)).symm.trans (by rw [hyb, hy]))
    have hlt := s.passRanked_ranked.lt_iff hxi hyi (by rw [hxb, hyb]; exact hbc)
    rw [Nat.add_lt_add_iff_right, hlt, PassBay.before_iff, hux, huy, hxb, hyb, Option.some.inj (hmb.symm.trans hxm),
      Option.some.inj (hmc.symm.trans hym), Option.some.inj (hEb.symm.trans hxE), Option.some.inj (hEc.symm.trans hyE)]

end Sys2Proof.Machine
end

section
/-! SUPPORT. The sharing out of a pass (R85 to R88): who is granted what, within the limits, above the floors and within the
budget. -/

namespace Sys2Proof.Machine

set_option Elab.async false

/-- The grants of a sharing out, added up. -/
def grantSum (l : List Share) : Nat := (l.map Prod.snd).sum

theorem grantSum_cons (x : Share) (l : List Share) : grantSum (x :: l) = x.2 + grantSum l := by simp [grantSum]

/-- A requirement lies between the floor and the limit (R80, R83). -/
abbrev PassBay.InOrder (F : Nat) (x : PassBay) : Prop := F ≤ x.required ∧ x.required ≤ x.limit

/-! ### Handing out in order (R86, R87) -/

section
variable (room : PassBay → Nat → Nat)

theorem handOut_fst (l : List Share) (left : Nat) : (handOut room left l).map Prod.fst = l.map Prod.fst := by
  induction l generalizing left with
  | nil => rfl
  | cons x l ih => simp [handOut, ih]

/-- What is handed out is what there is, or every room is filled. -/
theorem grantSum_handOut (l : List Share) (left : Nat) : grantSum (handOut room left l) =
    grantSum l + min left ((l.map fun x => room x.1 x.2).sum) := by
  induction l generalizing left with
  | nil => simp [handOut, grantSum]
  | cons x l ih =>
    rw [handOut, grantSum_cons, grantSum_cons, ih, List.map_cons, List.sum_cons]
    omega

/-- Each grant grows by no more than its room. -/
theorem mem_handOut {l : List Share} {left : Nat} {x : PassBay} {g : Nat} (h : (x, g) ∈ handOut room left l) :
    ∃ g₀, (x, g₀) ∈ l ∧ g₀ ≤ g ∧ g ≤ g₀ + room x g₀ := by
  induction l generalizing left with
  | nil => cases h
  | cons y l ih =>
    rw [handOut] at h
    rcases List.mem_cons.mp h with h | h
    · cases h
      exact ⟨y.2, List.mem_cons_self, Nat.le_add_right _ _, Nat.add_le_add_left (Nat.min_le_left _ _) _⟩
    · obtain ⟨g₀, hm, hg⟩ := ih h
      exact ⟨g₀, List.mem_cons_of_mem _ hm, hg⟩

end

/-! ### The three ways of sharing -/

section
variable (F : Nat)

theorem shareFloors_fst (k : Nat) (l : List PassBay) : (shareFloors F k l).map Prod.fst = l := by
  induction l generalizing k with
  | nil => cases k <;> rfl
  | cons x l ih => cases k <;> simp [shareFloors, ih]

theorem mem_shareFloors {k : Nat} {l : List PassBay} {x : PassBay} {g : Nat} (h : (x, g) ∈ shareFloors F k l) :
    x ∈ l ∧ g ≤ F := by
  induction l generalizing k with
  | nil => cases k <;> cases h
  | cons y l ih =>
    cases k <;> rw [shareFloors] at h <;> rcases List.mem_cons.mp h with h | h
    · cases h
      exact ⟨List.mem_cons_self, Nat.zero_le _⟩
    · exact (ih h).imp_left (List.mem_cons_of_mem _)
    · cases h
      exact ⟨List.mem_cons_self, le_rfl⟩
    · exact (ih h).imp_left (List.mem_cons_of_mem _)

theorem grantSum_shareFloors (k : Nat) (l : List PassBay) : grantSum (shareFloors F k l) ≤ k * F := by
  induction l generalizing k with
  | nil => cases k <;> simp [shareFloors, grantSum]
  | cons x l ih =>
    cases k with
    | zero => simpa [shareFloors, grantSum_cons] using ih 0
    | succ k =>
      have := ih k
      rw [shareFloors, grantSum_cons, Nat.succ_mul]
      omega

theorem demand_cons (x : PassBay) (l : List PassBay) : demand (x :: l) = x.required + demand l := by simp [demand]

variable {F}

theorem demand_ge {l : List PassBay} (h : ∀ x ∈ l, x.InOrder F) : l.length * F ≤ demand l := by
  induction l with
  | nil => simp
  | cons x l ih =>
    have := ih fun y hy => h y (List.mem_cons_of_mem _ hy)
    have := (h x List.mem_cons_self).1
    rw [demand_cons, List.length_cons, Nat.succ_mul]
    omega

theorem shareMet_fst (surplus : Nat) (l : List PassBay) : (shareMet surplus l).map Prod.fst = l := by
  rw [shareMet, handOut_fst, List.map_map]
  exact List.map_id l

theorem mem_shareMet {surplus : Nat} {l : List PassBay} (hl : ∀ x ∈ l, x.InOrder F) {x : PassBay} {g : Nat}
    (h : (x, g) ∈ shareMet surplus l) : F ≤ g ∧ g ≤ x.limit := by
  obtain ⟨g₀, hm, hg, hr⟩ := mem_handOut _ h
  obtain ⟨y, hy, e⟩ := List.mem_map.mp hm
  cases e
  obtain ⟨hF, hL⟩ := hl x hy
  refine ⟨hF.trans hg, hr.trans ?_⟩
  unfold surplusRoom
  split <;> omega

theorem grantSum_shareMet_le (surplus : Nat) (l : List PassBay) : grantSum (shareMet surplus l) ≤ demand l + surplus := by
  have h : grantSum (l.map fun x => (x, x.required)) = demand l := by simp [grantSum, demand, Function.comp_def]
  rw [shareMet, grantSum_handOut, h]
  omega

/-- The scaled grants lie between floor and requirement (R87). -/
theorem scaledGrant_le {above span : Nat} (h : above ≤ span) {x : PassBay} (hx : x.InOrder F) :
    F ≤ scaledGrant F above span x ∧ scaledGrant F above span x ≤ x.required := by
  obtain ⟨hF, -⟩ := hx
  have hd : (x.required - F) * above / span ≤ x.required - F := by
    rcases Nat.eq_zero_or_pos span with rfl | hs
    · simp
    · exact Nat.div_le_of_le_mul (by rw [Nat.mul_comm span]; exact Nat.mul_le_mul_left _ h)
  unfold scaledGrant
  generalize (x.required - F) * above / span = q at hd ⊢
  omega

/-- The scaled grants together lie within the budget (R87). -/
theorem scaled_sum_mul_le {above span : Nat} {l : List PassBay} (hl : ∀ x ∈ l, x.InOrder F) :
    (grantSum (l.map fun x => (x, scaledGrant F above span x)) - l.length * F) * span ≤ (demand l - l.length * F) * above ∧
      l.length * F ≤ grantSum (l.map fun x => (x, scaledGrant F above span x)) := by
  induction l with
  | nil => simp [grantSum]
  | cons x l ih =>
    obtain ⟨ih, ihF⟩ := ih fun y hy => hl y (List.mem_cons_of_mem _ hy)
    obtain ⟨hF, -⟩ := hl x List.mem_cons_self
    have hD := demand_ge fun y hy => hl y (List.mem_cons_of_mem x hy)
    have hq : (x.required - F) * above / span * span ≤ (x.required - F) * above := Nat.div_mul_le_self _ _
    rw [List.map_cons, grantSum_cons, demand_cons, List.length_cons, Nat.succ_mul]
    generalize grantSum (l.map fun x => (x, scaledGrant F above span x)) = G at ih ihF ⊢
    have h1 : scaledGrant F above span x + G - (l.length * F + F) =
        (x.required - F) * above / span + (G - l.length * F) := by
      unfold scaledGrant
      generalize (x.required - F) * above / span = q
      omega
    have h2 : x.required + demand l - (l.length * F + F) = (x.required - F) + (demand l - l.length * F) := by omega
    refine ⟨?_, ?_⟩
    · rw [h1, h2, Nat.add_mul, Nat.add_mul]
      exact Nat.add_le_add hq ih
    · have : F ≤ scaledGrant F above span x := Nat.le_add_right _ _
      dsimp only
      omega

theorem shareScaled_fst (B D : Nat) (l : List PassBay) : (shareScaled F B D l).map Prod.fst = l := by
  simp only [shareScaled, handOut_fst, List.map_map]
  exact List.map_id l

theorem mem_shareScaled {B : Nat} {l : List PassBay} (hl : ∀ x ∈ l, x.InOrder F) (hB : B < demand l) {x : PassBay} {g : Nat}
    (h : (x, g) ∈ shareScaled F B (demand l) l) : F ≤ g ∧ g ≤ x.limit := by
  obtain ⟨g₀, hm, hg, hr⟩ := mem_handOut _ h
  obtain ⟨y, hy, e⟩ := List.mem_map.mp hm
  cases e
  obtain ⟨hF, hR⟩ := scaledGrant_le (F := F) (above := B - l.length * F) (span := demand l - l.length * F)
    (Nat.sub_le_sub_right hB.le _) (hl x hy)
  obtain ⟨-, hL⟩ := hl x hy
  refine ⟨hF.trans hg, hr.trans ?_⟩
  unfold scaledRoom
  omega

/-- In stage 7 the whole budget is granted (R87). -/
theorem grantSum_shareScaled {B : Nat} {l : List PassBay} (hl : ∀ x ∈ l, x.InOrder F) (hF : l.length * F ≤ B)
    (hB : B < demand l) : grantSum (shareScaled F B (demand l) l) = B := by
  have hs := scaled_sum_mul_le (above := B - l.length * F) (span := demand l - l.length * F) hl
  have hroom : grantSum (l.map fun x => (x, scaledGrant F (B - l.length * F) (demand l - l.length * F) x)) +
      ((l.map fun x => (x, scaledGrant F (B - l.length * F) (demand l - l.length * F) x)).map
        fun x : Share => scaledRoom x.1 x.2).sum = demand l := by
    have hle : B - l.length * F ≤ demand l - l.length * F := Nat.sub_le_sub_right hB.le _
    generalize B - l.length * F = a at hle ⊢
    generalize demand l - l.length * F = d at hle ⊢
    clear hs hF hB
    induction l with
    | nil => rfl
    | cons x l ih =>
      have := ih fun y hy => hl y (List.mem_cons_of_mem _ hy)
      obtain ⟨-, hR⟩ := scaledGrant_le (F := F) hle (hl x List.mem_cons_self)
      simp only [List.map_cons, grantSum_cons, List.sum_cons, demand_cons, scaledRoom] at this ⊢
      omega
  obtain ⟨hmul, hge⟩ := hs
  have hpos : 0 < demand l - l.length * F := by omega
  have hsum : grantSum (l.map fun x => (x, scaledGrant F (B - l.length * F) (demand l - l.length * F) x)) ≤ B := by
    have : grantSum (l.map fun x => (x, scaledGrant F (B - l.length * F) (demand l - l.length * F) x)) - l.length * F ≤
        B - l.length * F := Nat.le_of_mul_le_mul_right (by rw [Nat.mul_comm (B - _)]; exact hmul) hpos
    omega
  have hshare := grantSum_handOut scaledRoom
    (l.map fun x => (x, scaledGrant F (B - l.length * F) (demand l - l.length * F) x))
    (B - grantSum (l.map fun x => (x, scaledGrant F (B - l.length * F) (demand l - l.length * F) x)))
  refine Eq.trans hshare ?_
  omega

/-! ### The sharing out -/

section
variable {B : Nat} {l : List PassBay}

theorem share_cases (F B : Nat) (l : List PassBay) :
    l = [] ∧ share F B l = ([], .empty) ∨
    l ≠ [] ∧ B < l.length * F ∧ share F B l = (shareFloors F (B / F) l, .floorsShort) ∨
    l ≠ [] ∧ l.length * F ≤ B ∧ demand l ≤ B ∧ share F B l = (shareMet (B - demand l) l, .allMet) ∨
    l ≠ [] ∧ l.length * F ≤ B ∧ B < demand l ∧ share F B l = (shareScaled F B (demand l) l, .scaled) := by
  unfold share
  simp only
  split
  · next h => exact .inl ⟨List.length_eq_zero_iff.mp h, rfl⟩
  · next h =>
    have hne : l ≠ [] := fun e => h (by rw [e]; rfl)
    split
    · next hs => exact .inr (.inl ⟨hne, hs, rfl⟩)
    · next hs =>
      split
      · next hm => exact .inr (.inr (.inl ⟨hne, not_lt.mp hs, hm, rfl⟩))
      · next hm => exact .inr (.inr (.inr ⟨hne, not_lt.mp hs, not_le.mp hm, rfl⟩))

theorem share_fst : (share F B l).1.map Prod.fst = l := by
  rcases share_cases F B l with ⟨rfl, e⟩ | ⟨-, -, e⟩ | ⟨-, -, -, e⟩ | ⟨-, -, -, e⟩ <;> rw [e]
  · rfl
  · exact shareFloors_fst _ _ _
  · exact shareMet_fst _ _
  · exact shareScaled_fst _ _ _

theorem mem_share (hl : ∀ x ∈ l, x.InOrder F) {x : PassBay} {g : Nat} (h : (x, g) ∈ (share F B l).1) :
    g ≤ x.limit ∧ (l.length * F ≤ B → F ≤ g) := by
  rcases share_cases F B l with ⟨-, e⟩ | ⟨-, hB, e⟩ | ⟨-, -, -, e⟩ | ⟨-, -, hB, e⟩ <;> rw [e] at h
  · cases h
  · obtain ⟨hx, hg⟩ := mem_shareFloors F h
    obtain ⟨h1, h2⟩ := hl x hx
    exact ⟨hg.trans (h1.trans h2), fun hn => absurd hn (not_le.mpr hB)⟩
  · obtain ⟨h1, h2⟩ := mem_shareMet hl h
    exact ⟨h2, fun _ => h1⟩
  · obtain ⟨h1, h2⟩ := mem_shareScaled hl hB h
    exact ⟨h2, fun _ => h1⟩

theorem grantSum_share_of_scaled (hl : ∀ x ∈ l, x.InOrder F) (h : (share F B l).2 = .scaled) :
    grantSum (share F B l).1 = B := by
  rcases share_cases F B l with ⟨-, e⟩ | ⟨-, -, e⟩ | ⟨-, -, -, e⟩ | ⟨-, hF, hB, e⟩ <;> rw [e] at h ⊢
  iterate 3 cases h
  exact grantSum_shareScaled hl hF hB

theorem grantSum_share_of_floorsShort (h : (share F B l).2 = .floorsShort) : grantSum (share F B l).1 ≤ B / F * F := by
  rcases share_cases F B l with ⟨-, e⟩ | ⟨-, -, e⟩ | ⟨-, -, -, e⟩ | ⟨-, -, -, e⟩ <;> rw [e] at h ⊢
  · cases h
  · exact grantSum_shareFloors _ _ _
  all_goals cases h

theorem grantSum_share_le (hl : ∀ x ∈ l, x.InOrder F) : grantSum (share F B l).1 ≤ B := by
  rcases share_cases F B l with ⟨-, e⟩ | ⟨-, -, e⟩ | ⟨-, -, hD, e⟩ | ⟨-, hF, hB, e⟩ <;> rw [e]
  · exact Nat.zero_le _
  · exact (grantSum_shareFloors _ _ _).trans (Nat.div_mul_le_self _ _)
  · exact (grantSum_shareMet_le _ _).trans (by omega)
  · exact (grantSum_shareScaled hl hF hB).le

end

end

/-! ### Grants by bay -/

theorem grantOf_cons (x : Share) (l : List Share) (b : BayNo) :
    grantOf (x :: l) b = if x.1.bay = b then x.2 else grantOf l b := by
  unfold grantOf
  rw [List.find?_cons]
  by_cases h : x.1.bay = b
  · simp [h]
  · rw [beq_eq_false_iff_ne.mpr h, if_neg h]

theorem grantOf_eq_zero {l : List Share} {b : BayNo} (h : ∀ x ∈ l, x.1.bay ≠ b) : grantOf l b = 0 := by
  have hn : l.find? (fun x => x.1.bay == b) = none := by simpa using h
  rw [grantOf, hn]

/-- A bay's grant is its share. -/
theorem mem_of_grantOf {l : List Share} {b : BayNo} (h : ∃ x ∈ l, x.1.bay = b) : ∃ x ∈ l, x.1.bay = b ∧ grantOf l b = x.2 := by
  cases hf : l.find? (fun x => x.1.bay == b) with
  | none => simp at hf; obtain ⟨x, hx, e⟩ := h; exact absurd e (hf _ _ hx)
  | some x => exact ⟨x, List.mem_of_find?_eq_some hf, by simpa using List.find?_some hf, by rw [grantOf, hf]⟩

theorem sum_allBays (f : BayNo → Nat) : (allBays.map f).sum = ∑ b, f b := (Fin.sum_univ_def f).symm

/-- With one share for each bay at most, the grants of the bays add up to the shares. -/
theorem sum_grantOf {l : List Share} (h : (l.map fun x => x.1.bay).Nodup) :
    (allBays.map (grantOf l)).sum = grantSum l := by
  rw [sum_allBays]
  induction l with
  | nil => simp [grantOf, grantSum]
  | cons x l ih =>
    obtain ⟨hx, hl⟩ := List.nodup_cons.mp h
    have hz : grantOf l x.1.bay = 0 := grantOf_eq_zero fun y hy e => hx (List.mem_map.mpr ⟨y, hy, e⟩)
    have hf (b : BayNo) : grantOf (x :: l) b = (if x.1.bay = b then x.2 else 0) + grantOf l b := by
      rw [grantOf_cons]
      split
      · next e => rw [← e, hz, Nat.add_zero]
      · rw [Nat.zero_add]
    rw [grantSum_cons, ← ih hl, Finset.sum_congr rfl fun b _ => hf b, Finset.sum_add_distrib]
    simp

/-! ### The grants of a pass -/

section
variable (s : State)

theorem State.passBay_inOrder {b : BayNo} {x : PassBay} (h : s.passBay b = some x) : x.InOrder s.budget.floorF := by
  unfold State.passBay at h
  split at h
  · cases h
    exact ⟨le_rfl, le_rfl⟩
  · split at h
    · split at h
      · cases h
        have hl := le_bayLimit s.budget.floorF s.budget.bayCeiling
        simp only [PassBay.fullClass]
        constructor
        · rw [requiredPower, clampNat_eq_max (hl _ _)]
          exact Nat.le_max_left _ _
        · rw [requiredPower, clampNat_eq_max (hl _ _)]
          exact Nat.max_le.mpr ⟨hl _ _, Nat.min_le_left _ _⟩
      · cases h
    · cases h
  all_goals cases h

theorem State.passRanked_inOrder : ∀ x ∈ s.passRanked, x.InOrder s.budget.floorF := fun _ hx =>
  s.passBay_inOrder (s.mem_passRanked.mp hx)

theorem State.passRanked_nodup : (s.passRanked.map PassBay.bay).Nodup :=
  ((rankBays_perm s.passBays).map PassBay.bay).nodup_iff.mpr s.passBays_nodup

theorem State.passShare_nodup : (s.passShare.1.map fun x => x.1.bay).Nodup := by
  have h : s.passShare.1.map (fun x => x.1.bay) = s.passRanked.map PassBay.bay := by
    rw [← share_fst (F := s.budget.floorF) (B := s.passBudget) (l := s.passRanked), List.map_map]
    rfl
  rw [h]
  exact s.passRanked_nodup

/-- The grants of a pass add up to what is shared out (R88). -/
theorem State.sum_grants : (allBays.map fun b => (s.takePass.bay b).grant).sum = grantSum s.passShare.1 := by
  rw [← sum_grantOf s.passShare_nodup]
  congr 2
  funext b
  rw [s.takePass_bay]

/-- A bay out of the pass is granted 0 (R88). -/
theorem State.takePass_grant_of_none {b : BayNo} (h : s.passBay b = none) : (s.takePass.bay b).grant = 0 := by
  rw [s.takePass_bay]
  refine grantOf_eq_zero fun x hx e => ?_
  have hm : x.1 ∈ s.passRanked :=
    share_fst (F := s.budget.floorF) (B := s.passBudget) (l := s.passRanked) ▸ List.mem_map_of_mem (f := Prod.fst) hx
  have := s.mem_passRanked.mp hm
  rw [e, h] at this
  cases this

/-- A bay of the pass is granted its share (R88). -/
theorem State.takePass_grant_mem {b : BayNo} {x : PassBay} (h : s.passBay b = some x) :
    (x, (s.takePass.bay b).grant) ∈ s.passShare.1 := by
  have hb := s.passBay_bay b h
  have hm : x ∈ s.passShare.1.map Prod.fst := by
    have : s.passShare.1.map Prod.fst = s.passRanked := share_fst
    rw [this, s.mem_passRanked, hb, h]
  obtain ⟨y, hy, rfl⟩ := List.mem_map.mp hm
  obtain ⟨z, hz, hzb, hg⟩ := mem_of_grantOf ⟨y, hy, hb⟩
  have hyz : y = z := by
    have := List.inj_on_of_nodup_map s.passShare_nodup hy hz (hb.trans hzb.symm)
    exact this
  rw [s.takePass_bay, hg, hyz]
  exact hz

theorem State.passBay_eq_none {b : BayNo} (h1 : s.disposition b ≠ .full) (h2 : s.disposition b ≠ .floor) :
    s.passBay b = none := by
  unfold State.passBay
  split <;> first | rfl | contradiction

end

end Sys2Proof.Machine
end

section
/-! SUPPORT. Energy accounting (R107), and the settling of O39. -/

namespace Sys2Proof.Machine

set_option Elab.async false

section
variable (s : State) (b : BayNo)

/-- A second of one bay writes its remainder and its record's energy alone. -/
theorem State.accountBay_only : s.accountBay b =
    { s with outputs := (s.accountBay b).outputs, roster := (s.accountBay b).roster } := by
  unfold State.accountBay
  split <;> rfl

theorem State.accountBay_bay (c : BayNo) : (s.accountBay b).bay c = s.bay c := by
  rw [State.accountBay_only]
  rfl

/-- The energy remainder of a bay after one second, where it names a record. -/
theorem State.accountBay_output (c : BayNo) : (s.accountBay b).output c =
    if b = c ∧ (s.bay b).record.isSome = true then { s.output b with remainder := (s.output b).accounted % 3600 }
    else s.output c := by
  unfold State.accountBay
  cases (s.bay b).record with
  | none => simp
  | some i =>
    have h : ∀ t : State, ∀ f, (t.editRecord i f).output c = t.output c := fun _ _ => rfl
    simp [h]

theorem State.accountBay_record (j : RecordIx) : (s.accountBay b).record j =
    if (s.bay b).record = some j then
      { s.record j with energy := addEnergy (s.record j).energy ((s.output b).accounted / 3600) }
    else s.record j := by
  unfold State.accountBay
  cases (s.bay b).record with
  | none => simp
  | some i =>
    simp only [State.record_editRecord, Option.some.injEq]
    split
    · next h => subst h; rfl
    · rfl

/-- The energy that one second of its bay adds to a record, if its bay is among those accounted. -/
def State.accounted (l : List BayNo) (j : RecordIx) : Record :=
  match (s.record j).currentBay with
  | some b =>
    if b ∈ l then { s.record j with energy := addEnergy (s.record j).energy ((s.output b).accounted / 3600) }
    else s.record j
  | none => s.record j

/-- One second of each of several bays, every bay once. -/
theorem State.accountBays (h : s.NamingLaw) (l : List BayNo) (hn : l.Nodup) (t : State) (ht : t = l.foldl State.accountBay s) :
    t = { s with outputs := t.outputs, roster := t.roster } ∧
      (∀ c, t.output c = if c ∈ l ∧ (s.bay c).record.isSome = true then
        { s.output c with remainder := (s.output c).accounted % 3600 } else s.output c) ∧
      ∀ j, t.record j = s.accounted l j := by
  induction l using List.reverseRecOn generalizing t with
  | nil =>
    subst ht
    refine ⟨rfl, fun c => by simp, fun j => ?_⟩
    unfold State.accounted
    split <;> simp
  | append_singleton l b ih =>
    obtain ⟨hl, -, hb⟩ := List.nodup_append.mp hn
    have hbl : b ∉ l := fun hm => hb b hm b List.mem_cons_self rfl
    obtain ⟨hu, ho, hr⟩ := ih hl _ rfl
    rw [List.foldl_append, List.foldl_cons, List.foldl_nil] at ht
    have hbay (c : BayNo) : (l.foldl State.accountBay s).bay c = s.bay c := by rw [hu]; rfl
    subst ht
    refine ⟨?_, fun c => ?_, fun j => ?_⟩
    · rw [State.accountBay_only]
      exact congrArg (fun u : State => { u with
        outputs := ((l.foldl State.accountBay s).accountBay b).outputs
        roster := ((l.foldl State.accountBay s).accountBay b).roster }) hu
    · rw [State.accountBay_output, hbay, ho, ho]
      by_cases hc : b = c
      · subst hc
        simp [hbl]
      · simp [hc, Ne.symm hc]
    · rw [State.accountBay_record, hbay, hr, ho]
      obtain ⟨hname, -⟩ := h
      unfold State.accounted
      cases hj : (s.record j).currentBay with
      | none =>
        have hne : (s.bay b).record ≠ some j := fun e => by simpa [hj] using (hname j b).mpr e
        simp [hne]
      | some c =>
        by_cases hc : c = b
        · subst hc
          have he : (s.bay c).record = some j := (hname j c).mp hj
          simp [he, hbl]
        · have hne : (s.bay b).record ≠ some j := fun e => hc (Option.some.inj (hj.symm.trans ((hname j b).mpr e)))
          simp [hne, hc]

end

/-- Settles O39: every bay is accounted once, and the record of each is named by it alone. -/
theorem energyIsAccountedEachSecond : Obligations.EnergyIsAccountedEachSecond := by
  intro s h
  obtain ⟨hu, ho, hr⟩ := s.accountBays h allBays (List.nodup_finRange 36) _ rfl
  have hmem (b : BayNo) : b ∈ allBays := List.mem_finRange b
  generalize hv : allBays.foldl State.accountBay s = v at hu ho hr
  refine ⟨v.countSecond, by rw [exec, execEnergyAccountingTick, hv], ?_, fun b => ?_, fun i => ?_, fun b hb => ?_,
    fun i hi => ?_, fun b i hb => ?_⟩
  · exact congrArg State.countSecond hu
  · change v.output b = { s.output b with remainder := (v.output b).remainder }
    rw [ho]
    split <;> rfl
  · change v.record i = { s.record i with energy := (v.record i).energy }
    rw [hr]
    unfold State.accounted
    split
    · split <;> rfl
    · rfl
  · change v.output b = s.output b
    rw [ho, hb]
    simp
  · change v.record i = s.record i
    rw [hr, State.accounted, hi]
  · change (v.output b).remainder = _ ∧ (v.record i).energy = _
    have hi : (s.record i).currentBay = some b := (h.1 i b).mpr hb
    rw [ho, hr, State.accounted, hi, hb]
    simp only [hmem, true_and, Option.isSome_some, if_true]
    exact ⟨rfl, rfl⟩

end Sys2Proof.Machine
end

section
/-! SUPPORT. The Key Receiver's requests and events (chapter 8), and the settling of O49, O50 and O51. -/

namespace Sys2Proof.Machine

set_option Elab.async false

/-! ### LEARN_KEY, SET_KEY and ERASE_KEY -/

section
variable {s : State} {n role tolerance : Byte} {e : KeyIx} {r : KeyRole} {p : SetKeyParams}

theorem keyRole?_of_eq (h : role.toNat = r.ctorIdx) : keyRole? role = some r := by
  unfold keyRole? enum?
  rw [h]
  cases r <;> rfl

theorem keyRole?_of_lt (h : role.toNat < 2) : ∃ r, keyRole? role = some r := enum?_of_lt h

theorem keyRole?_of_ge (h : 2 ≤ role.toNat) : keyRole? role = none := enum?_of_ge h

theorem State.learningKey_eq_none_iff : s.learningKey = none ↔ ∀ f : KeyIx, (s.keyEntry f).state.isLearning = false := by
  simp [State.learningKey, allKeys]

theorem KeyState.isLearning_iff (x : KeyState) : x.isLearning = true ↔ ∃ r t l, x = .learning r t l := by
  cases x <;> simp [KeyState.isLearning]

theorem KeyState.isValid_iff (x : KeyState) : x.isValid = true ↔ ∃ r q d t g, x = .valid r q d t g := by
  cases x <;> simp [KeyState.isValid]

theorem setKeyInRange_iff (m : Nat) (p : SetKeyParams) : setKeyInRange m p = true ↔
    1 ≤ p.depth.toNat ∧ p.depth.toNat ≤ m ∧ p.tolerance.toNat ≤ 15 ∧ p.ignored.Nodup ∧
      ∀ x ∈ p.ignored, 1 ≤ x.toNat ∧ x.toNat ≤ m := by
  simp only [setKeyInRange, Bool.and_eq_true, decide_eq_true_eq, List.all_eq_true]
  tauto

/-- A read of the Key Table goes through its entries alone. -/
theorem State.keyEntry_congr {u v : State} (h : u.keys.entries = v.keys.entries) (e : KeyIx) : u.keyEntry e = v.keyEntry e := by
  simp only [State.keyEntry, h]

/-- What one entry of the Key Table holds where another state's table has it written there. -/
theorem State.keyEntry_written {u v : State} {x : KeyEntry} (h : u.keys.entries = (v.setKeyEntry e x).keys.entries) :
    u.keyEntry e = x ∧ ∀ f, f ≠ e → u.keyEntry f = v.keyEntry f :=
  ⟨(State.keyEntry_congr h e).trans ((v.keyEntry_setKeyEntry e e x).trans (if_pos rfl)),
    fun f hf => (State.keyEntry_congr h f).trans ((v.keyEntry_setKeyEntry e f x).trans (if_neg hf.symm))⟩

theorem exec_learnKey (hn : n.toNat = e.val) (hr : role.toNat = r.ctorIdx) (ht : tolerance.toNat ≤ 15)
    (hl : s.learningKey = none) : exec (.learnKey n role tolerance) s =
      .next ((s.beginLearning e r tolerance.toNat).respond .accepted []) := by
  change (.next (s.learnKey n role tolerance) : Result) = _
  rw [State.learnKey, keyIx?_of_eq hn, keyRole?_of_eq hr]
  simp only [Nat.not_lt.mpr ht, if_false, hl]
  rfl

theorem exec_setKey {q : List Sample} {r' : KeyRole} {d w : Nat} {g : List Nat} (hn : n.toNat = e.val)
    (hr : p.role.toNat = r.ctorIdx) (hi : p.ignored.length ≤ 4) (hv : (s.keyEntry e).state = .valid r' q d w g)
    (hp : setKeyInRange q.length p = true) : exec (.setKey n p) s =
      .next (((s.setKeyEntry e ⟨.valid r q p.depth.toNat p.tolerance.toNat (p.ignored.map BitVec.toNat),
        (s.keyEntry e).lastResult⟩).dropCandidate e).respond .done
          (KeyEntry.bytes s.clk32 ⟨.valid r q p.depth.toNat p.tolerance.toNat (p.ignored.map BitVec.toNat),
            (s.keyEntry e).lastResult⟩)) := by
  change (.next (s.setKey n p) : Result) = _
  rw [State.setKey, keyIx?_of_eq hn, keyRole?_of_eq hr]
  simp only [Nat.not_lt.mpr hi, if_false, hv, hp, if_true]

theorem exec_eraseKey_empty (hn : n.toNat = e.val) (hs : (s.keyEntry e).state = .empty) :
    exec (.eraseKey n) s = .next (s.respond .done []) := by
  change (.next (s.eraseKey n) : Result) = _
  simp only [State.eraseKey, keyIx?_of_eq hn, hs]

theorem exec_eraseKey_valid {q : List Sample} {d w : Nat} {g : List Nat} (hn : n.toNat = e.val)
    (hs : (s.keyEntry e).state = .valid r q d w g) :
    exec (.eraseKey n) s = .next (((s.setKeyEntry e ⟨.empty, none⟩).dropCandidate e).respond .done []) := by
  change (.next (s.eraseKey n) : Result) = _
  simp only [State.eraseKey, keyIx?_of_eq hn, hs]

theorem exec_eraseKey_learning {w x : Nat} (hn : n.toNat = e.val) (hs : (s.keyEntry e).state = .learning r w x) :
    exec (.eraseKey n) s = .next ((s.dropTaker.setKeyEntry e ⟨.empty, some .erased⟩).respond .done []) := by
  change (.next (s.eraseKey n) : Result) = _
  simp only [State.eraseKey, keyIx?_of_eq hn, hs]

/-- A request that writes the Key Receiver alone answers, and that is all it changes. -/
theorem State.respond_of_keys {u : State} (h : u = { s with keys := u.keys }) (x : Status) (d : List Byte) :
    u.respond x d = { s with
      keys := (u.respond x d).keys
      port := { s.port with response := (u.respond x d).port.response } } := by
  rw [h]
  rfl

theorem State.beginLearning_keys (w : Nat) :
    s.beginLearning e r w = { s with keys := (s.beginLearning e r w).keys } := rfl

theorem State.setKeyEntry_keys (x : KeyEntry) : s.setKeyEntry e x = { s with keys := (s.setKeyEntry e x).keys } := rfl

theorem State.setKeyEntry_dropCandidate_keys (x : KeyEntry) :
    (s.setKeyEntry e x).dropCandidate e = { s with keys := ((s.setKeyEntry e x).dropCandidate e).keys } := rfl

theorem State.dropTaker_setKeyEntry_keys (x : KeyEntry) :
    s.dropTaker.setKeyEntry e x = { s with keys := (s.dropTaker.setKeyEntry e x).keys } := rfl

end

/-- Settles O49, request by request, the refusals in the order of the checks. -/
theorem keyRequestsWriteTheirEntry : Obligations.KeyRequestsWriteTheirEntry := by
  refine ⟨fun s n role tolerance e r p c hn => ⟨?_, ?_, ?_, ?_⟩, fun s n role tolerance e p => ⟨?_, ?_, ?_, ?_, ?_, ?_⟩⟩
  · rintro rfl hr ht hl
    obtain ⟨he, hf⟩ := State.keyEntry_written (u := (s.beginLearning e r tolerance.toNat).respond .accepted [])
      (v := s.dropTaker) (e := e) (x := ⟨.learning r tolerance.toNat (s.clk32 + Config.learnSeconds), none⟩) rfl
    exact ⟨_, exec_learnKey hn hr ht (State.learningKey_eq_none_iff.mpr hl), ⟨rfl, rfl⟩,
      State.respond_of_keys (State.beginLearning_keys _) _ _, he, rfl, rfl, rfl, hf⟩
  · rintro r' q d w g rfl hv hr hi h1 h2 h3 h4 h5
    have hp : setKeyInRange q.length p = true := (setKeyInRange_iff _ _).mpr ⟨h1, h2, h3, h4, h5⟩
    have hx := exec_setKey hn hr hi hv hp
    generalize KeyEntry.mk _ _ = x at hx ⊢
    obtain ⟨he, hf⟩ := State.keyEntry_written (u := ((s.setKeyEntry e x).dropCandidate e).respond .done (x.bytes s.clk32))
      (v := s) (e := e) (x := x) rfl
    exact ⟨_, hx, ⟨rfl, congrArg (KeyEntry.bytes s.clk32) he.symm⟩,
      State.respond_of_keys (State.setKeyEntry_dropCandidate_keys _) _ _, he,
      List.filter_congr fun f _ => by simp [bne, Bool.beq_eq_decide_eq], rfl, hf⟩
  · rintro rfl hv
    cases hs : (s.keyEntry e).state with
    | empty => exact absurd hs hv
    | valid r' q d w g =>
      obtain ⟨he, hf⟩ := State.keyEntry_written (u := ((s.setKeyEntry e ⟨.empty, none⟩).dropCandidate e).respond .done [])
        (v := s) (e := e) (x := ⟨.empty, none⟩) rfl
      exact ⟨_, exec_eraseKey_valid hn hs, ⟨rfl, rfl⟩, State.respond_of_keys (State.setKeyEntry_dropCandidate_keys _) _ _, he,
        fun _ => ⟨List.filter_congr fun f _ => by simp [bne, Bool.beq_eq_decide_eq], rfl⟩, nofun, hf⟩
    | learning r' w x =>
      obtain ⟨he, hf⟩ := State.keyEntry_written (u := (s.dropTaker.setKeyEntry e ⟨.empty, some .erased⟩).respond .done [])
        (v := s.dropTaker) (e := e) (x := ⟨.empty, some .erased⟩) rfl
      exact ⟨_, exec_eraseKey_learning hn hs, ⟨rfl, rfl⟩, State.respond_of_keys (State.dropTaker_setKeyEntry_keys _) _ _, he, nofun, fun _ => rfl, hf⟩
  · rintro rfl hv
    exact exec_eraseKey_empty hn hv
  · intro hn
    refine ⟨?_, ?_, ?_⟩
    · change (.next (s.learnKey n role tolerance) : Result) = _
      rw [State.learnKey, keyIx?_of_ge hn]; rfl
    · change (.next (s.setKey n p) : Result) = _
      rw [State.setKey, keyIx?_of_ge hn]; rfl
    · change (.next (s.eraseKey n) : Result) = _
      rw [State.eraseKey, keyIx?_of_ge hn]; rfl
  · intro hn hr
    change (.next (s.learnKey n role tolerance) : Result) = _
    rw [State.learnKey, keyIx?_of_eq (e := ⟨n.toNat, hn⟩) rfl, keyRole?_of_ge hr]; rfl
  · intro hn hr ht
    obtain ⟨r, hr⟩ := keyRole?_of_lt hr
    change (.next (s.learnKey n role tolerance) : Result) = _
    rw [State.learnKey, keyIx?_of_eq (e := ⟨n.toNat, hn⟩) rfl, hr]
    simp only [ht, if_true]; rfl
  · intro hn hr ht hl
    obtain ⟨r, hr⟩ := keyRole?_of_lt hr
    change (.next (s.learnKey n role tolerance) : Result) = _
    rw [State.learnKey, keyIx?_of_eq (e := ⟨n.toNat, hn⟩) rfl, hr]
    simp only [Nat.not_lt.mpr ht, if_false, State.learningKey_isSome_iff.mpr ⟨e, hl⟩, if_true]; rfl
  · intro hn h
    change (.next (s.setKey n p) : Result) = _
    rw [State.setKey, keyIx?_of_eq (e := ⟨n.toNat, hn⟩) rfl]
    by_cases hr : p.role.toNat < 2
    · obtain ⟨r, hr'⟩ := keyRole?_of_lt hr
      simp only [hr', h.resolve_left (Nat.not_le.mpr hr), if_true]; rfl
    · rw [keyRole?_of_ge (Nat.not_lt.mp hr)]; rfl
  · intro hn hr hi
    obtain ⟨r, hr⟩ := keyRole?_of_lt hr
    refine ⟨fun hv => ?_, fun r' q d w g hv hx => ?_⟩
    · change (.next (s.setKey n p) : Result) = _
      rw [State.setKey, keyIx?_of_eq hn, hr]
      simp only [Nat.not_lt.mpr hi, if_false]
      cases hs : (s.keyEntry e).state with
      | valid r' q d w g => simp [hs, KeyState.isValid] at hv
      | empty => rfl
      | learning r' w x => rfl
    · have hp : setKeyInRange q.length p = false := by
        rw [← Bool.not_eq_true, setKeyInRange_iff]
        rintro ⟨h1, h2, h3, h4, h5⟩
        obtain hx | hx | hx | hx | ⟨x, hm, hx⟩ := hx
        · simp [hx] at h1
        · omega
        · omega
        · exact hx h4
        · obtain ⟨h6, h7⟩ := h5 x hm
          obtain hx | hx := hx
          · simp [hx] at h6
          · omega
      change (.next (s.setKey n p) : Result) = _
      rw [State.setKey, keyIx?_of_eq hn, hr]
      simp only [Nat.not_lt.mpr hi, if_false, hv, hp]
      rfl

end Sys2Proof.Machine
end

section
/-! SUPPORT. What a stretch does to the burst, the learner and the matcher (R154, R155, R158, R161, R162, R164), and the
settling of O50. -/

namespace Sys2Proof.Machine

set_option Elab.async false

/-! ### Subjects -/

theorem memberMask_getLsbD {m : Nat} (h : m < 64) : (memberMask m).getLsbD m = true := by
  rw [memberMask, BitVec.getLsbD_ofNat, Nat.testBit_two_pow_self, Bool.and_true, decide_eq_true h]

/-- A subject that has joined a set stands in it. -/
theorem State.addSubject_holds (s : State) (n : SourceNo) {m : Nat} (h : m < 64) : (s.addSubject n m).Holds n m := by
  rw [State.Holds, s.subjectsOf_addSubject, if_pos rfl, BitVec.getLsbD_or, memberMask_getLsbD h, Bool.or_true]

/-- A set that only grows keeps its members. -/
theorem State.EventsGrow.holds {s t : State} (h : s.EventsGrow t) {n : SourceNo} {m : Nat} (hm : s.Holds n m) :
    t.Holds n m := by
  have hn := h.2 n
  rw [State.Holds, ← hn, BitVec.getLsbD_and, Bool.and_eq_true] at hm
  exact hm.2

/-! ### What the learner and the matcher leave of the burst -/

/-- The measurement's state, the burst's state and count, and the judged mark are left as they are. -/
structure State.BurstKept (s t : State) : Prop where
  stretch : t.keys.stretchHigh = s.keys.stretchHigh
  overtaken : t.keys.gapOvertaken = s.keys.gapOvertaken
  burst : t.keys.burst = s.keys.burst
  count : t.keys.count = s.keys.count
  judged : t.keys.judged = s.keys.judged

section
variable (s : State) (x : Sample)

theorem State.BurstKept.endLearning (y : KeyState) (r : LearnResult) : s.BurstKept (s.endLearning y r) := by
  unfold State.endLearning
  split <;> exact ⟨rfl, rfl, rfl, rfl, rfl⟩

theorem State.BurstKept.learnSample : s.BurstKept (s.learnSample x) := by
  unfold State.learnSample
  split
  · exact .endLearning s _ _
  · exact ⟨rfl, rfl, rfl, rfl, rfl⟩

theorem State.openFor_keys (r : Option KeyRole) : (s.openFor r).keys = s.keys := by
  rcases r with _ | _ | _ <;> rfl

theorem State.keyMatch_keys (e : KeyIx) :
    (s.keyMatch e).keys = { s.keys with matched := true, candidates := [], failures := 0 } :=
  State.openFor_keys _ _

theorem State.BurstKept.matchSample : s.BurstKept (s.matchSample x) := by
  unfold State.matchSample
  simp only
  split
  · exact ⟨by rw [s.keyMatch_keys], by rw [s.keyMatch_keys], by rw [s.keyMatch_keys], by rw [s.keyMatch_keys],
      by rw [s.keyMatch_keys]⟩
  · exact ⟨rfl, rfl, rfl, rfl, rfl⟩

/-- The sample that comes next is counted. -/
def State.counted (s : State) : State := { s with keys := { s.keys with count := min 49 (s.keys.count + 1) } }

theorem State.nextSample_eq : s.nextSample x =
    match s.keys.taker with
    | some .learner => s.counted.learnSample x
    | some .matcher => s.counted.matchSample x
    | none => s.counted := rfl

theorem State.nextSample_kept : s.counted.BurstKept (s.nextSample x) := by
  rw [State.nextSample_eq]
  split
  · exact .learnSample _ x
  · exact .matchSample _ x
  · exact ⟨rfl, rfl, rfl, rfl, rfl⟩

end

/-! ### The learner's samples -/

section
variable {s : State} {e : KeyIx} (x : Sample)

theorem State.nextSample_learner (ht : s.keys.taker = some .learner) (hc : s.keys.count < 48) :
    (s.nextSample x).keys = { s.counted.keys with samples := s.keys.samples ++ [x] } := by
  rw [State.nextSample_eq, ht]
  have hn : ¬49 ≤ s.counted.keys.count := by simp only [State.counted]; omega
  simp only [State.learnSample, if_neg hn]
  rfl

theorem State.endLearning_of_some (h : s.learningKey = some e) (y : KeyState) (r : LearnResult) :
    s.endLearning y r = (s.dropTaker.setKeyEntry e ⟨y, some r⟩).addSubject Source.key e.val := by
  rw [State.endLearning, h]

theorem State.endLearning_entry (h : s.learningKey = some e) (y : KeyState) (r : LearnResult) :
    (s.endLearning y r).keyEntry e = ⟨y, some r⟩ ∧
      ∀ f, f ≠ e → (s.endLearning y r).keyEntry f = s.keyEntry f := by
  rw [State.endLearning_of_some h]
  exact State.keyEntry_written (v := s.dropTaker) (x := ⟨y, some r⟩) rfl

theorem State.endLearning_holds (h : s.learningKey = some e) (y : KeyState) (r : LearnResult) :
    (s.endLearning y r).Holds Source.key e.val := by
  rw [State.endLearning_of_some h]
  exact State.addSubject_holds _ _ (by omega)

theorem State.nextSample_tooLong (ht : s.keys.taker = some .learner) (hc : s.keys.count = 48) :
    s.nextSample x = s.counted.endLearning .empty .tooLong := by
  rw [State.nextSample_eq, ht]
  have hn : 49 ≤ s.counted.keys.count := by simp only [State.counted]; omega
  simp only [State.learnSample, if_pos hn]

end

/-! ### The matcher's samples -/

theorem Sample.fits_iff (w : Nat) (x p : Sample) :
    x.fits w p = true ↔ p.mark = x.mark ∧ x.length ≤ p.length + w ∧ p.length ≤ x.length + w := by
  rw [eq_comm (a := p.mark)]
  simp only [Sample.fits, Bool.and_eq_true, beq_iff_eq, decide_eq_true_eq, and_assoc]

section
variable {s : State} {e : KeyIx}

theorem State.sampleFits_iff {k : Nat} {mark : Bool} {len : Nat} {f : KeyIx} :
    s.SampleFits k mark len f ↔ (s.keyEntry f).state.keeps k ⟨mark, len⟩ = true := by
  unfold State.SampleFits KeyState.keeps
  cases (s.keyEntry f).state with
  | empty => simp
  | learning r w l => simp
  | valid r q d w g =>
    simp only [Bool.or_eq_true, List.contains_iff_mem]
    refine or_congr Iff.rfl ?_
    cases hq : q[k - 1]? with
    | none => simp
    | some p => simp [Sample.fits_iff]

theorem State.depthIs_iff {k : Nat} {f : KeyIx} : s.DepthIs k f ↔ (s.keyEntry f).state.reaches k = true := by
  unfold State.DepthIs KeyState.reaches
  cases (s.keyEntry f).state <;> simp

/-- The search of a list in ascending order finds the lowest member it is after. -/
theorem find?_eq_some_of_lowest {l : List KeyIx} {p : KeyIx → Bool} (hl : l.Pairwise (· < ·)) (hm : e ∈ l)
    (hp : p e = true) (hlow : ∀ f ∈ l, f < e → p f = false) : l.find? p = some e := by
  obtain ⟨as, bs, rfl⟩ := List.append_of_mem hm
  refine List.find?_eq_some_iff_append.mpr ⟨hp, as, bs, rfl, fun f hf => ?_⟩
  rw [hlow f (List.mem_append_left _ hf) ((List.pairwise_append.mp hl).2.2 f hf e (by simp))]
  rfl

theorem State.matchSample_kept_of_none {x : Sample} (h : ∀ f ∈ s.keys.candidates,
      (s.keyEntry f).state.keeps s.keys.count x = true → (s.keyEntry f).state.reaches s.keys.count = false) :
    s.matchSample x = { s with
      keys := { s.keys with
        candidates := s.keys.candidates.filter fun f => (s.keyEntry f).state.keeps s.keys.count x } } := by
  unfold State.matchSample
  simp only
  rw [List.find?_eq_none.mpr fun f hf => by
    obtain ⟨hm, hk⟩ := List.mem_filter.mp hf
    simp [h f hm hk]]

theorem State.matchSample_of_lowest {x : Sample} (hs : s.keys.candidates.Pairwise (· < ·)) (hm : e ∈ s.keys.candidates)
    (hk : (s.keyEntry e).state.keeps s.keys.count x = true) (hr : (s.keyEntry e).state.reaches s.keys.count = true)
    (hlow : ∀ f ∈ s.keys.candidates, f < e → (s.keyEntry f).state.keeps s.keys.count x = true →
      (s.keyEntry f).state.reaches s.keys.count = false) : s.matchSample x = s.keyMatch e := by
  unfold State.matchSample
  simp only
  rw [find?_eq_some_of_lowest (hs.sublist List.filter_sublist) (List.mem_filter.mpr ⟨hm, hk⟩) hr fun f hf hlt => by
    obtain ⟨hf, hfk⟩ := List.mem_filter.mp hf
    exact hlow f hf hlt hfk]

theorem State.keyMatch_eq (s : State) (e : KeyIx) : s.keyMatch e =
    (State.addSubject { s with keys := { s.keys with matched := true, candidates := [], failures := 0 } } Source.key
      e.val).openFor (s.keyEntry e).state.role? := rfl

/-- A match opens or restarts the window of its entry's role, and leaves the other as it is (R164). -/
theorem State.keyMatch_opensFor (s : State) (e : KeyIx) : s.OpensFor (s.keyMatch e) e := by
  rw [State.keyMatch_eq]
  constructor <;> intro h <;> rw [h] <;> exact ⟨rfl, rfl⟩

theorem State.keyMatch_holds (s : State) (e : KeyIx) : (s.keyMatch e).Holds Source.key e.val := by
  unfold State.keyMatch
  exact (State.KeysWritten.openFor _ _).only.2.2.holds (State.addSubject_holds _ _ (by omega))

theorem State.OpensFor.congr {u t : State} (h : u.OpensFor t e) (he : u.keyEntry e = s.keyEntry e)
    (ht : u.teacher = s.teacher := by rfl) (hs : u.service = s.service := by rfl) (hc : u.clk32 = s.clk32 := by rfl)
    (hp : u.custodySettings = s.custodySettings := by rfl) : s.OpensFor t e := by
  simpa only [State.OpensFor, he, ht, hs, hc, hp] using h

end

/-! ### A stretch -/

section
variable (s : State)

/-- The level that ends a stretch is taken: what the burst logic sees the sample on. -/
def State.stretchEnded (s : State) : State :=
  { s with keys := { s.keys with stretchHigh := s.keys.irinHigh, gapOvertaken := false } }

/-- The sample of the stretch that ends after a time (R154). -/
def State.sampleOf (s : State) (d : Nat) : Sample := ⟨s.keys.inMark, stretchLength s.keys.period.ns d⟩

theorem State.stretchTaken_eq {d : Nat} (h : s.keys.irinHigh ≠ s.keys.stretchHigh) :
    s.stretchTaken d = (s.stretchEnded.burstSample (s.sampleOf d)).reAttn := by
  unfold State.stretchTaken
  rw [if_neg h]
  rfl

theorem stretchLength_eq (ns d : Nat) : stretchLength ns d = max 1 (min 127 ((2 * d + ns) / (2 * ns))) :=
  clampNat_eq_max (by decide)

theorem State.sampleOf_eq {d len : Nat} {mark : Bool} (hm : mark = true ↔ s.keys.stretchHigh = s.keys.invert)
    (hl : len = max 1 (min 127 ((2 * d + s.keys.period.ns) / (2 * s.keys.period.ns)))) :
    s.sampleOf d = ⟨mark, len⟩ := by
  rw [State.sampleOf, stretchLength_eq, ← hl]
  congr 1
  rw [Bool.eq_iff_iff, hm]
  simp [Receiver.inMark]

theorem State.takerNow_eq : s.takerNow = if s.learningKey.isSome then some .learner
    else if s.keys.lockout.isSome then none else some .matcher := by
  unfold State.takerNow
  cases s.keys.lockout <;> rfl

theorem State.validKeys_ascending : s.validKeys.Pairwise (· < ·) :=
  (List.pairwise_lt_finRange 8).sublist List.filter_sublist

theorem State.mem_validKeys {f : KeyIx} : f ∈ s.validKeys ↔ (s.keyEntry f).state.isValid = true := by
  simp [State.validKeys, allKeys]

/-- The burst logic takes the sample on a state: a burst in progress, or one that this MARK starts. -/
theorem State.burstSample_of_inBurst (x : Sample) (h : s.keys.burst = .inBurst) : s.burstSample x = s.nextSample x := by
  rw [State.burstSample, h]

theorem State.burstSample_of_mark {x : Sample} (h : s.keys.burst = .idle) (hx : x.mark = true) :
    s.burstSample x = s.startBurst.nextSample x := by
  rw [State.burstSample, h]
  exact if_pos hx

theorem State.burstSample_of_rest {x : Sample} (h : s.keys.burst = .waitingGap ∨ s.keys.burst = .idle ∧ x.mark = false) :
    s.burstSample x = s := by
  obtain h | ⟨h, hx⟩ := h
  · rw [State.burstSample, h]
  · rw [State.burstSample, h]
    exact if_neg (by simp [hx])

/-- The level and the mark of an overtaken gap are the stretch's, whatever the burst logic makes of the sample. -/
theorem State.burstSample_measure (x : Sample) : (s.burstSample x).keys.stretchHigh = s.keys.stretchHigh ∧
    (s.burstSample x).keys.gapOvertaken = s.keys.gapOvertaken := by
  unfold State.burstSample
  split
  · exact ⟨rfl, rfl⟩
  · split
    · exact ⟨(State.nextSample_kept _ x).stretch, (State.nextSample_kept _ x).overtaken⟩
    · exact ⟨rfl, rfl⟩
  · exact ⟨(State.nextSample_kept _ x).stretch, (State.nextSample_kept _ x).overtaken⟩

end

/-- What the matcher makes of sample k on the candidates that stand: those it fits stay while none of them has its depth,
and the lowest that has it matches. -/
theorem State.nextSample_matches {s u : State} {x : Sample} {k : Nat} {e : KeyIx} (ht : u.keys.taker = some .matcher)
    (hk : k = u.keys.count + 1) (hc : u.keys.count < 48) (hs : u.keys.candidates.Pairwise (· < ·))
    (he : u.keys.entries = s.keys.entries) (ht' : u.teacher = s.teacher) (hs' : u.service = s.service)
    (hc' : u.clk32 = s.clk32) (hp : u.custodySettings = s.custodySettings) :
    ((∀ f ∈ u.keys.candidates, s.SampleFits k x.mark x.length f → ¬s.DepthIs k f) →
      (u.nextSample x).keys.candidates.Pairwise (· < ·) ∧
      (∀ f : KeyIx, f ∈ (u.nextSample x).keys.candidates ↔ f ∈ u.keys.candidates ∧ s.SampleFits k x.mark x.length f) ∧
      (u.nextSample x).keys.matched = u.keys.matched ∧ (u.nextSample x).keys.failures = u.keys.failures ∧
      (u.nextSample x).teacher = s.teacher ∧ (u.nextSample x).service = s.service) ∧
    (e ∈ u.keys.candidates → s.SampleFits k x.mark x.length e → s.DepthIs k e →
      (∀ f ∈ u.keys.candidates, f < e → s.SampleFits k x.mark x.length f → ¬s.DepthIs k f) →
        (u.nextSample x).keys.candidates = [] ∧ (u.nextSample x).keys.matched = true ∧
        (u.nextSample x).keys.failures = 0 ∧ (u.nextSample x).Holds Source.key e.val ∧ s.OpensFor (u.nextSample x) e) := by
  have hx : u.nextSample x = u.counted.matchSample x := by rw [State.nextSample_eq, ht]
  have hn : u.counted.keys.count = k := by simp only [State.counted]; omega
  have hf : ∀ f, u.counted.keyEntry f = s.keyEntry f := fun f => State.keyEntry_congr he f
  have hfit : ∀ f, s.SampleFits k x.mark x.length f ↔ (u.counted.keyEntry f).state.keeps u.counted.keys.count x = true :=
    fun f => by rw [hf, hn]; exact State.sampleFits_iff
  have hdep : ∀ f, s.DepthIs k f ↔ (u.counted.keyEntry f).state.reaches u.counted.keys.count = true :=
    fun f => by rw [hf, hn]; exact State.depthIs_iff
  rw [hx]
  constructor
  · intro h
    rw [State.matchSample_kept_of_none fun f hm hk => by
      simpa using (not_congr (hdep f)).mp (h f hm ((hfit f).mpr hk))]
    refine ⟨hs.sublist List.filter_sublist, fun f => ?_, rfl, rfl, ht', hs'⟩
    rw [hfit]
    exact List.mem_filter
  · intro hm hk hd hlow
    rw [State.matchSample_of_lowest (s := u.counted) hs hm ((hfit e).mp hk) ((hdep e).mp hd) fun f hm hlt hk => by
      simpa using (not_congr (hdep f)).mp (hlow f hm hlt ((hfit f).mpr hk))]
    rw [State.keyMatch_keys]
    exact ⟨rfl, rfl, rfl, State.keyMatch_holds _ e,
      (State.keyMatch_opensFor _ e).congr (hf e) ht' hs' hc' hp⟩

/-- The facts of a burst that a MARK starts (R155, R161). -/
theorem State.startBurst_nextSample {s : State} {x : Sample} :
    (s.startBurst.nextSample x).keys.burst = .inBurst ∧ (s.startBurst.nextSample x).keys.count = 1 ∧
    (s.startBurst.nextSample x).keys.taker = s.takerNow ∧
    ((s.startBurst.nextSample x).keys.judged = true ↔ s.takerNow = some .matcher ∧ s.validKeys ≠ []) ∧
    (s.takerNow = some .learner → (s.startBurst.nextSample x).keys.samples = [x]) ∧
    (s.takerNow ≠ some .matcher → (s.startBurst.nextSample x).keys.candidates = [] ∧
      (s.startBurst.nextSample x).keys.matched = false) := by
  have hk := s.startBurst.nextSample_kept x
  have hj : s.startBurst.keys.judged = true ↔ s.takerNow = some .matcher ∧ s.validKeys ≠ [] := by
    change (!(if s.takerNow = some .matcher then s.validKeys else []).isEmpty) = true ↔ _
    split <;> simp_all
  refine ⟨hk.burst, hk.count, ?_, by rw [hk.judged]; exact hj, fun h => ?_, fun h => ?_⟩
  · rw [State.nextSample_eq]
    split
    · next ht =>
      have hn : ¬49 ≤ s.startBurst.counted.keys.count := by change ¬49 ≤ 1; omega
      simp only [State.learnSample, if_neg hn]
      rfl
    · unfold State.matchSample
      simp only
      split
      · rw [State.keyMatch_keys]; rfl
      · rfl
    · rfl
  · rw [State.nextSample_learner x (s := s.startBurst) h (by decide : (0 : Nat) < 48)]
    rfl
  · have hc : s.startBurst.keys.candidates = [] := if_neg h
    have hx : (s.startBurst.nextSample x).keys.candidates = s.startBurst.keys.candidates ∧
        (s.startBurst.nextSample x).keys.matched = s.startBurst.keys.matched := by
      rw [State.nextSample_eq]
      split
      · have hn : ¬49 ≤ s.startBurst.counted.keys.count := by change ¬49 ≤ 1; omega
        simp only [State.learnSample, if_neg hn]
        exact ⟨rfl, rfl⟩
      · next ht => exact absurd ht h
      · exact ⟨rfl, rfl⟩
    exact ⟨hx.1.trans hc, hx.2⟩

/-- Settles O50: the stretch by what the burst logic was in, the samples of the matcher by `State.nextSample_matches`. -/
theorem stretchesAreLearnedAndMatched : Obligations.StretchesAreLearnedAndMatched := by
  refine ⟨fun s v => rfl, fun s d len e hd hl => ?_⟩
  have ht : exec (.stretchTaken d) s = .next (s.stretchEnded.burstSample (s.sampleOf d)).reAttn := by
    rw [← State.stretchTaken_eq s hd]
    rfl
  have ho : s.OnlyKeys (s.stretchEnded.burstSample (s.sampleOf d)).reAttn := by
    rw [← State.stretchTaken_eq s hd]
    exact (State.KeysWritten.stretchTaken s d).only
  have hm := s.stretchEnded.burstSample_measure (s.sampleOf d)
  have hx : ∀ mark : Bool, (mark = true ↔ s.keys.stretchHigh = s.keys.invert) → s.sampleOf d = ⟨mark, len⟩ :=
    fun mark h => s.sampleOf_eq h hl
  have hin : s.keys.stretchHigh = s.keys.invert → (s.sampleOf d).mark = true := fun h => by
    rw [hx true (by simp [h])]
  refine ⟨_, ht, ho, hm.1, fun h => ?_, hm.2, fun hb hi => ?_, fun hb => ?_, fun hb hk hc => ?_, fun hb hk hc he => ?_,
    fun k mark matched set hset hmark hasc => ?_⟩
  · rw [State.burstSample_of_rest]
    · rfl
    · refine h.imp id fun ⟨h1, h2⟩ => ⟨h1, ?_⟩
      rw [hx false (by simp [h2])]
  · rw [State.burstSample_of_mark s.stretchEnded hb (hin hi)]
    obtain ⟨h1, h2, h3, h4, h5, h6⟩ := State.startBurst_nextSample (s := s.stretchEnded) (x := s.sampleOf d)
    have hk : s.stretchEnded.takerNow = (if s.learningKey.isSome then some .learner
      else if s.keys.lockout.isSome then none else some .matcher) := s.stretchEnded.takerNow_eq
    rw [hk] at h3 h4 h5 h6
    simp only [State.reAttn_keys]
    refine ⟨h1, h2, h3, h4.trans ?_, fun hl => ?_, fun hn => h6 (by rwa [h3] at hn)⟩
    · have hv : s.stretchEnded.validKeys ≠ [] ↔ ∃ f : KeyIx, (s.keyEntry f).state.isValid = true := by
        rw [Ne, List.eq_nil_iff_forall_not_mem]
        push Not
        exact exists_congr fun f => s.stretchEnded.mem_validKeys
      rw [hv, ← and_assoc]
      refine and_congr_left fun _ => ?_
      cases s.learningKey <;> cases s.keys.lockout <;> simp
    · rw [h5 (by simp [hl]), hx true (by simp [hi])]
  · rw [State.burstSample_of_inBurst s.stretchEnded _ hb]
    exact (s.stretchEnded.nextSample_kept _).count
  · rw [State.burstSample_of_inBurst s.stretchEnded _ hb, State.reAttn_keys,
      State.nextSample_learner (s := s.stretchEnded) _ hk hc, hx (decide (s.keys.stretchHigh = s.keys.invert)) (by simp)]
    rfl
  · rw [State.burstSample_of_inBurst s.stretchEnded _ hb, State.nextSample_tooLong (s := s.stretchEnded) _ hk hc]
    exact ⟨(State.endLearning_entry (s := s.stretchEnded.counted) he _ _).1,
      State.endLearning_holds (s := s.stretchEnded.counted) he _ _⟩
  · have hmk : (s.sampleOf d).mark = mark ∧ (s.sampleOf d).length = len := by rw [hx mark hmark]; exact ⟨rfl, rfl⟩
    obtain ⟨hb, hk, hc, rfl, rfl, rfl⟩ | ⟨hb, hi, hln, hlo, rfl, hset, rfl⟩ := hset
    · rw [State.burstSample_of_inBurst s.stretchEnded _ hb]
      have key := State.nextSample_matches (s := s) (u := s.stretchEnded) (x := s.sampleOf d) (e := e) hk rfl hc hasc
        rfl rfl rfl rfl rfl
      rw [hmk.1, hmk.2] at key
      exact key
    · rw [State.burstSample_of_mark s.stretchEnded hb (hin hi)]
      have hk : s.stretchEnded.takerNow = some .matcher := by
        rw [State.takerNow_eq]
        change (if s.learningKey.isSome then _ else if s.keys.lockout.isSome then _ else _) = _
        rw [hln, hlo]
        rfl
      have hcand : s.stretchEnded.startBurst.keys.candidates = s.stretchEnded.validKeys := if_pos hk
      have key := State.nextSample_matches (s := s) (u := s.stretchEnded.startBurst) (x := s.sampleOf d) (e := e) (k := 1) hk
        rfl (by decide : (0 : Nat) < 48) (by rw [hcand]; exact s.stretchEnded.validKeys_ascending) rfl rfl rfl rfl rfl
      have hmem : ∀ f, f ∈ s.stretchEnded.startBurst.keys.candidates ↔ f ∈ set := fun f => by
        rw [hcand, hset]
        exact s.stretchEnded.mem_validKeys
      rw [hmk.1, hmk.2] at key
      simp only [hmem] at key
      exact key

end Sys2Proof.Machine
end

section
/-! SUPPORT. The end of a burst, of learning and of a lockout, and a burst end that meets KEY_SETTINGS (R153, R155, R158, R165,
R167), and the settling of O51. -/

namespace Sys2Proof.Machine

set_option Elab.async false

section
variable {s : State}

theorem Receiver.inMark_eq_false (k : Receiver) : k.inMark = false ↔ k.stretchHigh ≠ k.invert := by
  simp [Receiver.inMark]

/-! ### GAP_REACHED -/

theorem exec_gapReached_ends (hm : s.keys.stretchHigh ≠ s.keys.invert) (hb : s.keys.burst ≠ .idle)
    (ho : s.keys.gapOvertaken = false) : exec .gapReached s = .next s.gapEnd.reAttn := by
  change execGapReached s = _
  simp [execGapReached, s.keys.inMark_eq_false.mpr hm, hb, ho]

theorem exec_gapReached_overtaken (hm : s.keys.stretchHigh ≠ s.keys.invert) (hb : s.keys.burst ≠ .idle)
    (ho : s.keys.gapOvertaken = true) :
    exec .gapReached s = .next { s with keys := { s.keys with gapOvertaken := false } } := by
  change execGapReached s = _
  simp [execGapReached, s.keys.inMark_eq_false.mpr hm, hb, ho]

theorem State.gapEnd_of_inBurst (hb : s.keys.burst = .inBurst) :
    s.gapEnd = { s.burstTaken with keys := s.burstTaken.keys.rest .idle } := by
  unfold State.gapEnd
  simp only [hb, if_true]

theorem State.gapEnd_of_waitingGap (hb : s.keys.burst = .waitingGap) :
    s.gapEnd = { s with keys := s.keys.rest .idle } := by
  unfold State.gapEnd
  simp only [hb]
  rfl

theorem State.gapEnd_rests : s.gapEnd.keys.burst = .idle ∧ s.gapEnd.keys.count = 0 ∧ s.gapEnd.keys.candidates = [] :=
  ⟨rfl, rfl, rfl⟩

theorem State.endLearning_windows (x : KeyState) (r : LearnResult) :
    (s.endLearning x r).teacher = s.teacher ∧ (s.endLearning x r).service = s.service := by
  unfold State.endLearning
  split <;> exact ⟨rfl, rfl⟩

theorem State.burstTaken_windows : s.burstTaken.teacher = s.teacher ∧ s.burstTaken.service = s.service := by
  unfold State.burstTaken
  split
  · unfold State.learnBurst
    split
    · exact ⟨rfl, rfl⟩
    · split
      · exact State.endLearning_windows _ _
      · exact ⟨rfl, rfl⟩
  · unfold State.judgeBurst State.keyFailure
    simp only
    split
    · split <;> exact ⟨rfl, rfl⟩
    · exact ⟨rfl, rfl⟩
  · exact ⟨rfl, rfl⟩

theorem State.gapEnd_windows : s.gapEnd.teacher = s.teacher ∧ s.gapEnd.service = s.service := by
  unfold State.gapEnd
  simp only
  split
  · exact State.burstTaken_windows
  · exact ⟨rfl, rfl⟩

/-! ### Whose burst ends -/

theorem State.burstTaken_learned {e : KeyIx} {r : KeyRole} {w x : Nat} {last : Option LearnResult}
    (ht : s.keys.taker = some .learner) (hc : 8 ≤ s.keys.count) (hl : s.learningKey = some e)
    (he : s.keyEntry e = ⟨.learning r w x, last⟩) :
    s.burstTaken = s.endLearning (.valid r s.keys.samples s.keys.samples.length w []) .learned := by
  simp only [State.burstTaken, ht, State.learnBurst, if_neg (Nat.not_lt.mpr hc), hl, he, KeyState.learned]

theorem State.burstTaken_failed (ht : s.keys.taker = some .matcher) (hj : s.keys.judged = true)
    (hm : s.keys.matched = false) (hc : 8 ≤ s.keys.count) : s.burstTaken = s.keyFailure := by
  simp [State.burstTaken, ht, State.judgeBurst, hj, hm, hc]

theorem State.keyFailure_fifth (h : s.keys.failures = 4) : s.keyFailure =
    State.addSubject { s with
      keys := { s.keys with failures := 5, lockout := some (s.clk32 + Config.lockoutSeconds) } } Source.key lockoutMember := by
  simp [State.keyFailure, h]

theorem State.keyFailure_before (h : s.keys.failures < 4) :
    s.keyFailure = { s with keys := { s.keys with failures := s.keys.failures + 1 } } := by
  have hn : ¬5 ≤ s.keys.failures + 1 := by omega
  simp only [State.keyFailure, if_neg hn]

/-- A burst of fewer than 8 samples makes no entry and no failure. -/
theorem State.burstTaken_short (hc : s.keys.count < 8) : s.burstTaken.keys.entries = s.keys.entries ∧
    s.burstTaken.keys.failures = s.keys.failures ∧ s.burstTaken.keys.lockout = s.keys.lockout := by
  have hn : ¬8 ≤ s.keys.count := by omega
  unfold State.burstTaken
  split
  · simp only [State.learnBurst, if_pos hc]
    exact ⟨rfl, rfl, rfl⟩
  · simp [State.judgeBurst, hn]
  · exact ⟨rfl, rfl, rfl⟩

theorem State.gapEnd_keeps (h : s.keys.count < 8 ∨ s.keys.burst = .waitingGap) :
    s.gapEnd.keys.entries = s.keys.entries ∧ s.gapEnd.keys.failures = s.keys.failures ∧
      s.gapEnd.keys.lockout = s.keys.lockout := by
  unfold State.gapEnd
  simp only
  split
  · next hb => exact State.burstTaken_short (h.resolve_right (by simp [hb]))
  · exact ⟨rfl, rfl, rfl⟩

/-! ### KEY_SETTINGS while a burst is in progress -/

theorem exec_keySettings_keys {t : State} {p : KeySettingsParams} (h : exec (.keySettings (some p)) s = .next t) :
    t.pending = s.pending ∧ (t.keys = s.keys ∨ ∃ (i : Bool) (v : SamplePeriod), invert? p.invert = some i ∧
      samplePeriod? p.period = some v ∧ t.keys = s.keys.write i v (clampGap p.gapLimit) s.gapWaits) := by
  obtain rfl : s.keySettingsRequest (some p) = t := by injection h
  unfold State.keySettingsRequest
  simp only
  split
  · next i v hi hv => exact ⟨rfl, .inr ⟨i, v, hi, hv, rfl⟩⟩
  · exact ⟨rfl, .inl rfl⟩

/-- The write of another sample period leaves WAITING_GAP, and notes the burst end that waits (R153, R167). -/
theorem Receiver.write_period {k : Receiver} {i : Bool} {v : SamplePeriod} {g : Nat} {waits : Bool}
    (hm : k.stretchHigh ≠ k.invert) (hb : k.burst = .inBurst) (hv : v ≠ k.period) :
    k.write i v g waits = { Receiver.rest .waitingGap { k with invert := i, period := v, gapLimit := g } with
      gapOvertaken := waits } := by
  obtain ⟨-, h, -⟩ | ⟨-, h⟩ := k.write_cases i v g waits
  · exact absurd h.symm hv
  · have ho : k.overtakesGap waits = waits := by
      cases waits
      · rfl
      · exact Receiver.overtakesGap_of_space k (by simp [hb]) (k.inMark_eq_false.mpr hm)
    rw [h, ho]

theorem invert?_of_lt {b : Byte} {v : Bool} (h : b.toNat < 2) (hv : b = 1 ↔ v = true) : invert? b = some v := by
  have hb : b = 0 ∨ b = 1 := by
    rcases (show b.toNat = 0 ∨ b.toNat = 1 by omega) with h | h
    · exact .inl (BitVec.eq_of_toNat_eq h)
    · exact .inr (BitVec.eq_of_toNat_eq h)
  obtain rfl | rfl := hb
  · cases v
    · rfl
    · simp at hv
  · cases v
    · simp at hv
    · rfl

theorem samplePeriod?_of_lt {b : Byte} (h : b.toNat < 4) : ∃ v : SamplePeriod, samplePeriod? b = some v ∧ v.ctorIdx = b.toNat := by
  unfold samplePeriod? enum?
  interval_cases b.toNat
  · exact ⟨.us20, rfl, rfl⟩
  · exact ⟨.us50, rfl, rfl⟩
  · exact ⟨.us100, rfl, rfl⟩
  · exact ⟨.us200, rfl, rfl⟩

theorem exec_keySettings_write {p : KeySettingsParams} {i : Bool} {v : SamplePeriod} (hi : invert? p.invert = some i)
    (hv : samplePeriod? p.period = some v) : ∃ t, exec (.keySettings (some p)) s = .next t ∧ t.pending = s.pending ∧
      t.keys = s.keys.write i v (clampGap p.gapLimit) s.gapWaits := by
  refine ⟨_, rfl, ?_⟩
  unfold State.keySettingsRequest
  simp only [hi, hv]
  exact ⟨rfl, rfl⟩

/-- A SPACE that reaches the limit after a write of another sample period (R153, R167): what was waiting is put away, and
otherwise the burst logic goes to IDLE; no burst is judged. -/
theorem exec_gapReached_afterPeriod {t : State} (hm : t.keys.stretchHigh ≠ t.keys.invert)
    (hb : t.keys.burst = .waitingGap) : ∃ u, exec .gapReached t = .next u ∧ u.keys.gapOvertaken = false ∧
      u.keys.burst = (if t.keys.gapOvertaken then .waitingGap else .idle) ∧
      u.keys.entries = t.keys.entries ∧ u.keys.failures = t.keys.failures ∧ u.keys.lockout = t.keys.lockout ∧
      u.keys.stretchHigh = t.keys.stretchHigh ∧ u.keys.invert = t.keys.invert ∧ u.pending = t.pending := by
  cases ho : t.keys.gapOvertaken with
  | true => exact ⟨_, exec_gapReached_overtaken hm (by simp [hb]) ho, rfl, hb, rfl, rfl, rfl, rfl, rfl, rfl⟩
  | false =>
    refine ⟨_, exec_gapReached_ends hm (by simp [hb]) ho, ?_⟩
    rw [State.gapEnd_of_waitingGap hb]
    exact ⟨rfl, rfl, rfl, rfl, rfl, rfl, rfl, rfl⟩

end

/-- Settles O51, event by event. -/
theorem burstsLearningAndLockoutsEnd : Obligations.BurstsLearningAndLockoutsEnd := by
  refine ⟨fun s e r w x last hm hb ho => ?_, fun s => exec_gapReached_overtaken, fun s t p hm hb ht hi hv => ?_,
    fun s p rest hm hb hi hi2 hp2 hv hpend => ?_, fun s t p hm hb ho ht hi hv => ?_, fun s e he => ?_, fun s h => ?_⟩
  · refine ⟨_, exec_gapReached_ends hm hb ho, (State.KeysWritten.after (.reAttn _) (.gapEnd s)).only,
      State.gapEnd_windows.1, State.gapEnd_windows.2, rfl, rfl, rfl, fun hb ht hc hl he => ?_,
      fun hb ht hj hm hc hf => ?_, fun hb ht hj hm hc hf => ?_, fun h => State.gapEnd_keeps h⟩
    · rw [State.gapEnd_of_inBurst hb, State.burstTaken_learned ht hc hl he]
      exact ⟨(State.endLearning_entry hl _ _).1, State.endLearning_holds hl _ _⟩
    · rw [State.gapEnd_of_inBurst hb, State.burstTaken_failed ht hj hm hc, State.keyFailure_before hf]
      exact ⟨rfl, rfl⟩
    · rw [State.gapEnd_of_inBurst hb, State.burstTaken_failed ht hj hm hc, State.keyFailure_fifth hf]
      exact ⟨rfl, rfl, State.addSubject_holds _ _ (by decide)⟩
  · obtain ⟨-, hk | ⟨i, v, -, -, hk⟩⟩ := exec_keySettings_keys ht
    · exact absurd (by rw [hk]) hv
    · have hw : t.keys = { Receiver.rest .waitingGap
          { s.keys with invert := i, period := v, gapLimit := clampGap p.gapLimit } with gapOvertaken := s.gapWaits } := by
        rw [hk]
        refine Receiver.write_period hm hb fun h => hv ?_
        obtain ⟨-, -, e⟩ | ⟨-, e⟩ := s.keys.write_cases i v (clampGap p.gapLimit) s.gapWaits
        · rw [hk, e]
        · rw [hk, e]; exact h
      have hst : t.keys.stretchHigh ≠ t.keys.invert := by rw [hi, hw]; exact hm
      obtain ⟨u, hu, h1, h2, h3, h4, h5, -⟩ := exec_gapReached_afterPeriod hst (by rw [hw]; rfl)
      rw [hw] at h2 h3 h4 h5
      refine ⟨u, hu, h1, h2.trans ?_, h3, h4, h5⟩
      simp [State.gapWaits]
  · obtain ⟨v, hp, hvi⟩ := samplePeriod?_of_lt hp2
    have hvs : v ≠ s.keys.period := fun h => hv (by rw [← h, hvi])
    obtain ⟨t, ht, htp, hk⟩ := exec_keySettings_write (s := { s with pending := .gapReached :: rest })
      (invert?_of_lt hi2 hi) hp
    rw [show (State.gapWaits { s with pending := .gapReached :: rest }) = true by simp [State.gapWaits],
      Receiver.write_period hm hb hvs] at hk
    have hm' : t.keys.stretchHigh ≠ t.keys.invert := by rw [hk]; exact hm
    obtain ⟨u, hu, ho, hub, h3, h4, h5, h6, h7, h8⟩ :=
      exec_gapReached_afterPeriod (t := { t with pending := rest }) hm' (by rw [hk]; rfl)
    have hub' : u.keys.burst = .waitingGap := hub.trans (by rw [hk]; rfl)
    obtain ⟨v', hv', -, hb', -⟩ := exec_gapReached_afterPeriod (t := u) (by rw [h6, h7]; exact hm') hub'
    refine ⟨t, u, ?_, ?_, h8, hub', h3.trans (by rw [hk]; rfl), h4.trans (by rw [hk]; rfl), h5.trans (by rw [hk]; rfl),
      ⟨h6.trans (by rw [hk]; rfl), h7.trans (by rw [hk]; rfl)⟩, v', hv', by rw [hb', ho]; rfl⟩
    · rw [stepRunsTheFrontCommand.1 _ _ s hpend, ht]
    · rw [stepRunsTheFrontCommand.1 .gapReached rest t htp, hu]
  · have hst : t.keys.stretchHigh = s.keys.stretchHigh ∧ t.keys.burst = s.keys.burst ∧
        (t.keys.gapOvertaken = if s.keys.gapLimit < t.keys.gapLimit then s.gapWaits else false) ∧
        t.keys = { s.keys with gapLimit := t.keys.gapLimit, gapOvertaken := t.keys.gapOvertaken } := by
      obtain ⟨-, hk | ⟨i, v, -, -, hk⟩⟩ := exec_keySettings_keys ht
      · rw [hk]
        exact ⟨rfl, rfl, by simp [ho], rfl⟩
      · obtain ⟨-, -, e⟩ | ⟨hn, e⟩ := s.keys.write_cases i v (clampGap p.gapLimit) s.gapWaits
        · rw [hk, e]
          refine ⟨rfl, rfl, ?_, rfl⟩
          have hw : s.keys.overtakesGap s.gapWaits = s.gapWaits := by
            cases s.gapWaits
            · rfl
            · exact Receiver.overtakesGap_of_space _ (by simp [hb]) (s.keys.inMark_eq_false.mpr hm)
          simp only [hw, ho]
        · rw [hk, e] at hi hv
          exact absurd ⟨hi.symm, hv.symm⟩ hn
    obtain ⟨h1, h2, h3, h4⟩ := hst
    have hm' : t.keys.stretchHigh ≠ t.keys.invert := by rw [h1, hi]; exact hm
    have hb' : t.keys.burst ≠ .idle := by rw [h2, hb]; decide
    refine ⟨fun hw hg => ?_, fun hor => ?_⟩
    · have hov : t.keys.gapOvertaken = true := by rw [h3, if_pos hg]; simpa [State.gapWaits] using hw
      exact ⟨exec_gapReached_overtaken hm' hb' hov, by rw [hov] at h4; exact h4⟩
    · refine ⟨_, exec_gapReached_ends hm' hb' ?_, rfl⟩
      rw [h3]
      obtain hw | hg := hor
      · simp [State.gapWaits, hw]
      · rw [if_neg (Nat.not_lt.mpr hg)]
  · refine ⟨_, ?_, (State.KeysWritten.after (.reAttn _) (.endLearning s .empty .timedOut)).only,
      (State.endLearning_entry he _ _).1, State.endLearning_holds he _ _, (State.endLearning_entry he _ _).2⟩
    change execLearnTimeout s = _
    simp [execLearnTimeout, he]
  · change execLockoutExpiry s = _
    simp [execLockoutExpiry, h]

end Sys2Proof.Machine
end

section
/-! SUPPORT. What a command can do to the state, once: the writes before its change closes (`State.Opens`), and the command as a
whole (`State.Steps`), with what its checks have established. The invariants are proved over these cases. -/

namespace Sys2Proof.Machine

set_option Elab.async false

/-- Nothing that the laws of custody, bays, links, outputs, latches, lanes and reservations read is written: the clock, the
windows, the Key Receiver, the custody settings, the SERVICE input and the port at most. -/
def State.Alike (s t : State) : Prop :=
  t = { s with
    clock := t.clock, teacher := t.teacher, service := t.service, keys := t.keys, custodySettings := t.custodySettings
    serviceInput := t.serviceInput, serviceLevel := t.serviceLevel, port := t.port, clk32 := t.clk32 }

/-- An IDENT is taken, before the change closes (R30, R36, R54). -/
def State.identTaken (s : State) (b : BayNo) (id : Ident) : State :=
  let s := (s.modLink b fun l => { l with exchange := none }).superviseIdent b id
  s.modLink b (Link.afterIdent s.linkSettings id.maxStep s.clk32)

theorem State.takeIdent_eq (s : State) (b : BayNo) (id : Ident) :
    s.takeIdent b id = (s.identTaken b id).closeChange.pumpLink b := rfl

/-- A TELEMETRY is written to the record that the bay names, if any (R5, R59). -/
def State.telemetryWritten (s : State) (b : BayNo) (t : Telemetry) : State :=
  match (s.bay b).record with
  | some i => s.writeTelemetry b i t
  | none => s

/-- A TELEMETRY is taken, before the change closes (R59). -/
def State.telemetryTaken (s : State) (b : BayNo) (t : Telemetry) : State :=
  ((s.modLink b fun l => l.exchangeDone.countTelemetry).telemetryWritten b t).answerVerify b t.profileHeld

theorem State.takeTelemetry_eq (s : State) (b : BayNo) (t : Telemetry) :
    s.takeTelemetry b t = (s.telemetryTaken b t).closeChange.pumpLink b := rfl

/-- The record keeps its custody state HELD undocked, or is away from the cart: what RETIRE frees at once (R23). -/
def Record.retiresAtOnce (r : Record) : Prop :=
  r.custody = .away ∨ r.custody = .loaned ∨ r.custody = .overdue ∨ r.custody = .adrift ∨ r.custody = .held ∧ r.docked = false

/-- What RETIRE makes RETIRING (R23). -/
def Record.retiresDocked (r : Record) : Prop :=
  r.custody = .inCart ∨ r.custody = .retiring ∨ r.custody = .held ∧ r.docked = true

/-- What a command can write before its change closes, with what its checks have established. -/
inductive State.Opens (s : State) : State → Prop
  | enrol (p : EnrolParams) (c : CustodyState) (home : Option BayNo) (target : Nat) (ready : Option Minute) (i : RecordIx)
      (hc : enrolState? p = some c) (hx : s.findTablet p.tabletId = none) (hi : s.lowestFree = some i) :
      s.Opens ((s.setRecord i (Record.enrolment p c home target ready)).matchEnrol i p.tabletId)
  | amend (f : AmendField) (v : Option Half) (w : Record → Record) (i : RecordIx) (hw : s.amendment f v = some w)
      (hi : (s.record i).custody ≠ .free) (hf : f = .holder → (s.record i).custody.onLoan = true) :
      s.Opens ((s.writeField f i w).requestPassIf f.reallocates)
  | flags (i : RecordIx) (x : Byte) : s.Opens (s.writeFlags i x)
  | fill (w : FillWrite) (i : RecordIx) (n : Nat) : s.Opens ((s.fillRange i n).foldl (State.fillRecord w) s)
  | hold (i : RecordIx) (hf : (s.record i).custody ≠ .free) (hr : (s.record i).custody ≠ .releasing) :
      s.Opens (s.holdByHost i)
  | unhold (i : RecordIx) (hi : (s.record i).custody = .held) : s.Opens (s.unholdRecord i)
  | free (i : RecordIx) (hi : (s.record i).retiresAtOnce) : s.Opens (s.freeRecord i)
  | retire (i : RecordIx) (hi : (s.record i).retiresDocked) : s.Opens (s.retireDocked i)
  | disable (b : BayNo) (hb : (s.bay b).hostDisabled = false) :
      s.Opens ((s.emptyBay b .disabled).modBay b fun x => { x with hostDisabled := true })
  | enable (b : BayNo) (hb : (s.bay b).hostDisabled = true) : s.Opens (s.enableBay b)
  | arrival (b : BayNo) (hb : (s.bay b).state = .empty) : s.Opens ((s.setContact b true).enterBringup b)
  | loss (b : BayNo) (hb : (s.bay b).state ≠ .disabled) : s.Opens ((s.setContact b false).emptyBay b .empty)
  | budget (t : BudgetSettings) : s.Opens (s.writeBudget t)
  | supply (v : Bool) : s.Opens (State.recomputeBudget { s with supplyLimit := v })
  | time (c : DayClock) : s.Opens (State.handWindow { s with clock := c }).requestPass
  | fire (c : DayClock) (l : List (PeriodIx × PeriodKind)) : s.Opens (State.fire { s with clock := c } l)
  | checkout (i : RecordIx) (b : BayNo) (h : Half) (preempt override : Bool)
      (hr : s.checkoutRefusal i preempt override = none) (hb : (s.record i).currentBay = some b) :
      s.Opens (s.beginRelease i b h)
  | cancel (i : RecordIx) (b : BayNo) (hi : (s.record i).custody = .releasing) (hb : (s.record i).currentBay = some b) :
      s.Opens (s.lapseRelease b i)
  | lapse (i : RecordIx) (b : BayNo) (expiry : Nat) (o : OrderOutcome) (hb : s.release b = some ⟨i, .opened expiry o⟩) :
      s.Opens (s.lapseRelease b i)
  | latch (b : BayNo) (d : Direction) : s.Opens (s.placeRequest b d)
  | closeService : s.Opens s.closeService
  | service (v : Bool) : s.Opens (State.serviceRise { s with serviceLevel := v })
  | driven (b : BayNo) (x y : Bool) (k : SlotNo) (q : LatchRequest) (hk : (s.setSwitches b x y).driveAt b = some (k, q)) :
      s.Opens ((s.setSwitches b x y).driveSuccess k q)
  | switched (b : BayNo) (x y : Bool) (hk : (s.setSwitches b x y).driveAt b = none) :
      s.Opens (((s.setSwitches b x y).setLatch b (positionOf x y)).slotService)
  | driveTimeout (k : SlotNo) (q : LatchRequest) (hk : s.slot k = .driving q) : s.Opens (s.driveFailure k q)
  | linkReset (b : BayNo) (hb : (s.link b).state = .failed ∨ (s.link b).state = .up) : s.Opens (s.resetLink b)
  | fails (b : BayNo) (hb : (s.link b).exchange.isSome = true) : s.Opens (s.exchangeFails b)
  | ident (b : BayNo) (p : IdentReply) (hb : (s.link b).exchange = some .hello) :
      s.Opens (s.identTaken b (Ident.ofReply p))
  | telemetry (b : BayNo) (p : TelemetryReply) (hb : (s.link b).exchange = some .query) :
      s.Opens (s.telemetryTaken b (Telemetry.ofReply p))
  | custodyOrder (b : BayNo) (o : OrderOutcome) (hb : (s.link b).exchange = some .custodyOrder) :
      s.Opens (s.endCustodyOrder b o)
  | laneOrder (b : BayNo) (d : Bool) (hb : (s.link b).exchange = some .laneOrder) : s.Opens (s.endLaneOrder b d)
  | laneSettings (t : LaneSettings) : s.Opens { s with laneSettings := t }
  | laneDone (l : LaneNo) (x : Session) (g : Byte) (hl : (s.lane l).session = some x)
      (hx : x.phase.isConnected = true) : s.Opens (s.closeSession l x g)
  | sessionEnds (l : LaneNo) (x : Session) (r : SessionResult) (hl : (s.lane l).session = some x) :
      s.Opens (s.endSession l r)
  | report (b : BayNo) (v : Nat) : s.Opens (s.modOutput b (Output.report v))
  | cut (b : BayNo) (hb : (s.output b).inMotion = true ∨ (s.output b).closed = true) : s.Opens (s.cut b)

/-- What a command can do as a whole. -/
inductive State.Steps (s : State) : State → Prop
  | quiet {t : State} (h : s.Alike t) (ha : s.AttnLaw → t.AttnLaw) : s.Steps t
  | closed {u : State} (h : s.Opens u) : s.Steps u.closeChange
  | answered {u : State} (h : s.Opens u) (x : Status) (d : List Byte) : s.Steps (u.closeChange.respond x d)
  | pumped {u : State} (h : s.Opens u) (b : BayNo) : s.Steps (u.closeChange.pumpLink b)
  | cold (straps : BitVec 2) : s.Steps (s.coldReset straps)
  | warm : s.Steps s.warmReset
  | links (t : LinkSettings) (x : Status) (d : List Byte) : s.Steps ((s.writeLinkSettings t).respond x d)
  | rawContact (b : BayNo) (v : Bool) : s.Steps (s.modBay b fun x => { x with rawContact := v })
  | contact (b : BayNo) (v : Bool) : s.Steps (s.setContact b v)
  | switches (b : BayNo) (x y : Bool) : s.Steps (s.setSwitches b x y)
  | hello (b : BayNo) (hb : (s.link b).state = .rest) : s.Steps (s.modLink b Link.sendHello)
  | echo (b : BayNo) (v : BitVec 64) (hb : (s.link b).exchange = some .train) : s.Steps (s.takeEcho b v)
  | poll (b : BayNo) : s.Steps (s.reachPoll b)
  | account : s.Steps (allBays.foldl State.accountBay s).countSecond

namespace State.Steps

variable {s : State}

theorem same : s.Steps s := quiet rfl id

theorem respond (x : Status) (d : List Byte) : s.Steps (s.respond x d) := quiet rfl id

theorem refuse (x : Status) : s.Steps (s.refuse x) := respond x []

theorem finish {u : State} (h : s.Opens u) (x : Status) (d : State → List Byte) : s.Steps (u.finish x d) := answered h x _

theorem ite {t u : State} {c : Prop} [Decidable c] (h : c → s.Steps t) (g : ¬c → s.Steps u) :
    s.Steps (if c then t else u) := by
  split
  · exact h ‹_›
  · exact g ‹_›

/-- The Key Receiver's writes, with ATTN re-derived where a subject has joined a set. -/
theorem keys {t : State} (h : s.KeysWritten t) (ha : s.AttnLaw → t.AttnLaw) : s.Steps t := by
  obtain ⟨⟨h, -, -⟩, -⟩ := h
  refine quiet ?_ ha
  unfold State.Alike
  conv_lhs => rw [h]
  rw [h]

variable (s)

/-! ### The roster -/

theorem enrol (p : EnrolParams) : s.Steps (s.enrol p) := by
  unfold State.enrol
  split
  · exact refuse _
  · next c hc =>
    split
    · refine ite (fun _ => refuse _) fun hx => ?_
      split
      · exact refuse _
      · next i hi => exact finish (.enrol p c _ _ _ i hc (Option.not_isSome_iff_eq_none.mp hx) hi) _ _
    · exact refuse _

theorem amend (n f : Byte) (v : Option Half) : s.Steps (s.amend n f v) := by
  unfold State.amend
  split
  · exact refuse _
  · next i _ =>
    split
    · exact refuse _
    · next f _ =>
      refine ite (fun _ => refuse _) fun hi => ?_
      split
      · exact refuse _
      · next w hw =>
        refine ite (fun _ => refuse _) fun hf => finish (.amend f v w i hw hi fun h => ?_) _ _
        exact by_contra fun g => hf ⟨h, Bool.eq_false_iff.mpr g⟩

theorem changeFlags (n : Byte) (f : Byte → Byte) : s.Steps (s.changeFlags n f) := by
  unfold State.changeFlags
  split
  · exact refuse _
  · exact ite (fun _ => refuse _) fun _ => finish (.flags _ _) _ _

theorem fill (n k : Byte) (t : FillTemplate) : s.Steps (s.fill n k t) := by
  unfold State.fill
  split
  · exact refuse _
  · refine ite (fun _ => refuse _) fun _ => ite (fun _ => respond _ _) fun _ => ?_
    split
    · exact refuse _
    · exact ite (fun _ => finish (.fill _ _ _) _ _) fun _ => respond _ _

theorem hold (n : Byte) : s.Steps (s.hold n) := by
  unfold State.hold
  split
  · exact refuse _
  · exact ite (fun _ => refuse _) fun h => finish (.hold _ (fun g => h (.inl g)) fun g => h (.inr g)) _ _

theorem unhold (n : Byte) : s.Steps (s.unhold n) := by
  unfold State.unhold
  split
  · exact refuse _
  · exact ite (fun _ => refuse _) fun h =>
      ite (fun _ => finish (.unhold _ (not_not.mp h)) _ _) fun _ => refuse _

theorem retire (n : Byte) : s.Steps (s.retire n) := by
  unfold State.retire
  split
  · exact refuse _
  · next i _ =>
    cases hc : (s.record i).custody with
    | free => exact refuse _
    | releasing => exact refuse _
    | away => exact finish (.free i (.inl hc)) _ _
    | loaned => exact finish (.free i (.inr (.inl hc))) _ _
    | overdue => exact finish (.free i (.inr (.inr (.inl hc)))) _ _
    | adrift => exact finish (.free i (.inr (.inr (.inr (.inl hc))))) _ _
    | inCart => exact finish (.retire i (.inl hc)) _ _
    | retiring => exact finish (.retire i (.inr (.inl hc))) _ _
    | held =>
      exact ite (fun h => finish (.retire i (.inr (.inr ⟨hc, h⟩))) _ _) fun h =>
        finish (.free i (.inr (.inr (.inr (.inr ⟨hc, Bool.eq_false_iff.mpr h⟩))))) _ _

/-! ### Bays, the budget and the clock -/

theorem bayDisable (n : Byte) : s.Steps (s.bayDisable n) := by
  unfold State.bayDisable
  split
  · exact refuse _
  · exact ite (fun _ => refuse _) fun _ => ite (fun _ => respond _ _) fun h =>
      finish (.disable _ (Bool.eq_false_iff.mpr h)) _ _

theorem bayEnable (n : Byte) : s.Steps (s.bayEnable n) := by
  unfold State.bayEnable
  split
  · exact refuse _
  · exact ite (fun _ => refuse _) fun _ => ite (fun _ => respond _ _) fun h =>
      finish (.enable _ (by simpa using h)) _ _

theorem contactArrival (b : BayNo) : s.Steps (s.contactArrival b) := by
  unfold State.contactArrival
  exact ite (fun _ => ite (fun h => closed (.arrival b h)) fun _ => contact b true) fun _ => same

theorem contactLoss (b : BayNo) : s.Steps (s.contactLoss b) := by
  unfold State.contactLoss
  exact ite (fun _ => ite (fun _ => contact b false) fun h => closed (.loss b h)) fun _ => same

theorem budgetSettings (p : Option BudgetSettingsParams) : s.Steps (s.budgetSettingsRequest p) := by
  unfold State.budgetSettingsRequest
  split
  · exact respond _ _
  · split
    · exact refuse _
    · exact finish (.budget _) _ _

theorem setTime (m : Half) (d : Byte) : s.Steps (s.setTime m d) := by
  unfold State.setTime
  split
  · exact finish (.time _) _ _
  · exact refuse _

theorem setPeriod (n op : Byte) (p : Option PeriodParams) : s.Steps (s.setPeriod n op p) := by
  unfold State.setPeriod
  split
  · exact refuse _
  · split
    · exact refuse _
    · exact finish (.time _) _ _

theorem minuteStep : s.Steps s.minuteStep := by
  unfold State.minuteStep
  exact ite (fun _ => quiet rfl id) fun _ => closed (.fire _ _)

/-! ### Custody -/

theorem custodySettings (p : Option CustodySettingsParams) : s.Steps (s.custodySettingsRequest p) := by
  unfold State.custodySettingsRequest
  split
  · exact respond _ _
  · split
    · exact quiet rfl id
    · exact refuse _

theorem checkout (n : Byte) (h : Half) (p o : Bool) : s.Steps (s.checkout n h p o) := by
  unfold State.checkout
  split
  · exact refuse _
  · refine ite (fun _ => refuse _) fun _ => ?_
    split
    · exact refuse _
    · exact refuse _
    · next hr hb => exact finish (.checkout _ _ _ _ _ hr hb) _ _

theorem cancelRelease (n : Byte) : s.Steps (s.cancelRelease n) := by
  unfold State.cancelRelease
  split
  · exact refuse _
  · split
    · next hi hb => exact finish (.cancel _ _ hi hb) _ _
    · exact refuse _

theorem latchRequest (n d : Byte) : s.Steps (s.latchRequest n d) := by
  unfold State.latchRequest
  split
  · exact refuse _
  · split
    · exact refuse _
    · exact ite (fun _ => refuse _) fun _ => ite (fun _ => refuse _) fun _ => ite (fun _ => refuse _) fun _ =>
        finish (.latch _ _) _ _

theorem serviceWindowExpiry : s.Steps s.serviceWindowExpiry := by
  unfold State.serviceWindowExpiry
  split
  · exact same
  · exact ite (fun _ => quiet rfl id) fun _ => closed .closeService

theorem serviceEdge : s.Steps s.serviceEdge := by
  unfold State.serviceEdge
  exact ite (fun _ => same) fun _ => ite (fun _ => closed (.service _)) fun _ => quiet rfl id

theorem releaseWindowExpiry (b : BayNo) : s.Steps (s.releaseWindowExpiry b) := by
  unfold State.releaseWindowExpiry
  split
  · next h => exact closed (.lapse _ b _ _ h)
  iterate 2 exact same

theorem latchSwitchChange (b : BayNo) (x y : Bool) : s.Steps (s.latchSwitchChange b x y) := by
  unfold State.latchSwitchChange
  refine ite (fun _ => same) fun _ => ?_
  simp only
  split
  · next h => exact ite (fun _ => closed (.driven b x y _ _ h)) fun _ => switches b x y
  · next h => exact closed (.switched b x y h)

theorem driveTimeout (k : SlotNo) : s.Steps (s.driveTimeout k) := by
  unfold State.driveTimeout
  split
  · next h => exact closed (.driveTimeout k _ h)
  iterate 2 exact same

/-! ### Dock lines -/

theorem linkSettings (p : Option LinkSettingsParams) : s.Steps (s.linkSettingsRequest p) := by
  unfold State.linkSettingsRequest
  split
  · exact respond _ _
  · exact links _ _ _

theorem linkReset (n : Byte) : s.Steps (s.linkReset n) := by
  unfold State.linkReset
  split
  · exact refuse _
  · exact ite (fun h => finish (.linkReset _ h) _ _) fun _ => refuse _

theorem lineTest (n : Byte) (r : LineReadings) : s.Steps (s.lineTest n r) := by
  unfold State.lineTest
  split
  · exact refuse _
  · exact ite (fun _ => respond _ _) fun _ => refuse _

theorem failExchange {b : BayNo} {x : Exchange} (h : (s.link b).exchange = some x) : s.Steps (s.failExchange b) :=
  pumped (.fails b (by simp [h])) b

/-- A reply that the exchange in progress calls for is taken; any other fails the exchange. -/
theorem takeReply (b : BayNo) (kind : Byte) (f : Exchange → State)
    (h : ∀ x, (s.link b).exchange = some x → x.calls kind = true → s.Steps (f x)) : s.Steps (s.takeReply b kind f) := by
  unfold State.takeReply
  split
  · exact same
  · next x hx => exact ite (h x hx) fun _ => failExchange s hx

theorem takeIdent (b : BayNo) (p : IdentReply) :
    s.Steps (s.takeReply b 0x21 fun _ => s.takeIdent b (Ident.ofReply p)) := by
  refine takeReply s b _ _ fun x hx hc => pumped (.ident b p ?_) b
  cases x <;> simp_all [Exchange.calls]

theorem takeEcho (b : BayNo) (v : BitVec 64) : s.Steps (s.takeReply b 0x22 fun _ => s.takeEcho b v) := by
  refine takeReply s b _ _ fun x hx hc => echo b v ?_
  cases x <;> simp_all [Exchange.calls]

theorem takeTelemetry (b : BayNo) (p : TelemetryReply) :
    s.Steps (s.takeReply b 0x23 fun _ => s.takeTelemetry b (Telemetry.ofReply p)) := by
  refine takeReply s b _ _ fun x hx hc => pumped (.telemetry b p ?_) b
  cases x <;> simp_all [Exchange.calls]

theorem endOrder (b : BayNo) (d : Bool) (kind : Byte) (hk : kind = 0x24 ∨ kind = 0x25) :
    s.Steps (s.takeReply b kind (s.endOrder b d)) := by
  refine takeReply s b _ _ fun x hx hc => ?_
  cases x with
  | custodyOrder => exact pumped (.custodyOrder b _ hx) b
  | laneOrder => exact pumped (.laneOrder b d hx) b
  | hello => obtain rfl | rfl := hk <;> simp [Exchange.calls] at hc
  | train => obtain rfl | rfl := hk <;> simp [Exchange.calls] at hc
  | query => obtain rfl | rfl := hk <;> simp [Exchange.calls] at hc

/-! ### Keys, lanes and the port -/

theorem keySettings (p : Option KeySettingsParams) : s.Steps (s.keySettingsRequest p) := by
  unfold State.keySettingsRequest
  split
  · exact respond _ _
  · split
    · exact quiet rfl id
    · exact refuse _

theorem learnKey (n r t : Byte) : s.Steps (s.learnKey n r t) := by
  unfold State.learnKey
  split
  · exact refuse _
  · split
    · exact refuse _
    · refine ite (fun _ => refuse _) fun _ => ite (fun _ => refuse _) fun _ => ?_
      unfold State.beginLearning
      exact quiet rfl id

theorem setKey (n : Byte) (p : SetKeyParams) : s.Steps (s.setKey n p) := by
  unfold State.setKey
  split
  · exact refuse _
  · split
    · exact refuse _
    · refine ite (fun _ => refuse _) fun _ => ?_
      split
      iterate 2 exact refuse _
      exact ite (fun _ => quiet rfl id) fun _ => refuse _

theorem eraseKey (n : Byte) : s.Steps (s.eraseKey n) := by
  unfold State.eraseKey
  split
  · exact refuse _
  · split
    · exact respond _ _
    iterate 2 exact quiet rfl id

theorem laneSettings (p : Option LaneSettingsParams) : s.Steps (s.laneSettingsRequest p) := by
  unfold State.laneSettingsRequest
  split
  · exact respond _ _
  · split
    · exact refuse _
    · exact finish (.laneSettings _) _ _

theorem laneDone (n g : Byte) : s.Steps (s.laneDone n g) := by
  unfold State.laneDone
  split
  · exact refuse _
  · split
    · exact refuse _
    · next h => exact ite (fun hx => finish (.laneDone _ _ g h hx) _ _) fun _ => refuse _

theorem laneCancel (n : Byte) : s.Steps (s.laneCancel n) := by
  unfold State.laneCancel
  split
  · exact refuse _
  · split
    · exact refuse _
    · next h => exact ite (fun _ => refuse _) fun _ => finish (.sessionEnds _ _ _ h) _ _

theorem wakeTimeout (l : LaneNo) : s.Steps (s.wakeTimeout l) := by
  unfold State.wakeTimeout
  split
  · next h => exact ite (fun _ => closed (.sessionEnds l _ _ h)) fun _ => same
  · exact same

theorem sessionTimeout (l : LaneNo) : s.Steps (s.sessionTimeout l) := by
  unfold State.sessionTimeout
  split
  · next h => exact ite (fun _ => closed (.sessionEnds l _ _ h)) fun _ => same
  · exact same

theorem eventAck (n : Byte) (x : BitVec 64) : s.Steps (s.eventAck n x) := by
  unfold State.eventAck
  split
  · exact refuse _
  · next n _ =>
    exact ite (fun _ => refuse _) fun _ => quiet rfl fun _ =>
      Port.attnNow_iff { s.port with subjects := s.port.subjects.set n.val (s.port.subjects[n.val] &&& ~~~x) }

theorem eventEnable (e : Option (BitVec 24)) : s.Steps (s.eventEnable e) := by
  unfold State.eventEnable
  split
  · exact respond _ _
  · next e =>
    exact ite (fun _ => quiet rfl fun _ => Port.attnNow_iff { s.port with enables := e.truncate 18 }) fun _ => refuse _

end State.Steps

open State.Steps in
/-- Every command does one of these. -/
theorem exec_steps {c : Instr} {s t : State} (h : exec c s = .next t) : s.Steps t := by
  cases c with
  | coldReset v => cases h; exact cold v
  | csNAsserted => cases h; exact quiet rfl id
  | emptyTransaction l => cases h; exact respond _ _
  | malformedRequest l => cases h; exact refuse _
  | enrol p => cases h; exact enrol s p
  | find x =>
    simp only [exec, execFind] at h
    split at h <;> cases h
    · exact respond _ _
    · exact refuse _
  | readRecord n =>
    simp only [exec, execReadRecord] at h
    split at h <;> cases h
    · exact respond _ _
    · exact refuse _
  | list c n =>
    simp only [exec, execList] at h
    split at h
    · cases h; exact refuse _
    · split at h <;> cases h
      · exact refuse _
      · exact respond _ _
  | amend n f v => cases h; exact amend s n f v
  | flagSwap n f => cases h; exact changeFlags s n _
  | flagAnd n f => cases h; exact changeFlags s n _
  | flagOr n f => cases h; exact changeFlags s n _
  | fill n k t => cases h; exact fill s n k t
  | hold n => cases h; exact hold s n
  | unhold n => cases h; exact unhold s n
  | retire n => cases h; exact retire s n
  | bayDisable n => cases h; exact bayDisable s n
  | bayEnable n => cases h; exact bayEnable s n
  | readBay n =>
    simp only [exec, execReadBay] at h
    split at h <;> cases h
    · exact respond _ _
    · exact refuse _
  | linkSettings p => cases h; exact linkSettings s p
  | linkReset n => cases h; exact linkReset s n
  | lineTest n r => cases h; exact lineTest s n r
  | budgetSettings p => cases h; exact budgetSettings s p
  | budgetRead n =>
    simp only [exec, execBudgetRead] at h
    split at h <;> cases h
    · exact respond _ _
    · exact refuse _
  | laneSettings p => cases h; exact laneSettings s p
  | laneDone n g => cases h; exact laneDone s n g
  | laneCancel n => cases h; exact laneCancel s n
  | laneRead => cases h; exact respond _ _
  | queueRead n =>
    simp only [exec, execQueueRead] at h
    split at h <;> cases h
    · exact respond _ _
    · exact refuse _
  | custodySettings p => cases h; exact custodySettings s p
  | checkout n x p o => cases h; exact checkout s n x p o
  | cancelRelease n => cases h; exact cancelRelease s n
  | latch n d => cases h; exact latchRequest s n d
  | custodyRead n =>
    simp only [exec, execCustodyRead] at h
    split at h <;> cases h
    · exact respond _ _
    · exact refuse _
  | keySettings p => cases h; exact keySettings s p
  | learnKey n r t => cases h; exact learnKey s n r t
  | setKey n p => cases h; exact setKey s n p
  | eraseKey n => cases h; exact eraseKey s n
  | keyRead n =>
    simp only [exec, execKeyRead] at h
    split at h <;> cases h
    · exact respond _ _
    · exact refuse _
  | setTime m d => cases h; exact setTime s m d
  | setPeriod n o p => cases h; exact setPeriod s n o p
  | clockRead => cases h; exact respond _ _
  | periodRead => cases h; exact respond _ _
  | selfTest => cases h; exact respond _ _
  | partReset => cases h; exact warm
  | eventSummary => cases h; exact respond _ _
  | eventRead n =>
    simp only [exec, execEventRead] at h
    split at h <;> cases h
    · exact respond _ _
    · exact refuse _
  | eventAck n x => cases h; exact eventAck s n x
  | eventEnable e => cases h; exact eventEnable s e
  | rawContactChange b v => cases h; exact rawContact b v
  | contactArrival b => cases h; exact contactArrival s b
  | contactLoss b => cases h; exact contactLoss s b
  | restEnd b =>
    simp only [exec, execRestEnd] at h
    split at h <;> cases h
    · exact hello b ‹_›
    · exact same
  | identTaken b p => cases h; exact takeIdent s b p
  | echoTaken b v => cases h; exact takeEcho s b v
  | telemetryTaken b p => cases h; exact takeTelemetry s b p
  | ackTaken b => cases h; exact endOrder s b true _ (.inl rfl)
  | nakTaken b r => cases h; exact endOrder s b false _ (.inr rfl)
  | badFrame b l =>
    simp only [exec, execBadFrame] at h
    split at h
    · cases h; exact same
    · next hx =>
      split at h <;> cases h
      · exact same
      · exact failExchange s hx
  | replyTimeout b =>
    simp only [exec, execReplyTimeout] at h
    split at h <;> cases h
    · exact same
    · exact failExchange s ‹_›
  | pollInstant b =>
    simp only [exec, execPollInstant] at h
    split at h <;> cases h
    · exact poll b
    · exact same
  | supplyLimitChange v => cases h; exact closed (.supply v)
  | settledReport b v => cases h; exact closed (.report b _)
  | settleTimeout b =>
    simp only [exec, execSettleTimeout] at h
    split at h <;> cases h
    · exact closed (.cut b (.inl ‹_›))
    · exact same
  | stageFaultSignal b =>
    simp only [exec, execStageFaultSignal] at h
    split at h <;> cases h
    · exact closed (.cut b (.inr ‹_›))
    · exact same
  | energyAccountingTick =>
    obtain rfl : (allBays.foldl State.accountBay s).countSecond = t := by injection h
    exact account
  | wakeTimeout l => cases h; exact wakeTimeout s l
  | sessionTimeout l => cases h; exact sessionTimeout s l
  | teacherWindowExpiry => cases h; exact quiet rfl id
  | serviceWindowExpiry => cases h; exact serviceWindowExpiry s
  | serviceInputChange v => cases h; exact quiet rfl id
  | serviceEdge => cases h; exact serviceEdge s
  | releaseWindowExpiry b => cases h; exact releaseWindowExpiry s b
  | latchSwitchChange b x y => cases h; exact latchSwitchChange s b x y
  | driveTimeout k => cases h; exact driveTimeout s k
  | irinEdge v => cases h; exact quiet rfl id
  | stretchTaken d =>
    cases h
    refine keys (State.KeysWritten.stretchTaken s d) fun ha => ?_
    unfold State.stretchTaken
    split
    · exact ha
    · exact State.reAttn_attnLaw _
  | gapReached =>
    simp only [exec, execGapReached] at h
    split at h
    · cases h; exact same
    · split at h <;> cases h
      · exact quiet rfl id
      · exact keys (State.KeysWritten.after (.reAttn _) (.gapEnd s)) fun _ => State.reAttn_attnLaw _
  | learnTimeout =>
    simp only [exec, execLearnTimeout] at h
    split at h <;> cases h
    · exact keys (State.KeysWritten.after (.reAttn _) (.endLearning s _ _)) fun _ => State.reAttn_attnLaw _
    · exact same
  | lockoutExpiry =>
    simp only [exec, execLockoutExpiry] at h
    split at h <;> cases h
    · exact quiet rfl id
    · exact same
  | minuteStep =>
    simp only [exec, execMinuteStep] at h
    split at h <;> cases h
    · exact minuteStep s
    · exact same
  | secondsCountTick =>
    simp only [exec, execSecondsCountTick] at h
    split at h <;> cases h
    · exact quiet rfl id
    · exact minuteStep s

end Sys2Proof.Machine
end

section
/-! SUPPORT. The commands that move no custody, no latch, no lane and no output (`State.Minor`), and the settling of O5. -/

namespace Sys2Proof.Machine

set_option Elab.async false

/-- Links and their settings, contact and switch levels, energy and its remainders, and what `State.Alike` names: nothing else is
written. -/
structure State.Minor (s t : State) : Prop where
  only : t = { s with
    roster := t.roster, bays := t.bays, links := t.links, linkSettings := t.linkSettings, outputs := t.outputs
    clock := t.clock, teacher := t.teacher, service := t.service, keys := t.keys, custodySettings := t.custodySettings
    serviceInput := t.serviceInput, serviceLevel := t.serviceLevel, port := t.port, clk32 := t.clk32 }
  record : ∀ i, t.record i = { s.record i with energy := (t.record i).energy }
  bay : ∀ b, t.bay b = { s.bay b with
    rawContact := (t.bay b).rawContact, contact := (t.bay b).contact, lockedSwitch := (t.bay b).lockedSwitch
    unlockedSwitch := (t.bay b).unlockedSwitch }
  output : ∀ b, t.output b = { s.output b with remainder := (t.output b).remainder }

namespace State.Minor

variable {s t u : State}

theorem refl (s : State) : s.Minor s := ⟨rfl, fun _ => rfl, fun _ => rfl, fun _ => rfl⟩

theorem trans (h : s.Minor t) (g : t.Minor u) : s.Minor u where
  only := by rw [g.only, h.only]
  record i := by rw [g.record i, h.record i]
  bay b := by rw [g.bay b, h.bay b]
  output b := by rw [g.output b, h.output b]

theorem of_alike (h : s.Alike t) : s.Minor t := by
  rw [State.Alike] at h
  rw [h]
  exact ⟨rfl, fun _ => rfl, fun _ => rfl, fun _ => rfl⟩

theorem of_links (h : t = { s with links := t.links, linkSettings := t.linkSettings }) : s.Minor t := by
  rw [h]
  exact ⟨rfl, fun _ => rfl, fun _ => rfl, fun _ => rfl⟩

/-- The fields of a bay that `State.Minor` leaves: all but its levels. -/
theorem modBay (b : BayNo) (f : Bay → Bay) (hf : ∀ x : Bay, f x = { x with
    rawContact := (f x).rawContact, contact := (f x).contact, lockedSwitch := (f x).lockedSwitch
    unlockedSwitch := (f x).unlockedSwitch }) : s.Minor (s.modBay b f) where
  only := rfl
  record _ := rfl
  bay c := by
    rw [State.bay_modBay]
    split
    · next h => subst h; exact hf _
    · rfl
  output _ := rfl

theorem foldl {α : Type} {f : State → α → State} (hf : ∀ s x, State.Minor s (f s x)) :
    ∀ (l : List α) (s : State), s.Minor (l.foldl f s)
  | [], s => refl s
  | x :: l, s => (hf s x).trans (foldl hf l _)

variable (s)

theorem respond (x : Status) (d : List Byte) : s.Minor (s.respond x d) := of_alike rfl

theorem countSecond : s.Minor s.countSecond := of_alike rfl

theorem pumpLink (b : BayNo) : s.Minor (s.pumpLink b) := of_links rfl

theorem reachPoll (b : BayNo) : s.Minor (s.reachPoll b) := of_links rfl

theorem takeEcho (b : BayNo) (v : BitVec 64) : s.Minor (s.takeEcho b v) := of_links rfl

theorem writeLinkSettings (v : LinkSettings) : s.Minor (s.writeLinkSettings v) := by
  unfold State.writeLinkSettings
  simp only
  split
  · exact (of_links (s := s) rfl).trans (foldl (fun u b => reachPoll u b) _ _)
  · exact of_links rfl

theorem accountBay (b : BayNo) : s.Minor (s.accountBay b) where
  only := by
    conv_lhs => rw [State.accountBay_only]
    rw [State.accountBay_only]
  record i := by
    rw [State.accountBay_record]
    split <;> rfl
  bay c := by rw [State.accountBay_bay]
  output c := by
    rw [State.accountBay_output]
    split
    · next h => obtain ⟨rfl, -⟩ := h; rfl
    · rfl

end State.Minor

/-- A command does no more than `State.Minor` names, or resets, or closes the change that it opened. -/
theorem State.Steps.minor {s t : State} (h : s.Steps t) :
    s.Minor t ∨ t.AtRest ∨ ∃ u, s.Opens u ∧ u.closeChange.Minor t := by
  cases h with
  | quiet h _ => exact .inl (.of_alike h)
  | closed h => exact .inr (.inr ⟨_, h, .refl _⟩)
  | answered h x d => exact .inr (.inr ⟨_, h, .respond _ x d⟩)
  | pumped h b => exact .inr (.inr ⟨_, h, .pumpLink _ b⟩)
  | cold v => exact .inr (.inl (s.coldReset_atRest v))
  | warm => exact .inr (.inl s.warmReset_atRest)
  | links t x d => exact .inl ((State.Minor.writeLinkSettings s t).trans (.respond _ x d))
  | rawContact b v => exact .inl (.modBay b _ fun _ => rfl)
  | contact b v => exact .inl (.modBay b _ fun _ => rfl)
  | switches b x y => exact .inl (.modBay b _ fun _ => rfl)
  | hello b _ => exact .inl (.of_links rfl)
  | echo b v _ => exact .inl (.takeEcho s b v)
  | poll b => exact .inl (.reachPoll s b)
  | account => exact .inl ((State.Minor.foldl (fun t b => .accountBay t b) _ _).trans (.countSecond _))

/-! ### The lamps and ATTN (R43, R183) -/

theorem State.lampFor_eq (s : State) (b : BayNo) :
    s.lampFor b = lampOf (s.bay b) ((s.bay b).record.map fun i => (s.record i).custody) (s.output b).charge := rfl

/-- Nothing that a lamp shows is written. -/
theorem State.Minor.lampLaw {s t : State} (h : s.Minor t) (hl : s.LampLaw) : t.LampLaw := by
  intro b
  have hc : ∀ i, (t.record i).custody = (s.record i).custody := fun i => by rw [h.record i]
  rw [State.lampFor_eq, h.bay b, h.output b]
  simp only [hc]
  exact hl b

theorem State.Steps.lampLaw {s t : State} (h : s.Steps t) (hl : s.LampLaw) : t.LampLaw := by
  obtain h | h | ⟨u, -, h⟩ := h.minor
  · exact h.lampLaw hl
  · exact h.lampLaw
  · exact h.lampLaw u.closeChange_lampLaw

theorem State.AttnLaw.congr {s t : State} (h : s.AttnLaw) (hp : t.port.attn = s.port.attn)
    (he : t.port.enables = s.port.enables) (hs : t.port.subjects = s.port.subjects) : t.AttnLaw := by
  simpa only [State.AttnLaw, State.subjectsOf, hp, he, hs] using h

theorem State.AttnLaw.respond {s : State} (h : s.AttnLaw) (x : Status) (d : List Byte) : (s.respond x d).AttnLaw := h

theorem State.AttnLaw.pumpLink {s : State} (h : s.AttnLaw) (b : BayNo) : (s.pumpLink b).AttnLaw := h

theorem State.AttnLaw.countSecond {s : State} (h : s.AttnLaw) : s.countSecond.AttnLaw := h

theorem State.writeLinkSettings_port (s : State) (v : LinkSettings) : (s.writeLinkSettings v).port = s.port := by
  have hf : ∀ (l : List BayNo) (u : State), (l.foldl State.reachPoll u).port = u.port := fun l => by
    induction l with
    | nil => exact fun _ => rfl
    | cons b l ih => exact fun u => (ih _).trans rfl
  unfold State.writeLinkSettings
  simp only
  split
  · exact hf _ _
  · rfl

theorem State.accountBays_port (l : List BayNo) (s : State) : (l.foldl State.accountBay s).port = s.port := by
  induction l generalizing s with
  | nil => rfl
  | cons b l ih => rw [List.foldl_cons, ih, State.accountBay_only]

theorem State.Steps.attnLaw {s t : State} (h : s.Steps t) (ha : s.AttnLaw) : t.AttnLaw := by
  cases h with
  | quiet _ h => exact h ha
  | closed _ => exact State.closeChange_attnLaw _
  | answered _ x d => exact (State.closeChange_attnLaw _).respond x d
  | pumped _ b => exact (State.closeChange_attnLaw _).pumpLink b
  | cold v =>
    exact State.attnLaw_of_empty
      (fun n => by simp [State.subjectsOf, State.coldReset, State.reset, Port.initial]) rfl
  | warm =>
    exact Port.attnNow_iff { s.port with subjects := Vector.replicate 18 0, response := ⟨.done, none, []⟩ }
  | links v x d =>
    have hp := s.writeLinkSettings_port v
    refine State.AttnLaw.respond ?_ x d
    exact ha.congr (congrArg Port.attn hp) (congrArg Port.enables hp) (congrArg Port.subjects hp)
  | rawContact b v => exact ha
  | contact b v => exact ha
  | switches b x y => exact ha
  | hello b _ => exact ha
  | echo b v _ => exact ha
  | poll b => exact ha
  | account =>
    have hp := s.accountBays_port allBays
    refine State.AttnLaw.countSecond ?_
    exact ha.congr (congrArg Port.attn hp) (congrArg Port.enables hp) (congrArg Port.subjects hp)

/-- Settles O5: a change that closes leaves lamps and ATTN right, and what closes none writes nothing that they show. -/
theorem lampsAttnAndSubjectsAreKept : Obligations.LampsAttnAndSubjectsAreKept := fun _ _ _ hl ha hm h =>
  ⟨(exec_steps h).lampLaw hl, (exec_steps h).attnLaw ha, (State.Keeps.of_exec h).members hm⟩

end Sys2Proof.Machine
end

section
/-! SUPPORT. The custody of a state: what the laws of R3, R4, R25, R39 and R142 read of it (`View`), and the operations that leave
it alone. -/

namespace Sys2Proof.Machine

set_option Elab.async false

/-- What the laws of custody read of a record. -/
def Record.custodial (r : Record) : Record :=
  { Record.freeImage with
    custody := r.custody, tabletId := r.tabletId, currentBay := r.currentBay, holder := r.holder
    holdReason := r.holdReason, adriftReason := r.adriftReason }

/-- What the laws of custody read of a bay: all but its levels, latch, grant, lane and lamp. -/
def Bay.custodial (x : Bay) : Bay :=
  { x with
    latch := .unknown, grant := 0, lane := none, lamp := .off, rawContact := false, contact := false
    lockedSwitch := false, unlockedSwitch := false }

/-- The custody of a state: its records, its bays, and the record of each bay's release entry. -/
@[ext] structure View where
  record : RecordIx → Record
  bay : BayNo → Bay
  release : BayNo → Option RecordIx

/-- A state's custody. -/
def State.view (s : State) : View where
  record i := (s.record i).custodial
  bay b := (s.bay b).custodial
  release b := (s.release b).map Release.record

namespace View

/-- A release entry stands at a bay of its record, where it stands at a bay that names one (R142). -/
def Agrees (v : View) : Prop := ∀ b i j, v.release b = some i → (v.bay b).record = some j → i = j

/-- Record i rewritten. -/
def modRecord (v : View) (i : RecordIx) (f : Record → Record) : View :=
  { v with record := fun j => if i = j then (f (v.record i)).custodial else v.record j }

/-- Bay b rewritten. -/
def modBay (v : View) (b : BayNo) (f : Bay → Bay) : View :=
  { v with bay := fun c => if b = c then (f (v.bay b)).custodial else v.bay c }

/-- Bay b's release entry rewritten. -/
def setRelease (v : View) (b : BayNo) (o : Option RecordIx) : View :=
  { v with release := fun c => if b = c then o else v.release c }

variable {v : View}

theorem Agrees.modRecord (h : v.Agrees) (i : RecordIx) (f : Record → Record) : (v.modRecord i f).Agrees := h

theorem Agrees.modBay (h : v.Agrees) (b : BayNo) (f : Bay → Bay)
    (hf : (f (v.bay b)).record = none ∨ (f (v.bay b)).record = (v.bay b).record) : (v.modBay b f).Agrees := by
  intro c i j hr hb
  simp only [View.modBay] at hr hb
  split at hb
  · next e =>
    subst e
    change (f (v.bay b)).record = some j at hb
    obtain e | e := hf
    · simp [e] at hb
    · exact h b i j hr (e ▸ hb)
  · exact h c i j hr hb

theorem Agrees.setRelease (h : v.Agrees) (b : BayNo) {o : Option RecordIx} (ho : ∀ i ∈ o, (v.bay b).record = some i) :
    (v.setRelease b o).Agrees := by
  intro c i j hr hb
  simp only [View.setRelease] at hr
  split at hr
  · next e =>
    subst e
    exact Option.some.inj ((ho i hr).symm.trans hb)
  · exact h c i j hr hb

end View

/-- A state has a custody, in which release entries stand at the bays of their records. -/
structure State.Shows (s : State) (v : View) : Prop where
  view : s.view = v
  agrees : v.Agrees

namespace State.Shows

variable {s t : State} {v : View}

/-- The custody is read off the records, bays and release entries. -/
theorem of_same (h : s.Shows v) (hr : t.roster = s.roster := by rfl) (hb : t.bays = s.bays := by rfl)
    (hl : t.releases = s.releases := by rfl) : t.Shows v := by
  obtain ⟨rfl, ha⟩ := h
  exact ⟨by simp only [State.view, State.record, State.bay, State.release, hr, hb, hl], ha⟩

/-- Bays rewritten in fields that custody does not read. -/
theorem of_bays (h : s.Shows v) (hb : ∀ b, (t.bay b).custodial = (s.bay b).custodial) (hr : t.roster = s.roster := by rfl)
    (hl : t.releases = s.releases := by rfl) : t.Shows v := by
  obtain ⟨rfl, ha⟩ := h
  exact ⟨by simp only [State.view, State.record, hb, State.release, hr, hl], ha⟩

/-- The release entry of bay b, as the custody has it. -/
theorem release_eq (h : s.Shows v) (b : BayNo) : (s.release b).map Release.record = v.release b := by rw [← h.view]; rfl

theorem bay_eq (h : s.Shows v) (b : BayNo) : (s.bay b).custodial = v.bay b := by rw [← h.view]; rfl

theorem record_eq (h : s.Shows v) (i : RecordIx) : (s.record i).custodial = v.record i := by rw [← h.view]; rfl

theorem bay_record (h : s.Shows v) (b : BayNo) : (s.bay b).record = (v.bay b).record := by rw [← h.bay_eq]; rfl
theorem bay_state (h : s.Shows v) (b : BayNo) : (s.bay b).state = (v.bay b).state := by rw [← h.bay_eq]; rfl
theorem bay_partner (h : s.Shows v) (b : BayNo) : (s.bay b).partner = (v.bay b).partner := by rw [← h.bay_eq]; rfl
theorem custody (h : s.Shows v) (i : RecordIx) : (s.record i).custody = (v.record i).custody := by rw [← h.record_eq]; rfl
theorem currentBay (h : s.Shows v) (i : RecordIx) : (s.record i).currentBay = (v.record i).currentBay := by
  rw [← h.record_eq]; rfl

/-! ### Single writes -/

theorem putRecord (h : s.Shows v) (i : RecordIx) {r : Record} (f : Record → Record)
    (hf : r.custodial = (f (s.record i).custodial).custodial) : (s.putRecord i r).Shows (v.modRecord i f) := by
  obtain ⟨rfl, ha⟩ := h
  refine ⟨View.ext ?_ rfl rfl, ha⟩
  funext j
  simp only [State.view, View.modRecord, State.record_putRecord]
  split
  · exact hf
  · rfl

theorem editRecord (h : s.Shows v) (i : RecordIx) (f : Record → Record)
    (hf : (f (s.record i)).custodial = (f (s.record i).custodial).custodial := by rfl) :
    (s.editRecord i f).Shows (v.modRecord i f) := h.putRecord i f hf

theorem setRecord (h : s.Shows v) (i : RecordIx) (r : Record) : (s.setRecord i r).Shows (v.modRecord i fun _ => r) :=
  h.putRecord i (fun _ => r) rfl

theorem modRecord (h : s.Shows v) (i : RecordIx) (f : Record → Record)
    (hf : (f (s.record i)).custodial = (f (s.record i).custodial).custodial := by rfl) :
    (s.modRecord i f).Shows (v.modRecord i f) := h.putRecord i f hf

/-- A record rewritten in fields that custody does not read. -/
theorem putRecord_same (h : s.Shows v) (i : RecordIx) (r : Record) (hr : r.custodial = (s.record i).custodial) :
    (s.putRecord i r).Shows v := by
  have hv : v.modRecord i (fun _ => r) = v := by
    refine View.ext ?_ rfl rfl
    funext j
    simp only [View.modRecord]
    split
    · next e => subst e; rw [hr, h.record_eq]
    · rfl
  exact hv ▸ h.putRecord i (fun _ => r) rfl

theorem editRecord_same (h : s.Shows v) (i : RecordIx) (f : Record → Record)
    (hf : (f (s.record i)).custodial = (s.record i).custodial := by rfl) : (s.editRecord i f).Shows v :=
  h.putRecord_same i _ hf

theorem modBay (h : s.Shows v) (b : BayNo) (f : Bay → Bay) (ha : (v.modBay b f).Agrees)
    (hf : (f (s.bay b)).custodial = (f (s.bay b).custodial).custodial := by rfl) :
    (s.modBay b f).Shows (v.modBay b f) := by
  obtain ⟨rfl, -⟩ := h
  refine ⟨View.ext rfl ?_ rfl, ha⟩
  funext c
  simp only [State.view, View.modBay, State.bay_modBay]
  split
  · exact hf
  · rfl

/-- A bay rewritten in fields that custody does not read. -/
theorem modBay_same (h : s.Shows v) (b : BayNo) (f : Bay → Bay)
    (hf : (f (s.bay b)).custodial = (s.bay b).custodial := by rfl) : (s.modBay b f).Shows v := by
  obtain ⟨rfl, ha⟩ := h
  refine ⟨View.ext rfl ?_ rfl, ha⟩
  funext c
  simp only [State.view, State.bay_modBay]
  split
  · next e => subst e; exact hf
  · rfl

theorem setRelease (h : s.Shows v) (b : BayNo) (x : Option Release)
    (ha : (v.setRelease b (x.map Release.record)).Agrees) :
    (s.setRelease b x).Shows (v.setRelease b (x.map Release.record)) := by
  obtain ⟨rfl, -⟩ := h
  refine ⟨View.ext rfl rfl ?_, ha⟩
  funext c
  simp only [State.view, View.setRelease, State.release_setRelease]
  split <;> rfl

/-- A release entry rewritten with the same record. -/
theorem setRelease_same (h : s.Shows v) (b : BayNo) (x : Option Release) (hx : x.map Release.record = v.release b) :
    (s.setRelease b x).Shows v := by
  have hv : v.setRelease b (x.map Release.record) = v := by
    refine View.ext rfl rfl ?_
    funext c
    simp only [View.setRelease]
    split
    · next e => subst e; exact hx
    · rfl
  have ha := h.agrees
  rw [← hv] at ha
  exact hv ▸ h.setRelease b x ha

theorem requestPassIf (h : s.Shows v) (c : Bool) : (s.requestPassIf c).Shows v := by
  unfold State.requestPassIf
  split
  · exact h.of_same
  · exact h

theorem requestPass (h : s.Shows v) : s.requestPass.Shows v := h.of_same

theorem raiseReservation (h : s.Shows v) (o : Owner) (n : Nat) : (s.raiseReservation o n).Shows v := h.of_same

theorem dropReservation (h : s.Shows v) (o : Owner) : (s.dropReservation o).Shows v := h.of_same

theorem addSubject (h : s.Shows v) (n : SourceNo) (m : Nat) : (s.addSubject n m).Shows v := h.of_same

theorem foldl {α : Type} {f : State → α → State} (hf : ∀ s x, State.Shows s v → (f s x).Shows v) :
    ∀ (l : List α) (s : State), s.Shows v → (l.foldl f s).Shows v
  | [], _, h => h
  | x :: l, s, h => foldl hf l _ (hf s x h)

/-! ### Orders and latches -/

theorem placeCustodyOrder (h : s.Shows v) (b : BayNo) (o : CustodyOrder) : (s.placeCustodyOrder b o).Shows v := by
  unfold State.placeCustodyOrder
  split
  · exact h
  · exact h.of_same

theorem placeLaneOrder (h : s.Shows v) (b : BayNo) (o : LaneOrder) : (s.placeLaneOrder b o).Shows v := by
  unfold State.placeLaneOrder
  split
  · exact h
  · exact h.of_same

/-- The release that opens is the one that stood UNLOCKING, of the record its bay names. -/
theorem openRelease (h : s.Shows v) {b : BayNo} {i : RecordIx} (hi : s.unlockingRecord b = some i) :
    (s.openRelease b i).Shows v := by
  refine (h.setRelease_same b _ ?_).placeCustodyOrder b _
  unfold State.unlockingRecord at hi
  split at hi
  · next j e hb hr =>
    split at hi
    · cases hi
      have hv : v.release b = some e.record := by rw [← h.release_eq, hr]; rfl
      rw [hv]
      exact congrArg some (h.agrees b _ _ hv (h.bay_record b ▸ hb)).symm
    · simp at hi
  · simp at hi

theorem latchSuccess (h : s.Shows v) (b : BayNo) (d : Direction) : (s.latchSuccess b d).Shows v := by
  cases d with
  | lock =>
    simp only [State.latchSuccess]
    split
    · exact h.editRecord_same _ _
    · exact h
  | unlock =>
    simp only [State.latchSuccess]
    split
    · exact h.openRelease ‹_›
    · exact h

theorem serviceOne (h : s.Shows v) (q : LatchRequest) : (s.serviceOne q).Shows v := by
  unfold State.serviceOne
  split
  · exact h
  · split
    · refine State.Shows.latchSuccess ?_ _ _
      exact h.of_same
    · split
      · exact h.of_same
      · exact h

theorem slotService (h : s.Shows v) : s.slotService.Shows v := foldl (fun _ q h => h.serviceOne q) _ s h

theorem placeRequest (h : s.Shows v) (b : BayNo) (d : Direction) : (s.placeRequest b d).Shows v := by
  unfold State.placeRequest
  split
  · split
    · refine (State.Shows.latchSuccess ?_ b d).slotService
      exact h.of_same
    · refine State.Shows.slotService ?_
      exact h.of_same
  · refine State.Shows.slotService ?_
    exact h.of_same

theorem lockUnlessService (h : s.Shows v) (b : BayNo) : (s.lockUnlessService b).Shows v := by
  unfold State.lockUnlessService
  split
  · exact h
  · exact h.placeRequest b _

theorem setLatch (h : s.Shows v) (b : BayNo) (p : LatchPosition) : (s.setLatch b p).Shows v := h.modBay_same b _

theorem endSlot (h : s.Shows v) (k : SlotNo) : (s.endSlot k).Shows v := h.of_same

theorem driveSuccess (h : s.Shows v) (k : SlotNo) (q : LatchRequest) : (s.driveSuccess k q).Shows v :=
  (((h.endSlot k).setLatch q.bay _).latchSuccess q.bay _).slotService

theorem startDrive (h : s.Shows v) (k : SlotNo) : (s.startDrive k).Shows v := by
  unfold State.startDrive
  split
  · split
    · exact h.driveSuccess k _
    · refine State.Shows.setLatch ?_ _ _
      exact h.of_same
  iterate 2 exact h

theorem dropReserving (h : s.Shows v) (b : BayNo) (d : Direction) : (s.dropReserving b d).Shows v := by
  unfold State.dropReserving
  split
  · split
    · refine State.Shows.slotService ?_
      exact h.of_same
    · exact h
  · exact h

theorem dropQueued (h : s.Shows v) (b : BayNo) (d : Direction) : (s.dropQueued b d).Shows v := h.of_same

theorem dropLocks (h : s.Shows v) (b : BayNo) : (s.dropLocks b).Shows v := (h.dropQueued b .lock).dropReserving b .lock

theorem relockAfterHold (h : s.Shows v) (b : BayNo) : (s.relockAfterHold b).Shows v := by
  unfold State.relockAfterHold
  simp only
  split
  · exact h.placeCustodyOrder b _
  · exact (h.placeCustodyOrder b _).placeRequest b _

theorem receiveInCart (h : s.Shows v) (b : BayNo) : (s.receiveInCart b).Shows v := by
  unfold State.receiveInCart
  simp only
  split
  · exact (h.placeCustodyOrder b _).placeRequest b _
  · exact h.placeCustodyOrder b _

theorem releaseReported (h : s.Shows v) (b : BayNo) (o : OrderOutcome) : (s.releaseReported b o).Shows v := by
  rcases s.releaseReported_cases b o with ⟨-, e⟩ | ⟨-, i, x, y, hr, e⟩ <;> rw [e]
  · exact h
  · exact h.setRelease_same b _ (by rw [← h.release_eq, hr]; rfl)

/-! ### Lanes -/

theorem wakeLane (h : s.Shows v) (l : LaneNo) : (s.wakeLane l).Shows v := by
  unfold State.wakeLane
  split
  · split
    · refine State.Shows.placeLaneOrder ?_ _ _
      exact h.of_same
    · exact h
  · exact h

theorem grantLane (h : s.Shows v) (l : LaneNo) (i : RecordIx) (b : BayNo) : (s.grantLane l i b).Shows v := by
  refine State.Shows.raiseReservation (State.Shows.modBay_same ?_ b _) _ _
  exact h.of_same

theorem grantLanes : ∀ (n : Nat) {s : State}, s.Shows v → (State.grantLanes n s).Shows v
  | 0, _, h => h
  | n + 1, s, h => by
    unfold State.grantLanes
    split
    · split
      · split
        · exact grantLanes n (h.grantLane _ _ _)
        · exact h
      · exact h
    · exact h

theorem quietFor (h : s.Shows v) (x : Session) : (s.quietFor x).Shows v := by
  unfold State.quietFor
  split
  · exact h.placeLaneOrder _ _
  · exact h

theorem afterSession_custodial (n : Nat) (x : SessionResult) (r : Record) : (r.afterSession n x).custodial = r.custodial := by
  unfold Record.afterSession
  split
  · rfl
  · split
    · rfl
    · split <;> rfl

theorem endSession (h : s.Shows v) (l : LaneNo) (r : SessionResult) : (s.endSession l r).Shows v := by
  unfold State.endSession
  split
  · exact h
  · next x _ =>
    refine State.Shows.addSubject (State.Shows.editRecord_same (State.Shows.modBay_same ?_ _ _) _ _
      (afterSession_custodial _ _ _)) _ _
    refine State.Shows.dropReservation (State.Shows.quietFor ?_ x) _
    exact h.of_same

theorem endSessionOf (h : s.Shows v) (i : RecordIx) (r : SessionResult) : (s.endSessionOf i r).Shows v := by
  unfold State.endSessionOf
  split
  · exact h.endSession _ _
  · exact h

theorem verificationAnswered (h : s.Shows v) (b : BayNo) (g : Byte) : (s.verificationAnswered b g).Shows v := by
  unfold State.verificationAnswered
  split
  · exact h.endSession _ _
  · exact h

theorem verificationUnanswered (h : s.Shows v) (b : BayNo) : (s.verificationUnanswered b).Shows v := by
  unfold State.verificationUnanswered
  split
  · exact h.endSession _ _
  · exact h

theorem wakeDelivered (h : s.Shows v) (b : BayNo) (l : LaneNo) : (s.wakeDelivered b l).Shows v := by
  unfold State.wakeDelivered
  split
  · exact h.of_same
  · exact h

theorem wakeRefused (h : s.Shows v) (b : BayNo) (l : LaneNo) : (s.wakeRefused b l).Shows v := by
  unfold State.wakeRefused
  split
  · exact h.endSession _ _
  · exact h

theorem closeSession (h : s.Shows v) (l : LaneNo) (x : Session) (g : Byte) : (s.closeSession l x g).Shows v := by
  refine State.Shows.of_same (s := State.placeLaneOrder _ x.bay .quiet) (State.Shows.placeLaneOrder ?_ _ _)
  exact h.of_same

/-! ### Passes and the close of a change -/

theorem dropOutput (h : s.Shows v) (b : BayNo) (c : ChargeState) : (s.dropOutput b c).Shows v := by
  refine State.Shows.modBay_same ?_ b _
  exact h.of_same

theorem takePass (h : s.Shows v) : s.takePass.Shows v := by
  have key : ∀ (a : List Reservation) (f : PassFigures) (g : BayNo → Nat) (e : Vector AllocEntry 36) (o : Vector Output 36)
      (p : Phase), State.Shows { s with
        reservations := a, figures := f, bays := Vector.ofFn fun b => { s.bay b with grant := g b }
        entries := e, outputs := o, phase := p } v := fun a f g e o p => by
    refine h.of_bays (fun b => ?_) rfl rfl
    simp [State.bay, Bay.custodial]
  unfold State.takePass
  simp only
  split
  · exact (key _ _ _ _ _ _).addSubject _ _
  · exact key _ _ _ _ _ _

theorem tellActive (h : s.Shows v) (o : Owner) : (s.tellActive o).Shows v := by
  cases o with
  | latch k => exact h.startDrive k
  | lane l => exact h.wakeLane l

theorem endDecreasing (h : s.Shows v) : s.endDecreasing.Shows v := by
  refine foldl (fun _ o h => h.tellActive o) _ _ ?_
  exact h.of_same

theorem endPass (h : s.Shows v) : s.endPass.Shows v := h.of_same

theorem serveRequest (h : s.Shows v) : s.serveRequest.Shows v := by
  unfold State.serveRequest
  split
  · simp only
    split
    · refine State.Shows.takePass ?_
      exact h.of_same
    iterate 2 exact h.of_same
  · exact h

theorem settle : ∀ (n : Nat) {s : State}, s.Shows v → (State.settle n s).Shows v
  | 0, _, h => h
  | n + 1, s, h => by
    unfold State.settle
    simp only
    split
    · exact h.serveRequest
    · split
      · exact h.serveRequest
      · exact settle n h.serveRequest.endDecreasing
    · split
      · exact h.serveRequest
      · exact settle n h.serveRequest.endPass

theorem relamp (h : s.Shows v) : s.relamp.Shows v := by
  refine h.of_bays (fun b => ?_) s.relamp_roster s.relamp_releases
  rw [s.relamp_bay]
  rfl

theorem requeue (h : s.Shows v) : s.requeue.Shows v := h.of_same

theorem reAttn (h : s.Shows v) : s.reAttn.Shows v := h.of_same

/-- The close of a change leaves the custody alone. -/
theorem closeChange (h : s.Shows v) : s.closeChange.Shows v :=
  (State.Shows.settle _ (h.requeue.grantLanes 4)).relamp.reAttn

theorem budgetFall (h : s.Shows v) : s.budgetFall.Shows v := by
  unfold State.budgetFall
  split
  · exact h
  · exact h.of_same
  · exact h.of_same

theorem recomputeBudget (h : s.Shows v) : s.recomputeBudget.Shows v := by
  unfold State.recomputeBudget
  simp only
  split
  · exact h
  · split
    · refine State.Shows.budgetFall ?_
      exact h.of_same
    · exact h.of_same

/-- The commands that write no custody. -/
theorem minor (h : s.Shows v) (g : s.Minor t) : t.Shows v := by
  obtain ⟨rfl, ha⟩ := h
  have hl : t.releases = s.releases := by rw [g.only]
  refine ⟨View.ext (funext fun i => ?_) (funext fun b => ?_) (funext fun b => ?_), ha⟩
  · simp only [State.view]; rw [g.record i]; rfl
  · simp only [State.view]; rw [g.bay b]; rfl
  · simp only [State.view, State.release, hl]

end State.Shows

end Sys2Proof.Machine
end

section
/-! SUPPORT. The laws of custody on a custody (`View`): R3, R4, R25, R39 and R142, and the writes that keep them. -/

namespace Sys2Proof.Machine

set_option Elab.async false

namespace View

/-- R4, R25, R142, that a host-disabled bay is DISABLED, and that no bay is its own partner. -/
structure Law (v : View) : Prop where
  naming : ∀ i b, (v.record i).currentBay = some b ↔ (v.bay b).record = some i
  named : ∀ b, (v.bay b).record.isSome = true → (v.bay b).state = .identified ∨ (v.bay b).state = .fault
  presence : ∀ i, (v.record i).PresenceLaw
  release : ∀ b i, v.release b = some i → (v.bay b).record = some i ∧ (v.record i).custody = .releasing
  released : ∀ i, (v.record i).custody = .releasing → ∃ b, v.release b = some i
  disabled : ∀ b, (v.bay b).hostDisabled = true → (v.bay b).state = .disabled
  partner : ∀ b, (v.bay b).partner ≠ some b

/-- R3 on a custody. -/
def TabletLaw (v : View) : Prop :=
  ∀ i j, (v.record i).enrolled = true → (v.record j).enrolled = true → (v.record i).tabletId = (v.record j).tabletId → i = j

/-- An IDENTIFIED bay names a record (R25). -/
def IdLaw (x : Bay) : Prop := x.state = .identified → x.record.isSome = true

/-- From a lawful custody to a lawful one, with R3 kept, and the fields of the bays of q right where those of p were (R25). -/
structure Fine (p q : BayNo → Prop) (v w : View) : Prop where
  law : w.Law
  bays : (∀ b, p b → (v.bay b).FieldLaw) → ∀ b, q b → (w.bay b).FieldLaw
  tablets : v.TabletLaw → w.TabletLaw
  ids : (∀ b, p b → IdLaw (v.bay b)) → ∀ b, q b → IdLaw (w.bay b)

/-- Every bay. -/
abbrev All : BayNo → Prop := fun _ => True

/-- Every bay but b. -/
abbrev But (b : BayNo) : BayNo → Prop := fun c => c ≠ b

variable {p q r : BayNo → Prop} {u v w : View} {b c : BayNo} {i j : RecordIx}

theorem Fine.refl (h : v.Law) : Fine p p v v := ⟨h, id, id, id⟩

theorem Fine.trans (h : Fine p q u v) (g : Fine q r v w) : Fine p r u w := 
  ⟨g.law, g.bays ∘ h.bays, g.tablets ∘ h.tablets, g.ids ∘ h.ids⟩

/-- What is right of every bay is right of some. -/
theorem Fine.weaken (h : Fine p q v w) {q' : BayNo → Prop} (hq : ∀ b, q' b → q b) : Fine p q' v w :=
  ⟨h.law, fun g b hb => h.bays g b (hq b hb), h.tablets, fun g b hb => h.ids g b (hq b hb)⟩

theorem Fine.strengthen (h : Fine p q v w) {p' : BayNo → Prop} (hp : ∀ b, p b → p' b) : Fine p' q v w :=
  ⟨h.law, fun g => h.bays fun b hb => g b (hp b hb), h.tablets, fun g => h.ids fun b hb => g b (hp b hb)⟩

theorem Law.agrees (h : v.Law) : v.Agrees := fun b _ _ hr hb => Option.some.inj ((h.release b _ hr).1.symm.trans hb)

/-- A record that a bay names is docked in that bay alone. -/
theorem Law.bay_unique (h : v.Law) (hb : (v.bay b).record = some i) (hc : (v.bay c).record = some i) : b = c :=
  Option.some.inj (((h.naming i b).mpr hb).symm.trans ((h.naming i c).mpr hc))

/-- The release of a RELEASING record stands at its bay. -/
theorem Law.release_of_releasing (h : v.Law) (hb : (v.bay b).record = some i) (hi : (v.record i).custody = .releasing) :
    v.release b = some i := by
  obtain ⟨c, hc⟩ := h.released i hi
  rwa [h.bay_unique hb (h.release c i hc).1]

theorem Law.release_none (h : v.Law) (hb : (v.bay b).record = none) : v.release b = none := by
  cases hr : v.release b with
  | none => rfl
  | some i => exact absurd (h.release b i hr).1 (by simp [hb])

theorem Law.enabled_of_state (h : v.Law) (hs : (v.bay b).state ≠ .disabled) : (v.bay b).hostDisabled = false :=
  Bool.eq_false_iff.mpr fun g => hs (h.disabled b g)

theorem Law.record_none_of_state (h : v.Law) (h1 : (v.bay b).state ≠ .identified) (h2 : (v.bay b).state ≠ .fault) :
    (v.bay b).record = none := by
  by_contra g
  exact (h.named b (Option.isSome_iff_ne_none.mpr g)).elim h1 h2

@[simp] theorem modRecord_record (f : Record → Record) :
    (v.modRecord i f).record j = if i = j then (f (v.record i)).custodial else v.record j := rfl
@[simp] theorem modRecord_bay (f : Record → Record) : (v.modRecord i f).bay = v.bay := rfl
@[simp] theorem modRecord_release (f : Record → Record) : (v.modRecord i f).release = v.release := rfl
@[simp] theorem modBay_bay (f : Bay → Bay) :
    (v.modBay b f).bay c = if b = c then (f (v.bay b)).custodial else v.bay c := rfl
@[simp] theorem modBay_record (f : Bay → Bay) : (v.modBay b f).record = v.record := rfl
@[simp] theorem modBay_release (f : Bay → Bay) : (v.modBay b f).release = v.release := rfl
@[simp] theorem setRelease_release (o : Option RecordIx) : (v.setRelease b o).release c = if b = c then o else v.release c := rfl
@[simp] theorem setRelease_record (o : Option RecordIx) : (v.setRelease b o).record = v.record := rfl
@[simp] theorem setRelease_bay (o : Option RecordIx) : (v.setRelease b o).bay = v.bay := rfl

theorem modRecord_congr {f g : Record → Record} (h : (f (v.record i)).custodial = (g (v.record i)).custodial) :
    v.modRecord i f = v.modRecord i g := by simp only [modRecord, h]

theorem modRecord_modRecord (f g : Record → Record) :
    (v.modRecord i f).modRecord i g = v.modRecord i fun r => g (f r).custodial := by
  refine View.ext (funext fun j => ?_) rfl rfl
  by_cases h : i = j <;> simp [h]

/-! ### Single writes -/

/-- A bay that keeps its record is rewritten. -/
theorem Fine.modBay (h : v.Law) (f : Bay → Bay) (hr : (f (v.bay b)).record = (v.bay b).record)
    (hn : (v.bay b).record.isSome = true → (f (v.bay b)).state = .identified ∨ (f (v.bay b)).state = .fault)
    (hd : (f (v.bay b)).hostDisabled = true → (f (v.bay b)).state = .disabled) (hp : (f (v.bay b)).partner ≠ some b)
    (hf : ∀ c, q c → c ≠ b → p c)
    (hq : q b → (∀ c, p c → (v.bay c).FieldLaw) → (f (v.bay b)).FieldLaw)
    (hi : q b → (∀ c, p c → IdLaw (v.bay c)) → IdLaw (f (v.bay b)) := by
      intro _ _; simp [View.IdLaw]) : Fine p q v (v.modBay b f) where
  law :=
    { naming := fun i c => by
        rw [modBay_bay]
        split
        · next e => subst e; rw [modBay_record, h.naming]; exact Iff.of_eq (congrArg (· = some i) hr.symm)
        · exact h.naming i c
      named := fun c => by
        rw [modBay_bay]
        split
        · intro g
          exact hn (by rw [← hr]; exact g)
        · exact h.named c
      presence := h.presence
      release := fun c i g => by
        rw [modBay_bay]
        split
        · next e => subst e; exact ⟨hr.trans (h.release b i g).1, (h.release b i g).2⟩
        · exact h.release c i g
      released := h.released
      disabled := fun c => by
        rw [modBay_bay]
        split
        · exact hd
        · exact h.disabled c
      partner := fun c => by
        rw [modBay_bay]
        split
        · next e => subst e; exact hp
        · exact h.partner c }
  bays g c hc := by
    rw [modBay_bay]
    split
    · next e => subst e; exact hq hc g
    · next e => exact g c (hf c hc (Ne.symm e))
  tablets := id
  ids g c hc := by
    rw [modBay_bay]
    split
    · next e => subst e; exact hi hc g
    · next e => exact g c (hf c hc (Ne.symm e))

/-- Fewer records are enrolled, and none with another tablet ID. -/
theorem TabletLaw.fewer (h : v.TabletLaw) (hw : ∀ i, (w.record i).enrolled = true →
    (v.record i).enrolled = true ∧ (w.record i).tabletId = (v.record i).tabletId) : w.TabletLaw := by
  intro i j hi hj e
  obtain ⟨hi, ti⟩ := hw i hi
  obtain ⟨hj, tj⟩ := hw j hj
  exact h i j hi hj (by rw [← ti, ← tj, e])

theorem TabletLaw.modRecord (h : v.TabletLaw) (f : Record → Record) (hf : (f (v.record i)).enrolled = true →
    (v.record i).enrolled = true ∧ (f (v.record i)).tabletId = (v.record i).tabletId) : (v.modRecord i f).TabletLaw :=
  h.fewer fun j hj => by
    rw [modRecord_record] at hj ⊢
    split at hj
    · next e => subst e; simp only [if_true]; exact hf hj
    · next e => rw [if_neg e]; exact ⟨hj, rfl⟩

/-- A record that keeps its bay, and is RELEASING as before, is rewritten. -/
theorem Fine.modRecord (h : v.Law) (f : Record → Record) (hc : (f (v.record i)).currentBay = (v.record i).currentBay)
    (hp : (f (v.record i)).PresenceLaw)
    (hr : (f (v.record i)).custody = .releasing ↔ (v.record i).custody = .releasing)
    (ht : v.TabletLaw → (v.modRecord i f).TabletLaw) : Fine p p v (v.modRecord i f) where
  law :=
    { naming := fun j c => by
        rw [modRecord_record]
        split
        · next e =>
          subst e
          change (f (v.record i)).currentBay = some c ↔ _
          rw [hc]
          exact h.naming i c
        · exact h.naming j c
      named := h.named
      presence := fun j => by
        rw [modRecord_record]
        split
        · exact hp
        · exact h.presence j
      release := fun c j g => by
        obtain ⟨h1, h2⟩ := h.release c j g
        rw [modRecord_record]
        split
        · next e => subst e; exact ⟨h1, hr.mpr h2⟩
        · exact ⟨h1, h2⟩
      released := fun j g => by
        rw [modRecord_record] at g
        split at g
        · next e => subst e; exact h.released i (hr.mp g)
        · exact h.released j g
      disabled := h.disabled
      partner := h.partner }
  bays := id
  tablets := ht
  ids := id

/-! ### Releases that begin and end -/

/-- A docked record becomes RELEASING, with its release entry at its bay (R144). -/
def begins (v : View) (b : BayNo) (i : RecordIx) (f : Record → Record) : View := (v.modRecord i f).setRelease b (some i)

/-- A record ceases to be RELEASING, and its release entry goes (R147, R149). -/
def ends (v : View) (b : BayNo) (i : RecordIx) (f : Record → Record) : View := (v.modRecord i f).setRelease b none

theorem Fine.begins (h : v.Law) (f : Record → Record) (hb : (v.bay b).record = some i)
    (hc : (f (v.record i)).currentBay = (v.record i).currentBay) (hp : (f (v.record i)).PresenceLaw)
    (hr : (f (v.record i)).custody = .releasing)
    (ht : v.TabletLaw → (v.modRecord i f).TabletLaw) : Fine p p v (v.begins b i f) where
  law :=
    { naming := fun j c => by
        change ((v.modRecord i f).record j).currentBay = some c ↔ _
        rw [modRecord_record]
        split
        · next e => subst e; change (f (v.record i)).currentBay = some c ↔ _; rw [hc]; exact h.naming i c
        · exact h.naming j c
      named := h.named
      presence := fun j => by
        change ((v.modRecord i f).record j).PresenceLaw
        rw [modRecord_record]
        split
        · exact hp
        · exact h.presence j
      release := fun c j g => by
        change (if b = c then some i else v.release c) = some j at g
        change (v.bay c).record = some j ∧ ((v.modRecord i f).record j).custody = .releasing
        rw [modRecord_record]
        split at g
        · next e =>
          subst e
          cases g
          rw [if_pos rfl]
          exact ⟨hb, hr⟩
        · next e =>
          obtain ⟨h1, h2⟩ := h.release c j g
          split
          · exact ⟨h1, hr⟩
          · exact ⟨h1, h2⟩
      released := fun j g => by
        change ((v.modRecord i f).record j).custody = .releasing at g
        rw [modRecord_record] at g
        split at g
        · next e => subst e; exact ⟨b, if_pos rfl⟩
        · next e =>
          obtain ⟨c, hc⟩ := h.released j g
          refine ⟨c, (if_neg fun e' => ?_).trans hc⟩
          subst e'
          exact e (Option.some.inj (hb.symm.trans (h.release b j hc).1))
      disabled := h.disabled
      partner := h.partner }
  bays := id
  tablets := ht
  ids := id

theorem Fine.ends (h : v.Law) (f : Record → Record) (hb : (v.bay b).record = some i)
    (hc : (f (v.record i)).currentBay = (v.record i).currentBay) (hp : (f (v.record i)).PresenceLaw)
    (hr : (f (v.record i)).custody ≠ .releasing)
    (ht : v.TabletLaw → (v.modRecord i f).TabletLaw) : Fine p p v (v.ends b i f) where
  law :=
    { naming := fun j c => by
        change ((v.modRecord i f).record j).currentBay = some c ↔ _
        rw [modRecord_record]
        split
        · next e => subst e; change (f (v.record i)).currentBay = some c ↔ _; rw [hc]; exact h.naming i c
        · exact h.naming j c
      named := h.named
      presence := fun j => by
        change ((v.modRecord i f).record j).PresenceLaw
        rw [modRecord_record]
        split
        · exact hp
        · exact h.presence j
      release := fun c j g => by
        change (if b = c then none else v.release c) = some j at g
        change (v.bay c).record = some j ∧ ((v.modRecord i f).record j).custody = .releasing
        rw [modRecord_record]
        split at g
        · simp at g
        · next e =>
          obtain ⟨h1, h2⟩ := h.release c j g
          rw [if_neg fun e' : i = j => e (h.bay_unique hb (by rw [e']; exact h1))]
          exact ⟨h1, h2⟩
      released := fun j g => by
        change ((v.modRecord i f).record j).custody = .releasing at g
        rw [modRecord_record] at g
        split at g
        · exact absurd g hr
        · next e =>
          obtain ⟨c, hc⟩ := h.released j g
          refine ⟨c, (if_neg fun e' => ?_).trans hc⟩
          subst e'
          exact e (Option.some.inj (hb.symm.trans (h.release b j hc).1))
      disabled := h.disabled
      partner := h.partner }
  bays := id
  tablets := ht
  ids := id

/-! ### A record leaves its bay -/

/-- Bay b, which names record i, ceases to name it; the record is rewritten to one that no bay names, and its release entry,
if any, goes. -/
def leaves (v : View) (b : BayNo) (i : RecordIx) (f : Record → Record) : View :=
  let w := (v.modBay b fun x => { x with record := none }).modRecord i f
  if (v.record i).custody = .releasing then w.setRelease b none else w

theorem leaves_record (f : Record → Record) :
    (v.leaves b i f).record j = if i = j then (f (v.record i)).custodial else v.record j := by
  unfold leaves
  simp only
  split <;> rfl

theorem leaves_bay (f : Record → Record) :
    (v.leaves b i f).bay c = if b = c then Bay.custodial { v.bay b with record := none } else v.bay c := by
  unfold leaves
  simp only
  split <;> rfl

theorem leaves_release (f : Record → Record) : (v.leaves b i f).release c =
    if b = c ∧ (v.record i).custody = .releasing then none else v.release c := by
  unfold leaves
  simp only
  split
  · next e => simp [e]
  · next e => simp [e]

theorem Fine.leaves (h : v.Law) (f : Record → Record) (hb : (v.bay b).record = some i)
    (hc : (f (v.record i)).currentBay = none) (hp : (f (v.record i)).PresenceLaw)
    (hr : (f (v.record i)).custody ≠ .releasing) (ht : (f (v.record i)).enrolled = true → (v.record i).enrolled = true ∧
      (f (v.record i)).tabletId = (v.record i).tabletId) : Fine (But b) (But b) v (v.leaves b i f) where
  law :=
    { naming := fun j c => by
        rw [leaves_record, leaves_bay]
        by_cases hi : i = j
        · subst hi
          rw [if_pos rfl]
          change (f (v.record i)).currentBay = some c ↔ _
          rw [hc]
          split
          · simp [Bay.custodial]
          · next e => simpa using fun g => e (h.bay_unique hb g)
        · rw [if_neg hi, h.naming j c]
          split
          · next e => subst e; simp [Bay.custodial, hb, hi]
          · rfl
      named := fun c => by
        rw [leaves_bay]
        split
        · simp [Bay.custodial]
        · exact h.named c
      presence := fun j => by
        rw [leaves_record]
        split
        · exact hp
        · exact h.presence j
      release := fun c j g => by
        rw [leaves_release] at g
        split at g
        · simp at g
        · next e =>
          obtain ⟨h1, h2⟩ := h.release c j g
          have hij : i ≠ j := fun e' => by
            subst e'
            exact e ⟨h.bay_unique hb h1, h2⟩
          have hbc : b ≠ c := fun e' => by
            subst e'
            exact hij (Option.some.inj (hb.symm.trans h1))
          rw [leaves_record, leaves_bay, if_neg hij, if_neg hbc]
          exact ⟨h1, h2⟩
      released := fun j g => by
        rw [leaves_record] at g
        split at g
        · exact absurd g hr
        · next e =>
          obtain ⟨c, hc⟩ := h.released j g
          refine ⟨c, ?_⟩
          rw [leaves_release, if_neg, hc]
          rintro ⟨rfl, -⟩
          exact e (Option.some.inj (hb.symm.trans (h.release b j hc).1))
      disabled := fun c => by
        rw [leaves_bay]
        split
        · exact h.disabled b
        · exact h.disabled c
      partner := fun c => by
        rw [leaves_bay]
        split
        · next e => subst e; exact h.partner b
        · exact h.partner c }
  bays g c hc := by
    rw [leaves_bay, if_neg (Ne.symm hc)]
    exact g c hc
  tablets hv := by
    refine hv.fewer fun j hj => ?_
    rw [leaves_record] at hj ⊢
    split at hj
    · next e => subst e; rw [if_pos rfl]; exact ht hj
    · next e => rw [if_neg e]; exact ⟨hj, rfl⟩
  ids g c hc := by
    rw [leaves_bay, if_neg (Ne.symm hc)]
    exact g c hc

/-! ### A record enters a bay -/

/-- Record i is docked in bay b (R31). -/
def docks (v : View) (b : BayNo) (i : RecordIx) : View :=
  (v.modBay b fun x => { x.strip with state := .identified, record := some i }).modRecord i (Record.enterBay b)

/-- A record that no bay names, but FREE. -/
theorem enterBay_presence {r : Record} (hp : r.PresenceLaw) (hf : r.custody ≠ .free) (hc : r.currentBay = none) :
    (r.enterBay b).PresenceLaw ∧ (r.enterBay b).currentBay = some b ∧ (r.enterBay b).custody ≠ .releasing ∧
      (r.enterBay b).tabletId = r.tabletId := by
  unfold Record.PresenceLaw at hp
  unfold Record.enterBay
  cases h : r.custody <;> simp_all [Record.PresenceLaw]

theorem Fine.docks (h : v.Law) (hb : (v.bay b).record = none) (hd : (v.bay b).hostDisabled = false)
    (hi : (v.record i).currentBay = none) (hf : (v.record i).enrolled = true) : Fine (But b) All v (v.docks b i) := by
  have hfree : (v.record i).custody ≠ .free := fun g => by simp [Record.enrolled, g] at hf
  obtain ⟨hp, hc, hr, ht⟩ := enterBay_presence (b := b) (h.presence i) hfree hi
  have hrec : ∀ j, (v.docks b i).record j = if i = j then ((v.record i).enterBay b).custodial else v.record j := fun _ => rfl
  have hbay : ∀ c, (v.docks b i).bay c = if b = c then
      Bay.custodial { (v.bay b).strip with state := .identified, record := some i } else v.bay c := fun _ => rfl
  have hnr : (v.record i).custody ≠ .releasing := fun g => by
    have := h.presence i
    simp only [Record.PresenceLaw, g, hi] at this
    simp at this
  refine ⟨⟨fun j c => ?_, fun c => ?_, fun j => ?_, fun c j g => ?_, fun j g => ?_, fun c => ?_, fun c => ?_⟩,
    fun g c _ => ?_, fun hv => ?_, fun g c _ => ?_⟩
  · rw [hrec, hbay]
    by_cases hij : i = j
    · subst hij
      rw [if_pos rfl]
      change ((v.record i).enterBay b).currentBay = some c ↔ _
      rw [hc]
      split
      · next e => subst e; simp [Bay.custodial]
      · next e =>
        refine ⟨fun g => absurd (Option.some.inj g) e, fun g => ?_⟩
        exact absurd ((h.naming i c).mpr g) (by simp [hi])
    · rw [if_neg hij, h.naming j c]
      split
      · next e => subst e; simp [Bay.custodial, hb, hij]
      · rfl
  · rw [hbay]
    split
    · exact fun _ => .inl rfl
    · exact h.named c
  · rw [hrec]
    split
    · exact hp
    · exact h.presence j
  · have hv : v.release c = some j := g
    obtain ⟨h1, h2⟩ := h.release c j hv
    have hbc : b ≠ c := fun e => by subst e; simp [hb] at h1
    have hij : i ≠ j := fun e => by subst e; exact hnr h2
    rw [hrec, hbay, if_neg hbc, if_neg hij]
    exact ⟨h1, h2⟩
  · rw [hrec] at g
    split at g
    · exact absurd g hr
    · exact h.released j g
  · rw [hbay]
    split
    · intro g
      exact absurd g (by simp [Bay.custodial, Bay.strip, hd])
    · exact h.disabled c
  · rw [hbay]
    split
    · simp [Bay.custodial]
    · exact h.partner c
  · rw [hbay]
    split
    · simp [Bay.custodial, Bay.strip, Bay.FieldLaw]
    · next e => exact g c (Ne.symm e)
  · exact TabletLaw.modRecord (v := v.modBay b _) hv (Record.enterBay b) fun _ => ⟨hf, ht⟩
  · rw [hbay]
    split
    · exact fun _ => rfl
    · next e => exact g c (Ne.symm e)

end View

end Sys2Proof.Machine
end

section
/-! SUPPORT. The Dock Supervisor's operations and the record transitions, on a state's custody: each leads from a lawful custody to
a lawful one. -/

namespace Sys2Proof.Machine

set_option Elab.async false

/-- A state shows a lawful custody that a custody v leads to. -/
def View.Leads (p q : BayNo → Prop) (v : View) (t : State) : Prop := ∃ w, t.Shows w ∧ View.Fine p q v w

/-- A record's custody when its bay undocks it (R8, R10, R141, R146). -/
def Record.departed (reason : AdriftReason) (r : Record) : Record :=
  match r.custody with
  | .inCart => { r with currentBay := none, custody := .adrift, adriftReason := some reason }
  | .releasing => { r with currentBay := none, custody := .loaned }
  | .retiring => Record.freeImage
  | .free | .away | .loaned | .overdue | .adrift | .held => { r with currentBay := none }

theorem Record.departed_law {r : Record} (reason : AdriftReason) (h : r.PresenceLaw) (hc : r.currentBay.isSome = true) :
    (r.departed reason).currentBay = none ∧ (r.departed reason).PresenceLaw ∧ (r.departed reason).custody ≠ .releasing ∧
      ((r.departed reason).enrolled = true → r.enrolled = true ∧ (r.departed reason).tabletId = r.tabletId) := by
  unfold Record.PresenceLaw at h
  unfold Record.departed
  cases hr : r.custody <;> simp_all [Record.PresenceLaw, Record.freeImage, Record.enrolled]

/-- A record that is neither IN_CART, RELEASING nor RETIRING leaves its bay in the custody state it had. -/
theorem Record.departed_stays {r : Record} (reason : AdriftReason) (u : Bool) (h1 : r.custody ≠ .inCart)
    (h2 : r.custody ≠ .releasing) (h3 : r.custody ≠ .retiring) :
    (r.departed reason).custodial = (r.leaveBay u).custodial := by
  unfold Record.departed
  split
  · exact absurd ‹_› h1
  · exact absurd ‹_› h2
  · exact absurd ‹_› h3
  iterate 6 rfl

namespace View.Leads

open View

variable {p q r : BayNo → Prop} {v w : View} {s t : State} {b c : BayNo} {i : RecordIx}

theorem refl (h : s.Shows v) (hl : v.Law) : Leads p p v s := ⟨v, h, .refl hl⟩

/-- An operation that leaves the custody alone. -/
theorem same (h : Leads p q v s) (hn : ∀ w, s.Shows w → t.Shows w) : Leads p q v t := by
  obtain ⟨w, hw, hf⟩ := h
  exact ⟨w, hn w hw, hf⟩

theorem before (h : Leads p q v s) (hn : ∀ w, s.Shows w → w.Law → Leads q r w t) : Leads p r v t := by
  obtain ⟨w, hw, hf⟩ := h
  obtain ⟨u, hu, hg⟩ := hn w hw hf.law
  exact ⟨u, hu, hf.trans hg⟩

end View.Leads

namespace State.Shows

open View

variable {p q : BayNo → Prop} {v w : View} {s t : State} {b c : BayNo} {i : RecordIx}

/-! ### Undocks (R8, R29, R141) -/

theorem ceaseNaming (h : s.Shows v) (b : BayNo) :
    (s.ceaseNaming b).Shows (v.modBay b fun x => { x with record := none }) := by
  refine State.Shows.of_same (h.modBay b _ (h.agrees.modBay b _ (.inl rfl))) rfl rfl rfl

theorem freeRecord (h : s.Shows v) (i : RecordIx) : (s.freeRecord i).Shows (v.modRecord i fun _ => Record.freeImage) :=
  h.setRecord i _

/-- The record of an undock, and its release entry. -/
theorem undockRecord (h : s.Shows v) (b : BayNo) (i : RecordIx) (u : Bool) : ∃ reason,
    (s.undockRecord b i u).Shows (if (v.record i).custody = .releasing
      then (v.modRecord i (Record.departed reason)).setRelease b none else v.modRecord i (Record.departed reason)) := by
  have h0 := h.modRecord i (Record.leaveBay u)
  have hc : ((s.modRecord i (Record.leaveBay u)).record i).custody = (v.record i).custody := by
    rw [h0.custody, modRecord_record, if_pos rfl]
    rfl
  have hf : ∀ reason, ∀ f : Record → Record, (f ((v.record i).leaveBay u).custodial).custodial =
      ((v.record i).departed reason).custodial →
      (v.modRecord i (Record.leaveBay u)).modRecord i f = v.modRecord i (Record.departed reason) := fun reason f e => by
    rw [modRecord_modRecord]
    exact modRecord_congr e
  unfold State.undockRecord
  simp only [hc]
  have stays : ∀ {t : State}, t.Shows (v.modRecord i (Record.leaveBay u)) →
      (v.record i).custody ≠ .inCart → (v.record i).custody ≠ .releasing → (v.record i).custody ≠ .retiring →
      t.Shows (v.modRecord i (Record.departed .forced)) := fun ht h1 h2 h3 => by
    rwa [modRecord_congr (Record.departed_stays .forced u h1 h2 h3)]
  cases hk : (v.record i).custody with
  | inCart =>
    let reason : AdriftReason := if (s.modRecord i (Record.leaveBay u)).serviceOpen then .service else .forced
    refine ⟨reason, ?_⟩
    simp only [reduceCtorEq, if_false]
    rw [← hf reason (fun r => { r with custody := .adrift, adriftReason := some reason })
      (by simp only [Record.departed, hk]; rfl)]
    exact (h0.editRecord i _).addSubject _ _
  | releasing =>
    refine ⟨.forced, ?_⟩
    simp only [if_true]
    have h1 := (h0.editRecord i fun r => { r with custody := .loaned }).addSubject Source.loanStart i.val
    rw [hf .forced _ (by simp only [Record.departed, hk]; rfl)] at h1
    exact h1.setRelease b none (h1.agrees.setRelease b nofun)
  | retiring =>
    refine ⟨.forced, ?_⟩
    simp only [reduceCtorEq, if_false]
    have h1 := h0.freeRecord i
    rwa [hf .forced _ (by simp only [Record.departed, hk])] at h1
  | held =>
    refine ⟨.forced, ?_⟩
    simp only [reduceCtorEq, if_false]
    exact stays (h0.addSubject _ _) (by simp [hk]) (by simp [hk]) (by simp [hk])
  | free =>
    refine ⟨.forced, ?_⟩
    simp only [reduceCtorEq, if_false]
    exact stays h0 (by simp [hk]) (by simp [hk]) (by simp [hk])
  | away =>
    refine ⟨.forced, ?_⟩
    simp only [reduceCtorEq, if_false]
    exact stays h0 (by simp [hk]) (by simp [hk]) (by simp [hk])
  | loaned =>
    refine ⟨.forced, ?_⟩
    simp only [reduceCtorEq, if_false]
    exact stays h0 (by simp [hk]) (by simp [hk]) (by simp [hk])
  | overdue =>
    refine ⟨.forced, ?_⟩
    simp only [reduceCtorEq, if_false]
    exact stays h0 (by simp [hk]) (by simp [hk]) (by simp [hk])
  | adrift =>
    refine ⟨.forced, ?_⟩
    simp only [reduceCtorEq, if_false]
    exact stays h0 (by simp [hk]) (by simp [hk]) (by simp [hk])

/-- An undock of bay b: the bay names no record, and no other bay changes. -/
theorem undock (h : s.Shows v) (hl : v.Law) (b : BayNo) (e : Bool) : ∃ w, (s.undock b e).Shows w ∧ Fine (But b) (But b) v w ∧
    w.bay b = Bay.custodial { v.bay b with record := none } ∧ ∀ c, c ≠ b → w.bay c = v.bay c := by
  unfold State.undock
  cases hb : (s.bay b).record with
  | none =>
    refine ⟨v, h, .refl hl, ?_, fun _ _ => rfl⟩
    rw [← h.bay_eq, show ({ (s.bay b).custodial with record := none } : Bay) = (s.bay b).custodial by rw [← hb]; rfl]
    rfl
  | some i =>
    rw [h.bay_record] at hb
    obtain ⟨reason, hw⟩ := ((h.ceaseNaming b).endSessionOf i .aborted).undockRecord b i (s.link b).custody.holdsRelease
    have hc : (v.record i).currentBay.isSome = true := by rw [(hl.naming i b).mpr hb]; rfl
    obtain ⟨h1, h2, h3, h4⟩ := Record.departed_law reason (hl.presence i) hc
    refine ⟨v.leaves b i (Record.departed reason), ?_, .leaves hl _ hb h1 h2 h3 h4, ?_, fun c hc => ?_⟩
    · refine State.Shows.requestPass ?_
      cases e
      · exact hw
      · exact hw.dropLocks b
    · rw [leaves_bay, if_pos rfl]
    · rw [leaves_bay, if_neg (Ne.symm hc)]

/-! ### Partners, bays emptied and brought up (R28, R29, R35, R40) -/

theorem releasePartner (h : s.Shows v) (hl : v.Law) (b : BayNo) : ∃ w, (s.releasePartner b).Shows w ∧
    (∀ p, Fine p p v w) ∧ w.bay b = v.bay b ∧ ∀ c, (w.bay c).record = (v.bay c).record ∧
      (w.bay c).hostDisabled = (v.bay c).hostDisabled := by
  unfold State.releasePartner
  rw [h.bay_partner]
  split
  · exact ⟨v, h, fun _ => .refl hl, rfl, fun _ => ⟨rfl, rfl⟩⟩
  · next c hc =>
    have hcb : c ≠ b := fun e => hl.partner b (e ▸ hc)
    have facts : ∀ f : Bay → Bay, (f (v.bay c)).record = (v.bay c).record →
        (f (v.bay c)).hostDisabled = (v.bay c).hostDisabled → (v.modBay c f).bay b = v.bay b ∧
        ∀ d, ((v.modBay c f).bay d).record = (v.bay d).record ∧
          ((v.modBay c f).bay d).hostDisabled = (v.bay d).hostDisabled := fun f hr hd => by
      refine ⟨if_neg hcb, fun d => ?_⟩
      rw [modBay_bay]
      split
      · next e => subst e; exact ⟨hr, hd⟩
      · exact ⟨rfl, rfl⟩
    rw [h.bay_state]
    cases hs : (v.bay c).state with
    | collided =>
      have hn : (v.bay c).record = none := hl.record_none_of_state (by simp [hs]) (by simp [hs])
      refine ⟨v.modBay c fun x => { x with state := .bringup, reportedId := none, partner := none }, ?_, fun p => ?_,
        facts _ rfl rfl⟩
      · have h1 := h.modBay c (fun x => { x with state := .bringup, reportedId := none, partner := none })
          (h.agrees.modBay c _ (.inr rfl))
        refine State.Shows.requestPass (State.Shows.dropOutput ?_ c _)
        exact h1.of_same
      · refine Fine.modBay hl _ rfl (fun g => absurd g (by simp [hn])) (fun g => ?_) (by simp) (fun _ h _ => h) fun hp g => ?_
        · exact absurd g (by simp [hl.enabled_of_state (b := c) (by simp [hs])])
        · have hf := g c hp
          simp_all [Bay.FieldLaw]
    | fault =>
      refine ⟨v.modBay c fun x => { x with reportedId := none, partner := none }, h.modBay c _ (h.agrees.modBay c _ (.inr rfl)),
        fun p => ?_, facts _ rfl rfl⟩
      refine Fine.modBay hl _ rfl (hl.named c) (hl.disabled c) (by simp) (fun _ h _ => h) (fun hp g => ?_) fun hp g => g c hp
      have hf := g c hp
      simp_all [Bay.FieldLaw]
    | disabled => exact ⟨v, h, fun _ => .refl hl, rfl, fun _ => ⟨rfl, rfl⟩⟩
    | empty => exact ⟨v, h, fun _ => .refl hl, rfl, fun _ => ⟨rfl, rfl⟩⟩
    | bringup => exact ⟨v, h, fun _ => .refl hl, rfl, fun _ => ⟨rfl, rfl⟩⟩
    | identified => exact ⟨v, h, fun _ => .refl hl, rfl, fun _ => ⟨rfl, rfl⟩⟩
    | foreign => exact ⟨v, h, fun _ => .refl hl, rfl, fun _ => ⟨rfl, rfl⟩⟩

/-- The partner of a bay is released, or not. -/
theorem releasePartnerIf (h : s.Shows v) (hl : v.Law) (b : BayNo) (x : Bool) :
    ∃ w, (if x then s.releasePartner b else s).Shows w ∧ (∀ p, Fine p p v w) ∧ w.bay b = v.bay b ∧
      ∀ c, (w.bay c).record = (v.bay c).record ∧ (w.bay c).hostDisabled = (v.bay c).hostDisabled := by
  cases x
  · exact ⟨v, h, fun _ => .refl hl, rfl, fun _ => ⟨rfl, rfl⟩⟩
  · exact h.releasePartner hl b

/-- A bay without a record is stripped and takes a state in which it holds nothing. -/
theorem Fine.strip (hl : v.Law) (b : BayNo) (d : BayState) (hr : (v.bay b).record = none)
    (hd : d = .disabled ∨ (v.bay b).hostDisabled = false) (hs : d = .disabled ∨ d = .empty ∨ d = .bringup) :
    Fine (But b) All v (v.modBay b fun x => { x.strip with state := d }) := by
  refine Fine.modBay hl _ rfl (fun g => absurd g (by simp [hr])) (fun g => ?_) (by simp) (fun c _ h => h) (fun _ _ => ?_)
    fun _ _ g => by obtain rfl | rfl | rfl := hs <;> cases g
  · obtain rfl | hd := hd
    · rfl
    · exact absurd g (by simp [Bay.strip, hd])
  · obtain rfl | rfl | rfl := hs <;> simp [Bay.FieldLaw, Bay.strip, hr]

theorem enterBringup (h : s.Shows v) (hl : v.Law) (b : BayNo) (hr : (v.bay b).record = none)
    (hd : (v.bay b).hostDisabled = false) : Leads (But b) All v (s.enterBringup b) := by
  refine ⟨v.modBay b fun x => { x.strip with state := .bringup }, ?_, Fine.strip hl b _ hr (.inr hd) (.inr (.inr rfl))⟩
  have h1 := h.modBay b (fun x => { x.strip with state := .bringup }) (h.agrees.modBay b _ (.inr rfl))
  refine State.Shows.dropOutput ?_ b _
  exact h1.of_same

theorem emptyBay (h : s.Shows v) (hl : v.Law) (b : BayNo) (d : BayState) (hs : d = .disabled ∨ d = .empty)
    (hd : d = .disabled ∨ (v.bay b).hostDisabled = false) : ∃ w, (s.emptyBay b d).Shows w ∧ Fine All All v w ∧
      (w.bay b).state = d ∧ (w.bay b).FieldLaw ∧ (w.bay b).partner = none := by
  obtain ⟨w1, h1, f1, hb1, -⟩ := h.undock hl b true
  have h2 : (((s.undock b true).modLink b fun _ => Link.downValues).dropOutput b .off).Shows w1 := by
    refine State.Shows.dropOutput ?_ b _
    exact h1.of_same
  obtain ⟨w3, h3, f3, hb3, -⟩ := h2.releasePartnerIf f1.law b (s.bay b).partnered
  have hr : (w3.bay b).record = none := by rw [hb3, hb1]; rfl
  have hd3 : d = .disabled ∨ (w3.bay b).hostDisabled = false := by rw [hb3, hb1]; exact hd
  have h4 := h3.modBay b (fun y => { y.strip with state := d }) (h3.agrees.modBay b _ (.inr rfl))
  have f4 := Fine.strip (f3 All).law b d hr hd3 (by obtain rfl | rfl := hs <;> simp)
  refine ⟨w3.modBay b fun y => { y.strip with state := d }, ?_, ?_, ?_, ?_, ?_⟩
  · unfold State.emptyBay
    simp only
    refine State.Shows.requestPassIf ?_ _
    split
    · exact h4.addSubject _ _
    · exact h4
  · exact ((f1.trans (f3 _)).trans f4).strengthen fun _ _ => trivial
  · rw [modBay_bay, if_pos rfl]; rfl
  · rw [modBay_bay, if_pos rfl]
    obtain rfl | rfl := hs <;> simp [Bay.FieldLaw, Bay.strip, Bay.custodial, hr]
  · rw [modBay_bay, if_pos rfl]; rfl

/-! ### Docks, foreign bays and collisions (R31 to R33) -/

theorem enterBay_custodial (b : BayNo) (r : Record) : (r.enterBay b).custodial = (r.custodial.enterBay b).custodial := by
  unfold Record.enterBay
  have hc : r.custodial.custody = r.custody := rfl
  simp only [hc]
  cases r.custody <;> rfl

theorem dock (h : s.Shows v) (hl : v.Law) (b : BayNo) (i : RecordIx) (hb : (v.bay b).record = none) :
    (s.dock b i).Shows (v.docks b i) := by
  have ha : (v.modBay b fun x => { x.strip with state := .identified, record := some i }).Agrees := by
    intro c j k hr hk
    rw [modBay_release] at hr
    rw [modBay_bay] at hk
    split at hk
    · next e => subst e; simp [hl.release_none hb] at hr
    · exact h.agrees c j k hr hk
  have h1 := h.modBay b (fun x => { x.strip with state := .identified, record := some i }) ha
  have h2 : ((((s.modBay b fun x => { x.strip with state := .identified, record := some i }).modEntry b
      AllocEntry.forget).modOutput b fun o => { o with remainder := 0 }).modRecord i (Record.enterBay b)).Shows
        (v.docks b i) := by
    refine State.Shows.modRecord ?_ i _ (enterBay_custodial b _)
    exact h1.of_same
  unfold State.dock
  simp only
  refine State.Shows.requestPass ?_
  split
  · split
    · exact (h2.addSubject _ _).receiveInCart b
    · exact h2.addSubject _ _
  · split
    · exact h2.receiveInCart b
    · exact h2

theorem becomeForeign (h : s.Shows v) (hl : v.Law) (b : BayNo) (x : TabletId) (c : ForeignCause)
    (hb : (v.bay b).record = none) (hd : (v.bay b).hostDisabled = false) : Leads (But b) All v (s.becomeForeign b x c) := by
  refine ⟨_, ((h.modBay b (fun y => { y.strip with state := .foreign, reportedId := some x, foreignCause := some c })
    (h.agrees.modBay b _ (.inr rfl))).addSubject _ _).requestPass, ?_⟩
  refine Fine.modBay hl _ rfl (fun g => absurd g (by simp [hb])) (fun g => absurd g (by simp [Bay.strip, hd])) (by simp)
    (fun c _ h => h) fun _ _ => ?_
  simp [Bay.FieldLaw, Bay.strip, hb]

theorem endReleaseByHold (h : s.Shows v) (b : BayNo) : (s.endReleaseByHold b).Shows (v.setRelease b none) :=
  ((h.setRelease b none (h.agrees.setRelease b nofun)).dropQueued b .unlock).dropReserving b .unlock

/-- A collision's record enters HELD undocked (R9, R33). -/
theorem collideRecord (h : s.Shows v) (c : BayNo) (i : RecordIx) :
    (s.collideRecord c i).Shows (v.leaves c i fun r => { r.held .collision with currentBay := none }) := by
  have h1 := (h.ceaseNaming c).endSessionOf i .aborted
  have hr : (((s.ceaseNaming c).endSessionOf i .aborted).record i).custody = (v.record i).custody := h1.custody i
  have h2 := h1.modRecord i fun r => { r.held .collision with currentBay := none }
  unfold State.collideRecord View.leaves
  simp only [hr]
  split
  · exact h2.endReleaseByHold c
  · exact h2

theorem held_law {r : Record} (x : HoldReason) (h : r.custody ≠ .free) : (r.held x).PresenceLaw ∧
    (r.held x).custody ≠ .releasing ∧ r.enrolled = true := by
  refine ⟨by simp [Record.held, Record.PresenceLaw], by simp [Record.held], by simpa [Record.enrolled] using h⟩

theorem collide (h : s.Shows v) (hl : v.Law) (b c : BayNo) (i : RecordIx) (x : TabletId) (hbc : b ≠ c)
    (hb : (v.bay b).record = none) (hd : (v.bay b).hostDisabled = false) (hc : (v.bay c).record = some i) :
    Leads (But b) All v (s.collide b c i x) := by
  have hfree : (v.record i).custody ≠ .free := fun g => by
    have hp := hl.presence i
    simp only [Record.PresenceLaw, g, (hl.naming i c).mpr hc] at hp
    simp at hp
  obtain ⟨hp, hr, he⟩ := held_law .collision hfree
  have h1 := h.collideRecord c i
  have f1 : Fine (But c) (But c) v (v.leaves c i fun r => { r.held .collision with currentBay := none }) :=
    .leaves hl _ hc rfl (by simp [Record.held, Record.PresenceLaw]) (by simp [Record.held]) fun _ => ⟨he, rfl⟩
  have hw : ∀ d, (v.leaves c i fun r => { r.held .collision with currentBay := none }).bay d =
      if c = d then Bay.custodial { v.bay c with record := none } else v.bay d := fun d => leaves_bay _
  revert h1 f1 hw
  generalize (v.leaves c i fun r => { r.held .collision with currentBay := none }) = w
  intro h1 f1 hw
  have hwb : w.bay b = v.bay b := (hw b).trans (if_neg (Ne.symm hbc))
  have hwc : w.bay c = Bay.custodial { v.bay c with record := none } := (hw c).trans (if_pos rfl)
  let f : Bay → Bay := fun y => { y.strip with state := .collided, reportedId := some x, partner := some c }
  let g : Bay → Bay := fun y =>
    { y with state := if y.state = .fault then .fault else .collided, reportedId := some x, partner := some b }
  have h2 := h1.modBay b f (h1.agrees.modBay b _ (.inr rfl))
  have hfc : (w.modBay b f).bay c = w.bay c := if_neg hbc
  have h3 := h2.modBay c g (h2.agrees.modBay c _ (.inr rfl))
  refine ⟨(w.modBay b f).modBay c g, ((h3.addSubject _ _).addSubject _ _).requestPass, ?_, fun hv d _ => ?_,
    fun hv => f1.tablets hv, fun hv d _ => ?_⟩
  · have l2 : (w.modBay b f).Law := (Fine.modBay (p := But b) (q := All) f1.law f rfl
      (fun e => absurd e (by simp [hwb, hb])) (fun e => absurd e (by simp [f, Bay.strip, hwb, hd]))
      (by simpa [f] using hbc.symm) (fun _ _ h => h) fun _ _ => by simp [f, Bay.FieldLaw, Bay.strip, hwb, hb]).law
    refine (Fine.modBay (p := But c) (q := But c) l2 g rfl (fun e => ?_) (fun e => ?_) (by simpa [g] using hbc)
      (fun _ h _ => h) (fun h _ => absurd rfl h) fun h _ => absurd rfl h).law
    · rw [hfc, hwc] at e
      simp [Bay.custodial] at e
    · have e : ((w.modBay b f).bay c).hostDisabled = true := e
      rw [hfc, hwc] at e
      exact absurd (hl.disabled c e) (by
        obtain e' | e' := hl.named c (by simp [hc]) <;> simp [e'])
  · rw [modBay_bay]
    split
    · next e =>
      subst e
      rw [hfc, hwc]
      have hF := hv c (Ne.symm hbc)
      obtain hs | hs := hl.named c (by simp [hc])
      · simp_all [g, Bay.FieldLaw, Bay.custodial]
      · simp_all [g, Bay.FieldLaw, Bay.custodial]
    · next e =>
      rw [modBay_bay]
      split
      · simp [f, Bay.FieldLaw, Bay.custodial, Bay.strip, hwb, hb]
      · next e' => rw [(hw d).trans (if_neg e)]; exact hv d (Ne.symm e')
  · rw [modBay_bay]
    split
    · intro hs
      change (if ((w.modBay b f).bay c).state = .fault then BayState.fault else .collided) = .identified at hs
      split at hs <;> simp at hs
    · next e =>
      rw [modBay_bay]
      split
      · exact fun hs => by simp [f, Bay.custodial] at hs
      · next e' => rw [(hw d).trans (if_neg e)]; exact hv d (Ne.symm e')

/-! ### Matching (R30, R34, R36) -/

theorem enrolled_of_findTablet {x : TabletId} (h : s.Shows v) (hx : s.findTablet x = some i) : (v.record i).enrolled = true := by
  have := (State.findTablet_eq_some hx).1
  rwa [show (s.record i).enrolled = (v.record i).enrolled by rw [← h.record_eq]; rfl] at this

theorem matchId (h : s.Shows v) (hl : v.Law) (b : BayNo) (x : TabletId) (hb : (v.bay b).record = none)
    (hd : (v.bay b).hostDisabled = false) : Leads (But b) All v (s.matchId b x) := by
  unfold State.matchId
  split
  · exact h.becomeForeign hl b x _ hb hd
  · next i hi =>
    have he := h.enrolled_of_findTablet hi
    rw [h.currentBay]
    split
    · next hc => exact ⟨_, h.dock hl b i hb, .docks hl hb hd hc he⟩
    · next c hc =>
      have hn := (hl.naming i c).mp hc
      refine h.collide hl b c i x (fun e => ?_) hb hd hn
      subst e
      simp [hb] at hn

theorem writeIdent (h : s.Shows v) (b : BayNo) (id : Ident) : (s.writeIdent b id).Shows v := by
  unfold State.writeIdent
  split
  · exact h.editRecord_same _ _
  · exact h

theorem matchIdent (h : s.Shows v) (hl : v.Law) (b : BayNo) (id : Ident) (hb : (v.bay b).record = none)
    (hd : (v.bay b).hostDisabled = false) : Leads (But b) All v (s.matchIdent b id) := by
  unfold State.matchIdent
  simp only
  split
  · exact (h.matchId hl b id.tabletId hb hd).same fun w hw => ((hw.writeIdent b id).addSubject _ _).requestPass
  · exact (h.becomeForeign hl b id.tabletId _ hb hd).same fun w hw => (hw.addSubject _ _).requestPass

theorem recover (h : s.Shows v) (hl : v.Law) (b : BayNo) (hs : (v.bay b).state = .fault)
    (hr : (v.bay b).record.isSome = true) : Leads All All v (s.recover b) := by
  obtain ⟨w, hw, f, hb, -⟩ := h.releasePartnerIf hl b (s.bay b).partnered
  have hd : (w.bay b).hostDisabled = false := by rw [hb]; exact hl.enabled_of_state (by simp [hs])
  have h2 := hw.modBay b (fun y => { y.strip with state := .identified }) (hw.agrees.modBay b _ (.inr rfl))
  refine ⟨_, State.Shows.requestPass (State.Shows.of_same h2 rfl rfl rfl), (f All).trans ?_⟩
  refine Fine.modBay (f All).law _ rfl (fun _ => .inl rfl) (fun g => absurd g (by simp [Bay.strip, hd])) (by simp)
    (fun _ h _ => h) (fun _ _ => ?_) fun _ _ _ => by simp [Bay.strip, hb, hr]
  simp [Bay.FieldLaw, Bay.strip, hb, hr]

theorem superviseIdent (h : s.Shows v) (hl : v.Law) (b : BayNo) (id : Ident) :
    Leads All All v (s.superviseIdent b id) := by
  have rematch : ∀ {t : State}, t.Shows v → (v.bay b).record = none → (v.bay b).state ≠ .disabled →
      Leads All All v (t.matchIdent b id) := fun ht hr hs => by
    obtain ⟨w, hw, f⟩ := ht.matchIdent hl b id hr (hl.enabled_of_state hs)
    exact ⟨w, hw, f.strengthen fun _ _ => trivial⟩
  have compared : (v.bay b).state ≠ .disabled → Leads All All v (match s.compare b id with
      | .same => (s.sameIdentity b id).requestPass
      | .other => s.otherIdentity b id
      | .noIdentity => s.requestPass) := fun hs => by
    split
    · refine Leads.same ?_ fun w hw => State.Shows.requestPass hw
      unfold State.sameIdentity
      simp only
      split
      · next g =>
        rw [h.bay_state, h.bay_record] at g
        exact (h.writeIdent b id).recover hl b g.1 g.2.2
      · split
        · next g =>
          rw [h.bay_state] at g
          exact rematch (h.writeIdent b id) (hl.record_none_of_state (by simp [g.1]) (by simp [g.1])) hs
        · exact .refl (h.writeIdent b id) hl
    · unfold State.otherIdentity
      simp only
      obtain ⟨w1, h1, f1, hb1, -⟩ := h.undock hl b false
      obtain ⟨w2, h2, f2, hb2, -⟩ := h1.releasePartnerIf f1.law b (s.bay b).partnered
      have hr : (w2.bay b).record = none := by rw [hb2, hb1]; rfl
      have hst : (w2.bay b).state = (v.bay b).state := by rw [hb2, hb1]; rfl
      have h3 := (h2.modBay b Bay.strip (h2.agrees.modBay b _ (.inr rfl))).addSubject Source.undock b.val
      have f3 : Fine (But b) (But b) w2 (w2.modBay b Bay.strip) :=
        Fine.modBay (f2 All).law _ rfl (fun g => absurd g (by simp [hr])) ((f2 All).law.disabled b) (by simp)
          (fun _ h _ => h) (fun h => absurd rfl h) fun h => absurd rfl h
      have hd : ((w2.modBay b Bay.strip).bay b).hostDisabled = false := by
        rw [modBay_bay, if_pos rfl]
        exact (f2 All).law.enabled_of_state (hst ▸ hs)
      obtain ⟨w4, h4, f4⟩ := h3.matchIdent f3.law b id (by rw [modBay_bay, if_pos rfl]; exact hr) hd
      exact ⟨w4, h4, (((f1.trans (f2 _)).trans f3).trans f4).strengthen fun _ _ => trivial⟩
    · exact .refl h.requestPass hl
  unfold State.superviseIdent
  rw [h.bay_state]
  cases hs : (v.bay b).state with
  | bringup => exact rematch h (hl.record_none_of_state (by simp [hs]) (by simp [hs])) (by simp [hs])
  | identified => exact compared (by simp [hs])
  | foreign => exact compared (by simp [hs])
  | collided => exact compared (by simp [hs])
  | fault => exact compared (by simp [hs])
  | disabled => exact .refl h hl
  | empty => exact .refl h hl

/-- The lowest bay of an ENROL's match docks the record; the next strikes a collision (R34). -/
theorem mem_foreignWith {x : TabletId} (hb : b ∈ s.foreignWith x) : (s.bay b).state = .foreign := by
  simp only [State.foreignWith, List.mem_filter, Bool.and_eq_true, beq_iff_eq] at hb
  exact hb.2.1.1

theorem matchEnrol (h : s.Shows v) (hl : v.Law) (i : RecordIx) (x : TabletId) (hi : (v.record i).currentBay = none)
    (he : (v.record i).enrolled = true) : Leads All All v (s.matchEnrol i x) := by
  have hbay : ∀ b ∈ s.foreignWith x, (v.bay b).record = none ∧ (v.bay b).hostDisabled = false := fun b hb => by
    have hs := mem_foreignWith hb
    rw [h.bay_state] at hs
    exact ⟨hl.record_none_of_state (by simp [hs]) (by simp [hs]), hl.enabled_of_state (by simp [hs])⟩
  unfold State.matchEnrol
  split
  · exact .refl h hl
  · next b hb =>
    obtain ⟨hr, hd⟩ := hbay b (by simp [hb])
    exact ⟨_, (h.dock hl b i hr).addSubject _ _, (Fine.docks hl hr hd hi he).strengthen fun _ _ => trivial⟩
  · next b c l hb =>
    obtain ⟨hr, hd⟩ := hbay b (by simp [hb])
    obtain ⟨hrc, hdc⟩ := hbay c (by simp [hb])
    have hn : (s.foreignWith x).Nodup := (List.nodup_finRange 36).filter _
    have hbc : c ≠ b := fun e => by rw [hb, e] at hn; simp at hn
    have hw : ∀ d, (v.docks b i).bay d = if b = d then
        Bay.custodial { (v.bay b).strip with state := .identified, record := some i } else v.bay d := fun _ => rfl
    have h1 := (h.dock hl b i hr).addSubject Source.dock b.val
    have f1 := Fine.docks hl hr hd hi he
    refine Leads.same (s := State.collide _ c b i x) ?_ fun w hw => hw.addSubject _ _
    obtain ⟨w, h2, f2⟩ := h1.collide f1.law c b i x hbc (by rw [hw, if_neg hbc.symm]; exact hrc)
      (by rw [hw, if_neg hbc.symm]; exact hdc) (by rw [hw, if_pos rfl]; rfl)
    exact ⟨w, h2, (f1.trans (f2.strengthen fun _ _ => trivial)).strengthen fun _ _ => trivial⟩

end State.Shows

end Sys2Proof.Machine
end

section
/-! SUPPORT. Every write that a command opens leads from a lawful custody to a lawful one, and the settling of O2 and, with the
earlier laws of single writes, O6. -/

namespace Sys2Proof.Machine

set_option Elab.async false

open View

variable {p q : BayNo → Prop} {v w : View} {s t : State} {b c : BayNo} {i : RecordIx}

/-! ### The laws of a state on its custody -/

theorem State.Inv.view_law (h : s.Inv) : s.view.Law := by
  obtain ⟨⟨⟨hn, hm⟩, hp, ⟨hr, hs⟩, hd⟩, -, -, hk⟩ := h
  refine ⟨hn, hm, hp, fun b i g => ?_, fun i g => hs i g, hd, hk⟩
  have hb := hr b
  change (s.release b).map Release.record = some i at g
  cases he : s.release b with
  | none => simp [he] at g
  | some e =>
    rw [he] at hb g
    cases g
    exact hb

theorem State.Inv.shows (h : s.Inv) : s.Shows s.view := ⟨rfl, h.view_law.agrees⟩

theorem State.Shows.custodyLaw (h : s.Shows v) (hl : v.Law) : s.CustodyLaw := by
  obtain ⟨rfl, -⟩ := h
  obtain ⟨hn, hm, hp, hr, hs, hd, -⟩ := hl
  refine ⟨⟨hn, hm⟩, hp, ⟨fun b => ?_, hs⟩, hd⟩
  have hb := hr b
  change ∀ i, (s.release b).map Release.record = some i → _ at hb
  cases he : s.release b with
  | none => trivial
  | some e => exact hb e.record (by rw [he]; rfl)

theorem State.Shows.partner_ne (h : s.Shows v) (hl : v.Law) (b : BayNo) : (s.bay b).partner ≠ some b := by
  rw [h.bay_partner]
  exact hl.partner b

theorem State.Shows.bayLaw (h : s.Shows v) (hb : ∀ b, (v.bay b).FieldLaw) : s.BayLaw := by
  obtain ⟨rfl, -⟩ := h
  exact hb

theorem State.Shows.tabletLaw (h : s.Shows v) (ht : v.TabletLaw) : s.TabletLaw := by
  obtain ⟨rfl, -⟩ := h
  exact ht

namespace State.Shows

/-! ### The host's requests on records (R14, R18, R21 to R23) -/

theorem enrolment_law (x : EnrolParams) (c : CustodyState) (home : Option BayNo) (target : Nat) (ready : Option Minute)
    (hc : enrolState? x = some c) : (Record.enrolment x c home target ready).PresenceLaw ∧
      (Record.enrolment x c home target ready).custody ≠ .releasing ∧
      (Record.enrolment x c home target ready).enrolled = true := by
  obtain ⟨-, rfl | rfl | rfl, -⟩ := enrolState?_eq_some.mp hc <;>
    simp [Record.enrolment, Record.PresenceLaw, Record.freeImage, Record.enrolled]

theorem enrol (h : s.Shows v) (hl : v.Law) (x : EnrolParams) (c : CustodyState) (home : Option BayNo) (target : Nat)
    (ready : Option Minute) (i : RecordIx) (hc : enrolState? x = some c) (hx : s.findTablet x.tabletId = none)
    (hi : s.lowestFree = some i) :
    Leads All All v ((s.setRecord i (Record.enrolment x c home target ready)).matchEnrol i x.tabletId) := by
  have hf : (v.record i).custody = .free := by
    have := List.find?_some hi
    rw [← h.custody]
    simpa [Record.enrolled] using this
  have hp := hl.presence i
  simp only [Record.PresenceLaw, hf] at hp
  obtain ⟨h1, h2, h3⟩ := enrolment_law x c home target ready hc
  have hset := h.setRecord i (Record.enrolment x c home target ready)
  have f1 : Fine All All v (v.modRecord i fun _ => Record.enrolment x c home target ready) := by
    refine .modRecord hl _ hp.1.symm h1 (by simp [h2, hf]) fun ht => ?_
    have hne : ∀ j, (v.record j).enrolled = true → (v.record j).tabletId ≠ x.tabletId := fun j hj => by
      rw [← h.record_eq] at hj ⊢
      exact State.findTablet_eq_none_iff.mp hx j hj
    intro j k hj hk e
    rw [modRecord_record] at hj hk e
    rw [modRecord_record] at e
    by_cases a : i = j <;> by_cases b : i = k
    · exact a.symm.trans b
    · rw [if_neg b] at hk e
      rw [if_pos a] at e
      exact absurd e.symm (hne k hk)
    · rw [if_neg a] at hj e
      rw [if_pos b] at e
      exact absurd e (hne j hj)
    · rw [if_neg a] at hj e
      rw [if_neg b] at hk e
      exact ht j k hj hk e
  obtain ⟨w, hw, f2⟩ := hset.matchEnrol f1.law i x.tabletId (by rw [modRecord_record, if_pos rfl]; rfl)
    (by rw [modRecord_record, if_pos rfl]; exact h3)
  exact ⟨w, hw, f1.trans f2⟩

/-- An AMEND writes no custody but a holder tag (R18). -/
theorem amendment_custodial {f : AmendField} {x : Option Half} {write : Record → Record} (h : s.amendment f x = some write) :
    (∀ r : Record, (write r).custodial = r.custodial) ∨
      f = .holder ∧ ∃ n, write = fun r => { r with holder := some n } := by
  unfold State.amendment at h
  split at h
  · obtain ⟨_, -, rfl⟩ := Option.map_eq_some_iff.mp h; exact .inl fun _ => rfl
  · simp at h
  · obtain ⟨_, -, rfl⟩ := Option.map_eq_some_iff.mp h; exact .inl fun _ => rfl
  · cases h; exact .inl fun _ => rfl
  · obtain ⟨_, -, rfl⟩ := Option.map_eq_some_iff.mp h; exact .inl fun _ => rfl
  · cases h; exact .inl fun _ => rfl
  · split at h
    · cases h; exact .inl fun _ => rfl
    · simp at h
  · simp at h
  · split at h
    · simp at h
    · cases h; exact .inr ⟨rfl, _, rfl⟩
  · simp at h

theorem amend (h : s.Shows v) (hl : v.Law) {f : AmendField} {x : Option Half} {write : Record → Record}
    (hw : s.amendment f x = some write) (i : RecordIx) (hf : f = .holder → (s.record i).custody.onLoan = true) :
    Leads All All v (s.writeField f i write) := by
  obtain hc | ⟨rfl, n, rfl⟩ := amendment_custodial hw
  · refine .refl ?_ hl
    unfold State.writeField
    split
    · exact h.putRecord_same i _ (hc _)
    · exact h.editRecord_same i _ (hc _)
  · have hl' := hf rfl
    rw [h.custody] at hl'
    refine ⟨_, (h.editRecord i fun r => { r with holder := some n } : (s.editRecord i _).Shows _), .modRecord hl _ rfl ?_ Iff.rfl fun ht => ht.modRecord _ fun he => ⟨he, rfl⟩⟩
    have hp := hl.presence i
    unfold Record.PresenceLaw at hp ⊢
    cases hk : (v.record i).custody <;> simp_all [CustodyState.onLoan]

theorem writeFlags (h : s.Shows v) (i : RecordIx) (x : Byte) : (s.writeFlags i x).Shows v :=
  (h.putRecord_same i ({ s.record i with flags := x } : Record).remark rfl).requestPassIf _

theorem fillRecord (h : s.Shows v) (x : FillWrite) (i : RecordIx) : (s.fillRecord x i).Shows v := by
  have h1 := (h.putRecord_same i (x.apply (s.record i)).remark rfl).requestPassIf (x.target.isSome || x.readyBy.isSome)
  unfold State.fillRecord
  simp only
  split
  · exact h1.writeFlags i _
  · exact h1

theorem holdByHost (h : s.Shows v) (hl : v.Law) (i : RecordIx) (hf : (s.record i).custody ≠ .free)
    (hr : (s.record i).custody ≠ .releasing) : Leads All All v (s.holdByHost i) := by
  rw [h.custody] at hf hr
  obtain ⟨h1, h2, h3⟩ := held_law .host hf
  exact ⟨_, ((h.endSessionOf i .aborted).editRecord i _).requestPassIf _,
    .modRecord hl _ rfl h1 (by simp [h2, hr]) fun ht => ht.modRecord _ fun _ => ⟨h3, rfl⟩⟩

theorem unholdRecord (h : s.Shows v) (hl : v.Law) (i : RecordIx) (hi : (s.record i).custody = .held) :
    Leads All All v (s.unholdRecord i) := by
  rw [h.custody] at hi
  have h1 := h.editRecord i Record.unheld
  have hp := hl.presence i
  simp only [Record.PresenceLaw, hi] at hp
  have f1 : Fine All All v (v.modRecord i Record.unheld) := by
    refine .modRecord hl _ rfl ?_ ?_ fun ht => ht.modRecord _ fun _ => ⟨by simp [Record.enrolled, hi], rfl⟩
    · unfold Record.unheld Record.docked
      cases hb : (v.record i).currentBay <;> simp [Record.PresenceLaw, hp]
    · unfold Record.unheld
      cases (v.record i).docked <;> simp [hi]
  unfold State.unholdRecord
  split
  · exact ⟨_, h1, f1⟩
  · exact ⟨_, (h1.receiveInCart _).requestPass, f1⟩

theorem free (h : s.Shows v) (hl : v.Law) (i : RecordIx) (hi : (s.record i).retiresAtOnce) :
    Leads All All v (s.freeRecord i) := by
  have hp := hl.presence i
  have hi : (v.record i).retiresAtOnce := by rw [← h.record_eq]; exact hi
  have hc : (v.record i).currentBay = none ∧ (v.record i).custody ≠ .releasing := by
    unfold Record.PresenceLaw at hp
    obtain e | e | e | e | ⟨e, hd⟩ := hi <;> simp_all [Record.docked]
  exact ⟨_, h.freeRecord i, .modRecord hl _ hc.1.symm ⟨rfl, rfl, rfl, rfl⟩ (by simp [Record.freeImage, hc.2])
    fun ht => ht.modRecord _ fun g => by simp [Record.enrolled, Record.freeImage] at g⟩

theorem retireDocked (h : s.Shows v) (hl : v.Law) (i : RecordIx) (hi : (s.record i).retiresDocked) :
    Leads All All v (s.retireDocked i) := by
  have hp := hl.presence i
  have hi : (v.record i).retiresDocked := by rw [← h.record_eq]; exact hi
  have hc : (v.record i).currentBay.isSome = true ∧ (v.record i).holder = none ∧ (v.record i).adriftReason = none ∧
      (v.record i).custody ≠ .releasing ∧ (v.record i).enrolled = true := by
    unfold Record.PresenceLaw at hp
    obtain e | e | ⟨e, hd⟩ := hi <;> simp_all [Record.docked, Record.enrolled]
  obtain ⟨h1, h2, h3, h4, h5⟩ := hc
  exact ⟨_, ((h.endSessionOf i .aborted).editRecord i _).requestPassIf _,
    .modRecord hl _ rfl ⟨h1, h2, rfl, h3⟩ (by simp [h4]) fun ht => ht.modRecord _ fun _ => ⟨h5, rfl⟩⟩

/-! ### Loans, releases and drives (R144, R147 to R150) -/

theorem overdueRecord (h : s.Shows v) (hl : v.Law) (i : RecordIx) : Leads All All v (s.overdueRecord i) := by
  unfold State.overdueRecord
  split
  · next hi =>
    rw [h.custody] at hi
    have hp := hl.presence i
    simp only [Record.PresenceLaw, hi] at hp
    exact ⟨_, (h.editRecord i _).addSubject _ _, .modRecord hl _ rfl hp (by simp [hi])
      fun ht => ht.modRecord _ fun _ => ⟨by simp [Record.enrolled, hi], rfl⟩⟩
  · exact .refl h hl

theorem overdueRecords (l : List RecordIx) : ∀ {s : State} {v : View}, s.Shows v → v.Law →
    Leads All All v (l.foldl State.overdueRecord s) := by
  induction l with
  | nil => exact fun h hl => .refl h hl
  | cons i l ih => exact fun h hl => (h.overdueRecord hl i).before fun _ hw hl => ih hw hl

theorem fire (h : s.Shows v) (hl : v.Law) (l : List (PeriodIx × PeriodKind)) : Leads All All v (s.fire l) := by
  have h1 : (l.foldl (fun t x => t.addSubject Source.boundary x.1.val) s).Shows v :=
    foldl (fun t x ht => ht.addSubject _ _) l s h
  unfold State.fire
  simp only
  refine Leads.same (s := ite _ _ _) ?_ fun w hw => hw.requestPassIf _
  split
  · exact overdueRecords allRecords (h1.of_same rfl rfl rfl) hl
  · exact .refl (h1.of_same rfl rfl rfl) hl

theorem beginRelease (h : s.Shows v) (hl : v.Law) (i : RecordIx) (b : BayNo) (x : Half)
    (hi : (s.record i).custody = .inCart) (hb : (s.record i).currentBay = some b) :
    Leads All All v (s.beginRelease i b x) := by
  rw [h.custody] at hi
  rw [h.currentBay] at hb
  have hn := (hl.naming i b).mp hb
  have hp := hl.presence i
  simp only [Record.PresenceLaw, hi] at hp
  obtain ⟨h1, -, h3, h4⟩ := hp
  have hw := (h.endSessionOf i .preempted).editRecord i fun r => { r with custody := .releasing, holder := some x.toNat }
  refine ⟨v.begins b i fun r => { r with custody := .releasing, holder := some x.toNat }, ?_,
    .begins hl _ hn rfl ⟨h1, rfl, h3, h4⟩ rfl fun ht => ht.modRecord _ fun _ => ⟨by simp [Record.enrolled, hi], rfl⟩⟩
  exact (hw.setRelease b (some ⟨i, .unlocking⟩) (hw.agrees.setRelease b fun j hj => by cases hj; exact hn)).placeRequest b _

theorem lapseRelease (h : s.Shows v) (hl : v.Law) (b : BayNo) (i : RecordIx)
    (hi : (v.record i).custody = .releasing) (hb : (v.bay b).record = some i) :
    Leads All All v (s.lapseRelease b i) := by
  have hp := hl.presence i
  simp only [Record.PresenceLaw, hi] at hp
  obtain ⟨h1, -, h3, h4⟩ := hp
  have hw := (h.editRecord i fun r => { r with custody := .inCart, holder := none }).addSubject Source.releaseLapsed i.val
  refine ⟨v.ends b i fun r => { r with custody := .inCart, holder := none }, ?_,
    .ends hl _ hb rfl ⟨h1, rfl, h3, h4⟩ (by simp) fun ht => ht.modRecord _ fun _ => ⟨by simp [Record.enrolled, hi], rfl⟩⟩
  exact ((hw.setRelease b none (hw.agrees.setRelease b nofun)).placeCustodyOrder b _).lockUnlessService b

theorem driveFailure (h : s.Shows v) (hl : v.Law) (k : SlotNo) (x : LatchRequest) :
    Leads All All v (s.driveFailure k x) := by
  have h1 := ((h.endSlot k).setLatch x.bay .unknown).addSubject Source.latchFault x.bay.val
  unfold State.driveFailure
  refine Leads.same (s := State.latchFailure _ _ _) ?_ fun w hw => hw.slotService
  generalize State.addSubject _ _ _ = u at h1
  cases x.direction with
  | lock =>
    simp only [State.latchFailure]
    refine .refl ?_ hl
    split
    · split
      · exact h1.editRecord_same _ _
      · exact h1
    · exact h1
  | unlock =>
    simp only [State.latchFailure]
    split
    · next i hi =>
      unfold State.unlockingRecord at hi
      split at hi
      · next j e hb hr =>
        split at hi
        · next hc =>
          cases hi
          rw [h1.custody] at hc
          rw [h1.bay_record] at hb
          exact h1.lapseRelease hl _ _ hc.1 hb
        · simp at hi
      · simp at hi
    · exact .refl h1 hl

/-! ### Bays (R28, R40, R41) -/

theorem disable (h : s.Shows v) (hl : v.Law) (b : BayNo) :
    Leads All All v ((s.emptyBay b .disabled).modBay b fun x => { x with hostDisabled := true }) := by
  obtain ⟨w, hw, f, hs, hfl, hp⟩ := h.emptyBay hl b .disabled (.inl rfl) (.inl rfl)
  refine ⟨_, hw.modBay b _ (hw.agrees.modBay b _ (.inr rfl)), f.trans ?_⟩
  refine .modBay f.law _ rfl (f.law.named b) (fun _ => hs) (by simp [hp]) (fun _ _ _ => trivial) (fun _ _ => hfl) fun _ _ g => by
    cases hs.symm.trans g

theorem enable (h : s.Shows v) (hl : v.Law) (b : BayNo) (hb : (s.bay b).hostDisabled = true) :
    Leads All All v (s.enableBay b) := by
  have hb : (v.bay b).hostDisabled = true := by rw [← h.bay_eq]; exact hb
  have hst := hl.disabled b hb
  have hr := hl.record_none_of_state (b := b) (by simp [hst]) (by simp [hst])
  have h1 := h.modBay b (fun x => { x with hostDisabled := false, state := .empty }) (h.agrees.modBay b _ (.inr rfl))
  have f1 : Fine All All v (v.modBay b fun x => { x with hostDisabled := false, state := .empty }) := by
    refine .modBay hl _ rfl (fun g => absurd g (by simp [hr])) (fun g => by simp at g) (hl.partner b)
      (fun _ _ _ => trivial) fun _ g => ?_
    have := g b trivial
    simp_all [Bay.FieldLaw]
  unfold State.enableBay
  simp only
  split
  · obtain ⟨w, hw, f2⟩ := h1.enterBringup f1.law b (by rw [modBay_bay, if_pos rfl]; exact hr) (by rw [modBay_bay, if_pos rfl]; rfl)
    exact ⟨w, hw, f1.trans (f2.strengthen fun _ _ => trivial)⟩
  · exact ⟨_, h1, f1⟩

theorem arrival (h : s.Shows v) (hl : v.Law) (b : BayNo) (hb : (s.bay b).state = .empty) :
    Leads All All v ((s.setContact b true).enterBringup b) := by
  rw [h.bay_state] at hb
  have h1 : (s.setContact b true).Shows v := h.modBay_same b _
  obtain ⟨w, hw, f⟩ := h1.enterBringup hl b (hl.record_none_of_state (by simp [hb]) (by simp [hb]))
    (hl.enabled_of_state (by simp [hb]))
  exact ⟨w, hw, f.strengthen fun _ _ => trivial⟩

theorem loss (h : s.Shows v) (hl : v.Law) (b : BayNo) (hb : (s.bay b).state ≠ .disabled) :
    Leads All All v ((s.setContact b false).emptyBay b .empty) := by
  rw [h.bay_state] at hb
  have h1 : (s.setContact b false).Shows v := h.modBay_same b _
  obtain ⟨w, hw, f, -⟩ := h1.emptyBay hl b .empty (.inr rfl) (.inr (hl.enabled_of_state hb))
  exact ⟨w, hw, f⟩

/-! ### Links and faults (R37 to R39, R65, R66) -/

theorem resetLink (h : s.Shows v) (hl : v.Law) (b : BayNo) : Leads All All v (s.resetLink b) := by
  have h1 : (s.modLink b (Link.beginBringup true)).Shows v := h.of_same
  unfold State.resetLink
  simp only
  split
  · next hs =>
    rw [h.bay_state] at hs
    split
    · refine ⟨_, h1.modBay b _ (h1.agrees.modBay b _ (.inr rfl)), ?_⟩
      refine .modBay hl _ rfl (hl.named b) (hl.disabled b) (hl.partner b) (fun _ _ _ => trivial) (fun _ g => ?_)
        fun _ g => g b trivial
      have := g b trivial
      simp_all [Bay.FieldLaw]
    · next hr =>
      rw [h.bay_record] at hr
      obtain ⟨w, hw, f, hb, -⟩ := h1.releasePartnerIf hl b (s.bay b).partnered
      obtain ⟨u, hu, g⟩ := hw.enterBringup (f All).law b (by rw [hb]; exact hr)
        (by rw [hb]; exact hl.enabled_of_state (by simp [hs]))
      exact ⟨u, hu.requestPass, (f All).trans (g.strengthen fun _ _ => trivial)⟩
  · exact .refl h1 hl

/-- A bay goes to FAULT, and loses its identity if it was FOREIGN or COLLIDED (R37, R38). -/
theorem fault (h : s.Shows v) (hl : v.Law) (b : BayNo) (x : FaultReason) (g : Bool → Bool) (hs : (v.bay b).state ≠ .disabled) :
    Leads All All v ((s.loseIdentity b).modBay b fun y =>
      { y with state := .fault, faultReason := some x, recovery := g y.recovery }) := by
  have hd := hl.enabled_of_state hs
  have last : ∀ {t : State} {w : View}, t.Shows w → Fine All All v w → w.bay b = v.bay b →
      ((v.bay b).state ≠ .foreign ∧ (v.bay b).state ≠ .collided) →
      Leads All All v (t.modBay b fun y => { y with state := .fault, faultReason := some x, recovery := g y.recovery }) :=
    fun ht f e hs' => by
      refine ⟨_, ht.modBay b _ (ht.agrees.modBay b _ (.inr rfl)), f.trans ?_⟩
      refine .modBay f.law _ rfl (fun _ => .inr rfl) (fun g => absurd g (by simp [e, hd])) (by rw [e]; exact hl.partner b)
        (fun _ _ _ => trivial) fun _ g => ?_
      have := g b trivial
      rw [e] at this ⊢
      cases hk : (v.bay b).state <;> simp_all [Bay.FieldLaw]
  have lost : ∀ {t : State} {w : View}, t.Shows w → Fine All All v w → w.bay b = v.bay b → (v.bay b).record = none →
      Leads All All v ((t.modBay b fun y => { y with reportedId := none, foreignCause := none, partner := none }).modBay b
        fun y => { y with state := .fault, faultReason := some x, recovery := g y.recovery }) :=
    fun {t w} ht f e hr => by
      have h1 := ht.modBay b (fun y => { y with reportedId := none, foreignCause := none, partner := none })
        (ht.agrees.modBay b _ (.inr rfl))
      have f1 : Fine All (But b) w (w.modBay b fun y => { y with reportedId := none, foreignCause := none, partner := none }) :=
        .modBay f.law _ rfl (fun g => absurd g (by simp [e, hr])) (fun g => absurd g (by simp [e, hd])) (by simp)
          (fun _ _ _ => trivial) (fun g => absurd rfl g) fun g => absurd rfl g
      refine ⟨_, h1.modBay b _ (h1.agrees.modBay b _ (.inr rfl)), (f.trans f1).trans ?_⟩
      refine .modBay f1.law _ rfl (fun g => absurd g (by simp [Bay.custodial, e, hr]))
        (fun g => absurd g (by simp [Bay.custodial, e, hd])) (by simp [Bay.custodial]) (fun _ _ h => h) fun _ _ => ?_
      simp [Bay.FieldLaw, Bay.custodial, e, hr]
  unfold State.loseIdentity
  rw [h.bay_state]
  cases hk : (v.bay b).state with
  | foreign => exact lost h (.refl hl) rfl (hl.record_none_of_state (by simp [hk]) (by simp [hk]))
  | collided =>
    obtain ⟨w, hw, f, e, -⟩ := h.releasePartner hl b
    simp only [if_true]
    exact lost hw (f All) e (hl.record_none_of_state (by simp [hk]) (by simp [hk]))
  | disabled => exact absurd hk hs
  | empty => exact last h (.refl hl) rfl (by simp [hk])
  | bringup => exact last h (.refl hl) rfl (by simp [hk])
  | identified => exact last h (.refl hl) rfl (by simp [hk])
  | fault => exact last h (.refl hl) rfl (by simp [hk])

theorem cut (h : s.Shows v) (hl : v.Law) (b : BayNo) (hs : (v.bay b).state ≠ .disabled) : Leads All All v (s.cut b) :=
  (h.fault hl b .output id hs).same fun _ hw => ((hw.dropOutput b _).addSubject _ _).requestPass

theorem holdByLink (h : s.Shows v) (hl : v.Law) (b : BayNo) (i : RecordIx) (hb : (v.bay b).record = some i) :
    ∃ w, (s.holdByLink b i).Shows w ∧ Fine All All v w ∧ w.bay b = v.bay b := by
  have hfree : (v.record i).custody ≠ .free := fun g => by
    have hp := hl.presence i
    simp only [Record.PresenceLaw, g, (hl.naming i b).mpr hb] at hp
    simp at hp
  obtain ⟨h1, h2, h3⟩ := held_law .link hfree
  have hw := (h.endSessionOf i .aborted).editRecord i (Record.held .link)
  have ht : v.TabletLaw → (v.modRecord i (Record.held .link)).TabletLaw := fun ht => ht.modRecord _ fun _ => ⟨h3, rfl⟩
  unfold State.holdByLink
  simp only [h.custody]
  split
  · next hr => exact ⟨_, (hw.endReleaseByHold b).relockAfterHold b, .ends hl _ hb rfl h1 h2 ht, rfl⟩
  · next hr => exact ⟨_, hw, .modRecord hl _ rfl h1 (by simp [h2, hr]) ht, rfl⟩

theorem faultLink (h : s.Shows v) (hl : v.Law) (b : BayNo) (hs : (v.bay b).state ≠ .disabled) :
    Leads All All v (s.faultLink b) := by
  have last : ∀ {t : State} {w : View}, t.Shows w → Fine All All v w → w.bay b = v.bay b →
      Leads All All v (((((t.loseIdentity b).modBay b fun y =>
        { y with state := .fault, faultReason := some .link, recovery := false }).dropOutput b .cut).addSubject
          Source.linkFault b.val).requestPass) := fun ht f e => by
    obtain ⟨u, hu, g⟩ := ht.fault f.law b .link (fun _ => false) (by rw [e]; exact hs)
    exact ⟨u, ((hu.dropOutput b _).addSubject _ _).requestPass, f.trans g⟩
  unfold State.faultLink
  simp only
  cases hb : (s.bay b).record with
  | none => exact last h (.refl hl) rfl
  | some i =>
    rw [h.bay_record] at hb
    obtain ⟨w, hw, f, e⟩ := h.holdByLink hl b i hb
    exact last hw f e

/-! ### Exchanges (R47, R53, R54, R59, R63) -/

theorem modLink (h : s.Shows v) (b : BayNo) (f : Link → Link) : (s.modLink b f).Shows v := h.of_same

theorem closeService (h : s.Shows v) : s.closeService.Shows v :=
  foldl (fun _ _ ht => ht.placeRequest _ _) _ _ (h.of_same rfl rfl rfl)

theorem serviceRise (h : s.Shows v) : s.serviceRise.Shows v := by
  have h0 : s.openService.Shows v := h.of_same
  have h1 := h0.addSubject Source.service 0
  unfold State.serviceRise
  simp only
  split
  · exact h1
  · exact foldl (fun _ _ ht => ht.placeRequest _ _) _ _ (h1.of_same rfl rfl rfl)

theorem writeBudget (h : s.Shows v) (t : BudgetSettings) : (s.writeBudget t).Shows v := by
  have h1 : ({ s with budget := t } : State).Shows v := h.of_same
  exact h1.recomputeBudget.requestPassIf _

theorem setSwitches (h : s.Shows v) (b : BayNo) (x y : Bool) : (s.setSwitches b x y).Shows v := h.modBay_same b _

theorem linkFailed (h : s.Shows v) (hl : v.Law) (b : BayNo) (hs : (v.bay b).state ≠ .disabled) :
    Leads All All v (s.linkFailed b) := by
  unfold State.linkFailed
  simp only
  refine State.Shows.faultLink ?_ hl b hs
  split
  · exact (h.modLink b _).verificationUnanswered b
  · exact h.modLink b _

theorem helloFailed (h : s.Shows v) (hl : v.Law) (b : BayNo) (hs : (v.bay b).state ≠ .disabled) :
    Leads All All v (s.helloFailed b) := by
  have h1 := h.modLink b fun l => { l with helloAttempts := l.helloAttempts + 1, exchange := none }
  unfold State.helloFailed
  simp only
  split
  · exact .refl (h1.modLink b _) hl
  · split
    · have h2 := h1.modLink b fun l => { l with failedBringups := l.failedBringups + 1, exchange := none }
      unfold State.bringupFailed
      simp only
      split
      · exact h2.linkFailed hl b hs
      · exact .refl (h2.modLink b _) hl
    · exact .refl (h1.modLink b _) hl

theorem exchangeFails (h : s.Shows v) (hl : v.Law) (b : BayNo) (hs : (v.bay b).state ≠ .disabled) :
    Leads All All v (s.exchangeFails b) := by
  unfold State.exchangeFails
  split
  · exact .refl h hl
  · exact h.helloFailed hl b hs
  iterate 4 exact .refl (h.modLink b _) hl

theorem identTaken (h : s.Shows v) (hl : v.Law) (b : BayNo) (id : Ident) : Leads All All v (s.identTaken b id) :=
  ((h.modLink b _).superviseIdent hl b id).same fun _ hw => hw.modLink b _

theorem telemetryTaken (h : s.Shows v) (b : BayNo) (x : Telemetry) : (s.telemetryTaken b x).Shows v := by
  have h1 := h.modLink b fun l => l.exchangeDone.countTelemetry
  have h2 : (State.telemetryWritten (s.modLink b fun l => l.exchangeDone.countTelemetry) b x).Shows v := by
    unfold State.telemetryWritten
    split
    · next i _ =>
      unfold State.writeTelemetry
      simp only
      refine State.Shows.requestPassIf ?_ _
      have h3 := h1.editRecord_same i (fun r => { r with lastCharge := some x.charge, lastTemp := some x.temperature, profileHeld := some x.profileHeld })
      exact h3.of_same
    · exact h1
  unfold State.telemetryTaken State.answerVerify
  split
  · exact (h2.modLink b _).verificationAnswered b _
  · exact h2

theorem endCustodyOrder (h : s.Shows v) (b : BayNo) (o : OrderOutcome) : (s.endCustodyOrder b o).Shows v := by
  have h1 := h.modLink b fun l => { l.exchangeDone with custody := l.custody.ended }
  unfold State.endCustodyOrder
  cases (s.link b).custody.inFlight with
  | none => exact h1
  | some x =>
    cases x with
    | lock => exact h1
    | release n => exact h1.releaseReported b o

theorem endLaneOrder (h : s.Shows v) (b : BayNo) (d : Bool) : (s.endLaneOrder b d).Shows v := by
  have h1 := h.modLink b fun l => { l.exchangeDone with lane := l.lane.ended }
  unfold State.endLaneOrder
  cases (s.link b).lane.inFlight with
  | none => exact h1
  | some x =>
    cases x with
    | quiet => exact h1
    | wake l =>
      cases d
      · exact h1.wakeRefused b l
      · exact h1.wakeDelivered b l

end State.Shows

/-! ### Every command -/

open State.Shows

/-- An exchange runs on the link of a bay that is neither DISABLED nor EMPTY (R50). -/
theorem State.Inv.state_of_exchange (h : s.Inv) {b : BayNo} (hb : (s.link b).exchange.isSome = true) :
    (s.bay b).state ≠ .disabled ∧ (s.bay b).state ≠ .empty := by
  obtain ⟨-, -, hk, -⟩ := h
  constructor <;> intro g
  · simp [(hk b (.inl g)).2.2] at hb
  · simp [(hk b (.inr g)).2.2] at hb

/-- A bay with a setpoint in motion or its switch CLOSED has power (R95). -/
theorem State.Inv.powered (h : s.Inv) {b : BayNo} (hb : (s.output b).inMotion = true ∨ (s.output b).closed = true) :
    ¬(s.bay b).state.switchedOff := by
  obtain ⟨-, ⟨ho, -⟩, -⟩ := h
  intro g
  obtain ⟨h1, -, -, h2, -⟩ := ho b g
  simp [h1, h2] at hb

/-- A CHECKOUT that passes its checks finds its record IN_CART (R143). -/
theorem State.inCart_of_checkoutRefusal {p o : Bool} (h : s.checkoutRefusal i p o = none) :
    (s.record i).custody = .inCart := by
  by_contra g
  simp [State.checkoutRefusal, g] at h

theorem State.Opens.leads {u : State} (hi : s.Inv) (h : s.Opens u) : Leads All All s.view u := by
  have hs := hi.shows
  have hl := hi.view_law
  cases h with
  | enrol p c home target ready i hc hx hf => exact hs.enrol hl p c home target ready i hc hx hf
  | amend f x w i hw hi hf => exact (hs.amend hl hw i hf).same fun _ h => h.requestPassIf _
  | flags i x => exact .refl (hs.writeFlags i x) hl
  | fill w i n => exact .refl (State.Shows.foldl (fun t x ht => ht.fillRecord w x) _ s hs) hl
  | hold i hf hr => exact hs.holdByHost hl i hf hr
  | unhold i hi => exact hs.unholdRecord hl i hi
  | free i hi => exact hs.free hl i hi
  | retire i hi => exact hs.retireDocked hl i hi
  | disable b hb => exact hs.disable hl b
  | enable b hb => exact hs.enable hl b hb
  | arrival b hb => exact hs.arrival hl b hb
  | loss b hb => exact hs.loss hl b hb
  | budget t => exact .refl (hs.writeBudget t) hl
  | supply x => exact .refl (State.Shows.recomputeBudget (hs.of_same rfl rfl rfl)) hl
  | time c => exact .refl (State.Shows.requestPass (hs.of_same rfl rfl rfl)) hl
  | fire c l => exact (hs.of_same rfl rfl rfl : ({ s with clock := c } : State).Shows s.view).fire hl l
  | checkout i b x p o hr hb =>
    exact hs.beginRelease hl i b x (State.inCart_of_checkoutRefusal hr) hb
  | cancel i b hi hb => exact hs.lapseRelease hl b i (hs.custody i ▸ hi) ((hl.naming i b).mp (hs.currentBay i ▸ hb))
  | lapse i b e o hb =>
    obtain ⟨h1, h2⟩ := hl.release b i (by change (s.release b).map Release.record = _; rw [hb]; rfl)
    exact hs.lapseRelease hl b i h2 h1
  | latch b d => exact .refl (hs.placeRequest b d) hl
  | closeService => exact .refl (hs.closeService) hl
  | service x => exact .refl ((hs.of_same rfl rfl rfl : ({ s with serviceLevel := x } : State).Shows s.view).serviceRise) hl
  | driven b x y k q hk => exact .refl ((hs.setSwitches b x y).driveSuccess k q) hl
  | switched b x y hk => exact .refl (((hs.setSwitches b x y).setLatch b _).slotService) hl
  | driveTimeout k q hk => exact hs.driveFailure hl k q
  | linkReset b hb => exact hs.resetLink hl b
  | fails b hb => exact hs.exchangeFails hl b (hs.bay_state b ▸ (hi.state_of_exchange hb).1)
  | ident b p hb => exact hs.identTaken hl b _
  | telemetry b p hb => exact .refl (hs.telemetryTaken b _) hl
  | custodyOrder b o hb => exact .refl (hs.endCustodyOrder b o) hl
  | laneOrder b d hb => exact .refl (hs.endLaneOrder b d) hl
  | laneSettings t => exact .refl (hs.of_same rfl rfl rfl) hl
  | laneDone l x g hx hp => exact .refl (hs.closeSession l x g) hl
  | sessionEnds l x r hx => exact .refl (hs.endSession l r) hl
  | report b x => exact .refl (hs.of_same rfl rfl rfl) hl
  | cut b hb =>
    exact hs.cut hl b fun g => hi.powered hb (.inl ((hs.bay_state b).trans g))

/-- What every command leaves of the custody laws: the laws, the fields of the bays, distinct IDs, and that an IDENTIFIED bay
names a record. -/
theorem custody_of_exec {c : Instr} {t : State} (h : s.Inv) (he : exec c s = .next t) :
    t.Shows t.view ∧ t.view.Law ∧ (s.BayLaw → t.BayLaw) ∧ (s.TabletLaw → t.TabletLaw) ∧
      ((∀ b, IdLaw (s.bay b)) → ∀ b, IdLaw (t.bay b)) := by
  have done : ∀ {u : State}, Leads All All s.view u → u.Shows u.view ∧ u.view.Law ∧ (s.BayLaw → u.BayLaw) ∧
      (s.TabletLaw → u.TabletLaw) ∧ ((∀ b, IdLaw (s.bay b)) → ∀ b, IdLaw (u.bay b)) := by
    rintro u ⟨w, hw, f⟩
    obtain ⟨rfl, ha⟩ := hw
    exact ⟨⟨rfl, ha⟩, f.law, fun hb => (⟨rfl, ha⟩ : u.Shows u.view).bayLaw fun b => f.bays (fun b _ => hb b) b trivial,
      fun ht => f.tablets ht, fun hb b => f.ids (fun b _ => hb b) b trivial⟩
  obtain hm | ha | ⟨u, ho, hm⟩ := (exec_steps he).minor
  · exact done ((Leads.refl h.shows h.view_law).same fun w hw => hw.minor hm)
  · exact ⟨ha.inv.shows, ha.inv.view_law, fun _ => ha.bayLaw, fun _ => ha.tabletLaw,
      fun _ b => (ha.bayLaw b).2.1⟩
  · exact done ((ho.leads h).same fun w hw => hw.closeChange.minor hm)

/-- Settles O2: a command's writes lead from a lawful custody to a lawful one, and the close of a change leaves it. -/
theorem custodyLawsAreKept : Obligations.CustodyLawsAreKept := by
  refine ⟨fun c s t h he => ?_, fun c s t h hb he => ?_⟩
  · obtain ⟨hs, hl, -⟩ := custody_of_exec h he
    exact hs.custodyLaw hl
  · obtain ⟨-, -, hf, -⟩ := custody_of_exec h he
    exact hf hb

/-- Settles O6: MISPLACED and the ranges by the writes of single records, the IDs by the custodies a command leads to. -/
theorem recordMarksAndRangesAreKept : Obligations.RecordMarksAndRangesAreKept := by
  refine ⟨fun c s t hm hr he => ⟨(State.Keeps.of_exec he).misplaced hm, (State.Keeps.of_exec he).range hr⟩,
    fun c s t h ht he => ?_⟩
  obtain ⟨-, -, -, hf, -⟩ := custody_of_exec h he
  exact hf ht

end Sys2Proof.Machine
end

section
/-! SUPPORT. What the writes of a command carry over: the laws of outputs and links, of lanes, latches and reservations, the
budget law while a pass is awaited, and the commitments and the queue (`State.Carries`), for the writes of single blocks. -/

namespace Sys2Proof.Machine

set_option Elab.async false

/-! ### The laws of one bay's output and link (R50, R95) -/

/-- A link that is DOWN at step 0 with no exchange (R50). -/
def Link.Downed (l : Link) : Prop := l.state = .down ∧ l.step = 0 ∧ l.exchange = none

/-- An output with nothing issued, settled, in motion or targeted, its switch OPEN (R95). -/
def Output.Dropped (o : Output) : Prop :=
  o.closed = false ∧ o.issued = 0 ∧ o.settled = 0 ∧ o.inMotion = false ∧ o.target = none

/-- A bay without a link (R50). -/
def BayState.off (x : BayState) : Prop := x = .disabled ∨ x = .empty

/-- The laws of one bay's output and link by its state (R50, R95). -/
structure Powers (x : BayState) (o : Output) (l : Link) : Prop where
  rest : x.switchedOff → o.Dropped
  closed : 0 < o.commitment → o.closed = true
  down : x.off → l.Downed

/-- Every bay's output and link are as the bay's state says. -/
def State.Powered (s : State) : Prop := ∀ b, Powers (s.bay b).state (s.output b) (s.link b)

theorem Output.Dropped.commitment {o : Output} (h : o.Dropped) : o.commitment = 0 := by
  obtain ⟨-, hi, hs, -⟩ := h
  simp [Output.commitment, hi, hs]

theorem Output.dropped_drop (o : Output) (c : ChargeState) : (o.drop c).Dropped := ⟨rfl, rfl, rfl, rfl, rfl⟩

theorem Powers.dropped {x : BayState} {o : Output} {l : Link} (h : o.Dropped) (hd : x.off → l.Downed) : Powers x o l :=
  ⟨fun _ => h, fun g => absurd g (by simp [h.commitment]), hd⟩

theorem State.Inv.powered_all {s : State} (h : s.Inv) : s.Powered := by
  obtain ⟨-, ⟨h1, h2, -⟩, h3, -⟩ := h
  exact fun b => ⟨h1 b, h2 b, h3 b⟩

theorem State.Powered.outputLaw {s : State} (h : s.Powered) (hd : s.DisabledLaw) : s.OutputLaw :=
  ⟨fun b => (h b).rest, fun b => (h b).closed, hd⟩

theorem State.Powered.linkLaw {s : State} (h : s.Powered) (hp : ∀ b, (s.bay b).partner ≠ some b) : s.LinkLaw :=
  ⟨fun b => (h b).down, hp⟩

/-! ### The operations of a link on a link that is DOWN -/

namespace Link.Downed

variable {l : Link} {set : LinkSettings}

theorem pump (h : l.Downed) : (l.pump set).Downed := by
  obtain ⟨hs, -⟩ := id h
  unfold Link.pump
  rw [if_neg (by simp [hs])]
  exact h

theorem place (h : l.Downed) (o : CustodyOrder) : ({ l with custody := l.custody.place o } : Link).Downed := h

end Link.Downed

/-! ### Reservations (R89, R91) -/

/-- What an owner holds has started: its drive, or its session past ADMITTING (R136, R114). -/
def State.started (s : State) : Owner → Bool
  | .latch k => (s.slot k).isDriving
  | .lane l => (s.lane l).session.any fun x => x.phase != .admitting

/-- What an owner holds awaits its reservation (R114, R136). -/
def State.awaits (s : State) : Owner → Prop
  | .latch k => ∃ q, s.slot k = .reserving q
  | .lane l => ∃ x, (s.lane l).session = some x ∧ x.phase = .admitting

/-- The reservation law with some owners yet to be told that their reservation is ACTIVE (R91). -/
structure State.Reserves (s : State) (untold : Owner → Prop) : Prop where
  nodup : (s.reservations.map Reservation.owner).Nodup
  slots : ∀ k : SlotNo, s.slot k ≠ .free ↔ ∃ e ∈ s.reservations, e.owner = .latch k
  lanes : ∀ l : LaneNo, (s.lane l).session.isSome = true ↔ ∃ e ∈ s.reservations, e.owner = .lane l
  active : ∀ e ∈ s.reservations, e.state = .active ↔ s.started e.owner = true ∨ untold e.owner
  waits : ∀ o, untold o → s.awaits o

/-- No owner. -/
abbrev Told : Owner → Prop := fun _ => False

theorem State.reservationLaw_iff {s : State} : s.ReservationLaw ↔ s.Reserves Told := by
  constructor
  · rintro ⟨h1, h2, h3, h4⟩
    refine ⟨h1, h2, h3, fun e he => ?_, fun _ h => h.elim⟩
    have := h4 e he
    cases ho : e.owner <;> simp_all [State.started]
  · rintro ⟨h1, h2, h3, h4, -⟩
    refine ⟨h1, h2, h3, fun e he => ?_⟩
    have := h4 e he
    cases ho : e.owner <;> simp_all [State.started]

/-! ### The budget while a pass is awaited (R72, R75, R105) -/

/-- The budget law of the phase (R72, R105). -/
def State.PhaseLaw (s : State) : Prop :=
  (s.phase = .idle → s.Fits fun b => (s.output b).commitment) ∧
  (s.phase = .decreasing → (∀ b, (s.output b).issued ≤ s.targetOf b) ∧ s.Fits s.targetOf) ∧
  (s.phase = .increasing → (∀ b, (s.output b).commitment ≤ s.targetOf b) ∧ s.Fits s.targetOf ∧
    s.Fits fun b => (s.output b).commitment)

/-- A bay with nothing in motion has confirmed what it was issued (R96). -/
def State.Confirmed (s : State) : Prop := ∀ b, (s.output b).inMotion = true ∨ (s.output b).settled = (s.output b).issued

/-- A pass is to be taken at once (R75). -/
def State.PassDue (s : State) : Prop := s.phase = .idle ∧ s.reallocRequest = true

/-- The budget law, but for a pass that is to be taken at once. -/
def State.BudgetWaits (s : State) : Prop := s.Confirmed ∧ (s.PassDue ∨ s.PhaseLaw)

theorem State.budgetLaw_iff {s : State} : s.BudgetLaw ↔ s.Confirmed ∧ (∀ b, View.IdLaw (s.bay b)) ∧ s.PhaseLaw := by
  unfold State.PhaseLaw
  constructor
  · rintro ⟨h1, h2, h3⟩
    refine ⟨h1, h2, ?_⟩
    cases hp : s.phase <;> simp_all
  · rintro ⟨h1, h2, h3⟩
    refine ⟨h1, h2, ?_⟩
    cases hp : s.phase <;> simp_all

theorem State.Fits.mono {s t : State} {f g : BayNo → Nat} (h : s.Fits f) (hf : ∀ b, g b ≤ f b)
    (hr : countedAmount t.reservations ≤ countedAmount s.reservations) (he : s.effective ≤ t.effective) : t.Fits g := by
  obtain h | h := h
  · refine .inl (le_trans (Nat.add_le_add (List.sum_le_sum fun b _ => hf b) hr) (h.trans he))
  · exact .inr fun b => Nat.le_zero.mp (h b ▸ hf b)

/-- Outputs that fall, under reservations that do not rise and a B_eff that does not fall. -/
theorem State.BudgetWaits.falls {s t : State} (h : s.BudgetWaits) (hp : t.phase = s.phase)
    (hq : s.reallocRequest = true → t.reallocRequest = true) (hm : s.Confirmed → t.Confirmed)
    (hc : ∀ b, (t.output b).commitment ≤ (s.output b).commitment) (ht : ∀ b, t.targetOf b ≤ s.targetOf b)
    (hi : ∀ b, (s.output b).issued ≤ s.targetOf b → (t.output b).issued ≤ t.targetOf b)
    (hct : ∀ b, (s.output b).commitment ≤ s.targetOf b → (t.output b).commitment ≤ t.targetOf b)
    (hr : countedAmount t.reservations ≤ countedAmount s.reservations) (he : s.effective ≤ t.effective) :
    t.BudgetWaits := by
  obtain ⟨h1, h2⟩ := h
  refine ⟨hm h1, h2.imp (fun ⟨g1, g2⟩ => ⟨hp.trans g1, hq g2⟩) fun ⟨g1, g2, g3⟩ => ?_⟩
  refine ⟨fun e => ?_, fun e => ?_, fun e => ?_⟩
  · exact (g1 (hp ▸ e)).mono hc hr he
  · obtain ⟨k1, k2⟩ := g2 (hp ▸ e)
    exact ⟨fun b => hi b (k1 b), k2.mono ht hr he⟩
  · obtain ⟨k1, k2, k3⟩ := g3 (hp ▸ e)
    exact ⟨fun b => hct b (k1 b), k2.mono ht hr he, k3.mono hc hr he⟩

/-! ### What a write carries over -/

/-- What a write carries over; the bays that it may make DISABLED or EMPTY are among those of E. -/
structure State.Carries (E : BayNo → Prop) (s t : State) : Prop where
  powers : ∀ b, Powers (s.bay b).state (s.output b) (s.link b) → Powers (t.bay b).state (t.output b) (t.link b)
  stays : ∀ b, (t.bay b).state.off → (s.bay b).state.off ∨ E b
  lanes : s.LaneLaw → t.LaneLaw
  latches : s.LatchLaw → t.LatchLaw
  reserves : s.Reserves Told → t.Reserves Told
  budget : s.BudgetWaits → t.BudgetWaits
  commits : ∀ b, (t.output b).commitment ≤ (s.output b).commitment
  queue : t.queue = s.queue

namespace State.Carries

variable {E : BayNo → Prop} {s t u : State} {b : BayNo} {i : RecordIx}

theorem refl (s : State) : s.Carries E s :=
  ⟨fun _ h => h, fun _ => .inl, id, id, id, id, fun _ => le_rfl, rfl⟩

theorem trans (h : s.Carries E t) (g : t.Carries E u) : s.Carries E u where
  powers b := g.powers b ∘ h.powers b
  stays b hb := (g.stays b hb).elim (h.stays b) .inr
  lanes := g.lanes ∘ h.lanes
  latches := g.latches ∘ h.latches
  reserves := g.reserves ∘ h.reserves
  budget := g.budget ∘ h.budget
  commits b := (g.commits b).trans (h.commits b)
  queue := g.queue.trans h.queue

theorem foldl {α : Type} {f : State → α → State} (hf : ∀ s x, State.Carries E s (f s x)) :
    ∀ (l : List α) (s : State), s.Carries E (l.foldl f s)
  | [], s => refl s
  | x :: l, s => (hf s x).trans (foldl hf l _)

end State.Carries

/-! ### Congruence of the laws -/

section
variable {s t : State}

/-- The custody states and bays of the records that the sessions name, the bays' lanes and the lanes are as they were. -/
theorem State.LaneLaw.congr (h : s.LaneLaw) (hl : ∀ l, t.lane l = s.lane l) (hb : ∀ b, (t.bay b).lane = (s.bay b).lane)
    (hr : ∀ l, ∀ x ∈ (s.lane l).session, (s.record x.record).custody = .inCart →
      (s.record x.record).currentBay = some x.bay →
      (t.record x.record).custody = .inCart ∧ (t.record x.record).currentBay = some x.bay) : t.LaneLaw := by
  obtain ⟨h1, h2, h3, h4⟩ := h
  refine ⟨fun l x hx => ?_, fun b l hb' => ?_, fun l m => by rw [hl, hl]; exact h3 l m, fun l => by rw [hl]; exact h4 l⟩
  · rw [hl] at hx
    obtain ⟨k1, k2, k3⟩ := h1 l x hx
    obtain ⟨k4, k5⟩ := hr l x hx k1 k2
    exact ⟨k4, k5, by rw [hb]; exact k3⟩
  · rw [hb] at hb'
    rw [hl]
    exact h2 b l hb'

theorem State.slot_congr (h : t.slots = s.slots) (k : SlotNo) : t.slot k = s.slot k := by rw [State.slot, h]; rfl

theorem State.reservingSlot_congr (h : t.slots = s.slots) (b : BayNo) : t.reservingSlot b = s.reservingSlot b := by
  simp only [State.reservingSlot, State.slot_congr h]

theorem State.drivingSlot_congr (h : t.slots = s.slots) (b : BayNo) : t.drivingSlot b = s.drivingSlot b := by
  simp only [State.drivingSlot, State.slot_congr h]

theorem State.LatchLaw.congr (h : s.LatchLaw) (hs : t.slots = s.slots) (hq : t.latchQueue = s.latchQueue)
    (hb : ∀ b, (t.bay b).latch = (s.bay b).latch) : t.LatchLaw := by
  obtain ⟨⟨h1, h2⟩, h3, h4⟩ := h
  refine ⟨⟨by rw [hq]; exact h1, fun q hq' => ?_⟩, fun j k => ?_, fun b => ?_⟩
  · rw [hq] at hq'
    rw [State.reservingSlot_congr hs]
    exact h2 q hq'
  · rw [State.slot_congr hs, State.slot_congr hs]
    exact h3 j k
  · rw [hb, State.drivingSlot_congr hs]
    exact h4 b

theorem State.Reserves.congr {P : Owner → Prop} (h : s.Reserves P) (hs : t.slots = s.slots)
    (hl : ∀ l, (t.lane l).session.map Session.phase = (s.lane l).session.map Session.phase)
    (hr : t.reservations = s.reservations) : t.Reserves P := by
  have hst : ∀ o, t.started o = s.started o := fun o => by
    cases o with
    | latch k => simp only [State.started, State.slot_congr hs]
    | lane l =>
      have := hl l
      simp only [State.started]
      cases h1 : (t.lane l).session <;> cases h2 : (s.lane l).session <;> simp_all
  have haw : ∀ o, s.awaits o → t.awaits o := fun o ho => by
    cases o with
    | latch k => simpa only [State.awaits, State.slot_congr hs] using ho
    | lane l =>
      obtain ⟨x, hx, hp⟩ := ho
      have := hl l
      rw [hx] at this
      obtain ⟨y, hy, e⟩ := Option.map_eq_some_iff.mp this
      exact ⟨y, hy, e.trans hp⟩
  refine ⟨by rw [hr]; exact h.nodup, fun k => by rw [hr, State.slot_congr hs]; exact h.slots k, fun l => ?_,
    fun e he => ?_, fun o ho => haw o (h.waits o ho)⟩
  · rw [hr, ← h.lanes l]
    have := congrArg Option.isSome (hl l)
    simpa using Iff.of_eq (congrArg (· = true) this)
  · rw [hr] at he
    rw [hst]
    exact h.active e he

end

end Sys2Proof.Machine
end

section
/-! SUPPORT. What the writes of single blocks carry over: neutral writes, the writes of a bay's state with its output, reservations,
latch requests, drives and sessions. -/

namespace Sys2Proof.Machine

set_option Elab.async false

namespace State.Carries

variable {E : BayNo → Prop} {s t u : State} {b : BayNo} {i : RecordIx}

/-- After what r carries to s, a write that leaves outputs, lanes, slots, requests and reservations alone. -/
theorem thenWrite {r : State} (c : r.Carries E s) (hr : r.LaneLaw → t.LaneLaw)
    (hst : ∀ b, (t.bay b).state = (s.bay b).state)
    (hla : ∀ b, (t.bay b).latch = (s.bay b).latch)
    (hlk : ∀ b, (s.bay b).state.off → (s.link b).Downed → (t.link b).Downed)
    (ho : t.outputs = s.outputs := by rfl) (hlns : t.lanes = s.lanes := by rfl) (hs : t.slots = s.slots := by rfl)
    (hlq : t.latchQueue = s.latchQueue := by rfl) (hres : t.reservations = s.reservations := by rfl)
    (hq : t.queue = s.queue := by rfl) (hp : t.phase = s.phase := by rfl) (he : t.effective = s.effective := by rfl)
    (hreq : s.reallocRequest = true → t.reallocRequest = true := by exact id) : r.Carries E t := by
  have hout : ∀ b, t.output b = s.output b := fun b => by simp only [State.output, ho]
  have htar : ∀ b, t.targetOf b = s.targetOf b := fun b => by simp only [State.targetOf, hout]
  have hlane : ∀ l, t.lane l = s.lane l := fun l => by simp only [State.lane, hlns]
  refine ⟨fun b h => ?_, fun b h => c.stays b (by rwa [hst] at h), hr, fun h => (c.latches h).congr hs hlq hla,
    fun h => (c.reserves h).congr hs (fun l => by rw [hlane]) hres, fun h => ?_, fun b => by rw [hout]; exact c.commits b,
    hq.trans c.queue⟩
  · have h := c.powers b h
    rw [hst, hout]
    exact ⟨h.rest, h.closed, fun g => hlk b g (h.down g)⟩
  · exact (c.budget h).falls hp hreq (fun g b => by rw [hout]; exact g b) (fun b => by rw [hout])
      (fun b => by rw [htar]) (fun b g => by rw [hout, htar]; exact g) (fun b g => by rw [hout, htar]; exact g)
      (by rw [hres]) (by rw [he])

/-- A write that leaves outputs, lanes, slots, requests and reservations alone. -/
theorem neutral (hst : ∀ b, (t.bay b).state = (s.bay b).state) (hln : ∀ b, (t.bay b).lane = (s.bay b).lane)
    (hla : ∀ b, (t.bay b).latch = (s.bay b).latch)
    (hlk : ∀ b, (s.bay b).state.off → (s.link b).Downed → (t.link b).Downed)
    (hr : ∀ l, ∀ x ∈ (s.lane l).session, (s.record x.record).custody = .inCart →
      (s.record x.record).currentBay = some x.bay →
      (t.record x.record).custody = .inCart ∧ (t.record x.record).currentBay = some x.bay)
    (ho : t.outputs = s.outputs := by rfl) (hlns : t.lanes = s.lanes := by rfl) (hs : t.slots = s.slots := by rfl)
    (hlq : t.latchQueue = s.latchQueue := by rfl) (hres : t.reservations = s.reservations := by rfl)
    (hq : t.queue = s.queue := by rfl) (hp : t.phase = s.phase := by rfl) (he : t.effective = s.effective := by rfl)
    (hreq : s.reallocRequest = true → t.reallocRequest = true := by exact id) : s.Carries E t :=
  (refl s).thenWrite (fun h => h.congr (fun l => by simp only [State.lane, hlns]) hln hr) hst hla hlk ho hlns hs hlq hres hq
    hp he hreq

/-- A write of what the laws do not read. -/
theorem of_same (hb : t.bays = s.bays := by rfl) (hr : t.roster = s.roster := by rfl) (hl : t.links = s.links := by rfl)
    (ho : t.outputs = s.outputs := by rfl) (hlns : t.lanes = s.lanes := by rfl) (hs : t.slots = s.slots := by rfl)
    (hlq : t.latchQueue = s.latchQueue := by rfl) (hres : t.reservations = s.reservations := by rfl)
    (hq : t.queue = s.queue := by rfl) (hp : t.phase = s.phase := by rfl) (he : t.effective = s.effective := by rfl)
    (hreq : s.reallocRequest = true → t.reallocRequest = true := by exact id) : s.Carries E t := by
  have hbay : ∀ b, t.bay b = s.bay b := fun b => by simp only [State.bay, hb]
  have hrec : ∀ i, t.record i = s.record i := fun i => by simp only [State.record, hr]
  have hlink : ∀ b, t.link b = s.link b := fun b => by simp only [State.link, hl]
  refine neutral (fun b => by rw [hbay]) (fun b => by rw [hbay]) (fun b => by rw [hbay])
    (fun b _ h => by rw [hlink]; exact h) (fun l x hx h1 h2 => by rw [hrec]; exact ⟨h1, h2⟩) ho hlns hs hlq hres hq hp he hreq

theorem requestPass : s.Carries E s.requestPass := of_same (hreq := fun _ => rfl)

theorem requestPassIf (c : Bool) : s.Carries E (s.requestPassIf c) := by
  unfold State.requestPassIf
  split
  · exact requestPass
  · exact refl s

theorem addSubject (n : SourceNo) (m : Nat) : s.Carries E (s.addSubject n m) := of_same

/-- A link rewritten so that it stays DOWN, in a bay without one. -/
theorem modLink (b : BayNo) (f : Link → Link) (hf : (s.bay b).state.off → (s.link b).Downed → (f (s.link b)).Downed) :
    s.Carries E (s.modLink b f) := by
  refine neutral (fun _ => rfl) (fun _ => rfl) (fun _ => rfl) (fun c hc h => ?_) fun _ _ _ h1 h2 => ⟨h1, h2⟩
  simp only [State.link_modLink]
  split
  · next e => subst e; exact hf hc h
  · exact h

/-- A link rewritten in fields other than its state, step and exchange. -/
theorem modLink_same (b : BayNo) (f : Link → Link) (hf : ∀ l, (f l).state = l.state ∧ (f l).step = l.step ∧
    (l.exchange = none → (f l).exchange = none) := by intro l; exact ⟨rfl, rfl, id⟩) : s.Carries E (s.modLink b f) :=
  modLink b f fun _ ⟨h1, h2, h3⟩ => by
    obtain ⟨f1, f2, f3⟩ := hf (s.link b)
    exact ⟨f1.trans h1, f2.trans h2, f3 h3⟩

theorem pumpLink (b : BayNo) : s.Carries E (s.pumpLink b) := modLink b _ fun _ h => h.pump

/-- A bay rewritten in fields other than its state, lane and latch. -/
theorem modBay_same (b : BayNo) (f : Bay → Bay) (h1 : (f (s.bay b)).state = (s.bay b).state := by rfl)
    (h2 : (f (s.bay b)).lane = (s.bay b).lane := by rfl) (h3 : (f (s.bay b)).latch = (s.bay b).latch := by rfl) :
    s.Carries E (s.modBay b f) := by
  refine neutral (fun c => ?_) (fun c => ?_) (fun c => ?_) (fun _ _ h => h) fun _ _ _ h1 h2 => ⟨h1, h2⟩
  all_goals
    simp only [State.bay_modBay]
    split
    · next e => subst e; assumption
    · rfl

/-- A record rewritten: one that no session can name, or in fields other than its custody state and bay. -/
theorem putRecord (i : RecordIx) (r : Record) (h : (s.record i).custody = .inCart → (s.record i).currentBay.isSome = true →
    r.custody = .inCart ∧ r.currentBay = (s.record i).currentBay) : s.Carries E (s.putRecord i r) := by
  refine neutral (fun _ => rfl) (fun _ => rfl) (fun _ => rfl) (fun _ _ h => h) fun l x hx h1 h2 => ?_
  simp only [State.record_putRecord]
  split
  · next e =>
    rw [← e] at h1 h2
    obtain ⟨k1, k2⟩ := h h1 (by rw [h2]; rfl)
    exact ⟨k1, k2.trans h2⟩
  · exact ⟨h1, h2⟩

theorem editRecord (i : RecordIx) (f : Record → Record) (h1 : (f (s.record i)).custody = (s.record i).custody := by rfl)
    (h2 : (f (s.record i)).currentBay = (s.record i).currentBay := by rfl) : s.Carries E (s.editRecord i f) :=
  putRecord i _ fun h _ => ⟨h1.trans h, h2⟩

/-- A record that is not in the cart. -/
theorem editOutside (i : RecordIx) (f : Record → Record) (h : (s.record i).custody ≠ .inCart ∨ (s.record i).currentBay = none) :
    s.Carries E (s.editRecord i f) :=
  putRecord i _ fun h1 h2 => h.elim (absurd h1) fun g => by simp [g] at h2

theorem setOutside (i : RecordIx) (r : Record) (h : (s.record i).custody ≠ .inCart ∨ (s.record i).currentBay = none) :
    s.Carries E (s.setRecord i r) :=
  putRecord i _ fun h1 h2 => h.elim (absurd h1) fun g => by simp [g] at h2

theorem modOutside (i : RecordIx) (f : Record → Record) (h : (s.record i).custody ≠ .inCart ∨ (s.record i).currentBay = none) :
    s.Carries E (s.modRecord i f) := setOutside i _ h

theorem setRelease (b : BayNo) (x : Option Release) : s.Carries E (s.setRelease b x) := of_same

theorem modEntry (b : BayNo) (f : AllocEntry → AllocEntry) : s.Carries E (s.modEntry b f) := of_same

/-! ### Outputs and bay states -/

/-- An output rewritten so that nothing in it rises. -/
theorem modOutput (b : BayNo) (f : Output → Output)
    (hd : (s.output b).Dropped → (f (s.output b)).Dropped)
    (hc : (0 < (s.output b).commitment → (s.output b).closed = true) →
      0 < (f (s.output b)).commitment → (f (s.output b)).closed = true)
    (hm : (s.output b).inMotion = true ∨ (s.output b).settled = (s.output b).issued →
      (f (s.output b)).inMotion = true ∨ (f (s.output b)).settled = (f (s.output b)).issued)
    (h1 : (f (s.output b)).commitment ≤ (s.output b).commitment)
    (h2 : (f (s.output b)).target.getD 0 ≤ (s.output b).target.getD 0)
    (h3 : (s.output b).issued ≤ (s.output b).target.getD 0 → (f (s.output b)).issued ≤ (f (s.output b)).target.getD 0)
    (h4 : (s.output b).commitment ≤ (s.output b).target.getD 0 →
      (f (s.output b)).commitment ≤ (f (s.output b)).target.getD 0) : s.Carries E (s.modOutput b f) := by
  have hout : ∀ c, (s.modOutput b f).output c = if b = c then f (s.output b) else s.output c := fun c => by
    simp only [State.output_modOutput]
  have key : ∀ {Q : Output → Output → Prop}, (∀ o, Q o o) → Q (s.output b) (f (s.output b)) →
      ∀ c, Q (s.output c) ((s.modOutput b f).output c) := fun {Q} hr hq c => by
    rw [hout]
    split
    · next e => subst e; exact hq
    · exact hr _
  constructor
  · intro c h
    have hb : (s.modOutput b f).bay c = s.bay c := rfl
    have hl : (s.modOutput b f).link c = s.link c := rfl
    rw [hb, hl, hout]
    split
    · next e => subst e; exact ⟨fun g => hd (h.rest g), hc h.closed, h.down⟩
    · exact h
  · exact fun c h => .inl h
  · exact fun h => h.congr (fun _ => rfl) (fun _ => rfl) fun _ _ _ h1 h2 => ⟨h1, h2⟩
  · exact fun h => h.congr rfl rfl fun _ => rfl
  · exact fun h => h.congr rfl (fun _ => rfl) rfl
  · refine fun h => h.falls rfl id (fun g c => ?_) (key (Q := fun o p => p.commitment ≤ o.commitment) (fun _ => le_rfl) h1)
      (key (Q := fun o p => p.target.getD 0 ≤ o.target.getD 0) (fun _ => le_rfl) h2) ?_ ?_ le_rfl le_rfl
    · exact key (Q := fun o p => (o.inMotion = true ∨ o.settled = o.issued) → p.inMotion = true ∨ p.settled = p.issued)
        (fun _ => id) hm c (g c)
    · exact key (Q := fun o p => o.issued ≤ o.target.getD 0 → p.issued ≤ p.target.getD 0) (fun _ => id) h3
    · exact key (Q := fun o p => o.commitment ≤ o.target.getD 0 → p.commitment ≤ p.target.getD 0) (fun _ => id) h4
  · exact key (Q := fun o p => p.commitment ≤ o.commitment) (fun _ => le_rfl) h1
  · rfl

/-- An output rewritten in its remainder or charge state. -/
theorem modOutput_same (b : BayNo) (f : Output → Output) (hf : ∀ o, (f o).closed = o.closed ∧ (f o).issued = o.issued ∧
    (f o).settled = o.settled ∧ (f o).inMotion = o.inMotion ∧ (f o).target = o.target := by
      intro o; exact ⟨rfl, rfl, rfl, rfl, rfl⟩) : s.Carries E (s.modOutput b f) := by
  obtain ⟨f1, f2, f3, f4, f5⟩ := hf (s.output b)
  refine modOutput b f ?_ ?_ ?_ ?_ ?_ ?_ ?_ <;> simp only [Output.Dropped, Output.commitment, f1, f2, f3, f4, f5] <;>
    first | exact id | exact le_rfl

theorem dropOutput (b : BayNo) (c : ChargeState) : s.Carries E (s.dropOutput b c) := by
  have hc := (s.output b).dropped_drop c
  refine (modOutput b (Output.drop c) (fun _ => hc) (fun _ g => absurd g (by simp [hc.commitment])) (fun _ => .inr rfl)
    (by simp [hc.commitment]) (by simp [Output.drop]) (fun _ => by simp [Output.drop])
    fun _ => by simp [hc.commitment]).trans (modBay_same b _)

/-- A settled report is taken (R96). -/
theorem report (b : BayNo) (v : Nat) : s.Carries E (s.modOutput b (Output.report v)) := by
  unfold Output.report
  by_cases h : ((s.output b).inMotion && v == (s.output b).issued) = true
  · have hv : v = (s.output b).issued := by simp_all
    refine modOutput b _ ?_ ?_ ?_ ?_ ?_ ?_ ?_ <;> simp only [h, if_true]
    · intro hd
      obtain ⟨h1, h2, h3, h4, h5⟩ := hd
      exact ⟨h1, h2, hv.trans h2, rfl, h5⟩
    · intro hc hp
      refine hc (lt_of_lt_of_le hp ?_)
      simp [Output.commitment, hv]
    · exact fun _ => .inr hv
    · simp [Output.commitment, hv]
    · exact le_rfl
    · exact id
    · intro hc
      refine le_trans ?_ hc
      simp [Output.commitment, hv]
  · have e : s.modOutput b (fun o => if (o.inMotion && v == o.issued) = true then
        { o with settled := v, inMotion := false } else o) = s := by
      simp only [State.modOutput, h]
      simp [State.setOutput, State.output]
    rw [e]
    exact refl s

/-- A bay takes a state: its output and link are as the state says, and it keeps its lane and latch. -/
theorem modBay (b : BayNo) (f : Bay → Bay) (hr : (f (s.bay b)).state.switchedOff →
      (s.bay b).state.switchedOff ∨ (s.output b).Dropped)
    (hd : (f (s.bay b)).state.off → (s.bay b).state.off ∨ (s.link b).Downed ∧ E b)
    (h2 : (f (s.bay b)).lane = (s.bay b).lane := by rfl) (h3 : (f (s.bay b)).latch = (s.bay b).latch := by rfl) :
    s.Carries E (s.modBay b f) := by
  have hbay : ∀ c, (s.modBay b f).bay c = if b = c then f (s.bay b) else s.bay c := fun c => by
    simp only [State.bay_modBay]
  constructor
  · intro c h
    have ho : (s.modBay b f).output c = s.output c := rfl
    have hl : (s.modBay b f).link c = s.link c := rfl
    rw [ho, hl, hbay]
    split
    · next e =>
      subst e
      exact ⟨fun g => (hr g).elim h.rest id, h.closed, fun g => (hd g).elim h.down And.left⟩
    · exact h
  · intro c h
    rw [hbay] at h
    split at h
    · next e => subst e; exact (hd h).imp id And.right
    · exact .inl h
  · refine fun h => h.congr (fun _ => rfl) (fun c => ?_) fun _ _ _ h1 h2 => ⟨h1, h2⟩
    rw [hbay]
    split
    · next e => subst e; exact h2
    · rfl
  · refine fun h => h.congr rfl rfl fun c => ?_
    rw [hbay]
    split
    · next e => subst e; exact h3
    · rfl
  · exact fun h => h.congr rfl (fun _ => rfl) rfl
  · exact fun h => h.falls rfl id id (fun _ => le_rfl) (fun _ => le_rfl) (fun _ => id) (fun _ => id) le_rfl le_rfl
  · exact fun _ => le_rfl
  · rfl

/-- A bay that has a link takes a state, its link is rewritten and its output dropped. -/
theorem off (b : BayNo) (f : Bay → Bay) (g : Link → Link) (c : ChargeState) (hd : ¬(f (s.bay b)).state.off)
    (h2 : (f (s.bay b)).lane = (s.bay b).lane := by rfl) (h3 : (f (s.bay b)).latch = (s.bay b).latch := by rfl) :
    s.Carries E (((s.modBay b f).modLink b g).dropOutput b c) := by
  have e : ((s.modBay b f).modLink b g).dropOutput b c =
      ((s.dropOutput b c).modBay b fun _ => { f (s.bay b) with grant := 0 }).modLink b g := by
    simp [State.dropOutput, State.modBay, State.setBay, State.modLink, State.setLink, State.modOutput, State.setOutput,
      State.bay, State.link, State.output]
  have hb : (s.dropOutput b c).bay b = { s.bay b with grant := 0 } := by
    simp only [State.dropOutput, State.bay_modBay, if_true]; rfl
  rw [e]
  refine ((dropOutput b c).trans (modBay b _ (fun _ => .inr ?_) (fun g => absurd g hd) ?_ ?_)).trans
    (modLink b g fun h _ => absurd h ?_)
  · change ((s.modOutput b (Output.drop c)).output b).Dropped
    rw [State.output_modOutput, if_pos rfl]
    exact (s.output b).dropped_drop c
  · rw [hb]; exact h2
  · rw [hb]; exact h3
  · rw [State.bay_modBay, if_pos rfl]
    exact hd

end State.Carries

end Sys2Proof.Machine
end

section
/-! SUPPORT. The laws of reservations, latches and lanes under the writes of a slot, a lane, the latch queue and the reservation
list. -/

namespace Sys2Proof.Machine

set_option Elab.async false

variable {s t : State} {P : Owner → Prop}

/-! ### Reservations -/

theorem countedAmount_filter_le (f : Reservation → Bool) (l : List Reservation) :
    countedAmount (l.filter f) ≤ countedAmount l := by
  induction l with
  | nil => exact le_rfl
  | cons e l ih =>
    rw [List.filter_cons, countedAmount_cons e l]
    split
    · rw [countedAmount_cons]; omega
    · omega

theorem countedAmount_pending (l : List Reservation) (o : Owner) (n : Nat) :
    countedAmount (l ++ [Reservation.mk o n .pending]) = countedAmount l := by
  rw [countedAmount_append]
  rfl

/-- The owners' slots and lanes started and held as before, with the same reservations. -/
theorem State.Reserves.same (h : s.Reserves P) (hr : t.reservations = s.reservations)
    (hfree : ∀ k, t.slot k = .free ↔ s.slot k = .free) (hlane : ∀ l, (t.lane l).session.isSome = (s.lane l).session.isSome)
    (hst : ∀ o, t.started o = s.started o) (haw : ∀ o, s.awaits o → t.awaits o) : t.Reserves P where
  nodup := by rw [hr]; exact h.nodup
  slots k := by rw [hr, ← h.slots k]; exact not_congr (hfree k)
  lanes l := by rw [hr, hlane]; exact h.lanes l
  active e he := by rw [hr] at he; rw [hst]; exact h.active e he
  waits o ho := haw o (h.waits o ho)

/-- The reservations change in state alone. -/
theorem State.Reserves.mapped {Q : Owner → Prop} (h : s.Reserves P) (f : Reservation → Reservation)
    (hr : t.reservations = s.reservations.map f) (ho : ∀ e, (f e).owner = e.owner)
    (hs : t.slots = s.slots) (hl : t.lanes = s.lanes)
    (ha : ∀ e ∈ s.reservations, (f e).state = .active ↔ e.state = .active ∨ Q e.owner)
    (hw : ∀ o, P o ∨ Q o → s.awaits o) : t.Reserves (fun o => P o ∨ Q o) := by
  have hslot := State.slot_congr hs
  have hlane : ∀ l, t.lane l = s.lane l := fun l => by simp only [State.lane, hl]
  have hst : ∀ o, t.started o = s.started o := fun o => by cases o <;> simp only [State.started, hslot, hlane]
  have hmem : ∀ o, (∃ e ∈ t.reservations, e.owner = o) ↔ ∃ e ∈ s.reservations, e.owner = o := fun o => by
    simp [hr, ho]
  refine ⟨?_, fun k => by rw [hslot, hmem]; exact h.slots k, fun l => by rw [hlane, hmem]; exact h.lanes l, ?_, ?_⟩
  · rw [hr, List.map_map, show Reservation.owner ∘ f = Reservation.owner from funext ho]
    exact h.nodup
  · intro e he
    rw [hr] at he
    obtain ⟨d, hd, rfl⟩ := List.mem_map.mp he
    rw [hst, ho, ha d hd, h.active d hd, or_assoc]
  · intro o ho'
    have := hw o ho'
    cases o <;> simpa only [State.awaits, hslot, hlane] using this

/-- An owner's reservation leaves with what it was held for. -/
theorem State.Reserves.drop (h : s.Reserves P) (o : Owner)
    (hr : t.reservations = s.reservations.filter fun e => e.owner != o)
    (hs : ∀ k, .latch k ≠ o → t.slot k = s.slot k) (hk : ∀ k, .latch k = o → t.slot k = .free)
    (hl : ∀ l, .lane l ≠ o → (t.lane l).session = (s.lane l).session) (hn : ∀ l, .lane l = o → (t.lane l).session = none) :
    t.Reserves fun x => P x ∧ x ≠ o := by
  have hmem : ∀ p, p ≠ o → ((∃ e ∈ t.reservations, e.owner = p) ↔ ∃ e ∈ s.reservations, e.owner = p) := fun p hp => by
    simp only [hr, List.mem_filter, bne_iff_ne]
    exact ⟨fun ⟨e, ⟨he, _⟩, ho⟩ => ⟨e, he, ho⟩, fun ⟨e, he, ho⟩ => ⟨e, ⟨he, ho ▸ hp⟩, ho⟩⟩
  have hnone : ¬∃ e ∈ t.reservations, e.owner = o := by
    simp only [hr, List.mem_filter, bne_iff_ne]
    exact fun ⟨e, ⟨_, h1⟩, h2⟩ => h1 h2
  have hst : ∀ p, p ≠ o → t.started p = s.started p := fun p hp => by
    cases p with
    | latch k => simp only [State.started, hs k hp]
    | lane l => simp only [State.started, hl l hp]
  refine ⟨?_, fun k => ?_, fun l => ?_, fun e he => ?_, fun p ⟨hp, hpo⟩ => ?_⟩
  · rw [hr]
    exact h.nodup.sublist ((List.filter_sublist (p := fun e : Reservation => e.owner != o)).map _)
  · by_cases e : Owner.latch k = o
    · rw [hk k e, e]
      exact ⟨fun g => absurd rfl g, fun g => absurd g hnone⟩
    · rw [hs k e, hmem _ e]
      exact h.slots k
  · by_cases e : Owner.lane l = o
    · rw [hn l e, e]
      exact ⟨fun g => by simp at g, fun g => absurd g hnone⟩
    · rw [hl l e, hmem _ e]
      exact h.lanes l
  · rw [hr, List.mem_filter, bne_iff_ne] at he
    rw [hst _ he.2, h.active e he.1]
    simp [he.2]
  · have := h.waits p hp
    cases p with
    | latch k => simpa only [State.awaits, hs k hpo] using this
    | lane l => simpa only [State.awaits, hl l hpo] using this

/-- The same, with no owner to be told. -/
theorem State.Reserves.dropTold (h : s.Reserves Told) (o : Owner)
    (hr : t.reservations = s.reservations.filter fun e => e.owner != o)
    (hs : ∀ k, .latch k ≠ o → t.slot k = s.slot k) (hk : ∀ k, .latch k = o → t.slot k = .free)
    (hl : ∀ l, .lane l ≠ o → (t.lane l).session = (s.lane l).session) (hn : ∀ l, .lane l = o → (t.lane l).session = none) :
    t.Reserves Told := by
  have := h.drop o hr hs hk hl hn
  rwa [show (fun x => Told x ∧ x ≠ o) = Told from funext fun x => by simp] at this

/-- An owner that holds nothing takes a slot or a lane, and its reservation joins as PENDING. -/
theorem State.Reserves.raise (h : s.Reserves P) (o : Owner) (n : Nat)
    (hr : t.reservations = s.reservations ++ [Reservation.mk o n .pending])
    (hs : ∀ k, .latch k ≠ o → t.slot k = s.slot k)
    (hk : ∀ k, .latch k = o → s.slot k = .free ∧ ∃ q, t.slot k = .reserving q)
    (hl : ∀ l, .lane l ≠ o → (t.lane l).session = (s.lane l).session)
    (hn : ∀ l, .lane l = o → (s.lane l).session = none ∧ ∃ x, (t.lane l).session = some x ∧ x.phase = .admitting) :
    t.Reserves P := by
  have hnew : ¬∃ e ∈ s.reservations, e.owner = o := by
    cases o with
    | latch k => exact fun g => (h.slots k).mpr g (hk k rfl).1
    | lane l => exact fun g => by simpa [(hn l rfl).1] using (h.lanes l).mpr g
  have hP : ¬P o := fun g => by
    have := h.waits o g
    cases o with
    | latch k => obtain ⟨q, hq⟩ := this; simp [(hk k rfl).1] at hq
    | lane l => obtain ⟨x, hx, -⟩ := this; simp [(hn l rfl).1] at hx
  have hmem : ∀ p, (∃ e ∈ t.reservations, e.owner = p) ↔ (∃ e ∈ s.reservations, e.owner = p) ∨ o = p := fun p => by
    simp only [hr, List.mem_append, List.mem_singleton]
    constructor
    · rintro ⟨e, he | rfl, rfl⟩
      · exact .inl ⟨e, he, rfl⟩
      · exact .inr rfl
    · rintro (⟨e, he, ho⟩ | rfl)
      · exact ⟨e, .inl he, ho⟩
      · exact ⟨_, .inr rfl, rfl⟩
  have hst : ∀ p, p ≠ o → t.started p = s.started p := fun p hp => by
    cases p with
    | latch k => simp only [State.started, hs k hp]
    | lane l => simp only [State.started, hl l hp]
  have hsto : t.started o = false := by
    cases o with
    | latch k => obtain ⟨-, q, hq⟩ := hk k rfl; simp [State.started, hq, DriveSlot.isDriving]
    | lane l => obtain ⟨-, x, hx, hp⟩ := hn l rfl; simp [State.started, hx, hp]
  refine ⟨?_, fun k => ?_, fun l => ?_, fun e he => ?_, fun p hp => ?_⟩
  · rw [hr, List.map_append, List.map_singleton]
    refine List.Nodup.append h.nodup (List.nodup_singleton _) fun p hp hp' => ?_
    obtain rfl : p = o := by simpa using hp'
    obtain ⟨e, he, heo⟩ := List.mem_map.mp hp
    exact hnew ⟨e, he, heo⟩
  · rw [hmem]
    by_cases e : Owner.latch k = o
    · obtain ⟨-, q, hq⟩ := hk k e
      simp [hq, e]
    · rw [hs k e, h.slots k]
      simp [Ne.symm e]
  · rw [hmem]
    by_cases e : Owner.lane l = o
    · obtain ⟨-, x, hx, -⟩ := hn l e
      simp [hx, e]
    · rw [hl l e, h.lanes l]
      simp [Ne.symm e]
  · rw [hr, List.mem_append, List.mem_singleton] at he
    obtain he | rfl := he
    · have hne : e.owner ≠ o := fun g => hnew ⟨e, he, g⟩
      rw [hst _ hne]
      exact h.active e he
    · simp [hsto, hP]
  · have hpo : p ≠ o := fun e => hP (e ▸ hp)
    have := h.waits p hp
    cases p with
    | latch k => simpa only [State.awaits, hs k hpo] using this
    | lane l => simpa only [State.awaits, hl l hpo] using this

/-- An owner that was told starts. -/
theorem State.Reserves.start (h : s.Reserves P) (o : Owner) (ho : P o) (hr : t.reservations = s.reservations)
    (hs : ∀ k, .latch k ≠ o → t.slot k = s.slot k) (hk : ∀ k, .latch k = o → ∃ q, t.slot k = .driving q)
    (hl : ∀ l, .lane l ≠ o → (t.lane l).session = (s.lane l).session)
    (hn : ∀ l, .lane l = o → ∃ x, (t.lane l).session = some x ∧ x.phase ≠ .admitting) :
    t.Reserves fun x => P x ∧ x ≠ o := by
  have hst : ∀ p, p ≠ o → t.started p = s.started p := fun p hp => by
    cases p with
    | latch k => simp only [State.started, hs k hp]
    | lane l => simp only [State.started, hl l hp]
  have hsto : t.started o = true := by
    cases o with
    | latch k => obtain ⟨q, hq⟩ := hk k rfl; simp [State.started, hq, DriveSlot.isDriving]
    | lane l => obtain ⟨x, hx, hp⟩ := hn l rfl; simp [State.started, hx, hp]
  have hw := h.waits o ho
  refine ⟨by rw [hr]; exact h.nodup, fun k => ?_, fun l => ?_, fun e he => ?_, fun p ⟨hp, hpo⟩ => ?_⟩
  · rw [hr, ← h.slots k]
    by_cases e : Owner.latch k = o
    · obtain ⟨q, hq⟩ := hk k e
      rw [← e] at hw
      obtain ⟨p, hp⟩ := hw
      simp [hq, hp]
    · rw [hs k e]
  · rw [hr, ← h.lanes l]
    by_cases e : Owner.lane l = o
    · obtain ⟨x, hx, -⟩ := hn l e
      rw [← e] at hw
      obtain ⟨y, hy, -⟩ := hw
      simp [hx, hy]
    · rw [hl l e]
  · rw [hr] at he
    rw [h.active e he]
    by_cases g : e.owner = o
    · simp [g, hsto, ho]
    · simp [hst _ g, g]
  · have := h.waits p hp
    cases p with
    | latch k => simpa only [State.awaits, hs k hpo] using this
    | lane l => simpa only [State.awaits, hl l hpo] using this

/-- Other owners may be untold, where they are the same. -/
theorem State.Reserves.told {Q : Owner → Prop} (h : s.Reserves P) (hq : ∀ o, P o ↔ Q o) : s.Reserves Q := by
  obtain rfl : P = Q := funext fun o => propext (hq o)
  exact h

/-! ### Latches -/

theorem State.freeSlot_eq_some {k : SlotNo} (h : s.freeSlot = some k) : s.slot k = .free := by
  simpa using List.find?_some h

theorem State.reservingSlot_eq_some {b : BayNo} {k : SlotNo} (h : s.reservingSlot b = some k) :
    ∃ q, s.slot k = .reserving q ∧ q.bay = b := by
  have := List.find?_some h
  split at this
  · exact ⟨_, ‹_›, by simpa using this⟩
  · simp at this

theorem State.reservingSlot_eq_none {b : BayNo} : s.reservingSlot b = none ↔
    ∀ k q, s.slot k = .reserving q → q.bay ≠ b := by
  simp only [State.reservingSlot, List.find?_eq_none, List.mem_finRange, forall_true_left]
  refine forall_congr' fun k => ?_
  cases h : s.slot k <;> simp

theorem State.drivingSlot_isSome {b : BayNo} : (s.drivingSlot b).isSome = true ↔
    ∃ k q, s.slot k = .driving q ∧ q.bay = b := by
  simp only [State.drivingSlot, List.find?_isSome, List.mem_finRange, true_and]
  refine exists_congr fun k => ?_
  cases h : s.slot k <;> simp

theorem State.slotHolds_eq_false {b : BayNo} : s.slotHolds b = false ↔
    ∀ k q, (s.slot k).request = some q → q.bay ≠ b := by
  simp only [State.slotHolds, List.any_eq_false, List.mem_finRange, forall_true_left]
  refine forall_congr' fun k => ?_
  cases h : (s.slot k).request <;> simp

theorem DriveSlot.request_reserving (q : LatchRequest) : (DriveSlot.reserving q).request = some q := rfl
theorem DriveSlot.request_driving (q : LatchRequest) : (DriveSlot.driving q).request = some q := rfl

/-- The latch law with its slots named. -/
structure State.Latches (s : State) : Prop where
  nodup : (s.latchQueue.map LatchRequest.bay).Nodup
  apart : ∀ q ∈ s.latchQueue, ∀ k p, s.slot k = .reserving p → p.bay ≠ q.bay
  one : ∀ j k p q, (s.slot j).request = some p → (s.slot k).request = some q → p.bay = q.bay → j = k
  moving : ∀ b, (s.bay b).latch = .moving ↔ ∃ k q, s.slot k = .driving q ∧ q.bay = b

theorem State.latchLaw_iff : s.LatchLaw ↔ s.Latches := by
  constructor
  · rintro ⟨⟨h1, h2⟩, h3, h4⟩
    exact ⟨h1, fun q hq => State.reservingSlot_eq_none.mp (h2 q hq), fun j k p q hp hq => h3 j k p hp q hq,
      fun b => (h4 b).trans State.drivingSlot_isSome⟩
  · rintro ⟨h1, h2, h3, h4⟩
    exact ⟨⟨h1, fun q hq => State.reservingSlot_eq_none.mpr (h2 q hq)⟩, fun j k p hp q hq => h3 j k p q hp hq,
      fun b => (h4 b).trans State.drivingSlot_isSome.symm⟩

/-- Requests leave the queue. -/
theorem State.Latches.fewer (h : s.Latches) (hq : t.latchQueue.Sublist s.latchQueue) (hs : t.slots = s.slots)
    (hb : ∀ b, (t.bay b).latch = (s.bay b).latch) : t.Latches where
  nodup := h.nodup.sublist (hq.map _)
  apart q hq' k p hk := h.apart q (hq.subset hq') k p (State.slot_congr hs k ▸ hk)
  one j k := by rw [State.slot_congr hs, State.slot_congr hs]; exact h.one j k
  moving b := by simp only [hb, State.slot_congr hs]; exact h.moving b

/-- A slot that drives no latch takes or loses a request. -/
theorem State.Latches.writeSlot (h : s.Latches) (k : SlotNo) (x : DriveSlot) (hq : t.latchQueue.Sublist s.latchQueue)
    (hs : ∀ j, t.slot j = if k = j then x else s.slot j) (hb : ∀ b, (t.bay b).latch = (s.bay b).latch)
    (hk : ∀ q, s.slot k ≠ .driving q) (hx : x = .free ∨ ∃ q, x = .reserving q ∧ (∀ p ∈ t.latchQueue, p.bay ≠ q.bay) ∧
      ∀ j p, j ≠ k → (s.slot j).request = some p → p.bay ≠ q.bay) : t.Latches where
  nodup := h.nodup.sublist (hq.map _)
  apart q hq' j p hj := by
    rw [hs] at hj
    split at hj
    · obtain rfl | ⟨r, rfl, hr, -⟩ := hx
      · cases hj
      · cases hj
        exact fun e => hr q hq' e.symm
    · exact h.apart q (hq.subset hq') j p hj
  one i j p q hp hq := by
    rw [hs] at hp hq
    intro e
    split at hp <;> split at hq
    · next a b => exact a.symm.trans b
    · next a b =>
      obtain rfl | ⟨r, rfl, -, hr⟩ := hx
      · cases hp
      · cases hp
        exact absurd e.symm (hr j q (Ne.symm b) hq)
    · next a b =>
      obtain rfl | ⟨r, rfl, -, hr⟩ := hx
      · cases hq
      · cases hq
        exact absurd e (hr i p (Ne.symm a) hp)
    · exact h.one i j p q hp hq e
  moving b := by
    rw [hb, h.moving]
    refine exists_congr fun j => exists_congr fun q => and_congr_left fun _ => ?_
    rw [hs]
    split
    · next e =>
      subst e
      refine ⟨fun g => absurd g (hk q), fun g => ?_⟩
      obtain rfl | ⟨r, rfl, -⟩ := hx <;> cases g
    · rfl

/-- A slot's request ends, and its latch takes a position (R138). -/
theorem State.Latches.ends (h : s.Latches) (k : SlotNo) (q : LatchRequest) (p : LatchPosition)
    (hk : (s.slot k).request = some q) (hp : p ≠ .moving) (hq : t.latchQueue = s.latchQueue)
    (hs : ∀ j, t.slot j = if k = j then .free else s.slot j)
    (hb : ∀ b, (t.bay b).latch = if q.bay = b then p else (s.bay b).latch) : t.Latches where
  nodup := by rw [hq]; exact h.nodup
  apart r hr j x hj := by
    rw [hs] at hj
    rw [hq] at hr
    split at hj
    · cases hj
    · exact h.apart r hr j x hj
  one i j x y hx hy := by
    rw [hs] at hx hy
    split at hx
    · cases hx
    · split at hy
      · cases hy
      · exact h.one i j x y hx hy
  moving b := by
    rw [hb]
    split
    · next e =>
      refine ⟨fun g => absurd g hp, fun ⟨j, r, hj, hr⟩ => ?_⟩
      rw [hs] at hj
      split at hj
      · cases hj
      · next e' => exact absurd (h.one k j q r hk (by rw [hj]; rfl) (e.trans hr.symm)) e'
    · next e =>
      rw [h.moving]
      refine exists_congr fun j => exists_congr fun r => and_congr_left fun hr => ?_
      rw [hs]
      split
      · next e' =>
        subst e'
        refine ⟨fun g => ?_, fun g => by cases g⟩
        rw [g, DriveSlot.request_driving] at hk
        cases hk
        exact absurd hr e
      · rfl

/-- A slot that has its reservation drives its latch (R137). -/
theorem State.Latches.starts (h : s.Latches) (k : SlotNo) (q : LatchRequest) (hk : s.slot k = .reserving q)
    (hq : t.latchQueue = s.latchQueue) (hs : ∀ j, t.slot j = if k = j then .driving q else s.slot j)
    (hb : ∀ b, (t.bay b).latch = if q.bay = b then .moving else (s.bay b).latch) : t.Latches where
  nodup := by rw [hq]; exact h.nodup
  apart r hr j x hj := by
    rw [hs] at hj
    rw [hq] at hr
    split at hj
    · cases hj
    · exact h.apart r hr j x hj
  one i j x y := by
    have key : ∀ m z, (t.slot m).request = some z → (s.slot m).request = some z := fun m z hz => by
      rw [hs] at hz
      split at hz
      · next e => subst e; rw [hk]; exact hz
      · exact hz
    exact fun hx hy => h.one i j x y (key i x hx) (key j y hy)
  moving b := by
    rw [hb]
    split
    · next e => exact ⟨fun _ => ⟨k, q, by rw [hs, if_pos rfl], e⟩, fun _ => rfl⟩
    · next e =>
      rw [h.moving]
      refine exists_congr fun j => exists_congr fun r => and_congr_left fun hr => ?_
      rw [hs]
      split
      · next e' =>
        subst e'
        rw [hk]
        refine ⟨nofun, fun g => ?_⟩
        cases g
        exact absurd hr e
      · rfl

/-- A latch that no slot drives takes a position (R134). -/
theorem State.Latches.rests (h : s.Latches) (b : BayNo) (p : LatchPosition) (hp : p ≠ .moving)
    (hk : s.drivingSlot b = none) (hq : t.latchQueue = s.latchQueue) (hs : t.slots = s.slots)
    (hb : ∀ c, (t.bay c).latch = if b = c then p else (s.bay c).latch) : t.Latches where
  nodup := by rw [hq]; exact h.nodup
  apart r hr j x hj := h.apart r (hq ▸ hr) j x (State.slot_congr hs j ▸ hj)
  one j k := by rw [State.slot_congr hs, State.slot_congr hs]; exact h.one j k
  moving c := by
    have e : (∃ k q, t.slot k = .driving q ∧ q.bay = c) ↔ ∃ k q, s.slot k = .driving q ∧ q.bay = c := by
      simp only [State.slot_congr hs]
    rw [hb, e, ← State.drivingSlot_isSome]
    split
    · next e => subst e; simp [hp, hk]
    · rw [h.moving, State.drivingSlot_isSome]

/-- A request joins the queue of a bay that no slot is reserving for (R135). -/
theorem State.Latches.joins (h : s.Latches) (b : BayNo) (d : Direction) (hk : s.reservingSlot b = none)
    (hq : t.latchQueue = queueRequest b d s.latchQueue) (hs : t.slots = s.slots)
    (hb : ∀ c, (t.bay c).latch = (s.bay c).latch) : t.Latches := by
  have hk := State.reservingSlot_eq_none.mp hk
  have hbays : ∀ q ∈ t.latchQueue, q.bay = b ∨ ∃ p ∈ s.latchQueue, p.bay = q.bay := fun q hq' => by
    rw [hq, queueRequest] at hq'
    split at hq'
    · obtain ⟨p, hp, rfl⟩ := List.mem_map.mp hq'
      split
      · exact .inl rfl
      · exact .inr ⟨p, hp, rfl⟩
    · obtain hq' | hq' := List.mem_append.mp hq'
      · exact .inr ⟨q, hq', rfl⟩
      · rw [List.mem_singleton.mp hq']
        exact .inl rfl
  refine ⟨?_, fun q hq' k p hp => ?_, fun j k => ?_, fun c => ?_⟩
  · rw [hq, queueRequest]
    split
    · rw [List.map_map, show LatchRequest.bay ∘ (fun q => if q.bay = b then ⟨b, d⟩ else q) = LatchRequest.bay from
        funext fun q => by simp only [Function.comp]; split <;> simp_all]
      exact h.nodup
    · next hn =>
      rw [List.map_append]
      refine List.Nodup.append h.nodup (List.nodup_singleton _) fun c hc hc' => ?_
      obtain rfl : c = b := by simpa using hc'
      obtain ⟨q, hq', e⟩ := List.mem_map.mp hc
      exact hn (List.any_eq_true.mpr ⟨q, hq', by simpa using e⟩)
  · rw [State.slot_congr hs] at hp
    obtain e | ⟨r, hr, e⟩ := hbays q hq'
    · rw [e]; exact hk k p hp
    · rw [← e]; exact h.apart r hr k p hp
  · rw [State.slot_congr hs, State.slot_congr hs]; exact h.one j k
  · simp only [hb, State.slot_congr hs]; exact h.moving c

/-! ### Lanes -/

/-- A session ends (R125). -/
theorem State.LaneLaw.ends (h : s.LaneLaw) (l : LaneNo) (x : Session) (y : Lane) (hx : (s.lane l).session = some x)
    (hy : y.session = none) (hsw : y.switch = none) (hl : ∀ m, t.lane m = if l = m then y else s.lane m)
    (hb : ∀ b, (t.bay b).lane = if x.bay = b then none else (s.bay b).lane)
    (hr : ∀ i, (t.record i).custody = (s.record i).custody ∧ (t.record i).currentBay = (s.record i).currentBay) :
    t.LaneLaw := by
  obtain ⟨h1, h2, h3, h4⟩ := h
  refine ⟨fun m z hz => ?_, fun b m hm => ?_, fun m k z hz w hw => ?_, fun m => ?_⟩
  · rw [hl] at hz
    split at hz
    · simp [hy] at hz
    · next e =>
      obtain ⟨k1, k2, k3⟩ := h1 m z hz
      rw [(hr _).1, (hr _).2, hb, if_neg fun g => e (h3 l m x hx z hz (.inl g))]
      exact ⟨k1, k2, k3⟩
  · rw [hb] at hm
    split at hm
    · simp at hm
    · next e =>
      have := h2 b m hm
      rw [hl, if_neg]
      · exact this
      · rintro rfl
        rw [hx] at this
        exact e (Option.some.inj this)
  · rw [hl] at hz hw
    split at hz
    · simp [hy] at hz
    · split at hw
      · simp [hy] at hw
      · exact h3 m k z hz w hw
  · rw [hl]
    split
    · simp [hy, hsw]
    · exact h4 m

/-- A session moves on to another phase (R114, R115). -/
theorem State.LaneLaw.moves (h : s.LaneLaw) (l : LaneNo) (x : Session) (p : SessionPhase) (y : Lane)
    (hx : (s.lane l).session = some x) (hy : y.session = some { x with phase := p })
    (hsw : y.switch = if p.onLane then some x.bay else none) (hl : ∀ m, t.lane m = if l = m then y else s.lane m)
    (hb : ∀ b, (t.bay b).lane = (s.bay b).lane)
    (hr : ∀ i, (t.record i).custody = (s.record i).custody ∧ (t.record i).currentBay = (s.record i).currentBay) :
    t.LaneLaw := by
  obtain ⟨h1, h2, h3, h4⟩ := h
  have key : ∀ m z, (t.lane m).session = some z → ∃ w, (s.lane m).session = some w ∧ w.bay = z.bay ∧ w.record = z.record :=
    fun m z hz => by
      rw [hl] at hz
      split at hz
      · next e =>
        subst e
        rw [hy] at hz
        cases hz
        exact ⟨x, hx, rfl, rfl⟩
      · exact ⟨z, hz, rfl, rfl⟩
  refine ⟨fun m z hz => ?_, fun b m hm => ?_, fun m k z hz w hw e => ?_, fun m => ?_⟩
  · obtain ⟨w, hw, e1, e2⟩ := key m z hz
    obtain ⟨k1, k2, k3⟩ := h1 m w hw
    rw [(hr _).1, (hr _).2, hb, ← e1, ← e2]
    exact ⟨k1, k2, k3⟩
  · rw [hb] at hm
    have := h2 b m hm
    rw [hl]
    split
    · next e => subst e; rw [hx] at this; rw [hy]; exact this
    · exact this
  · obtain ⟨z', hz', a1, a2⟩ := key m z hz
    obtain ⟨w', hw', b1, b2⟩ := key k w hw
    exact h3 m k z' hz' w' hw' (by rw [a1, a2, b1, b2]; exact e)
  · rw [hl]
    split
    · rw [hy, hsw]; rfl
    · exact h4 m

/-- A lane is granted to a docked record of an empty bay (R116). -/
theorem State.LaneLaw.grants (h : s.LaneLaw) (l : LaneNo) (x : Session) (y : Lane) (hx : (s.lane l).session = none)
    (hy : y.session = some x) (hsw : y.switch = none) (hp : x.phase = .admitting)
    (hi : (s.record x.record).custody = .inCart) (hc : (s.record x.record).currentBay = some x.bay)
    (hn : ∀ m z, (s.lane m).session = some z → z.bay ≠ x.bay ∧ z.record ≠ x.record)
    (hl : ∀ m, t.lane m = if l = m then y else s.lane m)
    (hb : ∀ b, (t.bay b).lane = if x.bay = b then some l else (s.bay b).lane)
    (hr : ∀ i, (t.record i).custody = (s.record i).custody ∧ (t.record i).currentBay = (s.record i).currentBay) :
    t.LaneLaw := by
  obtain ⟨h1, h2, h3, h4⟩ := h
  refine ⟨fun m z hz => ?_, fun b m hm => ?_, fun m k z hz w hw e => ?_, fun m => ?_⟩
  · rw [hl] at hz
    rw [(hr _).1, (hr _).2, hb]
    split at hz
    · next e =>
      subst e
      rw [hy] at hz
      cases hz
      exact ⟨hi, hc, if_pos rfl⟩
    · rw [if_neg fun g => (hn m z hz).1 g.symm]
      exact h1 m z hz
  · rw [hb] at hm
    split at hm
    · next e =>
      cases hm
      rw [hl, if_pos rfl, hy, ← e]
      rfl
    · have := h2 b m hm
      rw [hl, if_neg]
      · exact this
      · rintro rfl
        simp [hx] at this
  · rw [hl] at hz hw
    split at hz <;> split at hw
    · next a b => exact a.symm.trans b
    · rw [hy] at hz
      cases hz
      obtain ⟨g1, g2⟩ := hn k w hw
      exact absurd (e.imp Eq.symm Eq.symm) (by simp [g1, g2])
    · rw [hy] at hw
      cases hw
      obtain ⟨g1, g2⟩ := hn m z hz
      exact absurd e (by simp [g1, g2])
    · exact h3 m k z hz w hw e
  · rw [hl]
    split
    · simp [hy, hsw, hp, SessionPhase.onLane]
    · exact h4 m

end Sys2Proof.Machine
end

section
/-! SUPPORT. What the operations on latches and sessions carry over. -/

namespace Sys2Proof.Machine

set_option Elab.async false

namespace State.Carries

variable {E : BayNo → Prop} {s t u : State} {b : BayNo} {i : RecordIx}

/-- A write that leaves outputs, bay states and links alone. -/
theorem deck (hl : s.LaneLaw → t.LaneLaw) (hla : s.LatchLaw → t.LatchLaw) (hrs : s.Reserves Told → t.Reserves Told)
    (hst : ∀ b, (t.bay b).state = (s.bay b).state)
    (hr : countedAmount t.reservations ≤ countedAmount s.reservations)
    (hlk : t.links = s.links := by rfl) (ho : t.outputs = s.outputs := by rfl) (hq : t.queue = s.queue := by rfl)
    (hp : t.phase = s.phase := by rfl) (he : t.effective = s.effective := by rfl)
    (hreq : s.reallocRequest = true → t.reallocRequest = true := by exact id) : s.Carries E t := by
  have hout : ∀ b, t.output b = s.output b := fun b => by simp only [State.output, ho]
  have htar : ∀ b, t.targetOf b = s.targetOf b := fun b => by simp only [State.targetOf, hout]
  have hlink : ∀ b, t.link b = s.link b := fun b => by simp only [State.link, hlk]
  refine ⟨fun b h => by rw [hst, hout, hlink]; exact h, fun b h => .inl (by rwa [hst] at h), hl, hla, hrs, fun h => ?_,
    fun b => by rw [hout], hq⟩
  exact h.falls hp hreq (fun g b => by rw [hout]; exact g b) (fun b => by rw [hout]) (fun b => by rw [htar])
    (fun b g => by rw [hout, htar]; exact g) (fun b g => by rw [hout, htar]; exact g) hr (by rw [he])

/-! ### Orders (R58, R62) -/

theorem placeCustodyOrder (b : BayNo) (o : CustodyOrder) : s.Carries E (s.placeCustodyOrder b o) := by
  unfold State.placeCustodyOrder
  split
  · exact refl s
  · exact (modLink_same b _).trans (pumpLink b)

theorem placeLaneOrder (b : BayNo) (o : LaneOrder) : s.Carries E (s.placeLaneOrder b o) := by
  unfold State.placeLaneOrder
  split
  · exact refl s
  · exact (modLink_same b _).trans (pumpLink b)

/-! ### Latches (R134 to R138) -/

theorem latchSuccess (b : BayNo) (d : Direction) : s.Carries E (s.latchSuccess b d) := by
  cases d with
  | lock =>
    simp only [State.latchSuccess]
    split
    · exact editRecord _ _
    · exact refl s
  | unlock =>
    simp only [State.latchSuccess]
    split
    · exact (setRelease b _).trans (placeCustodyOrder b _)
    · exact refl s

/-- Requests leave the latch queue. -/
theorem shorter (h : t.latchQueue.Sublist s.latchQueue) (hb : t.bays = s.bays := by rfl) (hr : t.roster = s.roster := by rfl)
    (hl : t.links = s.links := by rfl) (ho : t.outputs = s.outputs := by rfl) (hlns : t.lanes = s.lanes := by rfl)
    (hs : t.slots = s.slots := by rfl) (hres : t.reservations = s.reservations := by rfl)
    (hq : t.queue = s.queue := by rfl) (hp : t.phase = s.phase := by rfl) (he : t.effective = s.effective := by rfl)
    (hreq : s.reallocRequest = true → t.reallocRequest = true := by exact id) : s.Carries E t := by
  have hbay : ∀ b, t.bay b = s.bay b := fun b => by simp only [State.bay, hb]
  have hlane : ∀ l, t.lane l = s.lane l := fun l => by simp only [State.lane, hlns]
  have hrec : ∀ i, t.record i = s.record i := fun i => by simp only [State.record, hr]
  refine deck (fun g => g.congr hlane (fun b => by rw [hbay]) fun _ _ _ h1 h2 => by rw [hrec]; exact ⟨h1, h2⟩)
    (fun g => State.latchLaw_iff.mpr ((State.latchLaw_iff.mp g).fewer h hs fun b => by rw [hbay]))
    (fun g => g.congr hs (fun l => by rw [hlane]) hres) (fun b => by rw [hbay]) (by rw [hres]) hl ho hq hp he hreq

/-- A slot that drives no latch is freed, with its reservation (R137). -/
theorem freeReserving {k : SlotNo} {q : LatchRequest} (hk : s.slot k = .reserving q) : s.Carries E (s.freeReserving k) := by
  refine deck (fun g => g.congr (fun _ => rfl) (fun _ => rfl) fun _ _ _ h1 h2 => ⟨h1, h2⟩) (fun g => ?_) (fun g => ?_)
    (fun _ => rfl) (countedAmount_filter_le _ _) (hreq := fun _ => rfl)
  · exact State.latchLaw_iff.mpr ((State.latchLaw_iff.mp g).writeSlot k .free (List.Sublist.refl _)
      (s.slot_setSlot k · .free) (fun _ => rfl) (by simp [hk]) (.inl rfl))
  · refine g.dropTold (.latch k) rfl (fun j hj => ?_) (fun j hj => ?_) (fun _ _ => rfl) nofun
    · exact (s.slot_setSlot k j .free).trans (if_neg fun e => hj (by rw [e]))
    · exact (s.slot_setSlot k j .free).trans (if_pos (Owner.latch.inj hj).symm)

/-- A slot that is reserving for a bay takes the other direction (R135). -/
theorem redirect {k : SlotNo} {q : LatchRequest} (d : Direction) (hk : s.slot k = .reserving q) :
    s.Carries E (s.setSlot k (.reserving ⟨q.bay, d⟩)) := by
  have hs : ∀ j, (s.setSlot k (.reserving ⟨q.bay, d⟩)).slot j = if k = j then .reserving ⟨q.bay, d⟩ else s.slot j :=
    fun j => s.slot_setSlot k j _
  refine deck (fun g => g.congr (fun _ => rfl) (fun _ => rfl) fun _ _ _ h1 h2 => ⟨h1, h2⟩) (fun g => ?_) (fun g => ?_)
    (fun _ => rfl) le_rfl
  · have g := State.latchLaw_iff.mp g
    refine State.latchLaw_iff.mpr (g.writeSlot k _ (List.Sublist.refl _) hs (fun _ => rfl) (by simp [hk])
      (.inr ⟨_, rfl, fun p hp => Ne.symm (g.apart p hp k q hk), fun j p hj hp e => hj ?_⟩))
    exact g.one j k p q hp (by rw [hk]; rfl) e
  · refine g.same rfl (fun j => ?_) (fun _ => rfl) (fun o => ?_) fun o ho => ?_
    · rw [hs]; split
      · next e => subst e; simp [hk]
      · rfl
    · cases o with
      | latch j =>
        simp only [State.started, hs]
        split
        · next e => subst e; rw [hk]; rfl
        · rfl
      | lane l => rfl
    · cases o with
      | latch j =>
        simp only [State.awaits, hs] at ho ⊢
        split
        · exact ⟨_, rfl⟩
        · exact ho
      | lane l => exact ho

/-- A request is taken from the queue into a free slot (R136). -/
theorem takeSlot {k : SlotNo} {q : LatchRequest} (n : Nat) (hq : q ∈ s.latchQueue) (hh : s.slotHolds q.bay = false)
    (hk : s.slot k = .free) :
    s.Carries E ((State.setSlot { s with latchQueue := s.latchQueue.erase q } k (.reserving q)).raiseReservation
      (.latch k) n) := by
  have hs : ∀ j, ((State.setSlot { s with latchQueue := s.latchQueue.erase q } k (.reserving q)).raiseReservation
      (.latch k) n).slot j = if k = j then .reserving q else s.slot j := fun j => State.slot_setSlot _ k j _
  refine deck (fun g => g.congr (fun _ => rfl) (fun _ => rfl) fun _ _ _ h1 h2 => ⟨h1, h2⟩) (fun g => ?_) (fun g => ?_)
    (fun _ => rfl) (countedAmount_pending _ _ _).le (hreq := fun _ => rfl)
  · have g := State.latchLaw_iff.mp g
    refine State.latchLaw_iff.mpr (g.writeSlot k _ List.erase_sublist hs (fun _ => rfl) (by simp [hk])
      (.inr ⟨_, rfl, fun p hp e => ?_, fun j p _ hp => State.slotHolds_eq_false.mp hh j p hp⟩))
    have hn := g.nodup
    have hp : p ∈ s.latchQueue.erase q := hp
    have hpq : p ≠ q := fun e => by
      subst e
      exact (List.Nodup.of_map _ hn).not_mem_erase hp
    exact hpq (List.inj_on_of_nodup_map hn (List.mem_of_mem_erase hp) hq e)
  · exact g.raise (.latch k) n rfl (fun j hj => (hs j).trans (if_neg fun e => hj (by rw [e])))
      (fun j hj => by cases hj; exact ⟨hk, q, (hs k).trans (if_pos rfl)⟩) (fun _ _ => rfl) nofun

theorem serviceOne {q : LatchRequest} (hq : q ∈ s.latchQueue) : s.Carries E (s.serviceOne q) := by
  unfold State.serviceOne
  split
  · exact refl s
  · next hh =>
    split
    · refine trans (t := { s with latchQueue := s.latchQueue.erase q }) (shorter List.erase_sublist) (latchSuccess _ _)
    · split
      · next k hk => exact takeSlot _ hq (Bool.eq_false_iff.mpr hh) (State.freeSlot_eq_some hk)
      · exact refl s

theorem latchSuccess_latchQueue (s : State) (b : BayNo) (d : Direction) : (s.latchSuccess b d).latchQueue = s.latchQueue := by
  cases d with
  | lock => simp only [State.latchSuccess]; split <;> rfl
  | unlock =>
    simp only [State.latchSuccess]
    split
    · simp only [State.openRelease, State.placeCustodyOrder]; split <;> rfl
    · rfl

/-- Slot service takes the request from the queue, or leaves the queue. -/
theorem serviceOne_latchQueue (s : State) (q : LatchRequest) :
    (s.serviceOne q).latchQueue = s.latchQueue ∨ (s.serviceOne q).latchQueue = s.latchQueue.erase q := by
  unfold State.serviceOne
  split
  · exact .inl rfl
  · split
    · exact .inr (latchSuccess_latchQueue _ _ _)
    · split
      · exact .inr rfl
      · exact .inl rfl

theorem serviceAll (l : List LatchRequest) : ∀ {s : State}, l.Subperm s.latchQueue → s.Carries E (l.foldl State.serviceOne s) := by
  induction l with
  | nil => exact fun _ => refl _
  | cons q l ih =>
    intro s h
    refine (serviceOne (h.subset List.mem_cons_self)).trans (ih ?_)
    obtain e | e := serviceOne_latchQueue s q <;> rw [e]
    · exact (List.sublist_cons_self q l).subperm.trans h
    · simpa using h.erase q

theorem slotService : s.Carries E s.slotService := serviceAll _ (List.Subperm.refl _)

theorem placeRequest (b : BayNo) (d : Direction) : s.Carries E (s.placeRequest b d) := by
  unfold State.placeRequest
  split
  · next k hk =>
    obtain ⟨q, hq, rfl⟩ := State.reservingSlot_eq_some hk
    split
    · exact ((freeReserving hq).trans (latchSuccess _ _)).trans slotService
    · exact (redirect d hq).trans slotService
  · next hk =>
    refine trans (t := { s with latchQueue := queueRequest b d s.latchQueue }) ?_ slotService
    exact deck (fun g => g.congr (fun _ => rfl) (fun _ => rfl) fun _ _ _ h1 h2 => ⟨h1, h2⟩)
      (fun g => State.latchLaw_iff.mpr ((State.latchLaw_iff.mp g).joins b d hk rfl rfl fun _ => rfl))
      (fun g => g.congr rfl (fun _ => rfl) rfl) (fun _ => rfl) le_rfl

theorem lockUnlessService (b : BayNo) : s.Carries E (s.lockUnlessService b) := by
  unfold State.lockUnlessService
  split
  · exact refl s
  · exact placeRequest b _

theorem bay_latch_setLatch (s : State) (b : BayNo) (p : LatchPosition) (c : BayNo) :
    ((s.setLatch b p).bay c).latch = if b = c then p else (s.bay c).latch := by
  simp only [State.setLatch, State.bay_modBay]
  split <;> rfl

theorem bay_same_setLatch (s : State) (b : BayNo) (p : LatchPosition) (c : BayNo) :
    ((s.setLatch b p).bay c).lane = (s.bay c).lane ∧ ((s.setLatch b p).bay c).state = (s.bay c).state := by
  simp only [State.setLatch, State.bay_modBay]
  split
  · next e => subst e; exact ⟨rfl, rfl⟩
  · exact ⟨rfl, rfl⟩

/-- A drive ends, and its latch takes a position (R138). -/
theorem endDrive {k : SlotNo} {q : LatchRequest} {p : LatchPosition} (hk : (s.slot k).request = some q) (hp : p ≠ .moving) :
    s.Carries E ((s.endSlot k).setLatch q.bay p) := by
  have hs : ∀ j, ((s.endSlot k).setLatch q.bay p).slot j = if k = j then .free else s.slot j := fun j => s.slot_setSlot k j _
  have hb := bay_latch_setLatch (s.endSlot k) q.bay p
  have hc := bay_same_setLatch (s.endSlot k) q.bay p
  refine deck (fun g => g.congr (fun _ => rfl) (fun b => (hc b).1) fun _ _ _ h1 h2 => ⟨h1, h2⟩)
    (fun g => State.latchLaw_iff.mpr ((State.latchLaw_iff.mp g).ends k q p hk hp rfl hs hb)) (fun g => ?_)
    (fun b => (hc b).2) (countedAmount_filter_le _ _) (hreq := fun _ => rfl)
  exact g.dropTold (.latch k) rfl (fun j hj => (hs j).trans (if_neg fun e => hj (by rw [e])))
    (fun j hj => (hs j).trans (if_pos (Owner.latch.inj hj).symm)) (fun _ _ => rfl) nofun

theorem target_ne_moving (d : Direction) : d.target ≠ .moving := by cases d <;> simp [Direction.target]

theorem driveSuccess {k : SlotNo} {q : LatchRequest} (hk : (s.slot k).request = some q) : s.Carries E (s.driveSuccess k q) :=
  ((endDrive hk (target_ne_moving _)).trans (latchSuccess _ _)).trans slotService

/-- A latch that no slot drives takes a position (R134). -/
theorem restLatch {p : LatchPosition} (hk : s.drivingSlot b = none) (hp : p ≠ .moving) : s.Carries E (s.setLatch b p) := by
  have hb := bay_latch_setLatch s b p
  have hc := bay_same_setLatch s b p
  exact deck (fun g => g.congr (fun _ => rfl) (fun b => (hc b).1) fun _ _ _ h1 h2 => ⟨h1, h2⟩)
    (fun g => State.latchLaw_iff.mpr ((State.latchLaw_iff.mp g).rests b p hp hk rfl rfl hb))
    (fun g => g.congr rfl (fun _ => rfl) rfl) (fun b => (hc b).2) le_rfl

theorem dropReserving (b : BayNo) (d : Direction) : s.Carries E (s.dropReserving b d) := by
  unfold State.dropReserving
  split
  · split
    · next h => exact (freeReserving h).trans slotService
    · exact refl s
  · exact refl s

theorem dropQueued (b : BayNo) (d : Direction) : s.Carries E (s.dropQueued b d) := shorter List.filter_sublist

theorem dropLocks (b : BayNo) : s.Carries E (s.dropLocks b) := (dropQueued b _).trans (dropReserving b _)

theorem endReleaseByHold (b : BayNo) : s.Carries E (s.endReleaseByHold b) :=
  ((setRelease b _).trans (dropQueued b _)).trans (dropReserving b _)

theorem relockAfterHold (b : BayNo) : s.Carries E (s.relockAfterHold b) := by
  unfold State.relockAfterHold
  simp only
  split
  · exact placeCustodyOrder b _
  · exact (placeCustodyOrder b _).trans (placeRequest b _)

theorem receiveInCart (b : BayNo) : s.Carries E (s.receiveInCart b) := by
  unfold State.receiveInCart
  simp only
  split
  · exact (placeCustodyOrder b _).trans (placeRequest b _)
  · exact placeCustodyOrder b _

theorem releaseReported (b : BayNo) (o : OrderOutcome) : s.Carries E (s.releaseReported b o) := by
  rcases s.releaseReported_cases b o with ⟨-, e⟩ | ⟨-, i, x, y, hr, e⟩ <;> rw [e]
  · exact refl s
  · exact setRelease b _

/-- A RELEASING record's release lapses (R147). -/
theorem lapseRelease (b : BayNo) (i : RecordIx) (hi : (s.record i).custody = .releasing) : s.Carries E (s.lapseRelease b i) :=
  ((((editOutside i _ (.inl (by simp [hi]))).trans (addSubject _ _)).trans (setRelease b _)).trans
    (placeCustodyOrder b _)).trans (lockUnlessService b)

theorem driveFailure {k : SlotNo} {q : LatchRequest} (hk : (s.slot k).request = some q) : s.Carries E (s.driveFailure k q) := by
  unfold State.driveFailure
  refine trans (((endDrive hk (p := .unknown) (by simp)).trans (addSubject Source.latchFault q.bay.val)).trans ?_) slotService
  generalize State.addSubject _ _ _ = t
  cases q.direction with
  | lock =>
    simp only [State.latchFailure]
    split
    · split
      · exact editRecord _ _
      · exact refl _
    · exact refl _
  | unlock =>
    simp only [State.latchFailure]
    split
    · next i hi =>
      refine lapseRelease _ _ ?_
      unfold State.unlockingRecord at hi
      split at hi
      · split at hi
        · next h => cases hi; exact h.1
        · simp at hi
      · simp at hi
    · exact refl _

/-! ### Sessions (R114, R125) -/

theorem quietFor (x : Session) : s.Carries E (s.quietFor x) := by
  unfold State.quietFor
  split
  · exact placeLaneOrder _ _
  · exact refl s

theorem afterSession_custody (n : Nat) (x : SessionResult) (r : Record) :
    (r.afterSession n x).custody = r.custody ∧ (r.afterSession n x).currentBay = r.currentBay := by
  unfold Record.afterSession
  split
  · exact ⟨rfl, rfl⟩
  · split
    · exact ⟨rfl, rfl⟩
    · split <;> exact ⟨rfl, rfl⟩

/-- The lane, the bay's lane and the reservation of a session that ends. -/
theorem vacate {l : LaneNo} {x : Session} {y : Lane} (hx : (s.lane l).session = some x) (hy : y.session = none)
    (hsw : y.switch = none) :
    s.Carries E (((s.setLane l y).dropReservation (.lane l)).modBay x.bay fun b => { b with lane := none }) := by
  have hlane : ∀ m, (((s.setLane l y).dropReservation (.lane l)).modBay x.bay fun b => { b with lane := none }).lane m =
      if l = m then y else s.lane m := fun m => s.lane_setLane l m y
  have hbay : ∀ c, ((((s.setLane l y).dropReservation (.lane l)).modBay x.bay fun b => { b with lane := none }).bay c) =
      if x.bay = c then { s.bay x.bay with lane := none } else s.bay c := fun c => State.bay_modBay _ x.bay c _
  refine deck (fun g => ?_) (fun g => g.congr rfl rfl fun c => ?_) (fun g => ?_) (fun c => ?_)
    (countedAmount_filter_le _ _) (hreq := fun _ => rfl)
  · refine g.ends l x y hx hy hsw hlane (fun c => ?_) fun _ => ⟨rfl, rfl⟩
    rw [hbay]; split <;> rfl
  · rw [hbay]; split
    · next e => subst e; rfl
    · rfl
  · refine g.dropTold (.lane l) rfl (fun _ _ => rfl) nofun (fun m hm => ?_) fun m hm => ?_
    · rw [hlane, if_neg fun e => hm (by rw [e])]
    · rw [hlane, if_pos (Owner.lane.inj hm).symm, hy]
  · rw [hbay]; split
    · next e => subst e; rfl
    · rfl

/-- The lane of a session that ends, with QUIET for the tablet: QUIET and the reservation concern different blocks. -/
theorem endSession_eq {l : LaneNo} {x : Session} (r : SessionResult) (hx : (s.lane l).session = some x) :
    s.endSession l r = ((((((s.setLane l ⟨none, some ⟨r, x.record, x.phase.claimed⟩, none⟩).dropReservation (.lane l)).modBay
      x.bay fun y => { y with lane := none }).quietFor x).editRecord x.record
        (Record.afterSession s.laneSettings.failureLimit r)).addSubject Source.laneEnd l.val) := by
  unfold State.endSession
  simp only [hx]
  have hq : ∀ t : State, ((t.quietFor x).dropReservation (.lane l)).modBay x.bay (fun y => { y with lane := none }) =
      ((t.dropReservation (.lane l)).modBay x.bay fun y => { y with lane := none }).quietFor x := fun t => by
    have hb : (((t.dropReservation (.lane l)).modBay x.bay fun y => { y with lane := none }).bay x.bay).record =
        (t.bay x.bay).record := by simp [State.dropReservation]; rfl
    unfold State.quietFor
    rw [hb]
    split
    · unfold State.placeLaneOrder
      have hl : (((t.dropReservation (.lane l)).modBay x.bay fun y => { y with lane := none }).link x.bay) = t.link x.bay := rfl
      rw [hl]
      split <;> rfl
    · rfl
  rw [hq]
  have hs : ∀ t : State, (t.quietFor x).laneSettings = t.laneSettings := fun t => by
    unfold State.quietFor State.placeLaneOrder
    split
    · split <;> rfl
    · rfl
  rw [hs]
  rfl

theorem endSession (l : LaneNo) (r : SessionResult) : s.Carries E (s.endSession l r) := by
  cases hx : (s.lane l).session with
  | none => unfold State.endSession; simp only [hx]; exact refl s
  | some x =>
    rw [endSession_eq r hx]
    obtain ⟨h1, h2⟩ := afterSession_custody s.laneSettings.failureLimit r (State.record
      ((((s.setLane l ⟨none, some ⟨r, x.record, x.phase.claimed⟩, none⟩).dropReservation (.lane l)).modBay
        x.bay fun y => { y with lane := none }).quietFor x) x.record)
    exact (((vacate hx rfl rfl).trans (quietFor x)).trans (editRecord _ _ h1 h2)).trans (addSubject _ _)

theorem endSessionOf (i : RecordIx) (r : SessionResult) : s.Carries E (s.endSessionOf i r) := by
  unfold State.endSessionOf
  split
  · exact endSession _ _
  · exact refl s

end State.Carries

end Sys2Proof.Machine
end

section
/-! SUPPORT. What the operations of the Dock Supervisor carry over. -/

namespace Sys2Proof.Machine

set_option Elab.async false

namespace State.Carries

variable {E : BayNo → Prop} {s t u : State} {b : BayNo} {i : RecordIx}

/-! ### A record leaves its session (R125) -/

theorem laneOf_eq_some {l : LaneNo} (h : s.laneOf i = some l) : ∃ x, (s.lane l).session = some x ∧ x.record = i := by
  have := List.find?_some h
  split at this
  · exact ⟨_, ‹_›, by simpa using this⟩
  · simp at this

theorem laneOf_eq_none : s.laneOf i = none ↔ ∀ l x, (s.lane l).session = some x → x.record ≠ i := by
  simp only [State.laneOf, List.find?_eq_none, allLanes, List.mem_finRange, forall_true_left]
  refine forall_congr' fun l => ?_
  cases h : (s.lane l).session <;> simp

theorem lane_quietFor (s : State) (x : Session) (m : LaneNo) : (s.quietFor x).lane m = s.lane m := by
  unfold State.quietFor State.placeLaneOrder
  split
  · split <;> rfl
  · rfl

/-- The lanes where a session ends. -/
theorem lane_endSession {l : LaneNo} {x : Session} (r : SessionResult) (hx : (s.lane l).session = some x) (m : LaneNo) :
    (s.endSession l r).lane m = if l = m then ⟨none, some ⟨r, x.record, x.phase.claimed⟩, none⟩ else s.lane m := by
  rw [endSession_eq r hx]
  refine (lane_quietFor _ x m).trans ?_
  exact s.lane_setLane l m _

/-- Under the lane law a record has no session left. -/
theorem unseated (h : s.LaneLaw) (i : RecordIx) (r : SessionResult) (l : LaneNo) (x : Session)
    (hx : ((s.endSessionOf i r).lane l).session = some x) : x.record ≠ i := by
  obtain ⟨-, -, h3, -⟩ := h
  unfold State.endSessionOf at hx
  split at hx
  · next m hm =>
    obtain ⟨y, hy, rfl⟩ := laneOf_eq_some hm
    rw [lane_endSession r hy] at hx
    split at hx
    · simp at hx
    · next e => exact fun g => e (h3 m l y hy x hx (.inr g.symm))
  · next hm => exact laneOf_eq_none.mp hm l x hx

/-- A record whose session has ended is rewritten. -/
theorem unseat (i : RecordIx) (r : SessionResult) (x : Record) : s.Carries E ((s.endSessionOf i r).putRecord i x) := by
  refine (endSessionOf i r).thenWrite (fun h => ?_) (fun _ => rfl) (fun _ => rfl) fun _ _ h => h
  refine ((endSessionOf (E := E) i r).lanes h).congr (fun _ => rfl) (fun _ => rfl) fun l y hy h1 h2 => ?_
  rw [State.record_putRecord, if_neg fun e => unseated h i r l y hy e.symm]
  exact ⟨h1, h2⟩

/-! ### Undocks (R8, R29, R36) -/

theorem ceaseNaming (b : BayNo) : s.Carries E (s.ceaseNaming b) :=
  (((modBay_same b fun x => { x with record := none }).trans (modLink_same b Link.emptySlots)).trans
    (modEntry b AllocEntry.forget)).trans (modOutput_same b fun o => { o with remainder := 0 })

theorem undockRecord (b : BayNo) (i : RecordIx) (r : SessionResult) (x : Bool) :
    s.Carries E ((s.endSessionOf i r).undockRecord b i x) := by
  have h1 : s.Carries E ((s.endSessionOf i r).modRecord i (Record.leaveBay x)) := unseat i r _
  have hb : (((s.endSessionOf i r).modRecord i (Record.leaveBay x)).record i).currentBay = none := by
    rw [State.record_modRecord, if_pos rfl]
    rfl
  revert h1 hb
  unfold State.undockRecord
  simp only
  generalize State.modRecord _ i _ = t
  intro h1 hb
  cases (t.record i).custody with
  | inCart => exact (h1.trans (editOutside i _ (.inr hb))).trans (addSubject _ _)
  | releasing => exact ((h1.trans (editOutside i _ (.inr hb))).trans (addSubject _ _)).trans (setRelease b _)
  | retiring => exact h1.trans (setOutside i _ (.inr hb))
  | held => exact h1.trans (addSubject _ _)
  | free => exact h1
  | away => exact h1
  | loaned => exact h1
  | overdue => exact h1
  | adrift => exact h1

theorem undock (b : BayNo) (e : Bool) : s.Carries E (s.undock b e) := by
  unfold State.undock
  split
  · exact refl s
  · next i _ =>
    simp only
    refine trans ?_ requestPass
    have h := (ceaseNaming (E := E) (s := s) b).trans (undockRecord b i .aborted (s.link b).custody.holdsRelease)
    split
    · exact h.trans (dropLocks b)
    · exact h

/-! ### Partners, and bays emptied and brought up (R28, R29, R35, R40) -/

theorem not_off {x : BayState} (h1 : x ≠ .disabled := by simp) (h2 : x ≠ .empty := by simp) : ¬x.off := fun h => h.elim h1 h2

theorem releasePartner (b : BayNo) : s.Carries E (s.releasePartner b) := by
  unfold State.releasePartner
  split
  · exact refl s
  · split
    · exact (off _ _ _ _ not_off).trans requestPass
    · exact modBay_same _ _
    iterate 5 exact refl s

theorem releasePartnerIf (b : BayNo) (x : Bool) : s.Carries E (if x then s.releasePartner b else s) := by
  split
  · exact releasePartner b
  · exact refl s

theorem enterBringup (b : BayNo) : s.Carries E (s.enterBringup b) := off b _ _ _ not_off

/-- The release of a partner leaves the bay's own link and output. -/
theorem releasePartner_own (h : (s.bay b).partner ≠ some b) :
    (s.releasePartner b).link b = s.link b ∧ (s.releasePartner b).output b = s.output b := by
  unfold State.releasePartner
  split
  · exact ⟨rfl, rfl⟩
  · next p hp =>
    have hpb : p ≠ b := fun e => h (e ▸ hp)
    split
    · refine ⟨?_, ?_⟩
      · exact (State.link_modLink _ p b _).trans (if_neg hpb)
      · exact (State.output_modOutput _ p b _).trans (if_neg hpb)
    iterate 6 exact ⟨rfl, rfl⟩

theorem emptyBay (b : BayNo) (d : BayState) (hE : E b)
    (hp : ((s.undock b true).bay b).partner ≠ some b) : s.Carries E (s.emptyBay b d) := by
  have h2 : s.Carries E (((s.undock b true).modLink b fun _ => Link.downValues).dropOutput b .off) :=
    ((undock b true).trans (modLink b _ fun _ _ => ⟨rfl, rfl, rfl⟩)).trans (dropOutput b _)
  have hl : (((s.undock b true).modLink b fun _ => Link.downValues).dropOutput b .off).link b = Link.downValues :=
    (State.link_modLink (s.undock b true) b b fun _ => Link.downValues).trans (if_pos rfl)
  have ho : ((((s.undock b true).modLink b fun _ => Link.downValues).dropOutput b .off).output b).Dropped := by
    rw [show (((s.undock b true).modLink b fun _ => Link.downValues).dropOutput b .off).output b =
      Output.drop .off ((s.undock b true).output b) from (State.output_modOutput _ b b _).trans (if_pos rfl)]
    exact Output.dropped_drop _ _
  have hp' : ((((s.undock b true).modLink b fun _ => Link.downValues).dropOutput b .off).bay b).partner ≠ some b := by
    rw [State.dropOutput, State.bay_modBay, if_pos rfl]
    exact hp
  unfold State.emptyBay
  simp only
  revert h2 hl ho hp'
  generalize State.dropOutput _ b .off = t
  intro h2 hl ho hp'
  have h3 : s.Carries E (if (s.bay b).partnered then t.releasePartner b else t) := h2.trans (releasePartnerIf b _)
  have hl3 : (if (s.bay b).partnered then t.releasePartner b else t).link b = Link.downValues := by
    split
    · exact (releasePartner_own hp').1.trans hl
    · exact hl
  have ho3 : ((if (s.bay b).partnered then t.releasePartner b else t).output b).Dropped := by
    split
    · rw [(releasePartner_own hp').2]; exact ho
    · exact ho
  revert h3 hl3 ho3
  generalize (if (s.bay b).partnered then t.releasePartner b else t) = w
  intro h3 hl3 ho3
  have h4 : s.Carries E (w.modBay b fun y => { y.strip with state := d }) :=
    h3.trans (modBay b _ (fun _ => .inr ho3) fun _ => .inr ⟨by rw [hl3]; exact ⟨rfl, rfl, rfl⟩, hE⟩)
  refine trans ?_ (requestPassIf _)
  split
  · exact h4.trans (addSubject _ _)
  · exact h4

/-! ### Docks, foreign bays and collisions (R31 to R36, R39) -/

/-- A bay takes a state in which its output stays as it is. -/
theorem become (b : BayNo) (f : Bay → Bay) (h : ∀ x, (f x).state = .identified ∨ (f x).state = .foreign ∨ (f x).state = .collided)
    (h2 : (f (s.bay b)).lane = (s.bay b).lane := by rfl) (h3 : (f (s.bay b)).latch = (s.bay b).latch := by rfl) :
    s.Carries E (s.modBay b f) := by
  have hs : ¬(f (s.bay b)).state.switchedOff ∧ ¬(f (s.bay b)).state.off := by
    unfold BayState.switchedOff BayState.off
    obtain e | e | e := h (s.bay b) <;> simp [e]
  exact modBay b f (fun g => absurd g hs.1) (fun g => absurd g hs.2) h2 h3

theorem dock (b : BayNo) (i : RecordIx) (hi : (s.record i).currentBay = none) : s.Carries E (s.dock b i) := by
  have h1 : s.Carries E ((((s.modBay b fun x => { x.strip with state := .identified, record := some i }).modEntry b
      AllocEntry.forget).modOutput b fun o => { o with remainder := 0 }).modRecord i (Record.enterBay b)) :=
    (((become b _ fun _ => .inl rfl).trans (modEntry b _)).trans (modOutput_same b _)).trans (modOutside i _ (.inr hi))
  revert h1
  unfold State.dock
  simp only
  generalize State.modRecord _ i _ = t
  intro h1
  refine trans ?_ requestPass
  have h2 : s.Carries E (if (s.record i).custody = .loaned ∨ (s.record i).custody = .overdue then
      t.addSubject Source.returned i.val else t) := by
    split
    · exact h1.trans (addSubject _ _)
    · exact h1
  revert h2
  generalize ite ((s.record i).custody = .loaned ∨ (s.record i).custody = .overdue) _ _ = w
  intro h2
  split
  · exact h2.trans (receiveInCart b)
  · exact h2

theorem writeIdent (b : BayNo) (id : Ident) : s.Carries E (s.writeIdent b id) := by
  unfold State.writeIdent
  split
  · exact editRecord _ _
  · exact refl s

theorem becomeForeign (b : BayNo) (x : TabletId) (c : ForeignCause) : s.Carries E (s.becomeForeign b x c) :=
  ((become b _ fun _ => .inr (.inl rfl)).trans (addSubject _ _)).trans requestPass

theorem collideRecord (c : BayNo) (i : RecordIx) : s.Carries E (s.collideRecord c i) := by
  have h : s.Carries E (((s.ceaseNaming c).endSessionOf i .aborted).modRecord i fun r =>
      { r.held .collision with currentBay := none }) := (ceaseNaming c).trans (unseat i .aborted _)
  unfold State.collideRecord
  simp only
  split
  · exact h.trans (endReleaseByHold c)
  · exact h

theorem markCollision (b c : BayNo) (x : TabletId) : s.Carries E (s.markCollision b c x) := by
  have h1 : s.Carries E (s.modBay b fun y => { y.strip with state := .collided, reportedId := some x, partner := some c }) :=
    become b _ fun _ => .inr (.inr rfl)
  revert h1
  unfold State.markCollision
  simp only
  generalize State.modBay s b _ = t
  intro h1
  refine (((h1.trans (modBay c _ (fun g => .inl ?_) fun g => ?_)).trans (addSubject _ _)).trans (addSubject _ _)).trans requestPass
  · by_contra n
    simp only at g
    split at g
    · next e => exact n (by simp [BayState.switchedOff, e])
    · simp [BayState.switchedOff] at g
  · simp only at g
    split at g <;> simp [BayState.off] at g

theorem collide (b c : BayNo) (i : RecordIx) (x : TabletId) : s.Carries E (s.collide b c i x) :=
  (collideRecord c i).trans (markCollision b c x)

theorem matchId (b : BayNo) (x : TabletId) : s.Carries E (s.matchId b x) := by
  unfold State.matchId
  split
  · exact becomeForeign b x _
  · split
    · exact dock b _ ‹_›
    · exact collide b _ _ x

theorem matchIdent (b : BayNo) (id : Ident) : s.Carries E (s.matchIdent b id) := by
  unfold State.matchIdent
  simp only
  refine trans (trans ?_ (addSubject _ _)) requestPass
  split
  · exact (matchId b _).trans (writeIdent b id)
  · exact becomeForeign b _ _

theorem matchEnrol (i : RecordIx) (x : TabletId) (hi : (s.record i).currentBay = none) : s.Carries E (s.matchEnrol i x) := by
  unfold State.matchEnrol
  split
  · exact refl s
  · exact (dock _ i hi).trans (addSubject _ _)
  · exact (((dock _ i hi).trans (addSubject _ _)).trans (collide _ _ i x)).trans (addSubject _ _)

theorem recover (b : BayNo) : s.Carries E (s.recover b) :=
  (((releasePartnerIf b _).trans (become b _ fun _ => .inl rfl)).trans (modOutput_same b _)).trans requestPass

theorem superviseIdent (b : BayNo) (id : Ident) : s.Carries E (s.superviseIdent b id) := by
  have compared : s.Carries E (match s.compare b id with
      | .same => (s.sameIdentity b id).requestPass
      | .other => s.otherIdentity b id
      | .noIdentity => s.requestPass) := by
    split
    · refine trans ?_ requestPass
      unfold State.sameIdentity
      simp only
      split
      · exact (writeIdent b id).trans (recover b)
      · split
        · exact (writeIdent b id).trans (matchIdent b id)
        · exact writeIdent b id
    · exact ((((undock b false).trans (releasePartnerIf b _)).trans (modBay_same b _)).trans (addSubject _ _)).trans
        (matchIdent b id)
    · exact requestPass
  unfold State.superviseIdent
  split
  · exact matchIdent b id
  iterate 4 exact compared
  iterate 2 exact refl s

/-! ### Faults (R37, R38, R65) -/

/-- A bay that has a link takes a state, and its output is dropped. -/
theorem fall (b : BayNo) (f : Bay → Bay) (c : ChargeState) (hd : ¬(f (s.bay b)).state.off)
    (h2 : (f (s.bay b)).lane = (s.bay b).lane := by rfl) (h3 : (f (s.bay b)).latch = (s.bay b).latch := by rfl) :
    s.Carries E ((s.modBay b f).dropOutput b c) := by
  have e : (s.modBay b f).modLink b id = s.modBay b f := by simp [State.modLink, State.setLink, State.link]
  rw [← e]
  exact off b f id c hd h2 h3

theorem loseIdentity (b : BayNo) : s.Carries E (s.loseIdentity b) := by
  have key : s.Carries E ((if (s.bay b).state = .collided then s.releasePartner b else s).modBay b fun x =>
      { x with reportedId := none, foreignCause := none, partner := none }) := by
    refine trans ?_ (modBay_same b _)
    split
    · exact releasePartner b
    · exact refl s
  unfold State.loseIdentity
  split
  iterate 2 exact key
  iterate 5 exact refl s

theorem cut (b : BayNo) : s.Carries E (s.cut b) :=
  (((loseIdentity b).trans (fall b _ _ not_off)).trans (addSubject _ _)).trans requestPass

theorem holdByLink (b : BayNo) (i : RecordIx) : s.Carries E (s.holdByLink b i) := by
  have h : s.Carries E ((s.endSessionOf i .aborted).editRecord i (Record.held .link)) := unseat i .aborted _
  unfold State.holdByLink
  simp only
  split
  · exact (h.trans (endReleaseByHold b)).trans (relockAfterHold b)
  · exact h

theorem faultLink (b : BayNo) : s.Carries E (s.faultLink b) := by
  unfold State.faultLink
  simp only
  refine trans (trans (trans (trans ?_ (loseIdentity b)) (fall b _ _ not_off)) (addSubject _ _)) requestPass
  split
  · exact holdByLink b _
  · exact refl s

theorem verificationUnanswered (b : BayNo) : s.Carries E (s.verificationUnanswered b) := by
  unfold State.verificationUnanswered
  split
  · exact endSession _ _
  · exact refl s

theorem verificationAnswered (b : BayNo) (g : Byte) : s.Carries E (s.verificationAnswered b g) := by
  unfold State.verificationAnswered
  split
  · exact endSession _ _
  · exact refl s

/-- A link rewritten in a bay that has one. -/
theorem modLinkOn (b : BayNo) (f : Link → Link) (hb : ¬(s.bay b).state.off) : s.Carries E (s.modLink b f) :=
  modLink b f fun h _ => absurd h hb

theorem linkFailed (hb : ¬(s.bay b).state.off) : s.Carries E (s.linkFailed b) := by
  unfold State.linkFailed
  simp only
  split
  · exact ((modLinkOn b _ hb).trans (verificationUnanswered b)).trans (faultLink b)
  · exact (modLinkOn b _ hb).trans (faultLink b)

theorem bringupFailed (hb : ¬(s.bay b).state.off) : s.Carries E (s.bringupFailed b) := by
  unfold State.bringupFailed
  simp only
  split
  · exact (modLinkOn b _ hb).trans (linkFailed hb)
  · exact (modLinkOn b _ hb).trans (modLinkOn b _ hb)

theorem helloFailed (hb : ¬(s.bay b).state.off) : s.Carries E (s.helloFailed b) := by
  unfold State.helloFailed
  simp only
  split
  · exact (modLinkOn b _ hb).trans (modLinkOn b _ hb)
  · split
    · exact (modLinkOn b _ hb).trans (bringupFailed hb)
    · exact (modLinkOn b _ hb).trans (modLinkOn b _ hb)

theorem exchangeFails (hb : ¬(s.bay b).state.off) : s.Carries E (s.exchangeFails b) := by
  unfold State.exchangeFails
  split
  · exact refl s
  · exact helloFailed hb
  iterate 4 exact modLinkOn b _ hb

theorem resetLink (h : (s.link b).state = .failed ∨ (s.link b).state = .up) : s.Carries E (s.resetLink b) := by
  have h1 : s.Carries E (s.modLink b (Link.beginBringup true)) := modLink b _ fun _ ⟨g, _⟩ => by simp [g] at h
  unfold State.resetLink
  simp only
  split
  · split
    · exact h1.trans (modBay_same b _)
    · exact ((h1.trans (releasePartnerIf b _)).trans (enterBringup b)).trans requestPass
  · exact h1

theorem identTaken (h : ¬(s.bay b).state.off) (id : Ident) : s.Carries (fun _ => False) (s.identTaken b id) := by
  have h1 : s.Carries (fun _ => False) ((s.modLink b fun l => { l with exchange := none }).superviseIdent b id) :=
    (modLink_same b (fun l => { l with exchange := none }) fun _ => ⟨rfl, rfl, fun _ => rfl⟩).trans (superviseIdent b id)
  revert h1
  unfold State.identTaken
  simp only
  generalize State.superviseIdent _ b id = t
  intro h1
  have hn : ¬(t.bay b).state.off := fun g => by
    obtain e | e := h1.stays b g
    · exact h e
    · exact e
  exact h1.trans (modLinkOn b _ hn)

theorem telemetryTaken (b : BayNo) (x : Telemetry) : s.Carries E (s.telemetryTaken b x) := by
  have h1 : s.Carries E (s.modLink b fun l => l.exchangeDone.countTelemetry) :=
    modLink_same b _ fun _ => ⟨rfl, rfl, fun _ => rfl⟩
  have h2 : s.Carries E ((s.modLink b fun l => l.exchangeDone.countTelemetry).telemetryWritten b x) := by
    refine h1.trans ?_
    unfold State.telemetryWritten
    split
    · exact ((editRecord _ _).trans (modEntry b _)).trans (requestPassIf _)
    · exact refl _
  unfold State.telemetryTaken State.answerVerify
  split
  · exact (h2.trans (modLink_same b _)).trans (verificationAnswered b _)
  · exact h2

end State.Carries

end Sys2Proof.Machine
end

section
/-! SUPPORT. What every command's writes carry over, before its change closes. -/

namespace Sys2Proof.Machine

set_option Elab.async false

/-- An output rewritten so that it does not rise. -/
structure Output.Falls (o p : Output) : Prop where
  dropped : o.Dropped → p.Dropped
  closed : (0 < o.commitment → o.closed = true) → 0 < p.commitment → p.closed = true
  confirmed : o.inMotion = true ∨ o.settled = o.issued → p.inMotion = true ∨ p.settled = p.issued
  commitment : p.commitment ≤ o.commitment

namespace Output.Falls

variable {o p q : Output}

theorem refl (o : Output) : o.Falls o := ⟨id, id, id, le_rfl⟩

theorem trans (h : o.Falls p) (g : p.Falls q) : o.Falls q :=
  ⟨g.dropped ∘ h.dropped, fun k => g.closed (h.closed k), g.confirmed ∘ h.confirmed, g.commitment.trans h.commitment⟩

theorem untarget (o : Output) : o.Falls { o with target := none } :=
  ⟨fun ⟨h1, h2, h3, h4, _⟩ => ⟨h1, h2, h3, h4, rfl⟩, id, id, le_rfl⟩

/-- A setpoint in motion gives way to the settled one (R104). -/
theorem restore (o : Output) : o.Falls o.restore := by
  unfold Output.restore
  split
  · next h =>
    refine ⟨fun ⟨_, _, _, g, _⟩ => by simp [g] at h, fun g hp => ?_, fun _ => .inl rfl, ?_⟩
    · have hc : o.closed = true := g (lt_of_lt_of_le hp (by simp [Output.issue, Output.commitment]))
      simp [Output.issue, hc]
    · simp [Output.issue, Output.commitment]
  · exact refl o

end Output.Falls

namespace State.Carries

variable {E : BayNo → Prop} {s t u : State} {b : BayNo} {i : RecordIx}

/-! ### The budget recomputed (R71, R104) -/

/-- Outputs written so that none rises, and a pass that is due at once. -/
theorem passDue (hf : ∀ b, (s.output b).Falls (t.output b)) (hdue : t.PassDue)
    (hr : s.Reserves Told → t.Reserves Told)
    (hb : t.bays = s.bays := by rfl) (hro : t.roster = s.roster := by rfl) (hl : t.links = s.links := by rfl)
    (hln : t.lanes = s.lanes := by rfl) (hs : t.slots = s.slots := by rfl) (hlq : t.latchQueue = s.latchQueue := by rfl)
    (hq : t.queue = s.queue := by rfl) : s.Carries E t := by
  have hbay : ∀ b, t.bay b = s.bay b := fun b => by simp only [State.bay, hb]
  have hrec : ∀ i, t.record i = s.record i := fun i => by simp only [State.record, hro]
  have hlink : ∀ b, t.link b = s.link b := fun b => by simp only [State.link, hl]
  have hlane : ∀ l, t.lane l = s.lane l := fun l => by simp only [State.lane, hln]
  refine ⟨fun b h => ?_, fun b h => .inl (by rwa [hbay] at h),
    fun h => h.congr hlane (fun b => by rw [hbay]) fun _ _ _ g1 g2 => by rw [hrec]; exact ⟨g1, g2⟩,
    fun h => h.congr hs hlq fun b => by rw [hbay], hr, fun h => ⟨fun b => (hf b).confirmed (h.1 b), .inl hdue⟩,
    fun b => (hf b).commitment, hq⟩
  rw [hbay, hlink]
  exact ⟨fun g => (hf b).dropped (h.rest g), (hf b).closed h.closed, h.down⟩

/-- A fall of B_eff ends the pass (R104): outputs, reservations and the pass marks alone are written. -/
theorem budgetFall_only (s : State) : s.budgetFall = { s with
    outputs := s.budgetFall.outputs, phase := s.budgetFall.phase, passPending := s.budgetFall.passPending
    reallocRequest := s.budgetFall.reallocRequest, reservations := s.budgetFall.reservations } := by
  unfold State.budgetFall
  cases s.phase <;> rfl

theorem budgetFall_due (h : s.reallocRequest = true) : s.budgetFall.PassDue := by
  unfold State.budgetFall
  split
  · exact ⟨‹_›, h⟩
  · exact ⟨rfl, by simp [State.endPass, h]⟩
  · exact ⟨rfl, by simp [State.endPass, h]⟩

theorem endPass_falls (s : State) (b : BayNo) : (s.output b).Falls (s.endPass.output b) := by
  have h : s.endPass.output b = { s.output b with target := none } := by simp [State.endPass, State.output]
  rw [h]
  exact .untarget _

theorem budgetFall_falls (s : State) (b : BayNo) : (s.output b).Falls (s.budgetFall.output b) := by
  have hr : ({ s with outputs := Vector.ofFn fun b => (s.output b).restore } : State).output b = (s.output b).restore := by
    simp [State.output]
  have hd : (s.output b).Falls (State.output { s.endPass with reservations := s.reservations.map Reservation.readmit } b) :=
    endPass_falls s b
  unfold State.budgetFall
  cases s.phase with
  | idle => exact .refl _
  | decreasing => exact hd
  | increasing =>
    refine (Output.Falls.restore (s.output b)).trans ?_
    rw [← hr]
    exact endPass_falls _ b

theorem budgetFall_reserves (h : s.Reserves Told) : s.budgetFall.Reserves Told := by
  unfold State.budgetFall
  split
  · exact h
  · refine (h.mapped (t := { s.endPass with reservations := s.reservations.map Reservation.readmit }) (Q := Told)
      Reservation.readmit rfl (fun e => ?_) rfl rfl (fun e _ => ?_) fun o ho => ho.elim False.elim False.elim).told
        fun o => by simp
    · unfold Reservation.readmit; split <;> rfl
    · unfold Reservation.readmit; split
      · next g => simp [g]
      · simp
  · exact h.congr rfl (fun _ => rfl) rfl

/-- A B_eff that does not fall. -/
theorem effective {e : Nat} (h : s.effective ≤ e) : s.Carries E { s with effective := e } :=
  ⟨fun _ h => h, fun _ => .inl, fun h => h.congr (fun _ => rfl) (fun _ => rfl) fun _ _ _ h1 h2 => ⟨h1, h2⟩,
    fun h => h.congr rfl rfl fun _ => rfl, fun h => h.congr rfl (fun _ => rfl) rfl,
    fun g => g.falls rfl id id (fun _ => le_rfl) (fun _ => le_rfl) (fun _ => id) (fun _ => id) le_rfl h,
    fun _ => le_rfl, rfl⟩

theorem recomputeBudget : s.Carries E s.recomputeBudget := by
  unfold State.recomputeBudget
  simp only
  split
  · exact refl s
  · split
    · have hr : s.Reserves Told → (State.requestPass { s with effective := effectiveBudget s.budget s.supplyLimit }).Reserves
          Told := fun h => h.congr rfl (fun _ => rfl) rfl
      have hf : ∀ b, (s.output b).Falls ((State.requestPass { s with
        effective := effectiveBudget s.budget s.supplyLimit }).budgetFall.output b) := fun b => budgetFall_falls
        (State.requestPass { s with effective := effectiveBudget s.budget s.supplyLimit }) b
      exact passDue hf (budgetFall_due rfl) (fun h => budgetFall_reserves (hr h)) (by rw [budgetFall_only]; rfl)
        (by rw [budgetFall_only]; rfl) (by rw [budgetFall_only]; rfl) (by rw [budgetFall_only]; rfl)
        (by rw [budgetFall_only]; rfl) (by rw [budgetFall_only]; rfl) (by rw [budgetFall_only]; rfl)
    · next h => exact (effective (Nat.le_of_not_lt h)).trans requestPass

/-! ### Requests and events -/

theorem amend {f : AmendField} {x : Option Half} {write : Record → Record} (hw : s.amendment f x = some write) (i : RecordIx) :
    s.Carries E (s.writeField f i write) := by
  have h : ∀ r : Record, (write r).custody = r.custody ∧ (write r).currentBay = r.currentBay := fun r => by
    obtain hc | ⟨-, n, rfl⟩ := State.Shows.amendment_custodial hw
    · exact ⟨(congrArg Record.custody (hc r) : (write r).custodial.custody = r.custodial.custody),
        (congrArg Record.currentBay (hc r) : (write r).custodial.currentBay = r.custodial.currentBay)⟩
    · exact ⟨rfl, rfl⟩
  unfold State.writeField
  split
  · exact putRecord i _ fun h1 _ => ⟨(h _).1.trans h1, (h _).2⟩
  · exact editRecord i _ (h _).1 (h _).2

theorem writeFlags (i : RecordIx) (x : Byte) : s.Carries E (s.writeFlags i x) :=
  (putRecord i ({ s.record i with flags := x } : Record).remark fun h _ => ⟨h, rfl⟩).trans (requestPassIf _)

theorem fillRecord (x : FillWrite) (i : RecordIx) : s.Carries E (s.fillRecord x i) := by
  have h1 : s.Carries E ((s.putRecord i (x.apply (s.record i)).remark).requestPassIf (x.target.isSome || x.readyBy.isSome)) :=
    (putRecord i (x.apply (s.record i)).remark fun h _ => ⟨h, rfl⟩).trans (requestPassIf _)
  unfold State.fillRecord
  simp only
  split
  · exact h1.trans (writeFlags i _)
  · exact h1

theorem overdueRecord (i : RecordIx) : s.Carries E (s.overdueRecord i) := by
  unfold State.overdueRecord
  split
  · next h => exact (editOutside i _ (.inl (by simp [h]))).trans (addSubject _ _)
  · exact refl s

theorem fire (l : List (PeriodIx × PeriodKind)) : s.Carries E (s.fire l) := by
  have h1 : s.Carries E (l.foldl (fun t x => t.addSubject Source.boundary x.1.val) s) := foldl (fun t x => addSubject _ _) l s
  unfold State.fire
  simp only
  refine trans ?_ (requestPassIf _)
  split
  · exact (h1.trans of_same).trans (foldl (fun t i => overdueRecord i) allRecords _)
  · exact h1.trans of_same

theorem closeService : s.Carries E s.closeService :=
  trans (t := { s with service := none }) of_same (foldl (fun _ _ => placeRequest _ _) _ _)

theorem serviceRise : s.Carries E s.serviceRise := by
  have h1 : s.Carries E (s.openService.addSubject Source.service 0) := of_same
  unfold State.serviceRise
  simp only
  split
  · exact h1
  · refine (h1.trans (t := s.openService.addSubject Source.service 0) ?_).trans (foldl (fun _ _ => placeRequest _ _) _ _)
    exact shorter (List.nil_sublist _)

theorem holdByHost (i : RecordIx) : s.Carries E (s.holdByHost i) := (unseat i .aborted _).trans (requestPassIf _)

theorem retireDocked (i : RecordIx) : s.Carries E (s.retireDocked i) := (unseat i .aborted _).trans (requestPassIf _)

theorem beginRelease (i : RecordIx) (b : BayNo) (x : Half) : s.Carries E (s.beginRelease i b x) :=
  ((unseat i .preempted _).trans (setRelease b _)).trans (placeRequest b _)

theorem unholdRecord (i : RecordIx) (hi : (s.record i).custody = .held) : s.Carries E (s.unholdRecord i) := by
  have h : s.Carries E (s.editRecord i Record.unheld) := editOutside i _ (.inl (by simp [hi]))
  unfold State.unholdRecord
  split
  · exact h
  · exact (h.trans (receiveInCart _)).trans requestPass

/-- A session moves on, on its lane (R118, R120). -/
theorem moveSession {l : LaneNo} {x : Session} {y : Lane} (p : SessionPhase) (hx : (s.lane l).session = some x)
    (hy : y.session = some { x with phase := p }) (hsw : s.LaneLaw → y.switch = if p.onLane then some x.bay else none)
    (hp : x.phase ≠ .admitting) (hp' : p ≠ .admitting) : s.Carries E (s.setLane l y) := by
  have hl : ∀ m, (s.setLane l y).lane m = if l = m then y else s.lane m := fun m => s.lane_setLane l m y
  refine deck (fun g => g.moves l x p y hx hy (hsw g) hl (fun _ => rfl) fun _ => ⟨rfl, rfl⟩)
    (fun g => g.congr rfl rfl fun _ => rfl) (fun g => g.same rfl (fun _ => Iff.rfl) (fun m => ?_) (fun o => ?_) fun o ho => ?_)
    (fun _ => rfl) le_rfl
  · rw [hl]; split
    · next e => subst e; rw [hx, hy]; rfl
    · rfl
  · cases o with
    | latch k => rfl
    | lane m =>
      simp only [State.started, hl]
      split
      · next e => subst e; rw [hx, hy]; exact (bne_iff_ne.mpr hp').trans (bne_iff_ne.mpr hp).symm
      · rfl
  · cases o with
    | latch k => exact ho
    | lane m =>
      obtain ⟨z, hz, hzp⟩ := ho
      refine ⟨z, ?_, hzp⟩
      rw [hl, if_neg]
      · exact hz
      · rintro rfl
        rw [hx] at hz
        cases hz
        exact hp hzp

theorem wakeDelivered (b : BayNo) (l : LaneNo) : s.Carries E (s.wakeDelivered b l) := by
  unfold State.wakeDelivered
  split
  · next x hx =>
    obtain ⟨hs, hp, -⟩ := (s.wakingAt_iff b l x).mp hx
    have hsw : s.LaneLaw → (s.lane l).switch = some x.bay := fun ⟨_, _, _, h4⟩ => by
      rw [h4 l, hs]
      simp [hp, SessionPhase.onLane]
    exact (moveSession _ hs rfl hsw (by simp [hp]) (by simp)).trans (addSubject _ _)
  · exact refl s

end State.Carries

end Sys2Proof.Machine
end

section
/-! SUPPORT. Every write before the close of a change carries over the laws of outputs, links, lanes, latches and
reservations. -/

namespace Sys2Proof.Machine

set_option Elab.async false

theorem State.drivingSlot_of_driveAt {s : State} {b : BayNo} (h : s.driveAt b = none) : s.drivingSlot b = none := by
  unfold State.driveAt at h
  split at h
  · assumption
  · next k hk =>
    have hq := List.find?_some hk
    split at hq
    · next q e => simp [e, DriveSlot.request] at h
    · cases hq

theorem State.request_of_driveAt {s : State} {b : BayNo} {k : SlotNo} {q : LatchRequest} (h : s.driveAt b = some (k, q)) :
    (s.slot k).request = some q := by
  unfold State.driveAt at h
  split at h
  · cases h
  · obtain ⟨q', hq, e⟩ := Option.map_eq_some_iff.mp h
    cases e
    exact hq

namespace State.Carries

variable {E : BayNo → Prop} {s t u : State} {b : BayNo} {i : RecordIx}

theorem mono {F : BayNo → Prop} (h : s.Carries E t) (he : ∀ b, E b → F b) : s.Carries F t where
  powers := h.powers
  stays b g := (h.stays b g).imp_right (he b)
  lanes := h.lanes
  latches := h.latches
  reserves := h.reserves
  budget := h.budget
  commits := h.commits
  queue := h.queue

/-! ### Orders and lane requests -/

theorem wakeRefused (b : BayNo) (l : LaneNo) : s.Carries E (s.wakeRefused b l) := by
  unfold State.wakeRefused
  split
  · exact endSession _ _
  · exact refl s

theorem endCustodyOrder (b : BayNo) (o : OrderOutcome) : s.Carries E (s.endCustodyOrder b o) := by
  have h : s.Carries E (s.modLink b fun l => { l.exchangeDone with custody := l.custody.ended }) :=
    modLink_same b _ fun l => ⟨rfl, rfl, fun _ => rfl⟩
  unfold State.endCustodyOrder State.reportCustody
  split
  · exact h.trans (releaseReported b _)
  · exact h
  · exact h

theorem endLaneOrder (b : BayNo) (d : Bool) : s.Carries E (s.endLaneOrder b d) := by
  have h : s.Carries E (s.modLink b fun l => { l.exchangeDone with lane := l.lane.ended }) :=
    modLink_same b _ fun l => ⟨rfl, rfl, fun _ => rfl⟩
  unfold State.endLaneOrder State.reportLane
  split
  · next l _ =>
    cases d with
    | true => exact h.trans (wakeDelivered b l)
    | false => exact h.trans (wakeRefused b l)
  · exact h
  · exact h

theorem closeSession {l : LaneNo} {x : Session} (g : Byte) (hx : (s.lane l).session = some x)
    (hp : x.phase.isConnected = true) : s.Carries E (s.closeSession l x g) := by
  have h1 : x.phase ≠ .admitting := fun e => by simp [e, SessionPhase.isConnected] at hp
  exact (((moveSession (.closing g) hx rfl (fun _ => rfl) h1 (by simp)).trans (placeLaneOrder x.bay .quiet)).trans
    (modLink_same x.bay _)).trans (pumpLink x.bay)

/-! ### Bays (R28, R29, R40, R41) -/

theorem disable (hs : s.Shows s.view) (hl : s.view.Law) (b : BayNo) :
    s.Carries View.All ((s.emptyBay b .disabled).modBay b fun x => { x with hostDisabled := true }) := by
  obtain ⟨w, hw, f, -⟩ := hs.undock hl b true
  exact (emptyBay b .disabled trivial (hw.partner_ne f.law b)).trans (modBay_same b _)

theorem loss (hs : s.Shows s.view) (hl : s.view.Law) (b : BayNo) :
    s.Carries View.All ((s.setContact b false).emptyBay b .empty) := by
  have h1 : (s.setContact b false).Shows s.view := hs.modBay_same b _
  obtain ⟨w, hw, f, -⟩ := h1.undock hl b true
  exact (modBay_same b _).trans (emptyBay b .empty trivial (hw.partner_ne f.law b))

theorem enable (hs : s.Shows s.view) (hl : s.view.Law) (b : BayNo) (hb : (s.bay b).hostDisabled = true) :
    s.Carries E (s.enableBay b) := by
  have hst : (s.bay b).state = .disabled := by
    rw [hs.bay_state]
    refine hl.disabled b ?_
    rw [← hs.bay_eq]
    exact hb
  have h1 : s.Carries E (s.modBay b fun x => { x with hostDisabled := false, state := .empty }) :=
    modBay b _ (fun _ => .inl (by simp [hst, BayState.switchedOff])) fun _ => .inl (.inl hst)
  unfold State.enableBay
  simp only
  split
  · exact h1.trans (enterBringup b)
  · exact h1

theorem enrol (x : TabletId) (hi : s.lowestFree = some i) (r : Record) (hr : r.currentBay = none) :
    s.Carries E ((s.setRecord i r).matchEnrol i x) := by
  have hf : (s.record i).custody = .free := by
    have := List.find?_some hi
    simpa [Record.enrolled] using this
  refine (setOutside i r (.inl (by simp [hf]))).trans (matchEnrol i x ?_)
  rw [State.setRecord, State.record_putRecord, if_pos rfl]
  exact hr

end State.Carries

/-- Every command that opens a change carries the laws over to its close. -/
theorem State.Opens.carries {s u : State} (hi : s.Inv) (h : s.Opens u) : s.Carries View.All u := by
  have hs := hi.shows
  have hl := hi.view_law
  have hoff : ∀ {b : BayNo}, (s.link b).exchange.isSome = true → ¬(s.bay b).state.off := fun {b} hx ho =>
    ho.elim (hi.state_of_exchange hx).1 (hi.state_of_exchange hx).2
  cases h with
  | enrol p c home target ready i hc hx hf => exact .enrol p.tabletId hf _ rfl
  | amend f x w i hw hi hf => exact (State.Carries.amend hw i).trans (.requestPassIf _)
  | flags i x => exact .writeFlags i x
  | fill w i n => exact .foldl (fun t x => .fillRecord w x) _ s
  | hold i hf hr => exact .holdByHost i
  | unhold i hi => exact .unholdRecord i hi
  | free i hi =>
    refine .setOutside i _ ?_
    obtain e | e | e | e | ⟨e, hd⟩ := hi
    all_goals exact .inl (by simp [e])
  | retire i hi => exact .retireDocked i
  | disable b hb => exact .disable hs hl b
  | enable b hb => exact .enable hs hl b hb
  | arrival b hb => exact (State.Carries.modBay_same b _).trans (.enterBringup b)
  | loss b hb => exact .loss hs hl b
  | budget t => exact ((State.Carries.of_same (t := { s with budget := t })).trans .recomputeBudget).trans (.requestPassIf _)
  | supply x => exact (State.Carries.of_same (t := { s with supplyLimit := x })).trans .recomputeBudget
  | time c => exact (State.Carries.of_same (t := State.handWindow { s with clock := c })).trans .requestPass
  | fire c l => exact (State.Carries.of_same (t := { s with clock := c })).trans (.fire l)
  | checkout i b x p o hr hb => exact .beginRelease i b x
  | cancel i b hi hb => exact .lapseRelease b i hi
  | lapse i b e o hb =>
    obtain ⟨-, h2⟩ := hl.release b i (by change (s.release b).map Release.record = _; rw [hb]; rfl)
    exact .lapseRelease b i ((hs.custody i).trans h2)
  | latch b d => exact .placeRequest b d
  | closeService => exact .closeService
  | service x => exact (State.Carries.of_same (t := { s with serviceLevel := x })).trans .serviceRise
  | driven b x y k q hk =>
    exact (State.Carries.modBay_same b _).trans (.driveSuccess (s := s.setSwitches b x y) (State.request_of_driveAt hk))
  | switched b x y hk =>
    refine ((State.Carries.modBay_same b _).trans (.restLatch (s := s.setSwitches b x y) ?_ ?_)).trans .slotService
    · exact State.drivingSlot_of_driveAt hk
    · exact positionOf_ne_moving x y
  | driveTimeout k q hk => exact .driveFailure (by simp [hk, DriveSlot.request])
  | linkReset b hb => exact .resetLink hb
  | fails b hb => exact .exchangeFails (hoff hb)
  | ident b p hb =>
    have hx : (s.link b).exchange.isSome = true := by simp [hb]
    exact (State.Carries.identTaken (hoff hx) _).mono fun _ => False.elim
  | telemetry b p hb => exact .telemetryTaken b _
  | custodyOrder b o hb => exact .endCustodyOrder b o
  | laneOrder b d hb => exact .endLaneOrder b d
  | laneSettings t => exact .of_same
  | laneDone l x g hx hp => exact .closeSession g hx hp
  | sessionEnds l x r hx => exact .endSession l r
  | report b x => exact .report b x
  | cut b hb => exact .cut b

end Sys2Proof.Machine
end

section
/-! SUPPORT. What the settling of a change carries over (R75, R91, R98, R99): the owners told, the phases ended, and the passes
taken. -/

namespace Sys2Proof.Machine

set_option Elab.async false

/-! ### Slot service and the success of a drive, for owners yet to be told -/

/-- A write of latches, links and reservations PENDING alone: it leaves outputs, phase and B_eff, the lanes and the queue, and
what the owners hold. -/
structure State.Serves (s t : State) : Prop where
  outputs : t.outputs = s.outputs
  phase : t.phase = s.phase
  effective : t.effective = s.effective
  counted : countedAmount t.reservations ≤ countedAmount s.reservations
  lanes : t.lanes = s.lanes
  queue : t.queue = s.queue
  reserves : ∀ P, s.Reserves P → t.Reserves P

namespace State.Serves

variable {s t u : State}

theorem refl (s : State) : s.Serves s := ⟨rfl, rfl, rfl, le_rfl, rfl, rfl, fun _ => id⟩

theorem trans (h : s.Serves t) (g : t.Serves u) : s.Serves u where
  outputs := g.outputs.trans h.outputs
  phase := g.phase.trans h.phase
  effective := g.effective.trans h.effective
  counted := g.counted.trans h.counted
  lanes := g.lanes.trans h.lanes
  queue := g.queue.trans h.queue
  reserves P := g.reserves P ∘ h.reserves P

/-- Slots, lanes, reservations and outputs as they were. -/
theorem of_same (ho : t.outputs = s.outputs := by rfl) (hp : t.phase = s.phase := by rfl)
    (he : t.effective = s.effective := by rfl) (hr : t.reservations = s.reservations := by rfl)
    (hl : t.lanes = s.lanes := by rfl) (hq : t.queue = s.queue := by rfl) (hs : t.slots = s.slots := by rfl) : s.Serves t :=
  ⟨ho, hp, he, by rw [hr], hl, hq, fun _ h => h.congr hs (fun l => by simp only [State.lane, hl]) hr⟩

theorem placeCustodyOrder (b : BayNo) (o : CustodyOrder) : s.Serves (s.placeCustodyOrder b o) := by
  unfold State.placeCustodyOrder
  split
  · exact refl s
  · exact of_same

theorem placeLaneOrder (b : BayNo) (o : LaneOrder) : s.Serves (s.placeLaneOrder b o) := by
  unfold State.placeLaneOrder
  split
  · exact refl s
  · exact of_same

theorem latchSuccess (b : BayNo) (d : Direction) : s.Serves (s.latchSuccess b d) := by
  cases d with
  | lock =>
    simp only [State.latchSuccess]
    split
    · exact of_same
    · exact refl s
  | unlock =>
    simp only [State.latchSuccess]
    split
    · exact trans (t := s.setRelease b _) of_same (placeCustodyOrder b _)
    · exact refl s

theorem serviceOne (q : LatchRequest) : s.Serves (s.serviceOne q) := by
  unfold State.serviceOne
  split
  · exact refl s
  · split
    · exact trans (t := { s with latchQueue := s.latchQueue.erase q }) of_same (latchSuccess _ _)
    · split
      · next k hk =>
        have hs : ∀ j, ((State.setSlot { s with latchQueue := s.latchQueue.erase q } k (.reserving q)).raiseReservation
          (.latch k) s.budget.driveReserve).slot j = if k = j then .reserving q else s.slot j :=
            fun j => State.slot_setSlot _ k j _
        refine ⟨rfl, rfl, rfl, (countedAmount_pending _ _ _).le, rfl, rfl, fun P h => ?_⟩
        exact h.raise (.latch k) _ rfl (fun j hj => (hs j).trans (if_neg fun e => hj (by rw [e])))
          (fun j hj => by cases hj; exact ⟨State.freeSlot_eq_some hk, q, (hs k).trans (if_pos rfl)⟩) (fun _ _ => rfl) nofun
      · exact refl s

theorem foldl {α : Type} {f : State → α → State} (hf : ∀ s x, State.Serves s (f s x)) :
    ∀ (l : List α) (s : State), s.Serves (l.foldl f s)
  | [], s => refl s
  | x :: l, s => (hf s x).trans (foldl hf l _)

theorem slotService : s.Serves s.slotService := foldl (fun _ q => serviceOne q) _ s

end State.Serves

theorem State.lane_congr {s t : State} (h : t.lanes = s.lanes) (l : LaneNo) : t.lane l = s.lane l := by simp only [State.lane, h]

/-! ### An owner told that its reservation is ACTIVE (R91) -/

/-- What telling owner o leaves. -/
structure State.Tells (o : Owner) (s t : State) : Prop where
  powers : ∀ b, Powers (s.bay b).state (s.output b) (s.link b) → Powers (t.bay b).state (t.output b) (t.link b)
  lanes : s.LaneLaw → t.LaneLaw
  latches : s.LatchLaw → t.LatchLaw
  reserves : ∀ P : Owner → Prop, P o → s.Reserves P → t.Reserves fun x => P x ∧ x ≠ o
  outputs : t.outputs = s.outputs
  phase : t.phase = s.phase
  effective : t.effective = s.effective
  counted : countedAmount t.reservations ≤ countedAmount s.reservations
  queue : t.queue = s.queue
  lasts : ∀ l, (t.lane l).last = (s.lane l).last
  seats : ∀ l, (t.lane l).session.map Session.record = (s.lane l).session.map Session.record

theorem State.Tells.of_settled {o : Owner} {s : State} (h : ¬s.awaits o) : s.Tells o s :=
  ⟨fun _ => id, id, id, fun _ ho g => absurd (g.waits o ho) h, rfl, rfl, rfl, le_rfl, rfl, fun _ => rfl, fun _ => rfl⟩

theorem State.startDrive_tells (s : State) (k : SlotNo) : s.Tells (.latch k) (s.startDrive k) := by
  unfold State.startDrive
  split
  · next q hq =>
    have hr : (s.slot k).request = some q := by rw [hq]; rfl
    split
    · have hs : ∀ j, ((s.endSlot k).setLatch q.bay q.direction.target).slot j = if k = j then .free else s.slot j :=
        fun j => s.slot_setSlot k j _
      have hc : s.Carries View.All (s.driveSuccess k q) := .driveSuccess hr
      have hv : State.Serves ((s.endSlot k).setLatch q.bay q.direction.target) (s.driveSuccess k q) :=
        (State.Serves.latchSuccess _ _).trans .slotService
      refine ⟨hc.powers, hc.lanes, hc.latches, fun P _ g => hv.reserves _ ?_, hv.outputs, hv.phase, hv.effective,
        hv.counted.trans (countedAmount_filter_le _ _), hc.queue, fun l => ?_, fun l => ?_⟩
      · exact g.drop (.latch k) rfl (fun j hj => (hs j).trans (if_neg fun e => hj (by rw [e])))
          (fun j hj => (hs j).trans (if_pos (Owner.latch.inj hj).symm)) (fun _ _ => rfl) nofun
      all_goals
        rw [State.lane_congr hv.lanes]
        rfl
    · have hs : ∀ j, ((s.setSlot k (.driving q)).setLatch q.bay .moving).slot j = if k = j then .driving q else s.slot j :=
        fun j => s.slot_setSlot k j _
      have hb := State.Carries.bay_latch_setLatch (s.setSlot k (.driving q)) q.bay .moving
      have hc := State.Carries.bay_same_setLatch (s.setSlot k (.driving q)) q.bay .moving
      refine ⟨fun b h => ?_, fun g => g.congr (fun _ => rfl) (fun b => (hc b).1) fun _ _ _ h1 h2 => ⟨h1, h2⟩,
        fun g => State.latchLaw_iff.mpr ((State.latchLaw_iff.mp g).starts k q hq rfl hs hb), fun P ho g => ?_, rfl, rfl, rfl,
        le_rfl, rfl, fun _ => rfl, fun _ => rfl⟩
      · rw [(hc b).2]
        exact h
      · exact g.start (.latch k) ho rfl (fun j hj => (hs j).trans (if_neg fun e => hj (by rw [e])))
          (fun j hj => ⟨q, (hs j).trans (if_pos (Owner.latch.inj hj).symm)⟩) (fun _ _ => rfl) nofun
  · next hf => exact .of_settled fun ⟨q, g⟩ => by simp [hf] at g
  · next q hf => exact .of_settled fun ⟨q, g⟩ => by simp [hf] at g

/-- A lane whose session is woken (R117). -/
abbrev Lane.woken (y : Lane) (x : Session) : Lane := { y with session := some { x with phase := .waking }, switch := some x.bay }

theorem State.wakeLane_tells (s : State) (l : LaneNo) : s.Tells (.lane l) (s.wakeLane l) := by
  unfold State.wakeLane
  split
  · next x hx =>
    split
    · next hp =>
      have hl : ∀ m, (s.setLane l ((s.lane l).woken x)).lane m = if l = m then (s.lane l).woken x else s.lane m :=
        fun m => s.lane_setLane l m _
      have hc : State.Carries View.All (s.setLane l ((s.lane l).woken x))
        ((s.setLane l ((s.lane l).woken x)).placeLaneOrder x.bay (.wake l)) := .placeLaneOrder _ _
      have hv : State.Serves (s.setLane l ((s.lane l).woken x))
        ((s.setLane l ((s.lane l).woken x)).placeLaneOrder x.bay (.wake l)) := .placeLaneOrder _ _
      have hm : ∀ m, ((s.setLane l ((s.lane l).woken x)).placeLaneOrder x.bay (.wake l)).lane m =
          if l = m then (s.lane l).woken x else s.lane m := fun m => by
        rw [← hl m, State.lane_congr hv.lanes]
      refine ⟨hc.powers, fun g => hc.lanes ?_, fun g => hc.latches (g.congr rfl rfl fun _ => rfl), fun P ho g => hv.reserves _ ?_,
        hv.outputs, hv.phase, hv.effective, hv.counted, hv.queue, fun m => (congrArg Lane.last (hm m)).trans ?_,
        fun m => (congrArg (fun y => y.session.map Session.record) (hm m)).trans ?_⟩
      · exact g.moves l x .waking _ hx rfl rfl hl (fun _ => rfl) fun _ => ⟨rfl, rfl⟩
      · exact g.start (.lane l) ho rfl (fun _ _ => rfl) nofun
          (fun m hm => by rw [hl, if_neg fun e => hm (by rw [e])])
          fun m hm => by cases hm; rw [hl, if_pos rfl]; exact ⟨_, rfl, by simp⟩
      · split
        · next e => subst e; rfl
        · rfl
      · split
        · next e => subst e; rw [hx]; rfl
        · rfl
    · next hp => exact .of_settled fun ⟨y, h1, h2⟩ => by rw [hx] at h1; cases h1; exact hp h2
  · next hx => exact .of_settled fun ⟨y, h1, _⟩ => by rw [hx] at h1; cases h1

theorem State.tellActive_tells (s : State) (o : Owner) : s.Tells o (s.tellActive o) := by
  cases o with
  | latch k => exact s.startDrive_tells k
  | lane l => exact s.wakeLane_tells l

end Sys2Proof.Machine
end

section
/-! SUPPORT. What the settling of a change carries over (R75, R91, R98, R99), in all. -/

namespace Sys2Proof.Machine

set_option Elab.async false

/-! ### Reservations as the phases end -/

/-- An entry that is not ACTIVE has its owner await it. -/
theorem State.Reserves.awaits_of_mem {s : State} (h : s.Reserves Told) {e : Reservation} (he : e ∈ s.reservations)
    (hs : e.state ≠ .active) : s.awaits e.owner := by
  have hn : s.started e.owner = false := by
    by_contra g
    exact hs ((h.active e he).mpr (.inl (by simpa using g)))
  cases ho : e.owner with
  | latch k =>
    have hk := (h.slots k).mpr ⟨e, he, ho⟩
    rw [ho] at hn
    cases hq : s.slot k with
    | free => exact absurd hq hk
    | reserving q => exact ⟨q, hq⟩
    | driving q => simp [State.started, hq, DriveSlot.isDriving] at hn
  | lane l =>
    have hl := (h.lanes l).mpr ⟨e, he, ho⟩
    rw [ho] at hn
    obtain ⟨x, hx⟩ := Option.isSome_iff_exists.mp hl
    exact ⟨x, hx, by simpa [State.started, hx] using hn⟩

theorem State.mem_admittedOwners {s : State} {o : Owner} : o ∈ s.admittedOwners ↔
    ∃ e ∈ s.reservations, e.state = .admitted ∧ e.owner = o := by
  simp [State.admittedOwners, and_assoc]

theorem State.Reserves.admittedOwners_nodup {s : State} {P : Owner → Prop} (h : s.Reserves P) : s.admittedOwners.Nodup :=
  h.nodup.sublist (List.filter_sublist.map _)

/-- An ADMITTED entry becomes ACTIVE (R91). -/
def Reservation.activate (e : Reservation) : Reservation := if e.state = .admitted then { e with state := .active } else e

theorem Reservation.activate_owner (e : Reservation) : e.activate.owner = e.owner := by
  unfold Reservation.activate; split <;> rfl

theorem countedAmount_activate (l : List Reservation) : countedAmount (l.map Reservation.activate) = countedAmount l := by
  induction l with
  | nil => rfl
  | cons e l ih =>
    rw [List.map_cons, countedAmount_cons, countedAmount_cons, ih]
    unfold Reservation.activate
    split
    · next h => simp [Reservation.counted, h]
    · rfl

/-- The ADMITTED entries become ACTIVE, and their owners are yet to be told (R91). -/
theorem State.Reserves.activate {s t : State} (h : s.Reserves Told) (hr : t.reservations = s.reservations.map Reservation.activate)
    (hs : t.slots = s.slots) (hl : t.lanes = s.lanes) : t.Reserves fun o => o ∈ s.admittedOwners := by
  refine (h.mapped (Q := fun o => o ∈ s.admittedOwners) Reservation.activate hr Reservation.activate_owner hs hl
    (fun e he => ?_) fun o ho => ?_).told fun o => by simp
  · have hm : e.owner ∈ s.admittedOwners ↔ e.state = .admitted := by
      rw [State.mem_admittedOwners]
      refine ⟨fun ⟨d, hd, h1, h2⟩ => ?_, fun g => ⟨e, he, g, rfl⟩⟩
      rwa [List.inj_on_of_nodup_map h.nodup he hd h2.symm]
    rw [hm]
    unfold Reservation.activate
    split <;> simp_all
  · obtain ho | ho := ho
    · exact ho.elim
    · obtain ⟨e, he, h1, rfl⟩ := State.mem_admittedOwners.mp ho
      exact h.awaits_of_mem he (by simp [h1])

/-- Entries judged: none becomes ACTIVE or ceases to be. -/
theorem State.Reserves.judged {s t : State} {P : Owner → Prop} (h : s.Reserves P)
    (hr : List.Forall₂ (fun e f => f = e ∨ e.state = .pending ∧ f = { e with state := .admitted }) s.reservations t.reservations)
    (hs : t.slots = s.slots) (hl : t.lanes = s.lanes) : t.Reserves P := by
  have hf : List.Forall₂ (fun e f : Reservation => e.owner = f.owner ∧ (f.state = .active ↔ e.state = .active)) s.reservations
      t.reservations := hr.imp fun e f g => by
    obtain rfl | ⟨h1, rfl⟩ := g
    · exact ⟨rfl, Iff.rfl⟩
    · exact ⟨rfl, by simp [h1]⟩
  have hown : s.reservations.map Reservation.owner = t.reservations.map Reservation.owner := by
    rw [← List.forall₂_eq_eq_eq, List.forall₂_map_left_iff, List.forall₂_map_right_iff]
    exact hf.imp fun _ _ => And.left
  have hmem : ∀ o, (∃ e ∈ t.reservations, e.owner = o) ↔ ∃ e ∈ s.reservations, e.owner = o := fun o => by
    simp only [← List.mem_map, hown]
  have hslot := State.slot_congr hs
  have hlane := State.lane_congr hl
  have hst : ∀ o, t.started o = s.started o := fun o => by cases o <;> simp only [State.started, hslot, hlane]
  refine ⟨hown ▸ h.nodup, fun k => by rw [hslot, hmem]; exact h.slots k, fun l => by rw [hlane, hmem]; exact h.lanes l,
    fun f hfm => ?_, fun o ho => ?_⟩
  · obtain ⟨n, hn, rfl⟩ := List.getElem_of_mem hfm
    have hlen := hf.length_eq
    obtain ⟨g1, g2⟩ := hf.get (i := n) (by omega) hn
    simp only [List.get_eq_getElem] at g1 g2
    rw [hst, ← g1, g2]
    exact h.active _ (List.getElem_mem _)
  · have := h.waits o ho
    cases o <;> simpa only [State.awaits, hslot, hlane] using this

/-! ### What a stage of settling leaves -/

/-- What a stage of settling leaves: what the frame names, the queue and who holds which lane; and it carries the laws of outputs
and links, lanes and latches over. -/
structure State.Settles (s t : State) : Prop where
  frame : s.Untouched t [] []
  powers : ∀ b, Powers (s.bay b).state (s.output b) (s.link b) → Powers (t.bay b).state (t.output b) (t.link b)
  lanes : s.LaneLaw → t.LaneLaw
  latches : s.LatchLaw → t.LatchLaw
  queue : t.queue = s.queue
  lasts : ∀ l, (t.lane l).last = (s.lane l).last
  seats : ∀ l, (t.lane l).session.map Session.record = (s.lane l).session.map Session.record

namespace State.Settles

variable {s t u : State}

theorem refl (s : State) : s.Settles s := ⟨.refl s, fun _ => id, id, id, rfl, fun _ => rfl, fun _ => rfl⟩

theorem trans (h : s.Settles t) (g : t.Settles u) : s.Settles u where
  frame := h.frame.then g.frame
  powers b := g.powers b ∘ h.powers b
  lanes := g.lanes ∘ h.lanes
  latches := g.latches ∘ h.latches
  queue := g.queue.trans h.queue
  lasts l := (g.lasts l).trans (h.lasts l)
  seats l := (g.seats l).trans (h.seats l)

/-- The bays' states, lanes and latches, the records, links, lanes, slots and the two queues are as they were. -/
theorem of_power (hf : s.Untouched t [] []) (hp : ∀ b, Powers (s.bay b).state (s.output b) (s.link b) →
      Powers (s.bay b).state (t.output b) (s.link b))
    (hb : ∀ b, (t.bay b).state = (s.bay b).state ∧ (t.bay b).lane = (s.bay b).lane ∧ (t.bay b).latch = (s.bay b).latch)
    (hro : t.roster = s.roster := by rfl) (hk : t.links = s.links := by rfl) (hl : t.lanes = s.lanes := by rfl)
    (hs : t.slots = s.slots := by rfl) (hlq : t.latchQueue = s.latchQueue := by rfl) (hq : t.queue = s.queue := by rfl) :
    s.Settles t where
  frame := hf
  powers b h := by
    rw [(hb b).1, show t.link b = s.link b by simp only [State.link, hk]]
    exact hp b h
  lanes h := h.congr (State.lane_congr hl) (fun b => (hb b).2.1) fun _ _ _ h1 h2 => by
    rw [State.record_congr hro]
    exact ⟨h1, h2⟩
  latches h := h.congr hs hlq fun b => (hb b).2.2
  queue := hq
  lasts l := by rw [State.lane_congr hl]
  seats l := by rw [State.lane_congr hl]

theorem tellActive (o : Owner) : s.Settles (s.tellActive o) :=
  have h := s.tellActive_tells o
  ⟨s.tellActive_untouched o, h.powers, h.lanes, h.latches, h.queue, h.lasts, h.seats⟩

theorem foldl {α : Type} {f : State → α → State} (hf : ∀ s x, State.Settles s (f s x)) :
    ∀ (l : List α) (s : State), s.Settles (l.foldl f s)
  | [], s => refl s
  | x :: l, s => (hf s x).trans (foldl hf l _)

end State.Settles

/-- The owners told one after the other (R91). -/
theorem State.Reserves.tellAll : ∀ (l : List Owner) (s : State), l.Nodup → s.Reserves (· ∈ l) →
    (l.foldl State.tellActive s).Reserves Told
  | [], s, _, h => h.told (by simp)
  | o :: l, s, hn, h => by
    obtain ⟨ho, hl⟩ := List.nodup_cons.mp hn
    refine tellAll l _ hl (((s.tellActive_tells o).reserves _ List.mem_cons_self h).told fun x => ?_)
    simp only [List.mem_cons]
    exact ⟨fun ⟨g, e⟩ => g.resolve_left e, fun g => ⟨.inr g, fun e => ho (e ▸ g)⟩⟩

end Sys2Proof.Machine
end

section
/-! SUPPORT. The stages of settling: passes taken, phases ended, and the whole of it (R75, R78, R91, R97 to R99). -/

namespace Sys2Proof.Machine

set_option Elab.async false

/-! ### Outputs at a hand-off and at an increase (R97, R98) -/

/-- A hand-off raises no commitment, and closes no switch but of a bay with one. -/
theorem Output.handOff_falls (o : Output) (d : Disposition) (g : Nat) :
    (o.handOff d g).commitment ≤ o.commitment := by
  obtain ⟨-, h⟩ | ⟨-, ⟨h1, -⟩, h⟩ | ⟨-, -, h⟩ := o.handOff_cases d g <;> rw [h]
  · simp only [Output.commitment] at h1 ⊢
    omega
  · exact le_rfl

theorem Output.handOff_closed (o : Output) (d : Disposition) (g : Nat) (h : 0 < o.commitment → o.closed = true)
    (hc : 0 < (o.handOff d g).commitment) : (o.handOff d g).closed = true := by
  obtain ⟨-, e⟩ | ⟨-, ⟨h1, -⟩, e⟩ | ⟨-, -, e⟩ := o.handOff_cases d g <;> rw [e] at hc ⊢
  · exact h hc
  · simp [h (by omega)]
  · exact h hc

theorem Output.handOff_confirmed (o : Output) (d : Disposition) (g : Nat) (h : o.inMotion = true ∨ o.settled = o.issued) :
    (o.handOff d g).inMotion = true ∨ (o.handOff d g).settled = (o.handOff d g).issued := by
  obtain ⟨-, e⟩ | ⟨-, -, e⟩ | ⟨-, -, e⟩ := o.handOff_cases d g <;> rw [e]
  · exact h
  · exact .inl rfl
  · exact h

/-- A hand-off gives its target, and issues no more. -/
theorem Output.handOff_target (o : Output) {d : Disposition} (g : Nat) (h : d ≠ .none) :
    (o.handOff d g).target = some g ∧ (o.handOff d g).issued ≤ g := by
  obtain ⟨e, -⟩ | ⟨-, -, e⟩ | ⟨-, hn, e⟩ := o.handOff_cases d g
  · exact absurd e h
  · rw [e]
    exact ⟨rfl, le_rfl⟩
  · rw [e]
    refine ⟨rfl, ?_⟩
    by_contra hg
    have : o.issued ≤ o.commitment := Nat.le_max_left _ _
    exact hn ⟨by change ¬o.issued ≤ g at hg; omega, fun k => hg (by rw [← k.2])⟩

/-- All that an increase can do to a bay's output (R98). -/
theorem Output.increase_cases (o : Output) : o.increase = o ∧ (∀ v, o.target = some v → v ≤ o.settled) ∨
    ∃ v, o.target = some v ∧ o.settled < v ∧ o.increase = { o with issued := v, inMotion := true, closed := true } := by
  unfold Output.increase
  split
  · next v hv =>
    split
    · next h => exact .inr ⟨v, hv, h, by simp [Output.issue, Nat.zero_lt_of_lt h]⟩
    · next h => exact .inl ⟨rfl, fun w hw => by rw [hv] at hw; cases hw; omega⟩
  · next h => exact .inl ⟨rfl, fun w hw => by simp [h] at hw⟩

theorem Output.Dropped.increase {o : Output} (h : o.Dropped) : o.increase = o := by
  obtain ⟨-, -, -, -, ht⟩ := h
  simp [Output.increase, ht]

theorem Output.increase_closed (o : Output) (h : 0 < o.commitment → o.closed = true) (hc : 0 < o.increase.commitment) :
    o.increase.closed = true := by
  obtain ⟨e, -⟩ | ⟨v, -, -, e⟩ := o.increase_cases <;> rw [e] at hc ⊢
  exact h hc

/-! ### A pass taken (R78) -/

section
variable (s : State)

theorem State.takePass_output (b : BayNo) :
    s.takePass.output b = (s.output b).handOff (s.disposition b) (grantOf s.passShare.1 b) := by
  unfold State.takePass
  simp only
  split <;> simp [State.output]

/-- What a pass writes (R78). -/
theorem State.takePass_parts : ∃ f bs e o p, s.takePass = { s with
    reservations := s.passReservations, figures := f, bays := bs, entries := e, outputs := o, phase := .decreasing, port := p } := by
  have key : ∀ (f : PassFigures) (bs : Vector Bay 36) (e : Vector AllocEntry 36) (o : Vector Output 36) (c : Prop) [Decidable c],
      ∃ p, (if c then State.addSubject { s with
        reservations := s.passReservations, figures := f, bays := bs, entries := e, outputs := o, phase := .decreasing }
          Source.budgetShort 0
        else { s with
          reservations := s.passReservations, figures := f, bays := bs, entries := e, outputs := o, phase := .decreasing }) = { s with
          reservations := s.passReservations, figures := f, bays := bs, entries := e, outputs := o, phase := .decreasing
          port := p } := fun f bs e o c _ => by
    split
    · exact ⟨_, rfl⟩
    · exact ⟨_, rfl⟩
  obtain ⟨p, hp⟩ := key _ _ _ _ (s.passShare.2 = .floorsShort)
  exact ⟨_, _, _, _, p, hp⟩

theorem State.takePass_roster : s.takePass.roster = s.roster := by
  obtain ⟨_, _, _, _, _, h⟩ := s.takePass_parts
  rw [h]

theorem State.takePass_links : s.takePass.links = s.links := by
  obtain ⟨_, _, _, _, _, h⟩ := s.takePass_parts
  rw [h]

theorem State.takePass_lanes : s.takePass.lanes = s.lanes := by
  obtain ⟨_, _, _, _, _, h⟩ := s.takePass_parts
  rw [h]

theorem State.takePass_slots : s.takePass.slots = s.slots := by
  obtain ⟨_, _, _, _, _, h⟩ := s.takePass_parts
  rw [h]

theorem State.takePass_latchQueue : s.takePass.latchQueue = s.latchQueue := by
  obtain ⟨_, _, _, _, _, h⟩ := s.takePass_parts
  rw [h]

theorem State.takePass_queue : s.takePass.queue = s.queue := by
  obtain ⟨_, _, _, _, _, h⟩ := s.takePass_parts
  rw [h]

theorem State.takePass_releases : s.takePass.releases = s.releases := by
  obtain ⟨_, _, _, _, _, h⟩ := s.takePass_parts
  rw [h]

theorem State.takePass_phase : s.takePass.phase = .decreasing := by
  obtain ⟨_, _, _, _, _, h⟩ := s.takePass_parts
  rw [h]

theorem State.takePass_effective : s.takePass.effective = s.effective := by
  obtain ⟨_, _, _, _, _, h⟩ := s.takePass_parts
  rw [h]

theorem State.takePass_passPending : s.takePass.passPending = s.passPending := by
  obtain ⟨_, _, _, _, _, h⟩ := s.takePass_parts
  rw [h]

theorem State.takePass_reallocRequest : s.takePass.reallocRequest = s.reallocRequest := by
  obtain ⟨_, _, _, _, _, h⟩ := s.takePass_parts
  rw [h]

theorem State.takePass_reservations : s.takePass.reservations = s.passReservations := by
  obtain ⟨_, _, _, _, _, h⟩ := s.takePass_parts
  rw [h]

theorem State.disposition_of_switchedOff {b : BayNo} (h : (s.bay b).state.switchedOff) : s.disposition b = .none := by
  unfold State.disposition
  obtain h | h | h | h := h <;> rw [h]

theorem dispositionOfRecord_ne_none (hot : Bool) (k : Nat) (r : Record) : dispositionOfRecord hot k r ≠ .none := by
  unfold dispositionOfRecord
  repeat' split
  all_goals nofun

/-- A NONE bay has no power, where an IDENTIFIED bay names a record (R79). -/
theorem State.switchedOff_of_disposition {b : BayNo} (h : s.disposition b = .none) (hi : View.IdLaw (s.bay b)) :
    (s.bay b).state.switchedOff := by
  unfold State.disposition at h
  cases hs : (s.bay b).state <;> rw [hs] at h
  case disabled => exact .inl rfl
  case empty => exact .inr (.inl rfl)
  case bringup => exact .inr (.inr (.inl rfl))
  case fault => exact .inr (.inr (.inr rfl))
  case identified =>
    obtain ⟨i, hr⟩ := Option.isSome_iff_exists.mp (hi hs)
    simp only [hr] at h
    exact absurd h (dispositionOfRecord_ne_none _ _ _)
  case foreign => cases hp : s.budget.foreignPolicy <;> simp [hp] at h
  case collided => cases hp : s.budget.foreignPolicy <;> simp [hp] at h

end

/-- The state in which the owners are told (R91, R98). -/
def State.increased (s : State) : State :=
  { s with
    reservations := s.reservations.map Reservation.activate
    outputs := Vector.ofFn fun b => (s.output b).increase
    phase := .increasing }

theorem State.endDecreasing_eq (s : State) : s.endDecreasing = s.admittedOwners.foldl State.tellActive s.increased := rfl

theorem State.increased_output (s : State) (b : BayNo) : s.increased.output b = (s.output b).increase := by
  simp [State.increased, State.output]

namespace State.Settles

variable {s : State}

theorem takePass (s : State) : s.Settles s.takePass := by
  refine of_power s.takePass_untouched (fun b h => ?_) (fun b => ?_) s.takePass_roster s.takePass_links
    s.takePass_lanes s.takePass_slots s.takePass_latchQueue s.takePass_queue
  · rw [State.takePass_output]
    refine ⟨fun g => ?_, Output.handOff_closed _ _ _ h.closed, h.down⟩
    rw [s.disposition_of_switchedOff g]
    exact h.rest g
  · rw [State.takePass_bay]
    exact ⟨rfl, rfl, rfl⟩

/-- A write of the marks of the pass alone. -/
theorem marks (s : State) (x y : Bool) : s.Settles { s with reallocRequest := x, passPending := y } :=
  of_power (.tables rfl rfl) (fun _ h => h) fun _ => ⟨rfl, rfl, rfl⟩

theorem serveRequest (s : State) : s.Settles s.serveRequest := by
  unfold State.serveRequest
  split
  · simp only
    split
    · exact (marks s false s.passPending).trans (takePass _)
    all_goals exact marks s false true
  · exact refl s

theorem endDecreasing (s : State) : s.Settles s.endDecreasing := by
  have h1 : s.Settles s.increased := by
    refine of_power (.tables rfl rfl) (fun b h => ?_) fun _ => ⟨rfl, rfl, rfl⟩
    rw [State.increased_output]
    refine ⟨fun g => ?_, Output.increase_closed _ h.closed, h.down⟩
    rw [(h.rest g).increase]
    exact h.rest g
  rw [State.endDecreasing_eq]
  exact h1.trans (foldl (fun _ o => tellActive o) _ _)

theorem endPass (s : State) : s.Settles s.endPass := by
  refine of_power s.endPass_untouched (fun b h => ?_) fun _ => ⟨rfl, rfl, rfl⟩
  have hf := State.Carries.endPass_falls s b
  exact ⟨fun g => hf.dropped (h.rest g), hf.closed h.closed, h.down⟩

theorem settle : ∀ (n : Nat) (s : State), s.Settles (State.settle n s)
  | 0, s => refl s
  | n + 1, s => by
    unfold State.settle
    simp only
    split
    · exact serveRequest s
    · split
      · exact serveRequest s
      · exact ((serveRequest s).trans (endDecreasing _)).trans (settle n _)
    · split
      · exact serveRequest s
      · exact ((serveRequest s).trans (endPass _)).trans (settle n _)

end State.Settles

namespace State.Reserves

variable {s : State}

theorem takePass (h : s.Reserves Told) : s.takePass.Reserves Told :=
  h.judged (s.takePass_reservations ▸ admitWalk_forall₂ _ _ _ _ _) s.takePass_slots s.takePass_lanes

theorem serveRequest (h : s.Reserves Told) : s.serveRequest.Reserves Told := by
  unfold State.serveRequest
  split
  · simp only
    split
    · exact takePass (s := { s with reallocRequest := false }) (h.congr rfl (fun _ => rfl) rfl)
    all_goals exact h.congr rfl (fun _ => rfl) rfl
  · exact h

theorem endDecreasing (h : s.Reserves Told) : s.endDecreasing.Reserves Told :=
  tellAll _ s.increased h.admittedOwners_nodup (h.activate rfl rfl rfl)

theorem endPass (h : s.Reserves Told) : s.endPass.Reserves Told := h.congr rfl (fun _ => rfl) rfl

theorem settle : ∀ (n : Nat) {s : State}, s.Reserves Told → (State.settle n s).Reserves Told
  | 0, _, h => h
  | n + 1, s, h => by
    unfold State.settle
    simp only
    split
    · exact h.serveRequest
    · split
      · exact h.serveRequest
      · exact settle n h.serveRequest.endDecreasing
    · split
      · exact h.serveRequest
      · exact settle n h.serveRequest.endPass

end State.Reserves

end Sys2Proof.Machine
end

section
/-! SUPPORT. Queue membership and grants where a change closes (R111, R116), and the settling of O8. -/

namespace Sys2Proof.Machine

set_option Elab.async false

/-- Lanes granted where a change closes: the queue, free lanes, the bays' lane marks, reservations PENDING and the reallocation
request alone are written (R116). -/
structure State.Grants (s t : State) : Prop where
  only : t = { s with
    queue := t.queue, lanes := t.lanes, bays := t.bays, reservations := t.reservations, reallocRequest := t.reallocRequest }
  bay : ∀ b, t.bay b = { s.bay b with lane := (t.bay b).lane }
  held : ∀ l, (s.lane l).session.isSome = true → t.lane l = s.lane l
  lasts : ∀ l, (t.lane l).last = (s.lane l).last
  list : ∃ m, t.reservations = s.reservations ++ m ∧ ∀ e ∈ m, e.state = .pending
  request : s.reallocRequest = true → t.reallocRequest = true
  reserves : ∀ P, s.Reserves P → t.Reserves P

namespace State.Grants

variable {s t u : State}

theorem refl (s : State) : s.Grants s :=
  ⟨rfl, fun _ => rfl, fun _ _ => rfl, fun _ => rfl, ⟨[], by simp⟩, id, fun _ => id⟩

theorem trans (h : s.Grants t) (g : t.Grants u) : s.Grants u where
  only := by rw [g.only, h.only]
  bay b := by rw [g.bay b, h.bay b]
  held l hl := (g.held l (by rw [h.held l hl]; exact hl)).trans (h.held l hl)
  lasts l := (g.lasts l).trans (h.lasts l)
  list := by
    obtain ⟨m, e, hm⟩ := h.list
    obtain ⟨n, e', hn⟩ := g.list
    exact ⟨m ++ n, by rw [e', e, List.append_assoc], fun x hx => (List.mem_append.mp hx).elim (hm x) (hn x)⟩
  request := g.request ∘ h.request
  reserves P := g.reserves P ∘ h.reserves P

theorem requeue (s : State) : s.Grants s.requeue :=
  ⟨rfl, fun _ => rfl, fun _ _ => rfl, fun _ => rfl, ⟨[], (List.append_nil _).symm, by simp⟩, id,
    fun _ h => h.congr rfl (fun _ => rfl) rfl⟩

theorem lane_grantLane (s : State) (l : LaneNo) (i : RecordIx) (b : BayNo) (m : LaneNo) : (s.grantLane l i b).lane m =
    if l = m then { s.lane l with session := some ⟨.admitting, b, i, (s.record i).profileTarget, s.clock.stamp⟩ }
    else s.lane m := State.lane_setLane { s with queue := s.queue.erase i } l m _

theorem bay_grantLane (s : State) (l : LaneNo) (i : RecordIx) (b c : BayNo) : (s.grantLane l i b).bay c =
    if b = c then { s.bay b with lane := some l } else s.bay c :=
  State.bay_modBay (State.setLane { s with queue := s.queue.erase i } l _) b c fun x => { x with lane := some l }

theorem grantLane {l : LaneNo} (hl : (s.lane l).session = none) (i : RecordIx) (b : BayNo) : s.Grants (s.grantLane l i b) := by
  have hlane := lane_grantLane s l i b
  have hbay := bay_grantLane s l i b
  refine ⟨rfl, fun c => ?_, fun m hm => ?_, fun m => ?_, ⟨_, rfl, by simp⟩, fun _ => rfl, fun P h => ?_⟩
  · rw [hbay]
    split
    · next e => subst e; rfl
    · rfl
  · rw [hlane, if_neg]
    rintro rfl
    simp [hl] at hm
  · rw [hlane]
    split
    · next e => subst e; rfl
    · rfl
  · exact h.raise (.lane l) _ rfl (fun _ _ => rfl) nofun (fun m hm => by rw [hlane, if_neg fun e => hm (by rw [e])])
      fun m hm => by cases hm; exact ⟨hl, by rw [hlane, if_pos rfl]; exact ⟨_, rfl, rfl⟩⟩

theorem grantLanes : ∀ (n : Nat) (s : State), s.Grants (State.grantLanes n s)
  | 0, s => refl s
  | n + 1, s => by
    unfold State.grantLanes
    split
    · split
      · next l _ hl =>
        split
        · exact (grantLane (by simpa using List.find?_some hl) _ _).trans (grantLanes n _)
        · exact refl s
      · exact refl s
    · exact refl s

/-- What comes before the settling of a change (R111, R116). -/
theorem before (s : State) : s.Grants (State.grantLanes 4 s.requeue) := (requeue s).trans (grantLanes 4 _)

theorem counted (h : s.Grants t) : countedAmount t.reservations = countedAmount s.reservations := by
  obtain ⟨m, e, hm⟩ := h.list
  rw [e, countedAmount_append]
  have : countedAmount m = 0 := by
    unfold countedAmount
    rw [List.filter_eq_nil_iff.mpr fun x hx => by simp [Reservation.counted, hm x hx]]
    rfl
  omega

theorem output (h : s.Grants t) (b : BayNo) : t.output b = s.output b := by rw [h.only]; rfl

theorem link (h : s.Grants t) (b : BayNo) : t.link b = s.link b := by rw [h.only]; rfl

theorem phase (h : s.Grants t) : t.phase = s.phase := by rw [h.only]

theorem effective (h : s.Grants t) : t.effective = s.effective := by rw [h.only]

theorem record (h : s.Grants t) (i : RecordIx) : t.record i = s.record i := by rw [h.only]; rfl

theorem slots (h : s.Grants t) : t.slots = s.slots := by rw [h.only]

theorem latchQueue (h : s.Grants t) : t.latchQueue = s.latchQueue := by rw [h.only]

theorem powers (h : s.Grants t) (b : BayNo) (g : Powers (s.bay b).state (s.output b) (s.link b)) :
    Powers (t.bay b).state (t.output b) (t.link b) := by
  rw [h.bay, h.output, h.link]
  exact g

theorem latches (h : s.Grants t) (g : s.LatchLaw) : t.LatchLaw :=
  g.congr h.slots h.latchQueue fun b => by rw [h.bay]

theorem budget (h : s.Grants t) (g : s.BudgetWaits) : t.BudgetWaits := by
  have ht : ∀ b, t.targetOf b = s.targetOf b := fun b => by simp only [State.targetOf, h.output]
  exact g.falls h.phase h.request (fun k b => by rw [h.output]; exact k b) (fun b => by rw [h.output]) (fun b => by rw [ht])
    (fun b k => by rw [h.output, ht]; exact k) (fun b k => by rw [h.output, ht]; exact k) h.counted.le h.effective.ge

end State.Grants

/-! ### The close of a change -/

/-- The close of a change ends with the lamps and ATTN set right (R43, R183). -/
theorem State.closeChange_eq (s : State) : s.closeChange =
    (State.settle (State.grantLanes 4 s.requeue).settleFuel (State.grantLanes 4 s.requeue)).relamp.reAttn := rfl

theorem State.relamp_settles (s : State) : s.Settles s.relamp :=
  .of_power s.relamp_untouched (fun b h => by rw [show s.relamp.output b = s.output b by simp only [State.output, s.relamp_outputs]]; exact h)
    (fun b => by rw [s.relamp_bay]; exact ⟨rfl, rfl, rfl⟩) s.relamp_roster s.relamp_links s.relamp_lanes s.relamp_slots
    s.relamp_latchQueue s.relamp_queue

theorem State.reAttn_settles (s : State) : s.Settles s.reAttn :=
  .of_power s.reAttn_untouched (fun _ h => h) fun _ => ⟨rfl, rfl, rfl⟩

/-- The settling of a change, with its lamps and ATTN. -/
theorem State.Settles.close (n : Nat) (s : State) : s.Settles (State.settle n s).relamp.reAttn :=
  ((settle n s).trans (State.relamp_settles _)).trans (State.reAttn_settles _)

theorem State.closeChange_settles (s : State) : (State.grantLanes 4 s.requeue).Settles s.closeChange := by
  rw [State.closeChange_eq]
  exact .close _ _

section
variable {s : State}

theorem State.Powered.closeChange (h : s.Powered) : s.closeChange.Powered := fun b =>
  s.closeChange_settles.powers b ((State.Grants.before s).powers b (h b))

theorem State.LatchLaw.closeChange (h : s.LatchLaw) : s.closeChange.LatchLaw :=
  s.closeChange_settles.latches ((State.Grants.before s).latches h)

theorem State.Reserves.relamp (h : s.Reserves Told) : s.relamp.Reserves Told :=
  h.congr s.relamp_slots (fun l => by rw [State.lane_congr s.relamp_lanes]) s.relamp_reservations

theorem State.Reserves.reAttn (h : s.Reserves Told) : s.reAttn.Reserves Told := h.congr rfl (fun _ => rfl) rfl

theorem State.Reserves.closeChange (h : s.Reserves Told) : s.closeChange.Reserves Told := by
  rw [State.closeChange_eq]
  have h1 := State.Reserves.settle (State.grantLanes 4 s.requeue).settleFuel ((State.Grants.before s).reserves Told h)
  revert h1
  generalize State.settle _ _ = t
  exact fun h1 => h1.relamp.reAttn

/-! ### The commands that open no change -/

/-- A link that is DOWN stays so under every change of links alone. -/
theorem Link.Downed.writeLinkSettings {b : BayNo} (h : (s.link b).Downed) (t : LinkSettings) :
    ((s.writeLinkSettings t).link b).Downed := by
  obtain ⟨h1, h2, -⟩ := id h
  have hb : (s.link b).bringDown t.maxStep = s.link b := by simp [Link.bringDown, h2]
  rw [State.writeLinkSettings_link]
  simp only [hb]
  rw [if_neg (by simp [h1])]
  exact h

theorem Link.Downed.pollInstant {l : Link} (h : l.Downed) (set : LinkSettings) (n : Nat) : (l.pollInstant set n).Downed := by
  obtain ⟨h1, h2, h3⟩ := h
  exact ⟨h1, h2, h3⟩

theorem State.Minor.powered {t : State} (h : s.Minor t) (hl : ∀ b, (s.bay b).state.off → (s.link b).Downed → (t.link b).Downed)
    (hp : s.Powered) : t.Powered := fun b => by
  rw [h.bay b, h.output b]
  exact ⟨(hp b).rest, (hp b).closed, fun g => hl b g ((hp b).down g)⟩

theorem State.Powered.modLink {b : BayNo} {f : Link → Link} (h : s.Powered) (hf : (s.link b).Downed → (f (s.link b)).Downed) :
    (s.modLink b f).Powered := fun c => (State.Carries.modLink (E := View.All) b f fun _ => hf).powers c (h c)

theorem State.Powered.respond (h : s.Powered) (x : Status) (d : List Byte) : (s.respond x d).Powered := fun b => h b

theorem State.accountAll_link (l : List BayNo) (s : State) (b : BayNo) : (l.foldl State.accountBay s).link b = s.link b := by
  induction l generalizing s with
  | nil => rfl
  | cons c l ih => rw [List.foldl_cons, ih, State.accountBay_only]; rfl

theorem State.countSecond_link (s : State) (b : BayNo) : s.countSecond.link b = s.link b := rfl

/-- Every command leaves outputs and links as the bays' states say. -/
theorem State.Steps.powered {t : State} (hi : s.Inv) (h : s.Steps t) : t.Powered := by
  have hp := hi.powered_all
  have close : ∀ {u : State}, s.Opens u → u.closeChange.Powered := fun {u} ho =>
    State.Powered.closeChange fun b => (ho.carries hi).powers b (hp b)
  cases h with
  | quiet h _ => exact (State.Minor.of_alike h).powered (fun b _ g => by rw [State.Alike] at h; rw [h]; exact g) hp
  | closed h => exact close h
  | answered h x d => exact (close h).respond x d
  | pumped h b => exact (close h).modLink fun g => g.pump
  | cold v => exact (s.coldReset_atRest v).inv.powered_all
  | warm => exact s.warmReset_atRest.inv.powered_all
  | links t x d => exact ((State.Minor.writeLinkSettings s t).trans (.respond _ x d)).powered (fun b _ g => g.writeLinkSettings t) hp
  | rawContact b v => exact (State.Minor.modBay b _ fun _ => rfl).powered (fun _ _ g => g) hp
  | contact b v => exact (State.Minor.modBay b _ fun _ => rfl).powered (fun _ _ g => g) hp
  | switches b x y => exact (State.Minor.modBay b _ fun _ => rfl).powered (fun _ _ g => g) hp
  | hello b hb => exact hp.modLink fun ⟨g, _⟩ => by simp [hb] at g
  | echo b v hb =>
    have h1 : (s.modLink b (Link.judgeTap s.clk32 (v == Config.trainingPattern))).Powered :=
      hp.modLink fun ⟨_, _, g⟩ => by simp [hb] at g
    exact h1.modLink fun g => g.pump
  | poll b => exact (hp.modLink fun g => g.pollInstant _ _).modLink fun g => g.pump
  | account =>
    exact ((State.Minor.foldl (fun t b => State.Minor.accountBay t b) allBays s).trans (.countSecond _)).powered
      (fun b _ g => by
        rw [State.countSecond_link, State.accountAll_link]
        exact g) hp

theorem State.Minor.latchLaw {t : State} (h : s.Minor t) (g : s.LatchLaw) : t.LatchLaw :=
  g.congr (by rw [h.only]) (by rw [h.only]) fun b => by rw [h.bay b]

theorem State.Minor.reserves {t : State} (h : s.Minor t) (g : s.Reserves Told) : t.Reserves Told :=
  g.congr (by rw [h.only]) (fun l => by rw [h.only]; rfl) (by rw [h.only])

end

/-- Settles O8: the writes of every command carry the laws over to the close of its change, and each stage of the settling keeps
them. -/
theorem outputAndLinkLawsAreKept : Obligations.OutputAndLinkLawsAreKept := by
  unfold Obligations.OutputAndLinkLawsAreKept
  refine ⟨fun c s t hi hr he => ?_, fun c s t hi hl hla hrs he => ?_, fun c s t hs he => (State.Keeps.of_exec he).sweep hs⟩
  · obtain ⟨hsh, hv, -⟩ := custody_of_exec hi he
    have hp := (exec_steps he).powered hi
    obtain ⟨-, -, -, hd⟩ := hsh.custodyLaw hv
    exact ⟨hp.outputLaw hd, hp.linkLaw (hsh.partner_ne hv), (State.Keeps.of_exec he).rate hr⟩
  · rw [State.reservationLaw_iff] at hrs ⊢
    obtain h | h | ⟨u, ho, h⟩ := (exec_steps he).minor
    · exact ⟨h.latchLaw hla, h.reserves hrs⟩
    · exact ⟨h.latchLaw, State.reservationLaw_iff.mp h.reservationLaw⟩
    · have hc := ho.carries hi
      exact ⟨h.latchLaw (hc.latches hla).closeChange, h.reserves (hc.reserves hrs).closeChange⟩

end Sys2Proof.Machine
end

section
/-! SUPPORT. The budget law through the settling of a change (R72, R105), and the settling of O3. -/

namespace Sys2Proof.Machine

set_option Elab.async false

/-- The budget law, with no pass awaited, but for the bays' records (R72, R105). -/
def State.Budgeted (s : State) : Prop := s.Confirmed ∧ s.PhaseLaw

section
variable {s t : State} {b : BayNo}

theorem State.moving_eq_false : s.moving = false ↔ ∀ b, (s.output b).inMotion = false := by
  simp [State.moving, allBays]

/-! ### A pass taken -/

/-- The pass target of a bay is its grant (R97). -/
theorem State.takePass_targetOf (hp : s.Powered) (hi : View.IdLaw (s.bay b)) :
    s.takePass.targetOf b = grantOf s.passShare.1 b ∧ (s.takePass.output b).issued ≤ s.takePass.targetOf b := by
  have ho := s.takePass_output b
  by_cases hd : s.disposition b = .none
  · obtain ⟨-, h2, -, -, h5⟩ := (hp b).rest (s.switchedOff_of_disposition hd hi)
    have hg : grantOf s.passShare.1 b = 0 := by
      have := s.takePass_grant_of_none (s.passBay_eq_none (b := b) (by simp [hd]) (by simp [hd]))
      rwa [State.takePass_bay] at this
    simp [State.targetOf, ho, Output.handOff, hd, hg, h2, h5]
  · obtain ⟨h1, h2⟩ := (s.output b).handOff_target (grantOf s.passShare.1 b) hd
    have e : s.takePass.targetOf b = grantOf s.passShare.1 b := by simp only [State.targetOf, ho, h1, Option.getD_some]
    exact ⟨e, by rw [e, ho]; exact h2⟩

theorem State.takePass_fits (hp : s.Powered) (hi : ∀ b, View.IdLaw (s.bay b)) : s.takePass.Fits s.takePass.targetOf := by
  have ht : ∀ b, s.takePass.targetOf b = (s.takePass.bay b).grant := fun b => by
    rw [(State.takePass_targetOf hp (hi b)).1, State.takePass_bay]
  have hsum : (allBays.map s.takePass.targetOf).sum ≤ s.effective - countedAmount s.passReservations := by
    rw [show s.takePass.targetOf = fun b => (s.takePass.bay b).grant from funext ht, State.sum_grants]
    exact grantSum_share_le (fun x hx => s.passRanked_inOrder x hx)
  rw [State.Fits, s.takePass_reservations, s.takePass_effective]
  by_cases hc : countedAmount s.passReservations ≤ s.effective
  · exact .inl (by omega)
  · refine .inr fun b => ?_
    have hm := List.single_le_sum (l := allBays.map s.takePass.targetOf) (by simp) _
      (List.mem_map_of_mem (f := s.takePass.targetOf) (List.mem_finRange b))
    omega

theorem State.takePass_budgeted (hp : s.Powered) (hi : ∀ b, View.IdLaw (s.bay b)) (hc : s.Confirmed) : s.takePass.Budgeted := by
  refine ⟨fun b => ?_, fun e => ?_, fun _ => ⟨fun b => (State.takePass_targetOf hp (hi b)).2, State.takePass_fits hp hi⟩,
    fun e => ?_⟩
  · rw [State.takePass_output]
    exact Output.handOff_confirmed _ _ _ (hc b)
  all_goals simp [State.takePass_phase] at e

/-- A request served: a pass that was awaited is taken (R75). -/
theorem State.BudgetWaits.serveRequest (h : s.BudgetWaits) (hp : s.Powered) (hi : ∀ b, View.IdLaw (s.bay b)) :
    s.serveRequest.Budgeted := by
  obtain ⟨h1, h2⟩ := h
  have applying : s.phase ≠ .idle → s.PhaseLaw := fun hn => h2.resolve_left fun g => hn g.1
  unfold State.serveRequest
  split
  · simp only
    split
    · exact State.takePass_budgeted (s := { s with reallocRequest := false }) hp hi h1
    · next e => exact ⟨h1, applying (by simp [e])⟩
    · next e => exact ⟨h1, applying (by simp [e])⟩
  · next hr => exact ⟨h1, h2.resolve_left fun g => hr g.2⟩

/-! ### The phases ended -/

/-- Telling owners moves no output, ends no phase and counts no further reservation (R91). -/
theorem State.tellAll_power (l : List Owner) : ∀ s : State, (l.foldl State.tellActive s).outputs = s.outputs ∧
    (l.foldl State.tellActive s).phase = s.phase ∧ (l.foldl State.tellActive s).effective = s.effective ∧
    countedAmount (l.foldl State.tellActive s).reservations ≤ countedAmount s.reservations := by
  induction l with
  | nil => exact fun s => ⟨rfl, rfl, rfl, le_rfl⟩
  | cons o l ih =>
    intro s
    have h := s.tellActive_tells o
    obtain ⟨h1, h2, h3, h4⟩ := ih (s.tellActive o)
    exact ⟨h1.trans h.outputs, h2.trans h.phase, h3.trans h.effective, h4.trans h.counted⟩

theorem State.output_congr (h : t.outputs = s.outputs) (b : BayNo) : t.output b = s.output b := by simp only [State.output, h]

theorem State.endDecreasing_output (s : State) (b : BayNo) : s.endDecreasing.output b = (s.output b).increase := by
  rw [State.endDecreasing_eq, State.output_congr (State.tellAll_power _ _).1, State.increased_output]

theorem State.endDecreasing_phase (s : State) : s.endDecreasing.phase = .increasing := by
  rw [State.endDecreasing_eq, (State.tellAll_power _ _).2.1]
  rfl

/-- What an increase commits is the target, where what was issued is settled and no more (R98). -/
theorem Output.increase_commitment {o : Output} (hs : o.settled = o.issued) (ht : o.issued ≤ o.target.getD 0) :
    o.increase.commitment ≤ o.target.getD 0 := by
  obtain ⟨e, -⟩ | ⟨v, hv, hlt, e⟩ := o.increase_cases <;> rw [e]
  · simpa [Output.commitment, hs] using ht
  · simp only [Output.commitment, hv, Option.getD_some]
    omega

theorem Output.increase_target (o : Output) : o.increase.target = o.target := by
  obtain ⟨e, -⟩ | ⟨v, -, -, e⟩ := o.increase_cases <;> rw [e]

theorem Output.increase_confirmed (o : Output) (h : o.inMotion = true ∨ o.settled = o.issued) :
    o.increase.inMotion = true ∨ o.increase.settled = o.increase.issued := by
  obtain ⟨e, -⟩ | ⟨v, -, -, e⟩ := o.increase_cases <;> rw [e]
  · exact h
  · exact .inl rfl

theorem State.Budgeted.endDecreasing (h : s.Budgeted) (hp : s.phase = .decreasing) (hm : s.moving = false) :
    s.endDecreasing.Budgeted := by
  obtain ⟨h1, -, h2, -⟩ := h
  obtain ⟨h2, h3⟩ := h2 hp
  obtain ⟨-, -, he, hr⟩ := State.tellAll_power s.admittedOwners s.increased
  rw [← State.endDecreasing_eq] at he hr
  have ho := s.endDecreasing_output
  have hsettled : ∀ b, (s.output b).settled = (s.output b).issued := fun b =>
    (h1 b).resolve_left (by simp [State.moving_eq_false.mp hm b])
  have ht : ∀ b, s.endDecreasing.targetOf b = s.targetOf b := fun b => by
    simp only [State.targetOf, ho, Output.increase_target]
  have hc : ∀ b, (s.endDecreasing.output b).commitment ≤ s.targetOf b := fun b => by
    rw [ho]
    exact Output.increase_commitment (hsettled b) (h2 b)
  have hr : countedAmount s.endDecreasing.reservations ≤ countedAmount s.reservations :=
    hr.trans (countedAmount_activate _).le
  have he : s.effective ≤ s.endDecreasing.effective := he.ge
  refine ⟨fun b => ?_, fun e => ?_, fun e => ?_, fun _ => ⟨fun b => (ht b).symm ▸ hc b,
    h3.mono (fun b => (ht b).le) hr he, h3.mono hc hr he⟩⟩
  · rw [ho]
    exact (s.output b).increase_confirmed (h1 b)
  all_goals simp [State.endDecreasing_phase] at e

theorem State.endPass_output (s : State) (b : BayNo) : s.endPass.output b = { s.output b with target := none } := by
  simp [State.endPass, State.output]

theorem State.Budgeted.endPass (h : s.Budgeted) (hp : s.phase = .increasing) : s.endPass.Budgeted := by
  obtain ⟨h1, -, -, h2⟩ := h
  obtain ⟨-, -, h3⟩ := h2 hp
  refine ⟨fun b => by rw [State.endPass_output]; exact h1 b, fun _ => h3.mono (fun b => ?_) le_rfl le_rfl, nofun, nofun⟩
  rw [State.endPass_output]
  exact le_rfl

/-! ### The whole of the settling -/

theorem Bay.IdentityKept.idLaw {x y : Bay} (h : x.IdentityKept y) (hx : View.IdLaw x) : View.IdLaw y := by
  have h1 : y.state = x.state := by
    have := congrArg Bay.state h
    exact this
  have h2 : y.record = x.record := by
    have := congrArg Bay.record h
    exact this
  intro g
  rw [h2]
  exact hx (h1 ▸ g)

theorem State.Settles.idLaw (h : s.Settles t) (hi : ∀ b, View.IdLaw (s.bay b)) (b : BayNo) : View.IdLaw (t.bay b) :=
  Bay.IdentityKept.idLaw (h.frame.bays b (by simp)) (hi b)

theorem State.Settles.powered (h : s.Settles t) (hp : s.Powered) : t.Powered := fun b => h.powers b (hp b)

theorem State.Budgeted.waits (h : s.Budgeted) : s.BudgetWaits := ⟨h.1, .inr h.2⟩

/-- One round of the settling and the rest, from a state where the budget law holds but for a pass that is due. -/
theorem State.BudgetWaits.settle (n : Nat) : ∀ {s : State}, s.BudgetWaits → s.Powered → (∀ b, View.IdLaw (s.bay b)) →
    (State.settle (n + 1) s).Budgeted := by
  induction n with
  | zero =>
    intro s h hp hi
    have h1 := h.serveRequest hp hi
    unfold State.settle
    simp only
    split
    · exact h1
    · split
      · exact h1
      · next e g => exact h1.endDecreasing e (by simpa using g)
    · split
      · exact h1
      · next e g => exact h1.endPass e
  | succ n ih =>
    intro s h hp hi
    have h1 := h.serveRequest hp hi
    have hs := State.Settles.serveRequest s
    unfold State.settle
    simp only
    split
    · exact h1
    · split
      · exact h1
      · next e g =>
        have hd := hs.trans (.endDecreasing _)
        exact ih (h1.endDecreasing e (by simpa using g)).waits (hd.powered hp) (hd.idLaw hi)
    · split
      · exact h1
      · next e g =>
        have hd := hs.trans (.endPass _)
        exact ih (h1.endPass e).waits (hd.powered hp) (hd.idLaw hi)

theorem State.Budgeted.relamp (h : s.Budgeted) : s.relamp.Budgeted := by
  have ho : ∀ b, s.relamp.output b = s.output b := State.output_congr s.relamp_outputs
  have ht : ∀ b, s.relamp.targetOf b = s.targetOf b := fun b => by simp only [State.targetOf, ho]
  obtain ⟨h1, h2, h3, h4⟩ := h
  have hr : countedAmount s.relamp.reservations ≤ countedAmount s.reservations := by rw [s.relamp_reservations]
  have he : s.effective ≤ s.relamp.effective := by rw [s.relamp_effective]
  have hc : ∀ b, (s.relamp.output b).commitment ≤ (s.output b).commitment := fun b => by rw [ho]
  have htl : ∀ b, s.relamp.targetOf b ≤ s.targetOf b := fun b => by rw [ht]
  refine ⟨fun b => by rw [ho]; exact h1 b, fun e => ?_, fun e => ?_, fun e => ?_⟩ <;> rw [s.relamp_phase] at e
  · exact (h2 e).mono hc hr he
  · exact ⟨fun b => by rw [ho, ht]; exact (h3 e).1 b, (h3 e).2.mono htl hr he⟩
  · obtain ⟨k1, k2, k3⟩ := h4 e
    exact ⟨fun b => by rw [ho, ht]; exact k1 b, k2.mono htl hr he, k3.mono hc hr he⟩

theorem State.Budgeted.reAttn (h : s.Budgeted) : s.reAttn.Budgeted := h

theorem State.BudgetWaits.closeChange (h : s.BudgetWaits) (hp : s.Powered) (hi : ∀ b, View.IdLaw (s.bay b)) :
    s.closeChange.Budgeted := by
  have hg := State.Grants.before s
  have h1 : (State.settle (State.grantLanes 4 s.requeue).settleFuel (State.grantLanes 4 s.requeue)).Budgeted :=
    State.BudgetWaits.settle _ (hg.budget h) (fun b => hg.powers b (hp b)) fun b => by
      rw [hg.bay]
      exact hi b
  rw [State.closeChange_eq]
  exact h1.relamp.reAttn

/-! ### The decreasing phase lowers commitments alone (R105) -/

theorem State.serveRequest_commitment (s : State) (b : BayNo) :
    (s.serveRequest.output b).commitment ≤ (s.output b).commitment := by
  unfold State.serveRequest
  split
  · simp only
    split
    · rw [State.takePass_output]
      exact Output.handOff_falls _ _ _
    all_goals exact le_rfl
  · exact le_rfl

theorem State.endPass_commitment (s : State) (b : BayNo) : (s.endPass.output b).commitment ≤ (s.output b).commitment := by
  rw [State.endPass_output]
  exact le_rfl

/-- Where the decreasing phase ends with nothing set in motion, no output has changed (R98). -/
theorem State.endDecreasing_still (h : s.endDecreasing.moving = false) (b : BayNo) : s.endDecreasing.output b = s.output b := by
  have hm := State.moving_eq_false.mp h b
  rw [State.endDecreasing_output] at hm ⊢
  obtain ⟨e, -⟩ | ⟨v, -, -, e⟩ := (s.output b).increase_cases
  · exact e
  · simp [e] at hm

theorem State.serveRequest_increasing (h : s.phase = .increasing) : s.serveRequest.phase = .increasing ∧
    s.serveRequest.moving = s.moving := by
  unfold State.serveRequest
  split
  · simp only [h]
    exact ⟨trivial, rfl⟩
  · exact ⟨h, rfl⟩

/-- A settling that ends in the decreasing phase has raised no commitment. -/
theorem State.settle_commitment (n : Nat) : ∀ s : State, (State.settle n s).phase = .decreasing →
    ∀ b, ((State.settle n s).output b).commitment ≤ (s.output b).commitment := by
  induction n with
  | zero => exact fun s _ b => le_rfl
  | succ n ih =>
    intro s
    unfold State.settle
    simp only
    have h1 := s.serveRequest_commitment
    split
    · exact fun _ => h1
    · next hp =>
      split
      · exact fun _ => h1
      · intro h b
        refine (ih _ h b).trans ?_
        have hstill : s.serveRequest.endDecreasing.moving = false := by
          cases n with
          | zero => simp [State.settle, State.endDecreasing_phase] at h
          | succ m =>
            obtain ⟨e1, e2⟩ := State.serveRequest_increasing s.serveRequest.endDecreasing_phase
            rw [← e2]
            by_contra g
            have g : s.serveRequest.endDecreasing.serveRequest.moving = true := by simpa using g
            unfold State.settle at h
            simp only [e1, g, if_true] at h
            cases h
        rw [State.endDecreasing_still hstill]
        exact h1 b
    · next hp =>
      split
      · intro h
        simp [hp] at h
      · exact fun h b => ((ih _ h b).trans (State.endPass_commitment _ b)).trans (h1 b)

theorem State.reAttn_output (s : State) (b : BayNo) : s.reAttn.output b = s.output b := rfl

theorem State.closeChange_commitment (h : s.closeChange.phase = .decreasing) (b : BayNo) :
    (s.closeChange.output b).commitment ≤ (s.output b).commitment := by
  have key := State.settle_commitment (State.grantLanes 4 s.requeue).settleFuel (State.grantLanes 4 s.requeue)
  rw [State.closeChange_eq, State.reAttn_phase, State.relamp_phase] at h
  rw [State.closeChange_eq, State.reAttn_output, State.output_congr (State.relamp_outputs _), ← (State.Grants.before s).output b]
  exact key h b

end

/-! ### Commands that open no change -/

section
variable {s t : State}

theorem State.Minor.commitment (h : s.Minor t) (b : BayNo) : (t.output b).commitment = (s.output b).commitment := by
  rw [h.output]
  rfl

theorem State.Minor.budgeted (h : s.Minor t) (g : s.Budgeted) : t.Budgeted := by
  have hc := h.commitment
  have ht : ∀ b, t.targetOf b = s.targetOf b := fun b => by simp only [State.targetOf]; rw [h.output]
  have hi : ∀ b, (t.output b).issued = (s.output b).issued := fun b => by rw [h.output]
  have hp : t.phase = s.phase := by rw [h.only]
  have hr : countedAmount t.reservations ≤ countedAmount s.reservations := by rw [h.only]
  have he : s.effective ≤ t.effective := by rw [h.only]
  obtain ⟨h1, h2, h3, h4⟩ := g
  refine ⟨fun b => by rw [h.output]; exact h1 b, fun e => ?_, fun e => ?_, fun e => ?_⟩ <;> rw [hp] at e
  · exact (h2 e).mono (fun b => (hc b).le) hr he
  · exact ⟨fun b => by rw [hi, ht]; exact (h3 e).1 b, (h3 e).2.mono (fun b => (ht b).le) hr he⟩
  · obtain ⟨k1, k2, k3⟩ := h4 e
    exact ⟨fun b => by rw [hc, ht]; exact k1 b, k2.mono (fun b => (ht b).le) hr he, k3.mono (fun b => (hc b).le) hr he⟩

/-- What every command leaves of the budget law, and, where it leaves the decreasing phase, of the commitments. -/
theorem State.Steps.budget (hi : s.Inv) (hb : s.BudgetLaw) (h : s.Steps t) : t.Budgeted ∧
    (t.phase = .decreasing → (∀ b, (t.output b).commitment ≤ (s.output b).commitment) ∨ t.Fits fun b => (t.output b).commitment) := by
  obtain ⟨h1, h2, h3⟩ := State.budgetLaw_iff.mp hb
  obtain h | h | ⟨u, ho, h⟩ := h.minor
  · exact ⟨h.budgeted ⟨h1, h3⟩, fun _ => .inl fun b => (h.commitment b).le⟩
  · obtain ⟨k1, -, k3⟩ := State.budgetLaw_iff.mp h.budgetLaw
    exact ⟨⟨k1, k3⟩, fun _ => .inr h.fits⟩
  · have hc := ho.carries hi
    obtain ⟨w, hw, f⟩ := ho.leads hi
    have hid : ∀ b, View.IdLaw (u.bay b) := fun b => by
      obtain ⟨rfl, -⟩ := hw
      exact f.ids (fun c _ => h2 c) b trivial
    refine ⟨h.budgeted ((hc.budget ⟨h1, .inr h3⟩).closeChange (fun b => hc.powers b (hi.powered_all b)) hid), fun hp => .inl fun b => ?_⟩
    rw [h.commitment]
    refine (State.closeChange_commitment (by rw [← hp, h.only]) b).trans (hc.commits b)

end

/-- Settles O3: writes that raise no commitment, an admission and grants that fit, and phases that end as the targets say. -/
theorem powerStaysWithinTheBudget : Obligations.PowerStaysWithinTheBudget := by
  unfold Obligations.PowerStaysWithinTheBudget
  have law : ∀ (c : Instr) (s t : State), s.Inv → s.BudgetLaw → exec c s = .next t → t.BudgetLaw := fun c s t hi hb he => by
    obtain ⟨h1, h2⟩ := ((exec_steps he).budget hi hb).1
    obtain ⟨-, h3, -⟩ := State.budgetLaw_iff.mp hb
    exact State.budgetLaw_iff.mpr ⟨h1, (custody_of_exec hi he).2.2.2.2 h3, h2⟩
  refine ⟨law, fun c s t hi hb hf he heff hr => ?_⟩
  obtain ⟨⟨-, h1, -, h3⟩, h2⟩ := (exec_steps he).budget hi hb
  cases hp : t.phase with
  | idle => exact h1 hp
  | decreasing => exact (h2 hp).elim (fun g => hf.mono g hr heff) id
  | increasing => exact (h3 hp).2.2

end Sys2Proof.Machine
end

section
/-! SUPPORT. A record that stands twice in the Provisioning Queue is granted two lanes, and the refutation of O7. -/

namespace Sys2Proof.Machine

set_option Elab.async false

section
variable {s : State}

/-- One grant (R116). -/
theorem State.grantLanes_succ (n : Nat) {i : RecordIx} {rest : List RecordIx} {l : LaneNo} {b : BayNo}
    (hp : s.grantsPermitted = true) (hq : s.queue = i :: rest) (hl : s.idleLane = some l)
    (hb : (s.record i).currentBay = some b) : State.grantLanes (n + 1) s = State.grantLanes n (s.grantLane l i b) := by
  rw [State.grantLanes, if_pos hp]
  simp only [hq, hl, hb]

theorem State.grantLane_queue (l : LaneNo) (i : RecordIx) (b : BayNo) : (s.grantLane l i b).queue = s.queue.erase i := rfl

theorem State.idleLane_first (h : (s.lane 0).session = none) : s.idleLane = some 0 := by
  have e : allLanes = [0, 1, 2, 3] := rfl
  simp [State.idleLane, e, h]

theorem State.idleLane_second (h0 : (s.lane 0).session.isSome = true) (h1 : (s.lane 1).session = none) :
    s.idleLane = some 1 := by
  have e : allLanes = [0, 1, 2, 3] := rfl
  obtain ⟨x, hx⟩ := Option.isSome_iff_exists.mp h0
  simp [State.idleLane, e, hx, h1]

/-- A record at the head of the queue and again behind it, with lanes 0 and 1 IDLE, is granted both where the change closes. -/
theorem State.closeChange_grants_twice {i : RecordIx} {b : BayNo} (hq : s.queue = [i, i]) (hi : s.eligible i = true)
    (hp : s.grantsPermitted = true) (h0 : (s.lane 0).session = none) (h1 : (s.lane 1).session = none)
    (hb : (s.record i).currentBay = some b) :
    (s.closeChange.lane 0).session.map Session.record = some i ∧ (s.closeChange.lane 1).session.map Session.record = some i := by
  obtain ⟨rest, hr⟩ : ∃ rest, s.requeue.queue = i :: i :: rest :=
    ⟨allRecords.filter fun j => s.eligible j && !([i, i] : List RecordIx).contains j, by simp [State.requeue, hq, hi]⟩
  have l0 := State.Grants.lane_grantLane s.requeue 0 i b
  have e1 : State.grantLanes 4 s.requeue = State.grantLanes 3 (s.requeue.grantLane 0 i b) :=
    State.grantLanes_succ 3 hp hr (State.idleLane_first h0) hb
  have hq' : (s.requeue.grantLane 0 i b).queue = i :: rest := by rw [State.grantLane_queue, hr, List.erase_cons_head]
  have e2 : State.grantLanes 3 (s.requeue.grantLane 0 i b) =
      State.grantLanes 2 ((s.requeue.grantLane 0 i b).grantLane 1 i b) :=
    State.grantLanes_succ 2 hp hq' (State.idleLane_second (by rw [l0, if_pos rfl]; rfl) ((congrArg Lane.session (l0 1)).trans h1)) hb
  have l1 := State.Grants.lane_grantLane (s.requeue.grantLane 0 i b) 1 i b
  have hg := State.Grants.grantLanes 2 ((s.requeue.grantLane 0 i b).grantLane 1 i b)
  have hc := s.closeChange_settles
  rw [e1, e2] at hc
  constructor
  · rw [hc.seats, hg.held 0 (by rw [l1, if_neg (by decide), l0, if_pos rfl]; rfl), l1, if_neg (by decide), l0, if_pos rfl]
    rfl
  · rw [hc.seats, hg.held 1 (by rw [l1, if_pos rfl]; rfl), l1, if_pos rfl]
    rfl

end

/-! ### A state with such a queue -/

/-- An IN_CART record in bay 0, behind its profile target. -/
def Record.behindInBay0 : Record :=
  { Record.freeImage with custody := .inCart, currentBay := some 0, profileTarget := 1, profileHeld := some 0 }

/-- The part after reset, with record 0 docked in bay 0 and twice in the Provisioning Queue. -/
def State.twiceQueued : State :=
  { (State.reset.putRecord 0 Record.behindInBay0).modBay 0 fun x => { x with state := .identified, record := some 0 } with
    queue := [0, 0] }

theorem State.twiceQueued_record (i : RecordIx) : State.twiceQueued.record i =
    if 0 = i then Record.behindInBay0 else Record.freeImage := by
  rw [← State.reset_atRest.record i]
  exact State.reset.record_putRecord 0 i Record.behindInBay0

theorem State.twiceQueued_bay (b : BayNo) : State.twiceQueued.bay b =
    if 0 = b then { State.reset.bay 0 with state := .identified, record := some 0 } else State.reset.bay b :=
  State.bay_modBay (State.reset.putRecord 0 Record.behindInBay0) 0 b fun x => { x with state := .identified, record := some 0 }

theorem State.twiceQueued_inv : State.twiceQueued.Inv := by
  have hr := State.twiceQueued_record
  have hb := State.twiceQueued_bay
  have h0 := State.reset_atRest
  have ho : ∀ b, State.twiceQueued.output b = Output.initial := h0.output
  have hl : ∀ b, State.twiceQueued.link b = Link.downValues := h0.link
  have hrel : ∀ b, State.twiceQueued.release b = none := h0.release
  have hhost : ∀ b, (State.twiceQueued.bay b).hostDisabled = false := fun b => by
    rw [hb]
    split
    · exact (h0.bay_fields 0).2.1
    · exact (h0.bay_fields b).2.1
  have hpart : ∀ b, (State.twiceQueued.bay b).partner = none := fun b => by
    rw [hb]
    split
    · exact (h0.bay_fields 0).2.2.2.2.2.1
    · exact (h0.bay_fields b).2.2.2.2.2.1
  have hnone : ∀ b, (State.reset.bay b).record = none := fun b => (h0.bay_fields b).2.2.1
  refine ⟨⟨⟨fun i b => ?_, fun b g => ?_⟩, fun i => ?_, ⟨fun b => ?_, fun i g => ?_⟩, fun b g => ?_⟩,
    ⟨fun b _ => ?_, fun b g => ?_, fun b g => ?_⟩, fun b _ => ?_, fun b => ?_⟩
  · rw [hr, hb]
    split <;> split
    · next e1 e2 => subst e1 e2; simp [Record.behindInBay0]
    · next e1 e2 => subst e1; simp [Record.behindInBay0, hnone, e2]
    · next e1 e2 => subst e2; simp [Record.freeImage, e1]
    · simp [Record.freeImage, hnone]
  · rw [hb] at g ⊢
    split
    · exact .inl rfl
    · next e => rw [if_neg e, hnone] at g; simp at g
  · rw [hr]
    split
    · exact ⟨rfl, rfl, rfl, rfl⟩
    · exact ⟨rfl, rfl, rfl, rfl⟩
  · rw [hrel]
    trivial
  · rw [hr] at g
    split at g <;> cases g
  · simp [hhost] at g
  · rw [ho]
    exact ⟨rfl, rfl, rfl, rfl, rfl⟩
  · simp [ho, Output.commitment, Output.initial] at g
  · simp [hhost] at g
  · rw [hl]
    exact ⟨rfl, rfl, rfl⟩
  · simp [hpart]

theorem State.twiceQueued_lane (l : LaneNo) : State.twiceQueued.lane l = ⟨none, none, none⟩ := State.reset_atRest.lane l

theorem State.twiceQueued_laneLaw : State.twiceQueued.LaneLaw := by
  have hl := State.twiceQueued_lane
  have hb : ∀ b, (State.twiceQueued.bay b).lane = none := fun b => by
    rw [State.twiceQueued_bay]
    split
    · exact (State.reset_atRest.bay_fields 0).2.2.2.2.2.2.2.2.2.1
    · exact (State.reset_atRest.bay_fields b).2.2.2.2.2.2.2.2.2.1
  refine ⟨fun l x hx => ?_, fun b l hx => ?_, fun l m x hx => ?_, fun l => ?_⟩
  · simp [hl] at hx
  · simp [hb] at hx
  · simp [hl] at hx
  · rw [hl]
    rfl

/-- LANE_SETTINGS with the policy ALWAYS, in that state, grants record 0 lanes 0 and 1. -/
theorem State.twiceQueued_grants : ∃ t, exec (.laneSettings (some ⟨3, 10, 0⟩)) State.twiceQueued = .next t ∧
    (t.lane 0).session.map Session.record = some 0 ∧ (t.lane 1).session.map Session.record = some 0 := by
  have hr := State.twiceQueued_record 0
  have hl := State.twiceQueued_lane
  rw [if_pos rfl] at hr
  have hi : State.twiceQueued.eligible 0 = true := by
    have hn : State.twiceQueued.laneOf 0 = none := State.Carries.laneOf_eq_none.mpr fun l x hx => by
      rw [hl l] at hx
      cases hx
    simp only [State.eligible, hr, hn]
    rfl
  obtain ⟨g0, g1⟩ := State.closeChange_grants_twice (b := 0)
    (s := { State.twiceQueued with laneSettings := LaneSettings.clamp ⟨3, 10, 0⟩ .always }) rfl hi rfl
    (congrArg Lane.session (hl 0)) (congrArg Lane.session (hl 1)) (congrArg Record.currentBay hr)
  exact ⟨_, rfl, g0, g1⟩

/-- Refutes O7: its second part asks nothing of the queue. Where record 0 stands in it twice, LANE_SETTINGS with the policy ALWAYS
grants it lanes 0 and 1. -/
theorem not_theQueueAndTheLanesAreKept : ¬Obligations.TheQueueAndTheLanesAreKept := by
  unfold Obligations.TheQueueAndTheLanesAreKept
  rintro ⟨-, h, -⟩
  obtain ⟨t, ht, g0, g1⟩ := State.twiceQueued_grants
  obtain ⟨-, -, h3, -⟩ := h _ _ t State.twiceQueued_inv State.twiceQueued_laneLaw ht
  obtain ⟨x, hx, ex⟩ := Option.map_eq_some_iff.mp g0
  obtain ⟨y, hy, ey⟩ := Option.map_eq_some_iff.mp g1
  exact absurd (h3 0 1 x hx y hy (.inr (ex.trans ey.symm))) (by decide)

end Sys2Proof.Machine
end

section
/-! SUPPORT. Every request is accepted, or refused with nothing but its response, and the settling of O1. -/

namespace Sys2Proof.Machine

set_option Elab.async false

/-- A status that refuses no request (R189). -/
def Status.Accepts (x : Status) : Prop := x.code.toNat < 16

theorem Status.accepts_done : Status.Accepts .done := by unfold Status.Accepts; decide
theorem Status.accepts_accepted : Status.Accepts .accepted := by unfold Status.Accepts; decide
theorem Status.accepts_clamped : Status.Accepts .clamped := by unfold Status.Accepts; decide

theorem Status.accepts_ite {c : Prop} [Decidable c] : Status.Accepts (if c then .done else .clamped) := by
  split
  · exact Status.accepts_done
  · exact Status.accepts_clamped

/-- A request answered from s with t: accepted, or refused, which changes the response alone (R13, R178). -/
def State.Replied (s t : State) : Prop := t.port.response.status.Accepts ∨ ∃ x, t = s.refuse x

namespace State.Replied

variable {s : State}

theorem refuse (x : Status) : s.Replied (s.refuse x) := .inr ⟨x, rfl⟩

theorem respond {u : State} {x : Status} (d : List Byte) (h : x.Accepts) : s.Replied (u.respond x d) := .inl h

theorem finish {u : State} {x : Status} (d : State → List Byte) (h : x.Accepts) : s.Replied (u.finish x d) := .inl h

theorem done {u : State} (d : List Byte) : s.Replied (u.respond .done d) := respond d Status.accepts_done

theorem finishDone {u : State} (d : State → List Byte) : s.Replied (u.finish .done d) := finish d Status.accepts_done

theorem ite {t u : State} {c : Prop} [Decidable c] (h : s.Replied t) (g : s.Replied u) : s.Replied (if c then t else u) := by
  split
  · exact h
  · exact g

variable (s)

/-! ### The roster -/

theorem enrol (p : EnrolParams) : s.Replied (s.enrol p) := by
  unfold State.enrol
  split
  · exact refuse _
  · split
    · refine ite (refuse _) ?_
      split
      · exact refuse _
      · exact finishDone _
    · exact refuse _

theorem amend (n f : Byte) (v : Option Half) : s.Replied (s.amend n f v) := by
  unfold State.amend
  split
  · exact refuse _
  · split
    · exact refuse _
    · refine ite (refuse _) ?_
      split
      · exact refuse _
      · exact ite (refuse _) (finishDone _)

theorem changeFlags (n : Byte) (f : Byte → Byte) : s.Replied (s.changeFlags n f) := by
  unfold State.changeFlags
  split
  · exact refuse _
  · exact ite (refuse _) (finishDone _)

theorem fill (n k : Byte) (t : FillTemplate) : s.Replied (s.fill n k t) := by
  unfold State.fill
  split
  · exact refuse _
  · refine ite (refuse _) (ite (done _) ?_)
    split
    · exact refuse _
    · exact ite (finishDone _) (done _)

theorem hold (n : Byte) : s.Replied (s.hold n) := by
  unfold State.hold
  split
  · exact refuse _
  · exact ite (refuse _) (finishDone _)

theorem unhold (n : Byte) : s.Replied (s.unhold n) := by
  unfold State.unhold
  split
  · exact refuse _
  · exact ite (refuse _) (ite (finishDone _) (refuse _))

theorem retire (n : Byte) : s.Replied (s.retire n) := by
  unfold State.retire
  split
  · exact refuse _
  · next i _ =>
    cases (s.record i).custody with
    | free => exact refuse _
    | releasing => exact refuse _
    | held => exact ite (finishDone _) (finishDone _)
    | away => exact finishDone _
    | loaned => exact finishDone _
    | overdue => exact finishDone _
    | adrift => exact finishDone _
    | inCart => exact finishDone _
    | retiring => exact finishDone _

/-! ### Bays, links, the budget and the clock -/

theorem bayDisable (n : Byte) : s.Replied (s.bayDisable n) := by
  unfold State.bayDisable
  split
  · exact refuse _
  · exact ite (refuse _) (ite (done _) (finishDone _))

theorem bayEnable (n : Byte) : s.Replied (s.bayEnable n) := by
  unfold State.bayEnable
  split
  · exact refuse _
  · exact ite (refuse _) (ite (done _) (finishDone _))

theorem linkSettings (p : Option LinkSettingsParams) : s.Replied (s.linkSettingsRequest p) := by
  unfold State.linkSettingsRequest
  split
  · exact done _
  · exact respond _ Status.accepts_ite

theorem linkReset (n : Byte) : s.Replied (s.linkReset n) := by
  unfold State.linkReset
  split
  · exact refuse _
  · exact ite (finish _ Status.accepts_accepted) (refuse _)

theorem lineTest (n : Byte) (r : LineReadings) : s.Replied (s.lineTest n r) := by
  unfold State.lineTest
  split
  · exact refuse _
  · exact ite (done _) (refuse _)

theorem budgetSettings (p : Option BudgetSettingsParams) : s.Replied (s.budgetSettingsRequest p) := by
  unfold State.budgetSettingsRequest
  split
  · exact done _
  · split
    · exact refuse _
    · exact finish _ Status.accepts_ite

theorem setTime (m : Half) (d : Byte) : s.Replied (s.setTime m d) := by
  unfold State.setTime
  split
  · exact finishDone _
  · exact refuse _

theorem setPeriod (n op : Byte) (p : Option PeriodParams) : s.Replied (s.setPeriod n op p) := by
  unfold State.setPeriod
  split
  · exact refuse _
  · split
    · exact refuse _
    · exact finishDone _

/-! ### Lanes and custody -/

theorem laneSettings (p : Option LaneSettingsParams) : s.Replied (s.laneSettingsRequest p) := by
  unfold State.laneSettingsRequest
  split
  · exact done _
  · split
    · exact refuse _
    · exact finish _ Status.accepts_ite

theorem laneDone (n g : Byte) : s.Replied (s.laneDone n g) := by
  unfold State.laneDone
  split
  · exact refuse _
  · split
    · exact refuse _
    · exact ite (finishDone _) (refuse _)

theorem laneCancel (n : Byte) : s.Replied (s.laneCancel n) := by
  unfold State.laneCancel
  split
  · exact refuse _
  · split
    · exact refuse _
    · exact ite (refuse _) (finishDone _)

theorem custodySettings (p : Option CustodySettingsParams) : s.Replied (s.custodySettingsRequest p) := by
  unfold State.custodySettingsRequest
  split
  · exact done _
  · split
    · exact respond _ Status.accepts_ite
    · exact refuse _

theorem checkout (n : Byte) (h : Half) (p o : Bool) : s.Replied (s.checkout n h p o) := by
  unfold State.checkout
  split
  · exact refuse _
  · refine ite (refuse _) ?_
    split
    · exact refuse _
    · exact refuse _
    · exact finish _ Status.accepts_accepted

theorem cancelRelease (n : Byte) : s.Replied (s.cancelRelease n) := by
  unfold State.cancelRelease
  split
  · exact refuse _
  · split
    · exact finishDone _
    · exact refuse _

theorem latchRequest (n d : Byte) : s.Replied (s.latchRequest n d) := by
  unfold State.latchRequest
  split
  · exact refuse _
  · split
    · exact refuse _
    · exact ite (refuse _) (ite (refuse _) (ite (refuse _) (finish _ Status.accepts_accepted)))

/-! ### Keys and the port -/

theorem keySettings (p : Option KeySettingsParams) : s.Replied (s.keySettingsRequest p) := by
  unfold State.keySettingsRequest
  split
  · exact done _
  · split
    · exact respond _ Status.accepts_ite
    · exact refuse _

theorem learnKey (n r t : Byte) : s.Replied (s.learnKey n r t) := by
  unfold State.learnKey
  split
  · exact refuse _
  · split
    · exact refuse _
    · exact ite (refuse _) (ite (refuse _) (respond _ Status.accepts_accepted))

theorem setKey (n : Byte) (p : SetKeyParams) : s.Replied (s.setKey n p) := by
  unfold State.setKey
  split
  · exact refuse _
  · split
    · exact refuse _
    · refine ite (refuse _) ?_
      split
      iterate 2 exact refuse _
      exact ite (done _) (refuse _)

theorem eraseKey (n : Byte) : s.Replied (s.eraseKey n) := by
  unfold State.eraseKey
  split
  · exact refuse _
  · split
    iterate 3 exact done _

theorem eventAck (n : Byte) (x : BitVec 64) : s.Replied (s.eventAck n x) := by
  unfold State.eventAck
  split
  · exact refuse _
  · exact ite (refuse _) (done _)

theorem eventEnable (e : Option (BitVec 24)) : s.Replied (s.eventEnable e) := by
  unfold State.eventEnable
  split
  · exact done _
  · exact ite (done _) (refuse _)

theorem list (c n : Byte) {t : State} (h : execList c n s = .next t) : s.Replied t := by
  unfold execList at h
  split at h
  · cases h
    exact refuse _
  · split at h <;> cases h
    · exact refuse _
    · exact done _

end State.Replied

open State.Replied in
/-- Every request is accepted, or refused with nothing but its response. -/
theorem exec_replied {c : Instr} {s t : State} (hc : (encodeRequest c).isSome = true ∨ ∃ l, c = .malformedRequest l)
    (h : exec c s = .next t) : s.Replied t := by
  cases c with
  | malformedRequest l => cases h; exact refuse _
  | enrol p => cases h; exact enrol s p
  | find x =>
    simp only [exec, execFind] at h
    split at h <;> cases h
    · exact done _
    · exact refuse _
  | readRecord n =>
    simp only [exec, execReadRecord] at h
    split at h <;> cases h
    · exact done _
    · exact refuse _
  | list c n => exact list s c n h
  | amend n f v => cases h; exact amend s n f v
  | flagSwap n f => cases h; exact changeFlags s n _
  | flagAnd n f => cases h; exact changeFlags s n _
  | flagOr n f => cases h; exact changeFlags s n _
  | fill n k t => cases h; exact fill s n k t
  | hold n => cases h; exact hold s n
  | unhold n => cases h; exact unhold s n
  | retire n => cases h; exact retire s n
  | bayDisable n => cases h; exact bayDisable s n
  | bayEnable n => cases h; exact bayEnable s n
  | readBay n =>
    simp only [exec, execReadBay] at h
    split at h <;> cases h
    · exact done _
    · exact refuse _
  | linkSettings p => cases h; exact linkSettings s p
  | linkReset n => cases h; exact linkReset s n
  | lineTest n r => cases h; exact lineTest s n r
  | budgetSettings p => cases h; exact budgetSettings s p
  | budgetRead n =>
    simp only [exec, execBudgetRead] at h
    split at h <;> cases h
    · exact done _
    · exact refuse _
  | laneSettings p => cases h; exact laneSettings s p
  | laneDone n g => cases h; exact laneDone s n g
  | laneCancel n => cases h; exact laneCancel s n
  | laneRead => cases h; exact done _
  | queueRead n =>
    simp only [exec, execQueueRead] at h
    split at h <;> cases h
    · exact done _
    · exact refuse _
  | custodySettings p => cases h; exact custodySettings s p
  | checkout n x p o => cases h; exact checkout s n x p o
  | cancelRelease n => cases h; exact cancelRelease s n
  | latch n d => cases h; exact latchRequest s n d
  | custodyRead n =>
    simp only [exec, execCustodyRead] at h
    split at h <;> cases h
    · exact done _
    · exact refuse _
  | keySettings p => cases h; exact keySettings s p
  | learnKey n r t => cases h; exact learnKey s n r t
  | setKey n p => cases h; exact setKey s n p
  | eraseKey n => cases h; exact eraseKey s n
  | keyRead n =>
    simp only [exec, execKeyRead] at h
    split at h <;> cases h
    · exact done _
    · exact refuse _
  | setTime m d => cases h; exact setTime s m d
  | setPeriod n o p => cases h; exact setPeriod s n o p
  | clockRead => cases h; exact done _
  | periodRead => cases h; exact done _
  | selfTest => cases h; exact done _
  | partReset => cases h; exact .inl Status.accepts_done
  | eventSummary => cases h; exact done _
  | eventRead n =>
    simp only [exec, execEventRead] at h
    split at h <;> cases h
    · exact done _
    · exact refuse _
  | eventAck n x => cases h; exact eventAck s n x
  | eventEnable e => cases h; exact eventEnable s e
  | _ => simp [encodeRequest] at hc

/-- Settles O1, from the replies of the requests one by one: a status of refusal is that of a refusal. -/
theorem refusedRequestsChangeNothing : Obligations.RefusedRequestsChangeNothing := by
  unfold Obligations.RefusedRequestsChangeNothing
  intro c s t hc he hs
  obtain h | ⟨x, rfl⟩ := exec_replied hc he
  · exact absurd h (not_lt.mpr hs)
  · rfl

end Sys2Proof.Machine
end

section
/-! SUPPORT. The operands that lie in their ranges, the order of the checks of the record and bay requests, and the settling of
O22. -/

namespace Sys2Proof.Machine

set_option Elab.async false

theorem next_congr {t u : State} (h : t = u) : (.next t : Result) = .next u := by rw [h]

/-! ### Operands in range -/

theorem custody?_eq_some_iff {b : Byte} {c : CustodyState} : custody? b = some c ↔ b.toNat = c.ctorIdx := by
  refine ⟨fun h => ?_, custody?_of_eq⟩
  have hlt : b.toNat < 9 := (List.getElem?_eq_some_iff.mp h).1
  have hb : custody? b = some c := h
  unfold custody? enum? at hb
  generalize b.toNat = n at hb hlt
  interval_cases n <;> cases hb <;> rfl

theorem target?_eq_some_iff {v : Half} {n : Nat} : target? v = some n ↔ v.toNat = n ∧ 200 ≤ v.toNat ∧ v.toNat ≤ 1000 := by
  simp only [target?, Option.ite_none_right_eq_some, Option.some.injEq]
  exact and_comm

theorem target?_isSome {v : Half} : (target? v).isSome = true ↔ 200 ≤ v.toNat ∧ v.toNat ≤ 1000 := by
  unfold target?
  split <;> simp_all

theorem minute?_eq_some_iff {v : Half} {m : Minute} : minute? v = some m ↔ v.toNat = m.val := by
  unfold minute?
  split
  · simp [Fin.ext_iff]
  · next h => exact ⟨(nomatch ·), fun g : v.toNat = m.val => absurd (g ▸ m.isLt) h⟩

theorem minute?_isSome {v : Half} : (minute? v).isSome = true ↔ v.toNat < 1440 := by
  unfold minute?
  split <;> simp_all

theorem State.populatedBay?_isSome (s : State) {v : Nat} : (s.populatedBay? v).isSome = true ↔ s.HomeInRange v := by
  rw [Option.isSome_iff_exists]
  exact exists_congr fun b => s.populatedBay?_eq_some v b

theorem optional?_isSome {α β : Type} {form : α → Option β} {x : Option α} :
    (optional? form x).isSome = true ↔ ∀ v, x = some v → (form v).isSome = true := by
  cases x <;> simp [optional?]

/-- An optional operand in range: absent as it was, or present with the value that its form reads. -/
theorem optional?_eq_some {α β : Type} {form : α → Option β} {x : Option α} {y : Option β} :
    optional? form x = some y ↔ x = none ∧ y = none ∨ ∃ v w, x = some v ∧ form v = some w ∧ y = some w := by
  cases x with
  | none => simp [optional?, eq_comm]
  | some v =>
    simp [optional?, eq_comm]

theorem stateInOrder_iff {p : EnrolParams} : StateInOrder p ↔ (enrolState? p).isSome = true := by
  rw [Option.isSome_iff_exists]
  exact exists_congr fun c => by rw [enrolState?_eq_some, custody?_eq_some_iff]

namespace State

variable (s : State)

/-- The three optional operands of ENROL lie in their ranges exactly if each reads as a value (R14, check 2). -/
theorem enrolInRange_iff {p : EnrolParams} : s.EnrolInRange p ↔ (optional? target? p.target).isSome = true ∧
    (optional? minute? p.readyBy).isSome = true ∧
    (optional? (fun b : Byte => s.populatedBay? b.toNat) p.homeBay).isSome = true := by
  simp only [optional?_isSome, target?_isSome, minute?_isSome, populatedBay?_isSome]
  rfl

theorem fillWrite?_isSome {f : FillTemplate} : (s.fillWrite? f).isSome = true ↔ (optional? target? f.target).isSome = true ∧
    (optional? (optional? minute?) f.readyBy).isSome = true ∧
    (optional? (optional? fun b : Byte => s.populatedBay? b.toNat) f.homeBay).isSome = true := by
  unfold fillWrite?
  generalize optional? target? f.target = x
  generalize optional? (optional? minute?) f.readyBy = y
  generalize optional? (optional? fun b : Byte => s.populatedBay? b.toNat) f.homeBay = z
  cases x <;> cases y <;> cases z <;> simp

/-- The values a FILL selects lie in their ranges exactly if its template reads as a write (R20, check 4). -/
theorem fillInRange_iff {f : FillTemplate} : s.FillInRange f ↔ (s.fillWrite? f).isSome = true := by
  rw [fillWrite?_isSome]
  simp only [optional?_isSome, target?_isSome, minute?_isSome, populatedBay?_isSome]
  exact and_congr Iff.rfl (and_congr ⟨fun h _ g v e => h v (g.trans (congrArg some e)), fun h v e => h _ e v rfl⟩
    ⟨fun h _ g v e => h v (g.trans (congrArg some e)), fun h v e => h _ e v rfl⟩)

/-! ### The record requests -/

/-- ENROL with its state and its values in order (R14): what is left to check is the ID and the room. -/
theorem enrol_eq {p : EnrolParams} {c : CustodyState} {x : Option Nat} {y : Option Minute} {z : Option BayNo}
    (hc : enrolState? p = some c) (hx : optional? target? p.target = some x) (hy : optional? minute? p.readyBy = some y)
    (hz : optional? (fun b : Byte => s.populatedBay? b.toNat) p.homeBay = some z) :
    s.enrol p = if (s.findTablet p.tabletId).isSome then s.refuse .duplicate
      else (s.lowestFree.map fun i => ((s.setRecord i
        (Record.enrolment p c z (x.getD s.budget.defaultTarget) y)).matchEnrol i p.tabletId).finish .done fun t =>
          [byte i.val, byte (t.record i).custody.ctorIdx]).getD (s.refuse .full) := by
  unfold enrol
  rw [hc, hx, hy, hz]
  dsimp only
  cases s.lowestFree <;> rfl

theorem enrol_badRequest {p : EnrolParams} (h : ¬StateInOrder p) : s.enrol p = s.refuse .badRequest := by
  rw [stateInOrder_iff, Option.not_isSome_iff_eq_none] at h
  unfold enrol
  rw [h]

theorem enrol_outOfRange {p : EnrolParams} (hp : StateInOrder p) (h : ¬s.EnrolInRange p) :
    s.enrol p = s.refuse .outOfRange := by
  obtain ⟨c, hc⟩ := Option.isSome_iff_exists.mp (stateInOrder_iff.mp hp)
  rw [enrolInRange_iff] at h
  unfold enrol
  rw [hc]
  generalize optional? target? p.target = x at h ⊢
  generalize optional? minute? p.readyBy = y at h ⊢
  generalize optional? (fun b : Byte => s.populatedBay? b.toNat) p.homeBay = z at h ⊢
  cases x <;> cases y <;> cases z <;> first | rfl | exact absurd ⟨rfl, rfl, rfl⟩ h

/-- ENROL of an ID held already is refused, and so is one that finds no FREE record (R14, checks 3 and 4). -/
theorem enrol_refused {p : EnrolParams} (hp : StateInOrder p) (hr : s.EnrolInRange p) :
    (∀ i, (s.record i).custody ≠ .free → (s.record i).tabletId = p.tabletId → s.enrol p = s.refuse .duplicate) ∧
      ((∀ j, (s.record j).custody ≠ .free ∧ (s.record j).tabletId ≠ p.tabletId) → s.enrol p = s.refuse .full) := by
  obtain ⟨c, hc⟩ := Option.isSome_iff_exists.mp (stateInOrder_iff.mp hp)
  obtain ⟨hx, hy, hz⟩ := s.enrolInRange_iff.mp hr
  obtain ⟨x, hx⟩ := Option.isSome_iff_exists.mp hx
  obtain ⟨y, hy⟩ := Option.isSome_iff_exists.mp hy
  obtain ⟨z, hz⟩ := Option.isSome_iff_exists.mp hz
  rw [s.enrol_eq hc hx hy hz]
  refine ⟨fun i he hi => if_pos ?_, fun h => ?_⟩
  · by_contra hn
    exact State.findTablet_eq_none_iff.mp (Option.not_isSome_iff_eq_none.mp hn) i (by simpa [Record.enrolled] using he) hi
  · have hf : s.findTablet p.tabletId = none := State.findTablet_eq_none_iff.mpr fun i _ => (h i).2
    have hl : s.lowestFree = none := List.find?_eq_none.mpr fun i _ => by simpa [Record.enrolled] using (h i).1
    rw [hf, hl]
    rfl

/-- A value that AMEND refuses reads as no write (R18). -/
theorem amendment_eq_none {f : AmendField} {n : Byte} {v : Option Half} (hf : amendField? n = some f)
    (h : s.AmendOutOfRange n v) : s.amendment f v = none := by
  unfold State.AmendOutOfRange at h
  rcases h with ⟨rfl, h⟩ | ⟨rfl, x, rfl, h⟩ | ⟨rfl, x, rfl, h⟩ | ⟨rfl, h⟩ | ⟨rfl, h⟩ <;> cases hf
  · cases v with
    | none => rfl
    | some x =>
      have hx : target? x = none := by
        rw [← Option.not_isSome_iff_eq_none, target?_isSome]
        have := h x rfl
        omega
      simp [amendment, hx]
  · have hx : minute? x = none := by
      rw [← Option.not_isSome_iff_eq_none, minute?_isSome]
      omega
    simp [amendment, hx]
  · have hx : s.populatedBay? x.toNat = none := by
      rw [← Option.not_isSome_iff_eq_none, populatedBay?_isSome]
      exact h
    simp [amendment, hx]
  · cases v with
    | none => rfl
    | some x => exact if_neg (Nat.not_lt.mpr (h x rfl))
  · cases v with
    | none => rfl
    | some x => exact if_pos (h x rfl)

theorem amendField?_of_lt {n : Byte} (h : n.toNat < 5) : ∃ f, amendField? n = some f := enum?_of_lt h

theorem amendField?_of_ge {n : Byte} (h : 5 ≤ n.toNat) : amendField? n = none := enum?_of_ge h

/-- AMEND of an enrolled record refuses a value out of range, and a holder tag off loan (R18). -/
theorem amend_refused {n f : Byte} {i : RecordIx} {h : Half} {v : Option Half} (hi : n.toNat = i.val)
    (he : (s.record i).custody ≠ .free) :
    (s.AmendOutOfRange f v → s.amend n f v = s.refuse .outOfRange) ∧
      (f = 4 → h ≠ 0 → (s.record i).custody ≠ .loaned → (s.record i).custody ≠ .overdue →
        s.amend n f (some h) = s.refuse .wrongState) := by
  unfold State.amend
  rw [recordIx?_of_eq hi]
  constructor
  · intro hv
    have hlt : f.toNat < 5 := by
      unfold State.AmendOutOfRange at hv
      rcases hv with ⟨rfl, _⟩ | ⟨rfl, _⟩ | ⟨rfl, _⟩ | ⟨rfl, _⟩ | ⟨rfl, _⟩ <;> decide
    obtain ⟨x, hx⟩ := amendField?_of_lt hlt
    rw [hx]
    dsimp only
    rw [if_neg he, s.amendment_eq_none hx hv]
  · rintro rfl hh hl ho
    have hloan : (s.record i).custody.onLoan = false := by
      cases hc : (s.record i).custody <;> first | rfl | exact absurd hc hl | exact absurd hc ho
    show (if (s.record i).custody = .free then _ else _) = _
    rw [if_neg he]
    have ha : s.amendment .holder (some h) = some fun r => { r with holder := some h.toNat } := if_neg hh
    rw [ha]
    exact if_pos ⟨rfl, hloan⟩

/-! ### CHECKOUT -/

theorem lowCharge_of {m : Nat} {o : Bool} {c : Option Nat} (h : c = none ∨ o = false ∧ ∃ x, c = some x ∧ x < m) :
    lowCharge m o c = true := by
  rcases h with rfl | ⟨rfl, x, rfl, hx⟩
  · rfl
  · simpa [lowCharge] using hx

theorem lowCharge_eq_false {m : Nat} {o : Bool} {c : Option Nat} (h : ∃ x, c = some x ∧ (o = true ∨ m ≤ x)) :
    lowCharge m o c = false := by
  obtain ⟨x, rfl, rfl | hx⟩ := h
  · rfl
  · simp [lowCharge, hx]

theorem checkoutAuthorised_iff : s.checkoutAuthorised = true ↔
    s.custodySettings.authority = .host ∨ s.teacher.isSome = true ∨ s.service.isSome = true := by
  simp [checkoutAuthorised, teacherOpen, serviceOpen, or_assoc]

theorem serviceAuthorised_iff : s.serviceAuthorised = true ↔
    s.custodySettings.authority = .host ∨ s.service.isSome = true := by
  simp [serviceAuthorised, serviceOpen]

/-- The checks of CHECKOUT on an IN_CART record, in their order (R143). -/
theorem checkoutRefusal_cases {i : RecordIx} (p o : Bool) (hc : (s.record i).custody = .inCart) :
    s.checkoutRefusal i p o = if s.checkoutAuthorised = false ∨ (s.record i).loanBlock = true then some .notAuthorised
      else if (s.record i).misplaced = true then some .wrongBay
      else if lowCharge s.budget.checkoutMinimum o (s.record i).lastCharge = true then some .lowCharge
      else if ((s.laneOf i).isSome && !p) = true then some .laneActive else none := by
  unfold checkoutRefusal
  dsimp only
  rw [if_neg (not_not.mpr hc)]
  cases s.checkoutAuthorised <;> cases (s.record i).loanBlock <;> rfl

theorem checkout_refused {n : Byte} {h : Half} {p o : Bool} {i : RecordIx} {x : Status} (hi : n.toNat = i.val)
    (hh : h ≠ 0) (hx : s.checkoutRefusal i p o = some x) : s.checkout n h p o = s.refuse x := by
  unfold State.checkout
  rw [recordIx?_of_eq hi]
  dsimp only
  rw [if_neg hh, hx]

/-- CHECKOUT of an IN_CART record is refused by the first check that fails (R143). -/
theorem checkout_inCart_refused {n : Byte} {h : Half} {p o : Bool} {i : RecordIx} (hi : n.toNat = i.val) (hh : h ≠ 0)
    (hc : (s.record i).custody = .inCart) :
    (s.custodySettings.authority = .key ∧ s.teacher = none ∧ s.service = none →
      s.checkout n h p o = s.refuse .notAuthorised) ∧
    (s.custodySettings.authority = .host ∨ s.teacher.isSome = true ∨ s.service.isSome = true →
      ((s.record i).loanBlock = true → s.checkout n h p o = s.refuse .notAuthorised) ∧
      ((s.record i).loanBlock = false → (s.record i).misplaced = true → s.checkout n h p o = s.refuse .wrongBay) ∧
      ((s.record i).loanBlock = false → (s.record i).misplaced = false →
        ((s.record i).lastCharge = none ∨
          o = false ∧ ∃ c, (s.record i).lastCharge = some c ∧ c < s.budget.checkoutMinimum) →
          s.checkout n h p o = s.refuse .lowCharge) ∧
      ((s.record i).loanBlock = false → (s.record i).misplaced = false →
        (∃ c, (s.record i).lastCharge = some c ∧ (o = true ∨ s.budget.checkoutMinimum ≤ c)) →
        (s.laneOf i).isSome = true → p = false → s.checkout n h p o = s.refuse .laneActive)) := by
  refine ⟨fun ⟨ha, ht, hs⟩ => s.checkout_refused hi hh ?_, fun ha => ?_⟩
  · have hn : s.checkoutAuthorised = false := by simp [checkoutAuthorised, teacherOpen, serviceOpen, ha, ht, hs]
    rw [s.checkoutRefusal_cases p o hc, if_pos (.inl hn)]
  · have ha := s.checkoutAuthorised_iff.mpr ha
    refine ⟨fun hl => ?_, fun hl hm => ?_, fun hl hm hw => ?_, fun hl hm hw hs hp => ?_⟩ <;>
      refine s.checkout_refused hi hh ?_ <;> rw [s.checkoutRefusal_cases p o hc]
    · rw [if_pos (.inr hl)]
    · rw [if_neg (by simp [ha, hl]), if_pos hm]
    · rw [if_neg (by simp [ha, hl]), if_neg (by simp [hm]), if_pos (lowCharge_of hw)]
    · rw [if_neg (by simp [ha, hl]), if_neg (by simp [hm]), if_neg (by simp [lowCharge_eq_false hw]),
        if_pos (by simp [hs, hp])]

/-! ### FILL -/

theorem fill_outOfRange {n k : Byte} {w : FillTemplate} {i : RecordIx} (hi : n.toNat = i.val)
    (h : 64 < k.toNat ∨ 0 < k.toNat ∧ ¬s.FillInRange w) : s.fill n k w = s.refuse .outOfRange := by
  unfold State.fill
  rw [recordIx?_of_eq hi]
  dsimp only
  by_cases hk : 64 < k.toNat
  · rw [if_pos hk]
  · obtain ⟨h0, hw⟩ := h.resolve_left hk
    rw [if_neg hk, if_neg h0.ne', Option.not_isSome_iff_eq_none.mp (mt s.fillInRange_iff.mpr hw)]

theorem fill_nothing {n k : Byte} {w : FillTemplate} {i : RecordIx} (hi : n.toNat = i.val) (hk : k.toNat ≤ 64)
    (h : k = 0 ∨ w = ⟨none, none, none, none, none⟩) : s.fill n k w = s.respond .done [0] := by
  unfold State.fill
  rw [recordIx?_of_eq hi]
  dsimp only
  rw [if_neg (Nat.not_lt.mpr hk)]
  split
  · rfl
  · next h0 =>
    obtain rfl := h.resolve_left fun g => h0 (by rw [g]; rfl)
    rfl

end State

/-! ### The settling -/

section
variable (s : State) (n f k : Byte) (h : Half) (v : Option Half) (preempt override : Bool) (w : FillTemplate)

/-- The requests of a record are refused BAD_INDEX where their operand names none (R13). -/
theorem recordRequests_badIndex (hn : 64 ≤ n.toNat) : Replies (.hold n) s .badIndex [] ∧ Replies (.unhold n) s .badIndex [] ∧
    Replies (.retire n) s .badIndex [] ∧ Replies (.flagSwap n f) s .badIndex [] ∧
    Replies (.flagAnd n f) s .badIndex [] ∧ Replies (.flagOr n f) s .badIndex [] ∧
    Replies (.amend n f v) s .badIndex [] ∧ Replies (.checkout n h preempt override) s .badIndex [] ∧
    Replies (.cancelRelease n) s .badIndex [] ∧ Replies (.fill n k w) s .badIndex [] := by
  have hr := recordIx?_of_ge hn
  refine ⟨?_, ?_, ?_, ?_, ?_, ?_, ?_, ?_, ?_, ?_⟩ <;> refine next_congr ?_
  · show s.hold n = _; unfold State.hold; rw [hr]; rfl
  · show s.unhold n = _; unfold State.unhold; rw [hr]; rfl
  · show s.retire n = _; unfold State.retire; rw [hr]; rfl
  · show s.changeFlags n _ = _; unfold State.changeFlags; rw [hr]; rfl
  · show s.changeFlags n _ = _; unfold State.changeFlags; rw [hr]; rfl
  · show s.changeFlags n _ = _; unfold State.changeFlags; rw [hr]; rfl
  · show s.amend n f v = _; unfold State.amend; rw [hr]; rfl
  · show s.checkout n h preempt override = _; unfold State.checkout; rw [hr]; rfl
  · show s.cancelRelease n = _; unfold State.cancelRelease; rw [hr]; rfl
  · show s.fill n k w = _; unfold State.fill; rw [hr]; rfl

variable {s n}

/-- A record that is not RELEASING has no release to cancel (R147). -/
theorem cancelRelease_refused {i : RecordIx} (hi : n.toNat = i.val) (hc : (s.record i).custody ≠ .releasing) :
    s.cancelRelease n = s.refuse .wrongState := by
  unfold State.cancelRelease
  rw [recordIx?_of_eq hi]
  dsimp only
  split
  · next h _ => exact absurd h hc
  · rfl

/-- HOLD and RETIRE refuse a FREE and a RELEASING record (R21, R23). -/
theorem holdRetire_refused {i : RecordIx} (hi : n.toNat = i.val)
    (hc : (s.record i).custody = .free ∨ (s.record i).custody = .releasing) :
    s.hold n = s.refuse .wrongState ∧ s.retire n = s.refuse .wrongState := by
  constructor
  · unfold State.hold
    rw [recordIx?_of_eq hi]
    exact if_pos hc
  · unfold State.retire
    rw [recordIx?_of_eq hi]
    dsimp only
    rcases hc with hc | hc <;> rw [hc]

theorem unhold_wrongState {i : RecordIx} (hi : n.toNat = i.val) (hc : (s.record i).custody ≠ .held) :
    s.unhold n = s.refuse .wrongState := by
  unfold State.unhold
  rw [recordIx?_of_eq hi]
  exact if_pos hc

theorem unhold_notAuthorised {i : RecordIx} (hi : n.toNat = i.val) (hc : (s.record i).custody = .held)
    (ha : s.custodySettings.authority = .key) (hs : s.service = none) : s.unhold n = s.refuse .notAuthorised := by
  unfold State.unhold
  rw [recordIx?_of_eq hi]
  dsimp only
  rw [if_neg (not_not.mpr hc), if_neg (by simp [State.serviceAuthorised, State.serviceOpen, ha, hs])]

theorem changeFlags_free {i : RecordIx} (hi : n.toNat = i.val) (hc : (s.record i).custody = .free) (g : Byte → Byte) :
    s.changeFlags n g = s.refuse .wrongState := by
  unfold State.changeFlags
  rw [recordIx?_of_eq hi]
  exact if_pos hc

theorem amend_free {i : RecordIx} (hi : n.toNat = i.val) (hc : (s.record i).custody = .free) (hf : f.toNat < 5) :
    s.amend n f v = s.refuse .wrongState := by
  obtain ⟨x, hx⟩ := State.amendField?_of_lt hf
  unfold State.amend
  rw [recordIx?_of_eq hi, hx]
  exact if_pos hc

theorem amend_badRequest {i : RecordIx} (hi : n.toNat = i.val) (hf : 5 ≤ f.toNat) :
    s.amend n f v = s.refuse .badRequest := by
  unfold State.amend
  rw [recordIx?_of_eq hi, State.amendField?_of_ge hf]

theorem checkout_noHolder {i : RecordIx} (hi : n.toNat = i.val) :
    s.checkout n 0 preempt override = s.refuse .outOfRange := by
  unfold State.checkout
  rw [recordIx?_of_eq hi]
  exact if_pos rfl

theorem checkout_wrongState {i : RecordIx} (hi : n.toNat = i.val) (hh : h ≠ 0) (hc : (s.record i).custody ≠ .inCart) :
    s.checkout n h preempt override = s.refuse .wrongState := s.checkout_refused hi hh (if_pos hc)

/-- BAY_DISABLE and BAY_ENABLE refuse a bay number out of range (R40, R41). -/
theorem bayMarks_badIndex (hn : 36 ≤ n.toNat) :
    s.bayDisable n = s.refuse .badIndex ∧ s.bayEnable n = s.refuse .badIndex := by
  unfold State.bayDisable State.bayEnable
  rw [bayNo?_of_ge hn]
  exact ⟨rfl, rfl⟩

/-- BAY_DISABLE and BAY_ENABLE refuse an unpopulated bay (R40, R41). -/
theorem bayMarks_wrongState {b : BayNo} (hn : n.toNat = b.val) (hp : (s.bay b).populated = false) :
    s.bayDisable n = s.refuse .wrongState ∧ s.bayEnable n = s.refuse .wrongState := by
  unfold State.bayDisable State.bayEnable
  rw [bayNo?_of_eq hn]
  exact ⟨if_pos hp, if_pos hp⟩

/-- BAY_DISABLE of a disabled bay, and BAY_ENABLE of an enabled one, answer DONE with no effect (R40, R41). -/
theorem bayMarks_done {b : BayNo} (hn : n.toNat = b.val) (hp : (s.bay b).populated = true) :
    ((s.bay b).hostDisabled = true → s.bayDisable n = s.respond .done []) ∧
      ((s.bay b).hostDisabled = false → s.bayEnable n = s.respond .done []) := by
  unfold State.bayDisable State.bayEnable
  rw [bayNo?_of_eq hn]
  dsimp only
  have hq : (s.bay b).populated ≠ false := by simp [hp]
  rw [if_neg hq, if_neg hq]
  exact ⟨fun h => if_pos h, fun h => if_pos h⟩

end

/-- Settles O22, each clause by the check of its request that fails first. -/
theorem requestsAreRefusedInTheOrderOfTheirChecks : Obligations.RequestsAreRefusedInTheOrderOfTheirChecks := by
  unfold Obligations.RequestsAreRefusedInTheOrderOfTheirChecks
  intro s n f k i b h v preempt override p w
  refine ⟨recordRequests_badIndex s n f k h v preempt override w, ?_, ?_, ?_, ?_, ?_, ?_, ?_, ?_, ?_, ?_, ?_, ?_, ?_, ?_, ?_, ?_, ?_, ?_⟩
  · intro hi hc
    obtain ⟨hh, hr⟩ := holdRetire_refused hi (.inl hc)
    have hne : (s.record i).custody ≠ .releasing := by simp [hc]
    refine ⟨next_congr hh, next_congr (unhold_wrongState hi (by simp [hc])), next_congr hr,
      next_congr (changeFlags_free hi hc _), next_congr (changeFlags_free hi hc _),
      next_congr (changeFlags_free hi hc _), next_congr (cancelRelease_refused hi hne),
      fun hf => next_congr (amend_free f v hi hc hf)⟩
  · exact fun hi hf => next_congr (amend_badRequest f v hi hf)
  · intro hi hc
    obtain ⟨hr, hl⟩ := s.amend_refused (f := f) (h := h) (v := v) hi hc
    exact ⟨fun g => next_congr (hr g), fun a b c d => next_congr (hl a b c d)⟩
  · exact fun hp => next_congr (s.enrol_badRequest hp)
  · exact fun hp hr => next_congr (s.enrol_outOfRange hp hr)
  · intro hp hr
    obtain ⟨hd, hf⟩ := s.enrol_refused hp hr
    exact ⟨fun a b => next_congr (hd i a b), fun a => next_congr (hf a)⟩
  · intro hi
    refine ⟨fun hk => next_congr (s.fill_outOfRange hi (.inl hk)), fun hk => ?_,
      fun h0 _ hw => next_congr (s.fill_outOfRange hi (.inr ⟨h0, hw⟩)),
      fun hk => next_congr (s.fill_nothing hi hk (.inr rfl))⟩
    exact next_congr (s.fill_nothing hi (by rw [hk]; decide) (.inl hk))
  · intro hi hc
    obtain ⟨hh, hr⟩ := holdRetire_refused hi (.inr hc)
    exact ⟨next_congr hh, next_congr hr⟩
  · exact fun hi hc => next_congr (unhold_wrongState hi hc)
  · exact fun hi hc ha hs => next_congr (unhold_notAuthorised hi hc ha hs)
  · exact fun hi hc => next_congr (cancelRelease_refused hi hc)
  · exact fun hi => next_congr (checkout_noHolder preempt override hi)
  · exact fun hi hh hc => next_congr (checkout_wrongState h preempt override hi hh hc)
  · intro hi hh hc
    obtain ⟨ha, hr⟩ := s.checkout_inCart_refused (p := preempt) (o := override) hi hh hc
    refine ⟨fun g => next_congr (ha g), fun g => ?_⟩
    obtain ⟨hl, hm, hw, hs⟩ := hr g
    exact ⟨fun a => next_congr (hl a), fun a b => next_congr (hm a b),
      fun a b c => next_congr (hw a b c), fun a b c d e => next_congr (hs a b c d e)⟩
  · intro hn
    obtain ⟨hd, he⟩ := bayMarks_badIndex (s := s) hn
    exact ⟨next_congr hd, next_congr he⟩
  · intro hn hp
    obtain ⟨hd, he⟩ := bayMarks_wrongState hn hp
    exact ⟨next_congr hd, next_congr he⟩
  · exact fun hn hp hd => next_congr ((bayMarks_done hn hp).1 hd)
  · exact fun hn hp hd => next_congr ((bayMarks_done hn hp).2 hd)

end Sys2Proof.Machine
end

section
/-! SUPPORT. What orders placed and exchanges begun do to a link, in all: the rule of every link where a change closes (R58, R62). -/

namespace Sys2Proof.Machine

set_option Elab.async false

/-! ### A slot whose order may go out -/

/-- A slot holds an order as its newest: waiting or, with none waiting, in flight (R62). -/
def Slot.Newest {α : Type} (t : Slot α) (o : α) : Prop := t.waiting = some o ∨ t.waiting = none ∧ t.inFlight = some o

/-- A slot as it was, but that its waiting order may have gone out (R58). -/
def Slot.Moved {α : Type} (t u : Slot α) : Prop :=
  u.waiting = t.waiting ∧ u.inFlight = t.inFlight ∨ ∃ o, t.waiting = some o ∧ u.waiting = none ∧ u.inFlight = some o

namespace Slot.Moved

variable {α : Type} {t u v : Slot α}

theorem refl (t : Slot α) : t.Moved t := .inl ⟨rfl, rfl⟩

theorem launch (h : t.ready = true) : t.Moved t.launch := by
  obtain ⟨-, hw⟩ := Bool.and_eq_true_iff.mp h
  obtain ⟨o, ho⟩ := Option.isSome_iff_exists.mp hw
  exact .inr ⟨o, ho, rfl, ho⟩

theorem trans (h : t.Moved u) (g : u.Moved v) : t.Moved v := by
  obtain ⟨h1, h2⟩ | ⟨o, ho, h1, h2⟩ := h <;> obtain ⟨g1, g2⟩ | ⟨q, hq, g1, g2⟩ := g
  · exact .inl ⟨g1.trans h1, g2.trans h2⟩
  · exact .inr ⟨q, h1 ▸ hq, g1, g2⟩
  · exact .inr ⟨o, ho, g1.trans h1, g2.trans h2⟩
  · exact absurd (h1 ▸ hq) nofun

theorem newest {o : α} (h : t.Moved u) (g : t.Newest o) : u.Newest o := by
  obtain ⟨h1, h2⟩ | ⟨q, hq, h1, h2⟩ := h
  · rwa [Slot.Newest, h1, h2]
  · obtain g | ⟨g, -⟩ := g
    · rw [hq] at g
      exact .inr ⟨h1, h2.trans g⟩
    · rw [hq] at g
      cases g

theorem idle (h : t.Moved u) (hw : t.waiting = none) (hf : t.inFlight = none) : u.waiting = none ∧ u.inFlight = none := by
  obtain ⟨h1, h2⟩ | ⟨q, hq, -⟩ := h
  · exact ⟨h1.trans hw, h2.trans hf⟩
  · rw [hw] at hq
    cases hq

end Slot.Moved

theorem Slot.newest_place {α : Type} (t : Slot α) (o : α) : (t.place o).Newest o := .inl rfl

/-! ### The fields that neither an order nor a poll touches -/

/-- A link but for what the choice of its next exchange reads and writes. -/
def Link.Kept (l k : Link) : Prop := k = { l with
  state := k.state, tap := k.tap, helloAttempts := k.helloAttempts, custody := k.custody, lane := k.lane,
  exchange := k.exchange, sweep := k.sweep, queryDue := k.queryDue, verifyDue := k.verifyDue, pollDue := k.pollDue,
  sweepDue := k.sweepDue, instantPending := k.instantPending }

namespace Link.Kept

variable {l k j : Link}

theorem refl (l : Link) : l.Kept l := rfl

theorem trans (h : l.Kept k) (g : k.Kept j) : l.Kept j := by
  unfold Link.Kept at *
  rw [g, h]

theorem step (h : l.Kept k) : k.step = l.step := by rw [h]
theorem ceiling (h : l.Kept k) : k.ceiling = l.ceiling := by rw [h]
theorem advertised (h : l.Kept k) : k.advertised = l.advertised := by rw [h]
theorem window (h : l.Kept k) : k.window = l.window := by rw [h]
theorem failedExchanges (h : l.Kept k) : k.failedExchanges = l.failedExchanges := by rw [h]
theorem failedBringups (h : l.Kept k) : k.failedBringups = l.failedBringups := by rw [h]
theorem retrain (h : l.Kept k) : k.retrain = l.retrain := by rw [h]
theorem pollRunning (h : l.Kept k) : k.pollRunning = l.pollRunning := by rw [h]
theorem pollLast (h : l.Kept k) : k.pollLast = l.pollLast := by rw [h]
theorem verify (h : l.Kept k) : k.verify = l.verify := by rw [h]

end Link.Kept

/-! ### The next exchange, in all -/

/-- A link in UP with no exchange in progress, which may begin one (R58). -/
abbrev Link.Idle (l : Link) : Prop := l.state = .up ∧ l.exchange = none

/-- A retrain sweep is not due, nor is one to be by a poll instant that waits (R58). -/
def Link.NoSweep (l : Link) : Prop := l.sweepDue = false ∧ ∀ n, l.instantPending = some n → l.retrainDue n = false

/-- What the choice of the next exchange leaves: the other fields, the orders of both slots, an UP link in UP with its tap where
no retrain sweep is due, and an order that waits for a poll instant in its slot while none is taken. -/
structure Link.Pumped (l k : Link) : Prop where
  kept : l.Kept k
  custody : l.custody.Moved k.custody
  lane : l.lane.Moved k.lane
  steady : l.state = .up → l.NoSweep → k.state = .up ∧ k.NoSweep ∧ k.tap = l.tap
  undue : l.instantPending = none → k.instantPending = none ∧ (l.custody.due = false → k.custody = l.custody) ∧
    (l.lane.due = false → k.lane = l.lane)

namespace Link

variable (l : Link) (set : LinkSettings)

theorem Pumped.refl (l : Link) : l.Pumped l :=
  ⟨.refl l, .refl _, .refl _, fun h g => ⟨h, g, rfl⟩, fun h => ⟨h, fun _ => rfl, fun _ => rfl⟩⟩

theorem Pumped.trans {l k j : Link} (h : l.Pumped k) (g : k.Pumped j) : l.Pumped j where
  kept := h.kept.trans g.kept
  custody := h.custody.trans g.custody
  lane := h.lane.trans g.lane
  steady hu hn := by
    obtain ⟨h1, h2, h3⟩ := h.steady hu hn
    obtain ⟨g1, g2, g3⟩ := g.steady h1 h2
    exact ⟨g1, g2, g3.trans h3⟩
  undue hp := by
    obtain ⟨h1, hc, hl⟩ := h.undue hp
    obtain ⟨g1, gc, gl⟩ := g.undue h1
    exact ⟨g1, fun e => (gc (by rw [hc e]; exact e)).trans (hc e), fun e => (gl (by rw [hl e]; exact e)).trans (hl e)⟩

theorem takeInstant_pumped : l.Pumped l.takeInstant := by
  unfold takeInstant
  split
  · next n hn =>
    exact ⟨rfl, .inl ⟨rfl, rfl⟩, .inl ⟨rfl, rfl⟩, fun hu ⟨_, hp⟩ => ⟨hu, ⟨hp n hn, nofun⟩, rfl⟩, fun h => by simp [hn] at h⟩
  · exact .refl l

theorem next_pumped : l.Pumped (l.next set) := by
  obtain ⟨h, e⟩ | ⟨h, h', e⟩ | ⟨-, -, ⟨-, hs, -, -, e⟩ | ⟨-, ⟨-, e⟩ | ⟨-, e⟩⟩⟩ := l.next_cases set <;> rw [e]
  · exact ⟨rfl, .launch h, .refl _, fun hu g => ⟨hu, g, rfl⟩,
      fun hp => ⟨hp, fun hd => by simp [Slot.ready, hd] at h, fun _ => rfl⟩⟩
  · exact ⟨rfl, .refl _, .launch h', fun hu g => ⟨hu, g, rfl⟩,
      fun hp => ⟨hp, fun _ => rfl, fun hd => by simp [Slot.ready, hd] at h'⟩⟩
  · exact ⟨rfl, .refl _, .refl _, fun _ ⟨g, _⟩ => by simp [hs] at g, fun hp => ⟨hp, fun _ => rfl, fun _ => rfl⟩⟩
  · exact ⟨rfl, .refl _, .refl _, fun hu ⟨_, g⟩ => ⟨hu, ⟨rfl, g⟩, rfl⟩, fun hp => ⟨hp, fun _ => rfl, fun _ => rfl⟩⟩
  · exact .refl l

theorem pump_pumped : l.Pumped (l.pump set) := by
  unfold pump
  split
  · exact l.takeInstant_pumped.trans (next_pumped _ _)
  · exact .refl l

/-- An UP link with no exchange in progress and an order just placed in its custody slot sends it (R58, R62). -/
theorem pump_custody (h : l.Idle) {o : CustodyOrder} (hw : l.custody.waiting = some o)
    (hd : l.custody.due = true ∨ l.instantPending.isSome = true) :
    (l.pump set).exchange = some .custodyOrder ∧ (l.pump set).custody = ⟨none, some o, false⟩ ∧
      (l.pump set).lane.waiting = l.lane.waiting ∧ (l.pump set).lane.inFlight = l.lane.inFlight := by
  have hi := l.takeInstant_pumped
  have hc : l.takeInstant.custody.ready = true ∧ l.takeInstant.custody.waiting = some o ∧
      l.takeInstant.lane.waiting = l.lane.waiting ∧ l.takeInstant.lane.inFlight = l.lane.inFlight := by
    unfold takeInstant
    split
    · exact ⟨by simp [Slot.ready, Slot.retry, hw], hw, rfl, rfl⟩
    · next hn => exact ⟨by simpa [Slot.ready, hw, hn] using hd, hw, rfl, rfl⟩
  obtain ⟨hr, hw', h1, h2⟩ := hc
  rw [show l.pump set = l.takeInstant.next set from if_pos h, Link.next, if_pos hr]
  exact ⟨rfl, by simp [Slot.launch, hw'], h1, h2⟩

/-- The same for the lane slot, with no custody order waiting. -/
theorem pump_lane (h : l.Idle) {o : LaneOrder} (hc : l.custody.waiting = none) (hw : l.lane.waiting = some o)
    (hd : l.lane.due = true ∨ l.instantPending.isSome = true) :
    (l.pump set).exchange = some .laneOrder ∧ (l.pump set).lane = ⟨none, some o, false⟩ := by
  have hr : l.takeInstant.custody.ready = false ∧ l.takeInstant.lane.ready = true ∧ l.takeInstant.lane.waiting = some o := by
    unfold takeInstant
    split
    · exact ⟨by simp [Slot.ready, Slot.retry, hc], by simp [Slot.ready, Slot.retry, hw], hw⟩
    · next hn => exact ⟨by simp [Slot.ready, hc], by simpa [Slot.ready, hw, hn] using hd, hw⟩
  obtain ⟨h1, h2, h3⟩ := hr
  rw [show l.pump set = l.takeInstant.next set from if_pos h, Link.next, if_neg (by simp [h1]), if_pos h2]
  exact ⟨rfl, by simp [Slot.launch, h3]⟩

end Link

/-! ### Orders placed and exchanges begun, one after the other -/

/-- What a link comes to by orders placed in its slots, c and o saying which, and by exchanges begun (R58, R62). -/
inductive Link.Fed (set : LinkSettings) (c : CustodyOrder → Prop) (o : LaneOrder → Prop) (l : Link) : Link → Prop
  | refl : Link.Fed set c o l l
  | custody {k : Link} {x : CustodyOrder} : Link.Fed set c o l k → k.state ≠ .down → c x →
      Link.Fed set c o l (({ k with custody := k.custody.place x } : Link).pump set)
  | lane {k : Link} {x : LaneOrder} : Link.Fed set c o l k → k.state ≠ .down → o x →
      Link.Fed set c o l (({ k with lane := k.lane.place x } : Link).pump set)
  | pump {k : Link} : Link.Fed set c o l k → Link.Fed set c o l (k.pump set)

namespace Link.Fed

variable {set : LinkSettings} {c c' : CustodyOrder → Prop} {o o' : LaneOrder → Prop} {l k j : Link}

theorem trans (h : Link.Fed set c o l k) (g : Link.Fed set c o k j) : Link.Fed set c o l j := by
  induction g with
  | refl => exact h
  | custody _ hd hx ih => exact .custody ih hd hx
  | lane _ hd hx ih => exact .lane ih hd hx
  | pump _ ih => exact .pump ih

theorem mono (h : Link.Fed set c o l k) (hc : ∀ x, c x → c' x) (ho : ∀ x, o x → o' x) : Link.Fed set c' o' l k := by
  induction h with
  | refl => exact .refl
  | custody _ hd hx ih => exact .custody ih hd (hc _ hx)
  | lane _ hd hx ih => exact .lane ih hd (ho _ hx)
  | pump _ ih => exact .pump ih

/-- A property of links that each placing and each choice of the next exchange keeps. -/
theorem keeps {P : Link → Prop} (h : Link.Fed set c o l k) (h0 : P l)
    (hc : ∀ j x, P j → c x → P { j with custody := j.custody.place x })
    (ho : ∀ j x, P j → o x → P { j with lane := j.lane.place x })
    (hp : ∀ j, P j → P (j.pump set)) : P k := by
  induction h with
  | refl => exact h0
  | custody _ _ hx ih => exact hp _ (hc _ _ ih hx)
  | lane _ _ hx ih => exact hp _ (ho _ _ ih hx)
  | pump _ ih => exact hp _ ih

theorem kept (h : Link.Fed set c o l k) : l.Kept k :=
  h.keeps (.refl l) (fun _ _ g _ => g.trans rfl) (fun _ _ g _ => g.trans rfl) fun j g => g.trans (j.pump_pumped set).kept

/-- A link that is DOWN stays as it was. -/
theorem of_down (h : Link.Fed set c o l k) (hd : l.state = .down) : k = l := by
  induction h with
  | refl => rfl
  | custody _ hk _ ih => exact absurd (ih ▸ hd) hk
  | lane _ hk _ ih => exact absurd (ih ▸ hd) hk
  | pump _ ih =>
    subst ih
    exact pump_busy _ _ fun h => by simp [hd] at h

/-- A link that cannot begin an exchange changes in its slots alone. -/
theorem of_busy (h : Link.Fed set c o l k) (hb : ¬l.Idle) : k = { l with custody := k.custody, lane := k.lane } := by
  refine h.keeps (P := fun j => j = { l with custody := j.custody, lane := j.lane }) rfl ?_ ?_ ?_
  · rintro j x g -
    rw [g]
  · rintro j x g -
    rw [g]
  · intro j g
    have hj : ¬(j.state = .up ∧ j.exchange = none) := by rw [g]; exact hb
    rw [pump_busy _ _ hj]
    exact g

/-- With no order for the custody slot, its own order at most goes out. -/
theorem custody_moved (h : Link.Fed set c o l k) (hn : ∀ x, ¬c x) : l.custody.Moved k.custody :=
  h.keeps (P := fun j => l.custody.Moved j.custody) (.refl _) (fun _ _ _ g => absurd g (hn _)) (fun _ _ g _ => g)
    fun j g => g.trans (j.pump_pumped set).custody

theorem lane_moved (h : Link.Fed set c o l k) (hn : ∀ x, ¬o x) : l.lane.Moved k.lane :=
  h.keeps (P := fun j => l.lane.Moved j.lane) (.refl _) (fun _ _ g _ => g) (fun _ _ _ g => absurd g (hn _))
    fun j g => g.trans (j.pump_pumped set).lane

/-- An UP link with no retrain sweep due stays in UP at its tap. -/
theorem steady (h : Link.Fed set c o l k) (hu : l.state = .up) (hn : l.NoSweep) :
    k.state = .up ∧ k.NoSweep ∧ k.tap = l.tap := by
  refine h.keeps (P := fun j => j.state = .up ∧ j.NoSweep ∧ j.tap = l.tap) ⟨hu, hn, rfl⟩ (fun _ _ g _ => g) (fun _ _ g _ => g) ?_
  rintro j ⟨g1, g2, g3⟩
  obtain ⟨k1, k2, k3⟩ := (j.pump_pumped set).steady g1 g2
  exact ⟨k1, k2, k3.trans g3⟩

/-- With no order for the custody slot and no poll instant to be taken, an order that is not due stays in it. -/
theorem custody_undue (h : Link.Fed set c o l k) (hn : ∀ x, ¬c x) (hi : l.instantPending = none)
    (hd : l.custody.due = false) : k.custody = l.custody := by
  refine (h.keeps (P := fun j => j.instantPending = none ∧ j.custody = l.custody) ⟨hi, rfl⟩ (fun _ _ _ g => absurd g (hn _))
    (fun _ _ g _ => g) ?_).2
  rintro j ⟨g1, g2⟩
  obtain ⟨h1, h2, -⟩ := (j.pump_pumped set).undue g1
  exact ⟨h1, (h2 (g2 ▸ hd)).trans g2⟩

theorem lane_undue (h : Link.Fed set c o l k) (hn : ∀ x, ¬o x) (hi : l.instantPending = none)
    (hd : l.lane.due = false) : k.lane = l.lane := by
  refine (h.keeps (P := fun j => j.instantPending = none ∧ j.lane = l.lane) ⟨hi, rfl⟩ (fun _ _ g _ => g)
    (fun _ _ _ g => absurd g (hn _)) ?_).2
  rintro j ⟨g1, g2⟩
  obtain ⟨h1, -, h2⟩ := (j.pump_pumped set).undue g1
  exact ⟨h1, (h2 (g2 ▸ hd)).trans g2⟩

/-- An order placed that replaces none but by one of the same kind stays the slot's newest. -/
theorem custody_newest {x : CustodyOrder} (h : Link.Fed set c o l k) (hn : ∀ y, c y → y = x) (g : l.custody.Newest x) :
    k.custody.Newest x :=
  h.keeps (P := fun j => j.custody.Newest x) g (fun _ y _ hy => hn y hy ▸ Slot.newest_place _ _) (fun _ _ g _ => g)
    fun j g => (j.pump_pumped set).custody.newest g

theorem lane_newest {x : LaneOrder} (h : Link.Fed set c o l k) (hn : ∀ y, o y → y = x) (g : l.lane.Newest x) :
    k.lane.Newest x :=
  h.keeps (P := fun j => j.lane.Newest x) g (fun _ _ g _ => g) (fun _ y _ hy => hn y hy ▸ Slot.newest_place _ _)
    fun j g => (j.pump_pumped set).lane.newest g

end Link.Fed

/-! ### The same, on the state -/

section
variable (s : State) (b : BayNo)

theorem State.link_pumpLink (c : BayNo) :
    (s.pumpLink b).link c = if b = c then (s.link b).pump s.linkSettings else s.link c := s.link_modLink b c _

/-- All that placing a custody order does to links (R58, R62). -/
theorem State.link_placeCustodyOrder (x : CustodyOrder) (c : BayNo) : (s.placeCustodyOrder b x).link c =
    if b = c ∧ (s.link b).state ≠ .down then
      ({ s.link b with custody := (s.link b).custody.place x } : Link).pump s.linkSettings
    else s.link c := by
  unfold State.placeCustodyOrder
  split
  · next h => simp [h]
  · next h =>
    rw [State.link_pumpLink]
    by_cases hc : b = c
    · subst hc
      rw [if_pos rfl, if_pos ⟨rfl, h⟩, State.link_modLink, if_pos rfl]
      rfl
    · rw [if_neg hc, if_neg fun g => hc g.1, State.link_modLink, if_neg hc]

theorem State.link_placeLaneOrder (x : LaneOrder) (c : BayNo) : (s.placeLaneOrder b x).link c =
    if b = c ∧ (s.link b).state ≠ .down then
      ({ s.link b with lane := (s.link b).lane.place x } : Link).pump s.linkSettings
    else s.link c := by
  unfold State.placeLaneOrder
  split
  · next h => simp [h]
  · next h =>
    rw [State.link_pumpLink]
    by_cases hc : b = c
    · subst hc
      rw [if_pos rfl, if_pos ⟨rfl, h⟩, State.link_modLink, if_pos rfl]
      rfl
    · rw [if_neg hc, if_neg fun g => hc g.1, State.link_modLink, if_neg hc]

theorem State.placeCustodyOrder_fed {p : CustodyOrder → Prop} {q : LaneOrder → Prop} {x : CustodyOrder} (c : BayNo)
    (hx : b = c → p x) : Link.Fed s.linkSettings p q (s.link c) ((s.placeCustodyOrder b x).link c) := by
  rw [State.link_placeCustodyOrder]
  split
  · next h =>
    obtain ⟨rfl, hd⟩ := h
    exact .custody .refl hd (hx rfl)
  · exact .refl

theorem State.placeLaneOrder_fed {p : CustodyOrder → Prop} {q : LaneOrder → Prop} {x : LaneOrder} (c : BayNo)
    (hx : b = c → q x) : Link.Fed s.linkSettings p q (s.link c) ((s.placeLaneOrder b x).link c) := by
  rw [State.link_placeLaneOrder]
  split
  · next h =>
    obtain ⟨rfl, hd⟩ := h
    exact .lane .refl hd (hx rfl)
  · exact .refl

end

end Sys2Proof.Machine
end

section
/-! SUPPORT. What follows where latch requests complete, owners are told and passes are taken: releases that open, orders placed,
lanes woken, and what stays (R91, R98, R117, R138, R145). -/

namespace Sys2Proof.Machine

set_option Elab.async false

/-! ### What the frame keeps, read off -/

section
variable {x y : Bay}

theorem Bay.IdentityKept.state (h : x.IdentityKept y) : y.state = x.state := by
  have g := congrArg Bay.state h
  exact g
theorem Bay.IdentityKept.record (h : x.IdentityKept y) : y.record = x.record := by
  have g := congrArg Bay.record h
  exact g
theorem Bay.IdentityKept.partner (h : x.IdentityKept y) : y.partner = x.partner := by
  have g := congrArg Bay.partner h
  exact g
theorem Bay.IdentityKept.reportedId (h : x.IdentityKept y) : y.reportedId = x.reportedId := by
  have g := congrArg Bay.reportedId h
  exact g
theorem Bay.IdentityKept.foreignCause (h : x.IdentityKept y) : y.foreignCause = x.foreignCause := by
  have g := congrArg Bay.foreignCause h
  exact g
theorem Bay.IdentityKept.faultReason (h : x.IdentityKept y) : y.faultReason = x.faultReason := by
  have g := congrArg Bay.faultReason h
  exact g
theorem Bay.IdentityKept.recovery (h : x.IdentityKept y) : y.recovery = x.recovery := by
  have g := congrArg Bay.recovery h
  exact g
theorem Bay.IdentityKept.contact (h : x.IdentityKept y) : y.contact = x.contact := by
  have g := congrArg Bay.contact h
  exact g
theorem Bay.IdentityKept.hostDisabled (h : x.IdentityKept y) : y.hostDisabled = x.hostDisabled := by
  have g := congrArg Bay.hostDisabled h
  exact g
theorem Bay.IdentityKept.lockedSwitch (h : x.IdentityKept y) : y.lockedSwitch = x.lockedSwitch := by
  have g := congrArg Bay.lockedSwitch h
  exact g
theorem Bay.IdentityKept.unlockedSwitch (h : x.IdentityKept y) : y.unlockedSwitch = x.unlockedSwitch := by
  have g := congrArg Bay.unlockedSwitch h
  exact g

end

section
variable {r q : Record}

theorem Record.SameButUnsecured.custody (h : r.SameButUnsecured q) : q.custody = r.custody := by
  have g := congrArg Record.custody h
  exact g
theorem Record.SameButUnsecured.holder (h : r.SameButUnsecured q) : q.holder = r.holder := by
  have g := congrArg Record.holder h
  exact g

end

namespace State.Untouched

variable {s t : State} (h : s.Untouched t [] [])
include h

theorem bay (b : BayNo) : (s.bay b).IdentityKept (t.bay b) := h.bays b nofun

theorem record (i : RecordIx) : (s.record i).SameButUnsecured (t.record i) := h.records i nofun

end State.Untouched

/-! ### What may follow -/

/-- An order that the opening of bay b's release places: RELEASE with the holder tag (R145). -/
def State.OpensWith (s : State) (b : BayNo) (x : CustodyOrder) : Prop :=
  ∃ i, s.unlockingRecord b = some i ∧ x = .release ((s.record i).holder.getD 0)

/-- An order that the waking of a lane places in bay b: WAKE, for a session that awaits its reservation there (R117). -/
def State.WakesIn (s : State) (b : BayNo) (x : LaneOrder) : Prop :=
  ∃ l y, x = .wake l ∧ (s.lane l).session = some y ∧ y.phase = .admitting ∧ y.bay = b

/-- What the completion of latch requests, the telling of owners and the taking of passes leave: the frame, every release but one
that opens, links but for orders of releases and lanes, lanes but for a wake, the hot marks, and the output and the grant of
a bay without power. -/
structure State.Follows (s t : State) : Prop where
  frame : s.Untouched t [] []
  release : ∀ b, t.release b = s.release b ∨ ∃ i, s.unlockingRecord b = some i ∧
    t.release b = some ⟨i, .opened (s.clk32 + s.custodySettings.releaseLength) .waiting⟩
  link : ∀ b, Link.Fed s.linkSettings (s.OpensWith b) (s.WakesIn b) (s.link b) (t.link b)
  lane : ∀ l, t.lane l = s.lane l ∨ ∃ y, (s.lane l).session = some y ∧ y.phase = .admitting ∧ t.lane l = (s.lane l).woken y
  hot : ∀ b, (t.entry b).hot = (s.entry b).hot
  still : ∀ b, (s.bay b).state.switchedOff → (s.output b).target = none →
    t.output b = s.output b ∧ ((s.bay b).grant = 0 → (t.bay b).grant = 0)
  response : t.port.response = s.port.response

theorem State.unlockingRecord_eq_some {s : State} {b : BayNo} {i : RecordIx} : s.unlockingRecord b = some i ↔
    (s.bay b).record = some i ∧ (s.record i).custody = .releasing ∧ (s.release b).map Release.phase = some .unlocking := by
  unfold State.unlockingRecord
  cases hr : (s.bay b).record with
  | none => simp
  | some j =>
    cases he : s.release b with
    | none => simp
    | some e =>
      by_cases hc : (s.record j).custody = .releasing ∧ e.phase = .unlocking
      · simp only [if_pos hc, Option.some.injEq, Option.map_some]
        exact ⟨by rintro rfl; exact ⟨rfl, hc⟩, And.left⟩
      · simp only [if_neg hc, reduceCtorEq, Option.some.injEq, Option.map_some, false_iff]
        rintro ⟨rfl, g⟩
        exact hc g

namespace State.Follows

variable {s t u : State}

/-- A release that may open still has not opened yet, and is of the same record and holder. -/
theorem unlockingRecord (h : s.Follows t) {b : BayNo} {i : RecordIx} (hi : t.unlockingRecord b = some i) :
    s.unlockingRecord b = some i ∧ (t.record i).holder = (s.record i).holder := by
  rw [unlockingRecord_eq_some] at hi ⊢
  obtain ⟨h1, h2, h3⟩ := hi
  refine ⟨⟨(h.frame.bay b).record ▸ h1, (h.frame.record i).custody ▸ h2, ?_⟩, (h.frame.record i).holder⟩
  obtain e | ⟨j, -, e⟩ := h.release b
  · rwa [← e]
  · rw [e] at h3
    cases h3

theorem opensWith (h : s.Follows t) {b : BayNo} {x : CustodyOrder} (hx : t.OpensWith b x) : s.OpensWith b x := by
  obtain ⟨i, hi, rfl⟩ := hx
  obtain ⟨g1, g2⟩ := h.unlockingRecord hi
  exact ⟨i, g1, by rw [g2]⟩

/-- A session that awaits its reservation did so before. -/
theorem admitting (h : s.Follows t) {l : LaneNo} {y : Session} (hy : (t.lane l).session = some y) (hp : y.phase = .admitting) :
    (s.lane l).session = some y := by
  obtain e | ⟨z, -, -, e⟩ := h.lane l
  · rwa [← e]
  · rw [e] at hy
    cases hy
    cases hp

theorem wakesIn (h : s.Follows t) {b : BayNo} {x : LaneOrder} (hx : t.WakesIn b x) : s.WakesIn b x := by
  obtain ⟨l, y, rfl, hy, hp, hb⟩ := hx
  exact ⟨l, y, rfl, h.admitting hy hp, hp, hb⟩

theorem refl (s : State) : s.Follows s :=
  ⟨.refl s, fun _ => .inl rfl, fun _ => .refl, fun _ => .inl rfl, fun _ => rfl, fun _ _ _ => ⟨rfl, id⟩, rfl⟩

theorem trans (h : s.Follows t) (g : t.Follows u) : s.Follows u where
  frame := h.frame.then g.frame
  release b := by
    obtain e | ⟨i, hi, e⟩ := g.release b
    · rw [e]
      exact h.release b
    · obtain ⟨-, -, ht⟩ := h.frame.time
      obtain ⟨-, -, -, hc⟩ := h.frame.settings
      rw [ht, hc] at e
      exact .inr ⟨i, (h.unlockingRecord hi).1, e⟩
  link b := by
    have hk := g.link b
    rw [h.frame.settings.1] at hk
    exact (h.link b).trans (hk.mono (fun _ => h.opensWith) fun _ => h.wakesIn)
  lane l := by
    obtain e | ⟨y, hy, hp, e⟩ := g.lane l
    · rw [e]
      exact h.lane l
    · have hs := h.admitting hy hp
      obtain e' | ⟨z, -, -, e'⟩ := h.lane l
      · exact .inr ⟨y, hs, hp, e' ▸ e⟩
      · rw [e'] at hy
        cases hy
        cases hp
  hot b := (g.hot b).trans (h.hot b)
  still b ho ht := by
    obtain ⟨h1, h2⟩ := h.still b ho ht
    obtain ⟨g1, g2⟩ := g.still b ((h.frame.bay b).state ▸ ho) (h1 ▸ ht)
    exact ⟨g1.trans h1, g2 ∘ h2⟩
  response := g.response.trans h.response

theorem foldl {α : Type} {f : State → α → State} (hf : ∀ s x, State.Follows s (f s x)) :
    ∀ (l : List α) (s : State), s.Follows (l.foldl f s)
  | [], s => refl s
  | x :: l, s => (hf s x).trans (foldl hf l _)

/-- Links, lanes, releases, entries and outputs as they were, and every grant. -/
theorem of_same (hf : s.Untouched t [] []) (hg : ∀ b, (t.bay b).grant = (s.bay b).grant := by exact fun _ => rfl)
    (hl : t.links = s.links := by rfl) (hr : t.releases = s.releases := by rfl) (hn : t.lanes = s.lanes := by rfl)
    (he : t.entries = s.entries := by rfl) (ho : t.outputs = s.outputs := by rfl)
    (hp : t.port.response = s.port.response := by rfl) : s.Follows t where
  frame := hf
  release b := .inl (by simp only [State.release, hr])
  link b := by
    rw [show t.link b = s.link b by simp only [State.link, hl]]
    exact .refl
  lane l := .inl (State.lane_congr hn l)
  hot b := by simp only [State.entry, he]
  still b _ _ := ⟨by simp only [State.output, ho], fun g => (hg b).trans g⟩
  response := hp

/-- The same where the outputs change too, but for bays without power and target. -/
theorem of_power (hf : s.Untouched t [] []) (ho : ∀ b, (s.bay b).state.switchedOff → (s.output b).target = none →
      t.output b = s.output b ∧ ((s.bay b).grant = 0 → (t.bay b).grant = 0))
    (he : ∀ b, (t.entry b).hot = (s.entry b).hot := by exact fun _ => rfl)
    (hl : t.links = s.links := by rfl) (hr : t.releases = s.releases := by rfl) (hn : t.lanes = s.lanes := by rfl)
    (hp : t.port.response = s.port.response := by rfl) : s.Follows t where
  frame := hf
  release b := .inl (by simp only [State.release, hr])
  link b := by
    rw [show t.link b = s.link b by simp only [State.link, hl]]
    exact .refl
  lane l := .inl (State.lane_congr hn l)
  hot := he
  still := ho
  response := hp

variable (s)

theorem openRelease {b : BayNo} {i : RecordIx} (hi : s.unlockingRecord b = some i) : s.Follows (s.openRelease b i) := by
  have ho : (s.openRelease b i) = (s.setRelease b (some ⟨i, .opened (s.clk32 + s.custodySettings.releaseLength) .waiting⟩)).placeCustodyOrder
      b (.release ((s.record i).holder.getD 0)) := rfl
  have hv : State.Serves (s.setRelease b (some ⟨i, .opened (s.clk32 + s.custodySettings.releaseLength) .waiting⟩)) (s.openRelease b i) :=
    .placeCustodyOrder b _
  have hn : (s.openRelease b i).releases = (s.setRelease b (some ⟨i, .opened (s.clk32 + s.custodySettings.releaseLength) .waiting⟩)).releases ∧
      (s.openRelease b i).entries = s.entries ∧ (s.openRelease b i).bays = s.bays ∧
      (s.openRelease b i).port.response = s.port.response := by
    rw [ho]
    unfold State.placeCustodyOrder
    split
    · exact ⟨rfl, rfl, rfl, rfl⟩
    · exact ⟨rfl, rfl, rfl, rfl⟩
  obtain ⟨hr, he, hb, hp⟩ := hn
  refine ⟨.after (State.placeCustodyOrder_untouched _ b _) (.tables rfl rfl), fun c => ?_, fun c => ?_,
    fun l => .inl (State.lane_congr hv.lanes l), fun c => by simp only [State.entry, he],
    fun c _ _ => ⟨by simp only [State.output, hv.outputs]; rfl, fun g => by rwa [State.bay_congr hb]⟩, hp⟩
  · have hc : (s.openRelease b i).release c = (s.setRelease b
        (some ⟨i, .opened (s.clk32 + s.custodySettings.releaseLength) .waiting⟩)).release c := by
      simp only [State.release, hr]
    rw [hc, State.release_setRelease]
    split
    · next e => subst e; exact .inr ⟨i, hi, rfl⟩
    · exact .inl rfl
  · rw [ho]
    exact State.placeCustodyOrder_fed (s.setRelease b _) b c fun e => ⟨i, e ▸ hi, rfl⟩

theorem latchSuccess (b : BayNo) (d : Direction) : s.Follows (s.latchSuccess b d) := by
  cases d with
  | lock =>
    simp only [State.latchSuccess]
    split
    · exact of_same (s.unsecured_untouched _ _)
    · exact refl s
  | unlock =>
    simp only [State.latchSuccess]
    split
    · next i hi => exact openRelease s hi
    · exact refl s

theorem setLatch (b : BayNo) (p : LatchPosition) : s.Follows (s.setLatch b p) :=
  of_same (s.setLatch_untouched b p) fun c => by
    simp only [State.setLatch, State.bay_modBay]
    split
    · next e => subst e; rfl
    · rfl

theorem serviceOne (q : LatchRequest) : s.Follows (s.serviceOne q) := by
  unfold State.serviceOne
  split
  · exact refl s
  · split
    · exact trans (t := { s with latchQueue := s.latchQueue.erase q }) (of_same (.tables rfl rfl)) (latchSuccess _ _ _)
    · split
      · exact of_same (.tables rfl rfl)
      · exact refl s

theorem slotService : s.Follows s.slotService := foldl (fun s q => serviceOne s q) _ s

theorem placeRequest (b : BayNo) (d : Direction) : s.Follows (s.placeRequest b d) := by
  unfold State.placeRequest
  split
  · next k _ =>
    split
    · have h1 : s.Follows (s.freeReserving k) := of_same (.tables rfl rfl)
      exact (h1.trans (latchSuccess _ b d)).trans (slotService _)
    · exact trans (t := s.setSlot k _) (of_same (.tables rfl rfl)) (slotService _)
  · exact trans (t := { s with latchQueue := queueRequest b d s.latchQueue }) (of_same (.tables rfl rfl)) (slotService _)

theorem lockUnlessService (b : BayNo) : s.Follows (s.lockUnlessService b) := by
  unfold State.lockUnlessService
  split
  · exact refl s
  · exact placeRequest s b .lock

theorem dropReserving (b : BayNo) (d : Direction) : s.Follows (s.dropReserving b d) := by
  unfold State.dropReserving
  split
  · split
    · next k _ _ => exact trans (t := s.freeReserving k) (of_same (.tables rfl rfl)) (slotService _)
    · exact refl s
  · exact refl s

theorem dropQueued (b : BayNo) (d : Direction) : s.Follows (s.dropQueued b d) := of_same (.tables rfl rfl)

theorem dropLocks (b : BayNo) : s.Follows (s.dropLocks b) := (dropQueued s b .lock).trans (dropReserving _ b .lock)

theorem driveSuccess (k : SlotNo) (q : LatchRequest) : s.Follows (s.driveSuccess k q) := by
  have h1 : s.Follows (s.endSlot k) := of_same (.tables rfl rfl)
  exact ((h1.trans (setLatch _ q.bay q.direction.target)).trans (latchSuccess _ q.bay q.direction)).trans (slotService _)

theorem startDrive (k : SlotNo) : s.Follows (s.startDrive k) := by
  unfold State.startDrive
  split
  · next q _ =>
    split
    · exact driveSuccess s k q
    · exact trans (t := s.setSlot k (.driving q)) (of_same (.tables rfl rfl)) (setLatch _ _ _)
  · exact refl s
  · exact refl s

theorem wakeLane (l : LaneNo) : s.Follows (s.wakeLane l) := by
  unfold State.wakeLane
  split
  · next x hx =>
    split
    · next hp =>
      have hv : State.Serves (s.setLane l ((s.lane l).woken x))
        ((s.setLane l ((s.lane l).woken x)).placeLaneOrder x.bay (.wake l)) := .placeLaneOrder _ _
      have hn : ((s.setLane l ((s.lane l).woken x)).placeLaneOrder x.bay (.wake l)).releases = s.releases ∧
          ((s.setLane l ((s.lane l).woken x)).placeLaneOrder x.bay (.wake l)).entries = s.entries ∧
          ((s.setLane l ((s.lane l).woken x)).placeLaneOrder x.bay (.wake l)).bays = s.bays ∧
          ((s.setLane l ((s.lane l).woken x)).placeLaneOrder x.bay (.wake l)).port.response = s.port.response := by
        unfold State.placeLaneOrder
        split
        · exact ⟨rfl, rfl, rfl, rfl⟩
        · exact ⟨rfl, rfl, rfl, rfl⟩
      obtain ⟨hr, he, hb, hport⟩ := hn
      refine ⟨.after (State.placeLaneOrder_untouched _ x.bay _) (.tables rfl rfl), fun c => .inl (by simp only [State.release, hr]),
        fun c => ?_, fun m => ?_, fun c => by simp only [State.entry, he],
        fun c _ _ => ⟨by simp only [State.output, hv.outputs]; rfl, fun g => by rwa [State.bay_congr hb]⟩, hport⟩
      · exact State.placeLaneOrder_fed (s.setLane l ((s.lane l).woken x)) x.bay c fun e => ⟨l, x, rfl, hx, hp, e⟩
      · have hm := State.lane_congr hv.lanes m
        rw [State.lane_setLane] at hm
        by_cases e : l = m
        · subst e
          rw [if_pos rfl] at hm
          exact .inr ⟨x, hx, hp, hm⟩
        · rw [if_neg e] at hm
          exact .inl hm
    · exact refl s
  · exact refl s

theorem tellActive (o : Owner) : s.Follows (s.tellActive o) := by
  cases o with
  | latch k => exact startDrive s k
  | lane l => exact wakeLane s l

/-! ### Passes and phases -/

theorem takePass_response : s.takePass.port.response = s.port.response := by
  have key : ∀ (t : State) (c : Prop) [Decidable c], t.port.response = s.port.response →
      (if c then t.addSubject Source.budgetShort 0 else t).port.response = s.port.response := fun t c _ h => by
    split
    · exact h
    · exact h
  exact key _ (s.passShare.2 = .floorsShort) rfl

theorem takePass : s.Follows s.takePass := by
  refine of_power s.takePass_untouched (fun b ho _ => ?_) (fun b => ?_) s.takePass_links s.takePass_releases s.takePass_lanes
    (takePass_response s)
  · have hd := s.disposition_of_switchedOff ho
    refine ⟨?_, fun _ => ?_⟩
    · rw [State.takePass_output, hd]
      exact if_pos rfl
    · exact s.takePass_grant_of_none (s.passBay_eq_none (by simp [hd]) (by simp [hd]))
  · rw [State.takePass_entry]
    rfl

theorem marks (x y : Bool) : s.Follows { s with reallocRequest := x, passPending := y } := of_same (.tables rfl rfl)

theorem serveRequest : s.Follows s.serveRequest := by
  unfold State.serveRequest
  split
  · simp only
    split
    · exact (marks s false s.passPending).trans (takePass _)
    all_goals exact marks s false true
  · exact refl s

theorem increased : s.Follows s.increased :=
  of_power (.tables rfl rfl) fun b _ ht => ⟨by rw [State.increased_output]; simp [Output.increase, ht], id⟩

theorem endDecreasing : s.Follows s.endDecreasing := by
  rw [State.endDecreasing_eq]
  exact (increased s).trans (foldl (fun s o => tellActive s o) _ _)

theorem endPass : s.Follows s.endPass :=
  of_power s.endPass_untouched fun b _ ht => ⟨by
    rw [State.endPass_output, ← ht], id⟩

theorem settle : ∀ (n : Nat) (s : State), s.Follows (State.settle n s)
  | 0, s => refl s
  | n + 1, s => by
    unfold State.settle
    simp only
    split
    · exact serveRequest s
    · split
      · exact serveRequest s
      · exact ((serveRequest s).trans (endDecreasing _)).trans (settle n _)
    · split
      · exact serveRequest s
      · exact ((serveRequest s).trans (endPass _)).trans (settle n _)

theorem relamp : s.Follows s.relamp :=
  of_same s.relamp_untouched (fun b => by rw [s.relamp_bay]) s.relamp_links s.relamp_releases s.relamp_lanes s.relamp_entries
    s.relamp_outputs (by rw [s.relamp_port])

theorem reAttn : s.Follows s.reAttn := of_same s.reAttn_untouched

/-- What follows where a change closes, with the lanes it grants granted already. -/
theorem closeChange : (State.grantLanes 4 s.requeue).Follows s.closeChange := by
  rw [State.closeChange_eq]
  exact ((settle _ _).trans (relamp _)).trans (reAttn _)

end State.Follows

end Sys2Proof.Machine
end

section
/-! SUPPORT. What the close of a change leaves of one bay, one link, one lane and one release, and when it grants no lane
(R111, R113, R116). -/

namespace Sys2Proof.Machine

set_option Elab.async false

/-! ### Grants before the settling -/

/-- The state in which a change is settled, its lanes granted (R111, R116). -/
def State.granted (s : State) : State := State.grantLanes 4 s.requeue

section
variable (s : State)

theorem State.granted_grants : s.Grants s.granted := .before s

theorem State.granted_follows : s.granted.Follows s.closeChange := .closeChange s

theorem State.grantLanes_of_not_permitted (n : Nat) (h : s.grantsPermitted = false) : State.grantLanes n s = s := by
  cases n with
  | zero => rfl
  | succ n =>
    unfold State.grantLanes
    rw [if_neg (by simp [h])]

theorem State.grantLanes_of_law (n : Nat) (h : s.GrantLaw) : State.grantLanes n s = s := by
  cases n with
  | zero => rfl
  | succ n =>
    unfold State.grantLanes
    split
    · next hp =>
      split
      · next l hq hl =>
        have := h hp ⟨_, by simpa using List.find?_some hl⟩
        rw [hq] at this
        cases this
      · rfl
    · rfl

theorem State.requeue_of_law (h : s.QueueLaw) : s.requeue = s := by
  obtain ⟨-, hm⟩ := h
  have h1 : s.queue.filter s.eligible = s.queue := List.filter_eq_self.mpr fun i hi => (hm i).mp hi
  have h2 : allRecords.filter (fun i => s.eligible i && !s.queue.contains i) = [] :=
    List.filter_eq_nil_iff.mpr fun i _ => by
      by_cases he : s.eligible i = true
      · simp [(hm i).mpr he]
      · simp [he]
  unfold State.requeue
  simp only [h1, h2, List.append_nil]

/-- Where no lane is granted, at most the queue is put right before a change is settled. -/
theorem State.granted_of_none (h : s.GrantsNone) : s.granted = s.requeue ∧ (s.granted = s ∨ s.grantsPermitted = false) := by
  unfold State.granted
  obtain h | ⟨hq, hg⟩ := h
  · exact ⟨State.grantLanes_of_not_permitted _ 4 h, .inr h⟩
  · rw [s.requeue_of_law hq, State.grantLanes_of_law s 4 hg]
    exact ⟨rfl, .inl rfl⟩

theorem State.granted_lane_of_none (h : s.GrantsNone) (l : LaneNo) : s.granted.lane l = s.lane l := by
  rw [(s.granted_of_none h).1]
  rfl

end

/-! ### What a grant leaves alone -/

section
variable {s t : State} (h : s.Grants t)
include h

theorem State.Grants.release (b : BayNo) : t.release b = s.release b := by rw [h.only]; rfl

theorem State.Grants.entry (b : BayNo) : t.entry b = s.entry b := by rw [h.only]; rfl

theorem State.Grants.unlockingRecord (b : BayNo) : t.unlockingRecord b = s.unlockingRecord b := by
  have hb : (t.bay b).record = (s.bay b).record := by rw [h.bay]
  simp only [State.unlockingRecord, h.release b, hb, h.record]

theorem State.Grants.opensWith {b : BayNo} {x : CustodyOrder} (hx : t.OpensWith b x) : s.OpensWith b x := by
  obtain ⟨i, hi, rfl⟩ := hx
  exact ⟨i, h.unlockingRecord b ▸ hi, by rw [h.record]⟩

theorem State.Grants.linkSettings : t.linkSettings = s.linkSettings := by rw [h.only]

end

/-! ### What the close of a change leaves -/

section
variable (s : State)

theorem State.closeChange_link (b : BayNo) :
    Link.Fed s.linkSettings (s.OpensWith b) (s.granted.WakesIn b) (s.link b) (s.closeChange.link b) := by
  have hg := s.granted_grants
  have h := s.granted_follows.link b
  rw [hg.link, hg.linkSettings] at h
  exact h.mono (fun _ => hg.opensWith) fun _ => id

/-- A release stays where a change closes, or it was UNLOCKING and opens (R145). -/
theorem State.closeChange_release (b : BayNo) : s.closeChange.release b = s.release b ∨ ∃ i, s.unlockingRecord b = some i ∧
    s.closeChange.release b = some ⟨i, .opened (s.clk32 + s.custodySettings.releaseLength) .waiting⟩ := by
  have hg := s.granted_grants
  have h := s.granted_follows.release b
  have hc : s.granted.clk32 = s.clk32 ∧ s.granted.custodySettings = s.custodySettings := by
    rw [hg.only]
    exact ⟨rfl, rfl⟩
  rwa [hg.release, hg.unlockingRecord, hc.1, hc.2] at h

theorem State.closeChange_release_of_none {b : BayNo} (h : s.unlockingRecord b = none) :
    s.closeChange.release b = s.release b := by
  obtain e | ⟨i, hi, -⟩ := s.closeChange_release b
  · exact e
  · rw [h] at hi
    cases hi

theorem State.not_opensWith {b : BayNo} (h : s.unlockingRecord b = none) (x : CustodyOrder) : ¬s.OpensWith b x := by
  rintro ⟨i, hi, -⟩
  rw [h] at hi
  cases hi

theorem State.closeChange_hot (b : BayNo) : (s.closeChange.entry b).hot = (s.entry b).hot := by
  rw [s.granted_follows.hot b, s.granted_grants.entry]

theorem State.closeChange_last (l : LaneNo) : (s.closeChange.lane l).last = (s.lane l).last := by
  have hg := s.granted_grants
  obtain e | ⟨y, -, -, e⟩ := s.granted_follows.lane l
  · rw [e, hg.lasts]
  · rw [e]
    exact hg.lasts l

/-- A session past ADMITTING stays as it is where a change closes (R116, R117). -/
theorem State.closeChange_lane {l : LaneNo} {x : Session} (hx : (s.lane l).session = some x) (hp : x.phase ≠ .admitting) :
    s.closeChange.lane l = s.lane l := by
  have hl := s.granted_grants.held l (by rw [hx]; rfl)
  obtain e | ⟨y, hy, hp', -⟩ := s.granted_follows.lane l
  · rw [e, hl]
  · rw [hl, hx] at hy
    cases hy
    exact absurd hp' hp

/-- The output and the grant of a bay without power and without a target stay (R95, R97). -/
theorem State.closeChange_still {b : BayNo} (ho : (s.bay b).state.switchedOff) (ht : (s.output b).target = none) :
    s.closeChange.output b = s.output b ∧ ((s.bay b).grant = 0 → (s.closeChange.bay b).grant = 0) := by
  have hg := s.granted_grants
  have h := s.granted_follows.still b (by rw [hg.bay]; exact ho) (by rw [hg.output]; exact ht)
  rw [hg.output, hg.bay] at h
  exact h

theorem State.closeChange_response : s.closeChange.port.response = s.port.response := by
  rw [s.granted_follows.response, s.granted_grants.only]

theorem State.closeChange_bay (b : BayNo) : (s.bay b).IdentityKept (s.closeChange.bay b) := s.closeChange_untouched.bay b

theorem State.closeChange_record (i : RecordIx) : (s.record i).SameButUnsecured (s.closeChange.record i) :=
  s.closeChange_untouched.record i

theorem State.closeChange_holds {n : SourceNo} {m : Nat} (h : s.Holds n m) : s.closeChange.Holds n m :=
  s.closeChange_untouched.events.holds h

/-- No WAKE is placed in a bay where no lane is granted and no session granted there awaits its reservation (R117). -/
theorem State.NoWakeDue.not_wakesIn {s : State} {b : BayNo} (h : s.NoWakeDue b) (x : LaneOrder) : ¬s.granted.WakesIn b x := by
  rintro ⟨l, y, rfl, hy, hp, hb⟩
  rw [s.granted_lane_of_none h.1] at hy
  exact h.2 l y hy hp hb

/-- An UP link or one busy: what the next exchange leaves to the statements of a command, pump and all. -/
theorem State.pumpLink_fed {p : CustodyOrder → Prop} {q : LaneOrder → Prop} (b c : BayNo) :
    Link.Fed s.linkSettings p q (s.link c) ((s.pumpLink b).link c) := by
  rw [State.link_pumpLink]
  split
  · next e => subst e; exact .pump .refl
  · exact .refl

/-- The link of a bay where a change closes and the bay's own link then makes its next exchange (R47, R58). -/
theorem State.closed_pumped_link (b c : BayNo) :
    Link.Fed s.linkSettings (s.OpensWith c) (s.granted.WakesIn c) (s.link c) ((s.closeChange.pumpLink b).link c) := by
  refine (s.closeChange_link c).trans ?_
  have h := State.pumpLink_fed (p := s.OpensWith c) (q := s.granted.WakesIn c) s.closeChange b c
  rwa [s.closeChange_untouched.settings.1] at h

theorem State.closed_pumped_untouched (b : BayNo) : s.Untouched (s.closeChange.pumpLink b) [] [] :=
  s.closeChange_untouched.then (State.pumpLink_untouched _ b)

end

end Sys2Proof.Machine
end

section
/-! SUPPORT. The end of REST, poll instants and the taps of a sweep (R53, R55, R56, R58), and the settling of O27 and O29. -/

namespace Sys2Proof.Machine

set_option Elab.async false

/-! ### The end of REST and the poll instant -/

section
variable (l : Link) (set : LinkSettings) (now : Nat)

theorem Link.retrainDue_iff (n : Nat) : l.retrainDue n = true ↔ 2 ≤ l.step.val ∧ n ≠ 0 ∧ n ≤ l.retrain := by
  simp [Link.retrainDue, and_assoc]

/-- A poll instant on an idle UP link with no order waiting, nor a verification or a QUERY owed (R58). -/
theorem Link.pollInstant_pump (h : l.Idle) (hc : l.custody.waiting = none) (hl : l.lane.waiting = none)
    (hv : l.verify = false) (hq : l.queryDue = false) :
    ((l.pollInstant set now).pump set).pollLast = now ∧
    (l.retrainDue set.retrainInterval = true → ((l.pollInstant set now).pump set).state = .training ∧
      ((l.pollInstant set now).pump set).tap = 0 ∧ ((l.pollInstant set now).pump set).exchange = some .train ∧
      ((l.pollInstant set now).pump set).sweep = some ⟨none, true, set.minWindow, set.tapOffset⟩) ∧
    (l.retrainDue set.retrainInterval = false → ((l.pollInstant set now).pump set).state = .up ∧
      ((l.pollInstant set now).pump set).exchange = some .query) := by
  obtain ⟨hu, he⟩ := id h
  have hp : (l.pollInstant set now).pump set = (l.pollInstant set now).takeInstant.next set := if_pos h
  have ht : (l.pollInstant set now).takeInstant = { l with
      pollLast := now, custody := l.custody.retry, lane := l.lane.retry, pollDue := true
      sweepDue := l.retrainDue set.retrainInterval, instantPending := none } := by
    simp [Link.pollInstant, Link.takeInstant, hu, Link.retrainDue]
  have hn : ((l.pollInstant set now).pump set) = if l.retrainDue set.retrainInterval = true then
      (l.pollInstant set now).takeInstant.beginSweep set true
      else { (l.pollInstant set now).takeInstant with
        exchange := some .query, queryDue := false, verifyDue := false, pollDue := false, sweepDue := false } := by
    rw [hp, Link.next, ht]
    simp [Slot.ready, Slot.retry, hc, hl, hv, hq]
  rw [hn]
  refine ⟨?_, fun h => ?_, fun h => ?_⟩
  · split <;> simp [ht, Link.beginSweep]
  · rw [if_pos h]
    exact ⟨rfl, rfl, rfl, rfl⟩
  · rw [if_neg (by simp [h]), ht]
    exact ⟨hu, rfl⟩

end

theorem State.reachPoll_onlyLink (s : State) (b : BayNo) : s.OnlyLink (s.reachPoll b) b :=
  ⟨rfl, fun c hc => by rw [s.reachPoll_link, if_neg (Ne.symm hc)]⟩

theorem execPollInstant_of_running {s : State} {b : BayNo} (h : (s.link b).pollRunning = true) :
    exec (.pollInstant b) s = .next (s.reachPoll b) := if_pos h

/-- Settles O27, by the choice of the next exchange after the instant. -/
theorem restEndsAndPollInstantsSend : Obligations.RestEndsAndPollInstantsSend := by
  unfold Obligations.RestEndsAndPollInstantsSend
  constructor
  · intro s b hb
    have h : exec (.restEnd b) s = .next (s.modLink b Link.sendHello) := if_pos hb
    refine ⟨h, fun t ht => ?_⟩
    rw [h] at ht
    cases ht
    rw [State.link_modLink, if_pos rfl]
    rfl
  · intro s b hu hr he hc hl hv hq
    obtain ⟨h1, h2, h3⟩ := (s.link b).pollInstant_pump s.linkSettings s.clk32 ⟨hu, he⟩ hc hl hv hq
    have hk : (s.reachPoll b).link b = ((s.link b).pollInstant s.linkSettings s.clk32).pump s.linkSettings := by
      rw [s.reachPoll_link, if_pos rfl]
    refine ⟨_, execPollInstant_of_running hr, s.reachPoll_onlyLink b, hk ▸ h1, fun h => ?_, fun h => ?_⟩
    · rw [hk]
      exact h2 ((Link.retrainDue_iff _ _).mpr h)
    · rw [hk]
      exact h3 (Bool.eq_false_iff.mpr fun g => h ((Link.retrainDue_iff _ _).mp g))

/-! ### The taps of a sweep -/

section
variable {l k : Link} {set : LinkSettings} {c : CustodyOrder → Prop} {o : LaneOrder → Prop} {now window : Nat} {begun : Option Tap}
  {retrain : Bool} {offset : Int} {first last : Tap}

theorem clampTap_val (v : Int) : ((clampTap v).val : Int) = max 0 (min 31 v) := by
  simp only [clampTap]
  omega

/-- A link that rests after a sweep has stepped down (R56). -/
theorem Link.Fed.stepDown (h : Link.Fed set c o l.stepDown k) : k.state = .rest ∧ k.step.val = l.step.val - 1 ∧
    k.ceiling = k.step ∧ k.tap = 16 ∧ k.window = none := by
  rw [h.of_busy (by simp [Link.Idle, Link.stepDown, Link.restAt])]
  exact ⟨rfl, rfl, rfl, rfl, rfl⟩

/-- The run first to last judged, as the link stands after the orders that its end lets out (R56, R57). -/
theorem Link.Fed.judgeRun {w : Sweep} (h : Link.Fed set c o (l.judgeRun now w first last) k) :
    (w.minWindow ≤ last.val + 1 - first.val → l.sweepDue = false →
      k.state = .up ∧ k.window = some (first, last) ∧ k.retrain = 0 ∧
      (k.tap.val : Int) = max 0 (min 31 (((first.val + last.val) / 2 : Nat) + w.tapOffset))) ∧
    (last.val + 1 - first.val < w.minWindow →
      k.state = .rest ∧ k.step.val = l.step.val - 1 ∧ k.ceiling = k.step ∧ k.tap = 16 ∧ k.window = none) := by
  refine ⟨fun hw hs => ?_, fun hw => ?_⟩
  · have hj : (l.judgeRun now w first last).state = .up ∧ (l.judgeRun now w first last).window = some (first, last) ∧
        (l.judgeRun now w first last).retrain = 0 ∧ (l.judgeRun now w first last).sweepDue = l.sweepDue ∧
        (l.judgeRun now w first last).tap = clampTap (((first.val + last.val) / 2 : Nat) + w.tapOffset) := by
      unfold Link.judgeRun
      rw [if_pos hw]
      dsimp only
      split
      · exact ⟨rfl, rfl, rfl, rfl, rfl⟩
      · exact ⟨rfl, rfl, rfl, rfl, rfl⟩
    obtain ⟨h1, h2, h3, h4, h5⟩ := hj
    have hn : (l.judgeRun now w first last).NoSweep :=
      ⟨h4.trans hs, fun n _ => by
        rw [Bool.eq_false_iff, Ne, Link.retrainDue_iff, h3]
        omega⟩
    obtain ⟨g1, -, g3⟩ := h.steady h1 hn
    exact ⟨g1, h.kept.window.trans h2, h.kept.retrain.trans h3, by rw [g3, h5, clampTap_val]⟩
  · obtain ⟨hn, -⟩ | ⟨-, e⟩ := l.judgeRun_cases now w first last
    · omega
    · rw [e] at h
      exact h.stepDown

variable (hw : l.sweep = some ⟨begun, retrain, window, offset⟩)
include hw

theorem Link.judgeTap_goesOn_passed (ht : l.tap.val < 31) : l.judgeTap now true =
    { l with tap := nextTap l.tap, sweep := some ⟨some (begun.getD l.tap), retrain, window, offset⟩, exchange := some .train } := by
  have hne : l.tap ≠ 31 := fun e => by rw [e] at ht; exact absurd ht (by decide)
  simp [Link.judgeTap, hw, hne]

theorem Link.judgeTap_goesOn_failed (hb : begun = none) (ht : l.tap.val < 31) :
    l.judgeTap now false = { l with tap := nextTap l.tap, exchange := some .train } := by
  have hne : l.tap ≠ 31 := fun e => by rw [e] at ht; exact absurd ht (by decide)
  subst hb
  simp [Link.judgeTap, hw, hne]

theorem Link.judgeTap_run {passed : Bool} (h : passed = true ∧ l.tap = 31 ∧ first = begun.getD 31 ∧ last = 31 ∨
      passed = false ∧ begun = some first ∧ l.tap.val = last.val + 1) :
    l.judgeTap now passed = l.judgeRun now ⟨begun, retrain, window, offset⟩ first last := by
  obtain ⟨rfl, ht, rfl, rfl⟩ | ⟨rfl, rfl, ht⟩ := h
  · simp [Link.judgeTap, hw, ht]
  · have hp : prevTap l.tap = last := Fin.ext (by simp [prevTap, ht])
    simp [Link.judgeTap, hw, hp]

theorem Link.judgeTap_none (hb : begun = none) (ht : l.tap = 31) : l.judgeTap now false = l.stepDown := by
  subst hb
  simp [Link.judgeTap, hw, ht]

end

theorem nextTap_val {k : Tap} (h : k.val < 31) : (nextTap k).val = k.val + 1 := by simp only [nextTap]; omega

/-- An ECHO, a reply timeout and a bad frame judge the tap, and beside the link of the bay a failure closes a change (R47, R55). -/
theorem State.tapJudged {s : State} {b : BayNo} {c : Instr} {passed : Bool} (he : (s.link b).exchange = some .train)
    (hc : (∃ x : BitVec 64, c = .echoTaken b x ∧ (passed = true ↔ x = Config.trainingPattern)) ∨
      passed = false ∧ (c = .replyTimeout b ∨ ∃ l, c = .badFrame b l ∧ Exchange.train.succeeds l = false)) :
    ∃ t, exec c s = .next t ∧ t.port.response = s.port.response ∧ s.Untouched t [] [] ∧
      ((∃ x : BitVec 64, c = .echoTaken b x) → s.OnlyLink t b) ∧
      ∃ p q, Link.Fed s.linkSettings p q ((s.link b).judgeTap s.clk32 passed) (t.link b) := by
  have hl : ∀ f : Link → Link, (s.modLink b f).link b = f (s.link b) := fun f => by rw [State.link_modLink, if_pos rfl]
  obtain ⟨x, rfl, hx⟩ | ⟨rfl, hf⟩ := hc
  · have hp : (x == Config.trainingPattern) = passed := by
      rw [Bool.eq_iff_iff, beq_iff_eq, hx]
    have h : exec (.echoTaken b x) s = .next (s.takeEcho b x) := by
      show (.next (s.takeReply b 0x22 fun _ => s.takeEcho b x) : Result) = _
      unfold State.takeReply
      rw [he]
      rfl
    refine ⟨_, h, rfl, .tables rfl rfl, fun _ => ⟨rfl, fun a ha => ?_⟩, fun _ => True, fun _ => True, ?_⟩
    · unfold State.takeEcho
      rw [State.link_pumpLink, if_neg (Ne.symm ha), State.link_modLink, if_neg (Ne.symm ha)]
    · unfold State.takeEcho
      rw [State.link_pumpLink, if_pos rfl, hl, hp]
      exact .pump .refl
  · have h : exec c s = .next (s.failExchange b) := by
      obtain rfl | ⟨l, rfl, hl⟩ := hf
      · show execReplyTimeout b s = _
        unfold execReplyTimeout
        rw [he]
      · show execBadFrame b l s = _
        unfold execBadFrame
        rw [he]
        exact if_neg (by simp [hl])
    have hx : s.exchangeFails b = s.modLink b (Link.judgeTap s.clk32 false) := by
      unfold State.exchangeFails
      rw [he]
    have hfe : s.failExchange b = (s.modLink b (Link.judgeTap s.clk32 false)).closeChange.pumpLink b := by
      rw [State.failExchange, hx]
    rw [hfe] at h
    have hfed := State.closed_pumped_link (s.modLink b (Link.judgeTap s.clk32 false)) b b
    rw [hl] at hfed
    refine ⟨_, h, ?_, (s.modLink_untouched b _).then (State.closed_pumped_untouched _ b), ?_, _, _, hfed⟩
    · exact (State.closeChange_response (s.modLink b (Link.judgeTap s.clk32 false)))
    · rintro ⟨x, rfl⟩
      obtain hf | ⟨l, hf, -⟩ := hf <;> cases hf

/-- Settles O29: the tap is judged, and the link goes on, enters UP, or steps down and rests. -/
theorem echoJudgesTheTap : Obligations.EchoJudgesTheTap := by
  unfold Obligations.EchoJudgesTheTap
  intro s b c passed begun retrain window offset first last he hw hc
  obtain ⟨t, ht, hp, hu, ho, p, q, hf⟩ := State.tapJudged he hc
  refine ⟨t, ht, hp, hu, ho, ?_, ?_, ?_, ?_⟩
  · rintro rfl hlt
    rw [Link.judgeTap_goesOn_passed hw hlt] at hf
    rw [hf.of_busy (by simp [Link.Idle])]
    exact ⟨nextTap_val hlt, rfl, rfl⟩
  · rintro rfl hb hlt
    rw [Link.judgeTap_goesOn_failed hw hb hlt] at hf
    rw [hf.of_busy (by simp [Link.Idle])]
    exact ⟨nextTap_val hlt, rfl, by rw [← hb]; exact hw, rfl, rfl⟩
  · intro hr
    rw [Link.judgeTap_run hw hr] at hf
    exact ⟨fun hwin hs => hf.judgeRun.1 hwin (hs b he).2, hf.judgeRun.2⟩
  · rintro rfl hb h31
    rw [Link.judgeTap_none hw hb h31] at hf
    exact hf.stepDown

end Sys2Proof.Machine
end

section
/-! SUPPORT. The settings requests (R51, R112, R128, R153), and the settling of O33 and O35. -/

namespace Sys2Proof.Machine

set_option Elab.async false

/-! ### Values coded and clamped -/

/-- A code below the number of values names the value of that number (R188). -/
theorem enum?_code {α : Type} {values : List α} (idx : α → Nat) (hv : values.map idx = List.range values.length) {b : Byte}
    (h : b.toNat < values.length) : ∃ x, enum? values b = some x ∧ idx x = b.toNat := by
  refine ⟨values[b.toNat], List.getElem?_eq_getElem h, ?_⟩
  have hm : (values.map idx)[b.toNat]'(by simpa using h) = b.toNat := by simp [hv]
  simpa using hm

theorem clampInt_eq_max {lo hi v : Int} (h : lo ≤ hi) : clampInt lo hi v = max lo (min hi v) := by
  unfold clampInt
  split
  · omega
  · split <;> omega

theorem clampStep_val (b : Byte) : (clampStep b).val = min 3 b.toNat := Nat.min_comm _ _

/-- A value is not clamped exactly if it lies in its range. -/
theorem clampNat_eq_self_iff {lo hi v : Nat} (h : lo ≤ hi) : clampNat lo hi v = v ↔ lo ≤ v ∧ v ≤ hi := by
  rw [clampNat_eq_max h]
  omega

/-! ### LINK_SETTINGS -/

section
variable (s : State) (t : LinkSettings)

theorem State.reachPolls_only (l : List BayNo) (u : State) :
    l.foldl State.reachPoll u = { u with links := (l.foldl State.reachPoll u).links } := by
  induction l generalizing u with
  | nil => rfl
  | cons b l ih => rw [List.foldl_cons, ih]; rfl

theorem State.writeLinkSettings_only :
    s.writeLinkSettings t = { s with linkSettings := t, links := (s.writeLinkSettings t).links } := by
  unfold State.writeLinkSettings
  dsimp only
  split
  · rw [State.reachPolls_only]
  · rfl

/-- A link at or below the cart max step written is not brought down (R51). -/
theorem Link.bringDown_of_le {l : Link} {v : RateStep} (h : l.step ≤ v) : l.bringDown v = l := if_neg (Fin.not_lt.mpr h)

/-- A poll instant that falls during an exchange waits for its end (R51, R58). -/
theorem Link.pollInstant_pump_busy {l : Link} {x : Exchange} (hu : l.state = .up) (hx : l.exchange = some x) (now : Nat) :
    (l.pollInstant t now).pump t = { l with pollLast := now, instantPending := some t.retrainInterval } := by
  rw [Link.pump_busy _ _ fun g => by simp [Link.pollInstant, hx] at g, Link.pollInstant, if_pos hu]

/-- A link above the cart max step written rests at it (R51). -/
theorem State.writeLinkSettings_above {b : BayNo} (h : t.maxStep < (s.link b).step) :
    (s.writeLinkSettings t).link b = { (s.link b).restAt t.maxStep with
      ceiling := t.maxStep, custody := (s.link b).custody.recall, lane := (s.link b).lane.recall } := by
  have hd : (s.link b).bringDown t.maxStep = { (s.link b).restAt t.maxStep with
      ceiling := t.maxStep, custody := (s.link b).custody.recall, lane := (s.link b).lane.recall } := if_pos h
  rw [State.writeLinkSettings_link]
  simp only [hd]
  rw [if_neg fun ⟨_, g, _⟩ => by simp [Link.restAt] at g]

/-- Any other link takes the poll that is overdue under a changed telemetry interval, or stays (R51, R58). -/
theorem State.writeLinkSettings_below {b : BayNo} (h : (s.link b).step ≤ t.maxStep) :
    (s.writeLinkSettings t).link b =
      if t.telemetryInterval ≠ s.linkSettings.telemetryInterval ∧ (s.link b).state = .up ∧ (s.link b).pollRunning = true ∧
          (s.link b).pollLast + t.telemetryInterval ≤ s.clk32 then ((s.link b).pollInstant t s.clk32).pump t
      else s.link b := by
  rw [State.writeLinkSettings_link]
  simp only [Link.bringDown_of_le h]

end

theorem LinkSettings.exact_clamp (p : LinkSettingsParams) : (LinkSettings.clamp p).exact p = true ↔
    p.maxStep.toNat ≤ 3 ∧ 2 ≤ p.minWindow.toNat ∧ p.minWindow.toNat ≤ 16 ∧ -8 ≤ p.tapOffset.toInt ∧
      p.tapOffset.toInt ≤ 7 ∧ 1 ≤ p.telemetryInterval.toNat ∧ p.telemetryInterval.toNat ≤ 60 := by
  simp only [LinkSettings.exact, LinkSettings.clamp, clampStep_val, clampNat_eq_max, clampInt_eq_max, Bool.and_eq_true,
    beq_iff_eq, show (2 : Nat) ≤ 16 by decide, show (-8 : Int) ≤ 7 by decide, show (1 : Nat) ≤ 60 by decide]
  omega

/-- Settles O33, by what a write of the settings does to each link. -/
theorem linkSettingsAreClampedAndTakeEffect : Obligations.LinkSettingsAreClampedAndTakeEffect := by
  unfold Obligations.LinkSettingsAreClampedAndTakeEffect
  intro s p
  have hw := s.writeLinkSettings_only (LinkSettings.clamp p)
  have hs : (s.writeLinkSettings (LinkSettings.clamp p)).linkSettings = LinkSettings.clamp p := by rw [hw]
  refine ⟨(s.writeLinkSettings (LinkSettings.clamp p)).respond
      (if (LinkSettings.clamp p).exact p then .done else .clamped) (LinkSettings.clamp p).bytes, rfl, ?_, ?_⟩
  · show State.respond _ _ _ = _
    rw [hw]
    rfl
  rw [show ∀ (x : Status) (d : List Byte), ((s.writeLinkSettings (LinkSettings.clamp p)).respond x d).linkSettings =
    LinkSettings.clamp p from fun _ _ => hs]
  have hl : ∀ (x : Status) (d : List Byte) (b : BayNo), ((s.writeLinkSettings (LinkSettings.clamp p)).respond x d).link b =
      (s.writeLinkSettings (LinkSettings.clamp p)).link b := fun _ _ _ => rfl
  simp only [hl]
  refine ⟨clampStep_val _, clampNat_eq_max (by decide), clampInt_eq_max (by decide), rfl, clampNat_eq_max (by decide), ⟨?_, rfl⟩,
    fun b hb => ?_, fun b hb => ⟨fun h => ?_, fun h1 h2 h3 h4 => ?_⟩⟩
  · exact if_congr (LinkSettings.exact_clamp p) rfl rfl
  · rw [s.writeLinkSettings_above _ hb]
    exact ⟨rfl, rfl, rfl, rfl, rfl, rfl, rfl⟩
  · rw [s.writeLinkSettings_below _ hb, if_neg]
    rintro ⟨g1, g2, g3, g4⟩
    obtain h | h | h | h := h
    · exact g1 h
    · exact h g2
    · simp [g3] at h
    · omega
  · rw [s.writeLinkSettings_below _ hb, if_pos ⟨h1, h2, h3, h4⟩]
    refine ⟨⟨_, execPollInstant_of_running (s := { s with linkSettings := LinkSettings.clamp p }) h3, ?_⟩, ?_, fun x hx => ?_,
      fun he hc hln hv hq => ?_⟩
    · rw [State.reachPoll_link, if_pos rfl]
      rfl
    · exact (Link.pump_pumped _ _).kept.pollLast
    · exact Link.pollInstant_pump_busy _ h2 hx _
    · obtain ⟨-, g2, g3⟩ := (s.link b).pollInstant_pump (LinkSettings.clamp p) s.clk32 ⟨h2, he⟩ hc hln hv hq
      have hr : (s.link b).retrainDue (LinkSettings.clamp p).retrainInterval = true ↔ 2 ≤ (s.link b).step.val ∧
          p.retrainInterval.toNat ≠ 0 ∧ p.retrainInterval.toNat ≤ (s.link b).retrain := Link.retrainDue_iff _ _
      split
      · next g =>
        obtain ⟨a, -, c, -⟩ := g2 (hr.mpr g)
        exact ⟨a, c⟩
      · next g => exact g3 (Bool.eq_false_iff.mpr fun k => g (hr.mp k))

/-! ### The other settings -/

section
variable {b : Byte}

theorem windowPolicy?_of_lt (h : b.toNat < 2) : ∃ x, windowPolicy? b = some x ∧ x.ctorIdx = b.toNat :=
  enum?_code WindowPolicy.ctorIdx rfl h
theorem windowPolicy?_of_ge (h : 2 ≤ b.toNat) : windowPolicy? b = none := enum?_of_ge h
theorem authority?_of_lt (h : b.toNat < 2) : ∃ x, authority? b = some x ∧ x.ctorIdx = b.toNat :=
  enum?_code Authority.ctorIdx rfl h
theorem authority?_of_ge (h : 2 ≤ b.toNat) : authority? b = none := enum?_of_ge h
theorem samplePeriod?_of_ge (h : 4 ≤ b.toNat) : samplePeriod? b = none := enum?_of_ge h
theorem foreignPolicy?_of_lt (h : b.toNat < 2) : ∃ x, foreignPolicy? b = some x ∧ x.ctorIdx = b.toNat :=
  enum?_code ForeignPolicy.ctorIdx rfl h
theorem foreignPolicy?_of_ge (h : 2 ≤ b.toNat) : foreignPolicy? b = none := enum?_of_ge h
theorem autoLock?_of_ge (h : 2 ≤ b.toNat) : autoLock? b = none := enum?_of_ge h
theorem invert?_of_ge (h : 2 ≤ b.toNat) : invert? b = none := enum?_of_ge h

theorem byte_cases (h : b.toNat < 2) : b = 0 ∨ b = 1 := by
  have : b.toNat = 0 ∨ b.toNat = 1 := by omega
  exact this.imp (fun g => BitVec.eq_of_toNat_eq g) fun g => BitVec.eq_of_toNat_eq g

/-- Auto-lock is coded ON 0, OFF 1 (R128, notes/assumptions/6.md). -/
theorem autoLock?_of_lt (h : b.toNat < 2) : ∃ x, autoLock? b = some x ∧ (x = true ↔ b = 0) := by
  obtain rfl | rfl := byte_cases h
  · exact ⟨true, rfl, by decide⟩
  · exact ⟨false, rfl, by decide⟩

end

theorem ite_status_congr {x y : Prop} [Decidable x] [Decidable y] (h : x ↔ y) :
    (if x then Status.done else .clamped) = if y then .done else .clamped := if_congr h rfl rfl

section
variable (s : State)

theorem laneSettingsWritten (p : LaneSettingsParams) (h : p.windowPolicy.toNat < 2) :
    ∃ t, exec (.laneSettings (some p)) s = .next t ∧
      t.laneSettings.failureLimit = max 1 (min 7 p.failureLimit.toNat) ∧
      t.laneSettings.sessionLimit = max 1 (min 120 p.sessionLimit.toNat) ∧
      t.laneSettings.windowPolicy.ctorIdx = p.windowPolicy.toNat ∧
      t.Says (if t.laneSettings.failureLimit = p.failureLimit.toNat ∧
        t.laneSettings.sessionLimit = p.sessionLimit.toNat then .done else .clamped) t.laneSettings.bytes ∧
      s.RecordsKept t [] ∧ s.BaysKept t [] ∧ t.linkSettings = s.linkSettings ∧ t.budget = s.budget ∧
      t.custodySettings = s.custodySettings ∧ t.keys = s.keys ∧ s.TimeKept t ∧ s.WindowsKept t ∧ s.EventsGrow t := by
  obtain ⟨policy, hp, hi⟩ := windowPolicy?_of_lt h
  have he : exec (.laneSettings (some p)) s =
      .next (State.finish { s with laneSettings := LaneSettings.clamp p policy }
        (if (LaneSettings.clamp p policy).exact p then .done else .clamped) fun _ => (LaneSettings.clamp p policy).bytes) := by
    show (.next (s.laneSettingsRequest (some p)) : Result) = _
    simp only [State.laneSettingsRequest, hp]
  have hu := State.closeChange_untouched { s with laneSettings := LaneSettings.clamp p policy }
  rw [he, State.finish]
  generalize State.closeChange { s with laneSettings := LaneSettings.clamp p policy } = v at hu
  obtain ⟨h1, h2, h3, h4⟩ := hu.settings
  have hl : v.laneSettings = LaneSettings.clamp p policy := h3
  refine ⟨_, rfl, ?_⟩
  have hf : ∀ (x : Status) (d : List Byte), (v.respond x d).laneSettings = LaneSettings.clamp p policy := fun _ _ => hl
  simp only [hf]
  refine ⟨clampNat_eq_max (by decide), clampNat_eq_max (by decide), hi, ⟨ite_status_congr ?_, rfl⟩, hu.records, hu.bays, h1, h2,
    h4, hu.keys, hu.time, hu.windows, hu.events⟩
  simp [LaneSettings.exact]

theorem custodySettingsWritten (p : CustodySettingsParams) (ha : p.authority.toNat < 2) (hl : p.autoLock.toNat < 2) :
    ∃ t, exec (.custodySettings (some p)) s = .next t ∧
      t = { s with custodySettings := t.custodySettings, port := { s.port with response := t.port.response } } ∧
      t.custodySettings.authority.ctorIdx = p.authority.toNat ∧
      (t.custodySettings.autoLock = true ↔ p.autoLock = 0) ∧
      t.custodySettings.teacherLength = max 10 (min 600 p.teacherLength.toNat) ∧
      t.custodySettings.serviceLength = max 30 (min 1800 p.serviceLength.toNat) ∧
      t.custodySettings.releaseLength = max 10 (min 300 p.releaseLength.toNat) ∧
      t.Says (if t.custodySettings.teacherLength = p.teacherLength.toNat ∧
        t.custodySettings.serviceLength = p.serviceLength.toNat ∧
        t.custodySettings.releaseLength = p.releaseLength.toNat then .done else .clamped) t.custodySettings.bytes := by
  obtain ⟨mode, hm, hmi⟩ := authority?_of_lt ha
  obtain ⟨auto, hx, hxi⟩ := autoLock?_of_lt hl
  have he : exec (.custodySettings (some p)) s = .next (State.respond { s with custodySettings := CustodySettings.clamp p mode auto }
      (if (CustodySettings.clamp p mode auto).exact p then .done else .clamped) (CustodySettings.clamp p mode auto).bytes) := by
    show (.next (s.custodySettingsRequest (some p)) : Result) = _
    simp only [State.custodySettingsRequest, hm, hx]
  refine ⟨_, he, rfl, hmi, hxi, clampNat_eq_max (by decide), clampNat_eq_max (by decide), clampNat_eq_max (by decide),
    ite_status_congr ?_, rfl⟩
  simp [CustodySettings.exact, State.respond, and_assoc]

theorem keySettingsWritten (p : KeySettingsParams) (ha : p.invert.toNat < 2) (hl : p.period.toNat < 4) :
    ∃ t, exec (.keySettings (some p)) s = .next t ∧
      t = { s with keys := t.keys, port := { s.port with response := t.port.response } } ∧
      (t.keys.invert = true ↔ p.invert = 1) ∧ t.keys.period.ctorIdx = p.period.toNat ∧
      t.keys.gapLimit = max 16 (min 127 p.gapLimit.toNat) ∧ t.keys.entries = s.keys.entries ∧
      t.keys.failures = s.keys.failures ∧ t.keys.lockout = s.keys.lockout ∧
      (t.keys.invert = s.keys.invert ∧ t.keys.period = s.keys.period → t.keys.burst = s.keys.burst) ∧
      (¬(t.keys.invert = s.keys.invert ∧ t.keys.period = s.keys.period) → t.keys.burst = .waitingGap ∧
        t.keys.count = 0 ∧ t.keys.candidates = [] ∧ t.keys.judged = false ∧ t.keys.taker = none) ∧
      t.Says (if t.keys.gapLimit = p.gapLimit.toNat then .done else .clamped) t.keys.settingsBytes := by
  obtain ⟨per, hp, hpi⟩ := samplePeriod?_of_lt hl
  have hi : invert? p.invert = some (decide (p.invert = 1)) := invert?_of_lt ha (by simp)
  have he : exec (.keySettings (some p)) s = .next (State.respond
      { s with keys := s.keys.write (decide (p.invert = 1)) per (clampGap p.gapLimit) s.gapWaits }
      (if clampGap p.gapLimit = p.gapLimit.toNat then .done else .clamped)
      (s.keys.write (decide (p.invert = 1)) per (clampGap p.gapLimit) s.gapWaits).settingsBytes) := by
    show (.next (s.keySettingsRequest (some p)) : Result) = _
    simp only [State.keySettingsRequest, hi, hp]
  have hg : clampGap p.gapLimit = max 16 (min 127 p.gapLimit.toNat) := clampNat_eq_max (by decide)
  refine ⟨_, he, rfl, ?_⟩
  have hk : ∀ (k : Receiver) (x : Status) (d : List Byte), (State.respond { s with keys := k } x d).keys = k := fun _ _ _ => rfl
  rw [hk, hg]
  obtain ⟨h1, h2, e⟩ | ⟨hn, e⟩ := s.keys.write_cases (decide (p.invert = 1)) per (max 16 (min 127 p.gapLimit.toNat)) s.gapWaits <;>
    rw [e]
  · exact ⟨by simp [h1], by rw [← hpi, h2], rfl, rfl, rfl, rfl, fun _ => rfl, fun g => absurd ⟨rfl, rfl⟩ g, rfl, rfl⟩
  · exact ⟨by simp [Receiver.rest], hpi, rfl, rfl, rfl, rfl, fun ⟨g1, g2⟩ => absurd ⟨g1.symm, g2.symm⟩ hn,
      fun _ => ⟨rfl, rfl, rfl, rfl, rfl⟩, rfl, rfl⟩

/-- An operand that names no value is refused (R112, R128, R153). -/
theorem laneSettings_badRequest (p : LaneSettingsParams) (h : 2 ≤ p.windowPolicy.toNat) :
    Replies (.laneSettings (some p)) s .badRequest [] := by
  show (.next (s.laneSettingsRequest (some p)) : Result) = _
  simp only [State.laneSettingsRequest, windowPolicy?_of_ge h]
  rfl

theorem custodySettings_badRequest (p : CustodySettingsParams) (h : 2 ≤ p.authority.toNat ∨ 2 ≤ p.autoLock.toNat) :
    Replies (.custodySettings (some p)) s .badRequest [] := by
  refine next_congr ?_
  show s.custodySettingsRequest (some p) = s.refuse .badRequest
  unfold State.custodySettingsRequest
  dsimp only
  split
  · next h1 h2 =>
    obtain h | h := h
    · rw [authority?_of_ge h] at h1
      cases h1
    · rw [autoLock?_of_ge h] at h2
      cases h2
  · rfl

theorem keySettings_badRequest (p : KeySettingsParams) (h : 2 ≤ p.invert.toNat ∨ 4 ≤ p.period.toNat) :
    Replies (.keySettings (some p)) s .badRequest [] := by
  refine next_congr ?_
  show s.keySettingsRequest (some p) = s.refuse .badRequest
  unfold State.keySettingsRequest
  dsimp only
  split
  · next h1 h2 =>
    obtain h | h := h
    · rw [invert?_of_ge h] at h1
      cases h1
    · rw [samplePeriod?_of_ge h] at h2
      cases h2
  · rfl

end

/-- Settles O35, each settings request in turn. -/
theorem settingsAreReadAndWritten : Obligations.SettingsAreReadAndWritten := by
  unfold Obligations.SettingsAreReadAndWritten
  refine ⟨fun s => ⟨rfl, rfl, rfl, ?_, rfl, rfl⟩,
    fun s p => ⟨laneSettingsWritten s p, laneSettings_badRequest s p⟩,
    fun s p => ⟨custodySettingsWritten s p, custodySettings_badRequest s p⟩,
    fun s p => ⟨keySettingsWritten s p, keySettings_badRequest s p⟩⟩
  rw [← mark_not]
  rfl

end Sys2Proof.Machine
end

section
/-! SUPPORT. A latch request asked for stays asked for, until it is met (R135 to R138), and the settling of O46. -/

namespace Sys2Proof.Machine

set_option Elab.async false

/-- The slots, the latch queue and the latch positions are kept. -/
structure State.LatchesKept (s t : State) : Prop where
  slots : t.slots = s.slots
  queue : t.latchQueue = s.latchQueue
  latch : ∀ b, (t.bay b).latch = (s.bay b).latch

namespace State.LatchesKept

variable {s t u : State}

theorem refl (s : State) : s.LatchesKept s := ⟨rfl, rfl, fun _ => rfl⟩

theorem trans (h : s.LatchesKept t) (g : t.LatchesKept u) : s.LatchesKept u :=
  ⟨g.slots.trans h.slots, g.queue.trans h.queue, fun b => (g.latch b).trans (h.latch b)⟩

theorem of_bays (hb : t.bays = s.bays := by rfl) (hs : t.slots = s.slots := by rfl)
    (hq : t.latchQueue = s.latchQueue := by rfl) : s.LatchesKept t := ⟨hs, hq, fun b => by rw [State.bay_congr hb]⟩

variable (s)

theorem modBay (b : BayNo) (f : Bay → Bay) (hf : (f (s.bay b)).latch = (s.bay b).latch := by rfl) :
    s.LatchesKept (s.modBay b f) := ⟨rfl, rfl, fun c => by
  rw [State.bay_modBay]
  split
  · next e => subst e; exact hf
  · rfl⟩

theorem placeCustodyOrder (b : BayNo) (x : CustodyOrder) : s.LatchesKept (s.placeCustodyOrder b x) := by
  unfold State.placeCustodyOrder
  split
  · exact refl s
  · exact of_bays

theorem placeLaneOrder (b : BayNo) (x : LaneOrder) : s.LatchesKept (s.placeLaneOrder b x) := by
  unfold State.placeLaneOrder
  split
  · exact refl s
  · exact of_bays

theorem latchSuccess (b : BayNo) (d : Direction) : s.LatchesKept (s.latchSuccess b d) := by
  cases d with
  | lock =>
    simp only [State.latchSuccess]
    split
    · exact of_bays
    · exact refl s
  | unlock =>
    simp only [State.latchSuccess]
    split
    · exact trans (t := s.setRelease b _) of_bays (placeCustodyOrder _ b _)
    · exact refl s

theorem wakeLane (l : LaneNo) : s.LatchesKept (s.wakeLane l) := by
  unfold State.wakeLane
  split
  · split
    · exact trans (t := s.setLane l _) of_bays (placeLaneOrder _ _ _)
    · exact refl s
  · exact refl s

theorem takePass : s.LatchesKept s.takePass :=
  ⟨s.takePass_slots, s.takePass_latchQueue, fun b => by rw [State.takePass_bay]⟩

theorem serveRequest : s.LatchesKept s.serveRequest := by
  unfold State.serveRequest
  split
  · simp only
    split
    · exact trans (t := { s with reallocRequest := false }) of_bays (takePass _)
    all_goals exact of_bays
  · exact refl s

theorem relamp : s.LatchesKept s.relamp :=
  ⟨s.relamp_slots, s.relamp_latchQueue, fun b => by rw [s.relamp_bay]⟩

end State.LatchesKept

/-! ### A request that stands alone -/

/-- A request for bay b in direction d is asked for, and no other waits in the queue or in a slot (R135). -/
structure State.Asks (s : State) (b : BayNo) (d : Direction) : Prop where
  asked : s.LatchAsked b d
  queue : ∀ q ∈ s.latchQueue, q.bay = b → q = ⟨b, d⟩
  slots : ∀ k q, s.slot k = .reserving q → q.bay = b → q = ⟨b, d⟩

section
variable {s t : State} {b : BayNo} {d : Direction}

theorem State.LatchesKept.slot (h : s.LatchesKept t) (k : SlotNo) : t.slot k = s.slot k := by simp only [State.slot, h.slots]

theorem State.LatchesKept.asks (h : s.LatchesKept t) (g : s.Asks b d) : t.Asks b d where
  asked := by
    unfold State.LatchAsked
    simp only [h.queue, h.slot, h.latch]
    exact g.asked
  queue := by
    rw [h.queue]
    exact g.queue
  slots k := by
    rw [h.slot]
    exact g.slots k

theorem State.LatchesKept.idle (h : s.LatchesKept t) (g : s.LatchIdle b) : t.LatchIdle b := by
  unfold State.LatchIdle at *
  rw [h.queue, State.slotHolds_eq_false]
  simp only [h.slot]
  exact ⟨State.slotHolds_eq_false.mp g.1, g.2⟩

theorem State.LatchesKept.latchLaw (h : s.LatchesKept t) (g : s.LatchLaw) : t.LatchLaw := g.congr h.slots h.queue h.latch

theorem State.LatchesKept.orderly (h : s.LatchesKept t) (g : s.LatchOrderly b) : t.LatchOrderly b :=
  g.imp h.idle h.latchLaw

/-- A slot takes on or lets go of a request for another bay. -/
theorem State.Asks.other (g : s.Asks b d) (k : SlotNo) (q : LatchRequest) (x : DriveSlot) (hq : q.bay ≠ b)
    (hk : ∀ r, (s.slot k).request = some r → r.bay ≠ b) (hx : ∀ r, x.request = some r → r = q)
    (hs : ∀ j, t.slot j = if k = j then x else s.slot j) (hl : (t.bay b).latch = (s.bay b).latch)
    (hm : ∀ r, r.bay = b → (r ∈ t.latchQueue ↔ r ∈ s.latchQueue)) : t.Asks b d where
  asked := by
    obtain h | ⟨j, h⟩ | h := g.asked
    · exact .inl ((hm _ rfl).mpr h)
    · refine .inr (.inl ⟨j, ?_⟩)
      rw [hs, if_neg]
      · exact h
      · rintro rfl
        exact hk _ h rfl
    · exact .inr (.inr (hl.trans h))
  queue r hr hb := g.queue r ((hm r hb).mp hr) hb
  slots j r hr hb := by
    rw [hs] at hr
    split at hr
    · subst hr
      exact absurd (hx r rfl ▸ hb) hq
    · exact g.slots j r hr hb

theorem State.Asks.ofLatch (hl : (t.bay b).latch = d.target) (g : s.Asks b d) (hq : ∀ r ∈ t.latchQueue, r ∈ s.latchQueue)
    (hs : ∀ k r, t.slot k = .reserving r → s.slot k = .reserving r) : t.Asks b d :=
  ⟨.inr (.inr hl), fun r hr => g.queue r (hq r hr), fun k r hr => g.slots k r (hs k r hr)⟩

theorem mem_erase_other {l : List LatchRequest} {q : LatchRequest} (hq : q.bay ≠ b) (r : LatchRequest) (hr : r.bay = b) :
    r ∈ l.erase q ↔ r ∈ l := List.mem_erase_of_ne fun e => hq (e ▸ hr)

theorem State.Asks.serviceOne {q : LatchRequest} (g : s.Asks b d) (hq : q.bay = b → q = ⟨b, d⟩) : (s.serviceOne q).Asks b d := by
  unfold State.serviceOne
  split
  · exact g
  · split
    · next hl =>
      refine (State.LatchesKept.latchSuccess _ _ _).asks (s := { s with latchQueue := s.latchQueue.erase q }) ?_
      by_cases hb : q.bay = b
      · obtain rfl := hq hb
        exact g.ofLatch (t := { s with latchQueue := s.latchQueue.erase ⟨b, d⟩ }) hl (fun r => List.mem_of_mem_erase)
          fun k r => id
      · refine ⟨?_, fun r hr => g.queue r (List.mem_of_mem_erase hr), g.slots⟩
        exact g.asked.imp_left (mem_erase_other hb _ rfl).mpr
    · split
      · next hh k hk =>
        have hf := State.freeSlot_eq_some hk
        have hs : ∀ j, ((State.setSlot { s with latchQueue := s.latchQueue.erase q } k (.reserving q)).raiseReservation
          (.latch k) s.budget.driveReserve).slot j = if k = j then .reserving q else s.slot j :=
            fun j => State.slot_setSlot _ k j _
        by_cases hb : q.bay = b
        · obtain rfl := hq hb
          refine ⟨.inr (.inl ⟨k, by rw [hs, if_pos rfl]; rfl⟩), fun r hr => g.queue r (List.mem_of_mem_erase hr),
            fun j r hr hbr => ?_⟩
          rw [hs] at hr
          split at hr
          · cases hr
            rfl
          · exact g.slots j r hr hbr
        · exact g.other k q (.reserving q) hb (by rw [hf]; nofun) (fun r hr => by cases hr; rfl) hs rfl (mem_erase_other hb)
      · exact g

theorem State.Asks.serviceAll (l : List LatchRequest) : ∀ {s : State}, s.Asks b d → (∀ q ∈ l, q.bay = b → q = ⟨b, d⟩) →
    (l.foldl State.serviceOne s).Asks b d := by
  induction l with
  | nil => exact fun g _ => g
  | cons q l ih => exact fun g h => ih (g.serviceOne (h q List.mem_cons_self)) fun r hr => h r (List.mem_cons_of_mem q hr)

theorem State.Asks.slotService (g : s.Asks b d) : s.slotService.Asks b d := .serviceAll _ g g.queue

/-- The drive of a slot that held a request ends in success (R138). -/
theorem State.Asks.driveSuccess {k : SlotNo} {q : LatchRequest} (g : s.Asks b d) (hk : s.slot k = .reserving q) :
    (s.driveSuccess k q).Asks b d := by
  have hs : ∀ j, ((s.endSlot k).setLatch q.bay q.direction.target).slot j = if k = j then .free else s.slot j :=
    fun j => s.slot_setSlot k j _
  have hl := State.Carries.bay_latch_setLatch (s.endSlot k) q.bay q.direction.target b
  have h1 : ((s.endSlot k).setLatch q.bay q.direction.target).Asks b d := by
    by_cases hb : q.bay = b
    · obtain rfl := g.slots k q hk hb
      refine g.ofLatch (by rw [hl, if_pos rfl]) (fun r => id) fun j r hr => ?_
      rw [hs] at hr
      split at hr
      · cases hr
      · exact hr
    · exact g.other k q .free hb (fun r hr => by rw [hk] at hr; cases hr; exact hb) nofun hs (by rw [hl, if_neg hb]; rfl)
        fun _ _ => Iff.rfl
  exact ((State.LatchesKept.latchSuccess _ _ _).asks h1).slotService

theorem State.Asks.startDrive (g : s.Asks b d) (k : SlotNo) : (s.startDrive k).Asks b d := by
  unfold State.startDrive
  split
  · next q hq =>
    split
    · exact g.driveSuccess hq
    · have hs : ∀ j, ((s.setSlot k (.driving q)).setLatch q.bay .moving).slot j = if k = j then .driving q else s.slot j :=
        fun j => s.slot_setSlot k j _
      have hl := State.Carries.bay_latch_setLatch (s.setSlot k (.driving q)) q.bay .moving b
      by_cases hb : q.bay = b
      · obtain rfl := g.slots k q hq hb
        refine ⟨.inr (.inl ⟨k, by rw [hs, if_pos rfl]; rfl⟩), g.queue, fun j r hr => ?_⟩
        rw [hs] at hr
        split at hr
        · cases hr
        · exact g.slots j r hr
      · exact g.other k q (.driving q) hb (fun r hr => by rw [hq] at hr; cases hr; exact hb) (fun r hr => by cases hr; rfl) hs
          (by rw [hl, if_neg hb]; rfl) fun _ _ => Iff.rfl
  · exact g
  · exact g

theorem State.Asks.foldl {α : Type} {f : State → α → State} (hf : ∀ (s : State) x, s.Asks b d → (f s x).Asks b d) :
    ∀ (l : List α) {s : State}, s.Asks b d → (l.foldl f s).Asks b d
  | [], _, h => h
  | x :: l, _, h => foldl hf l (hf _ x h)

theorem State.Asks.tellActive (g : s.Asks b d) (o : Owner) : (s.tellActive o).Asks b d := by
  cases o with
  | latch k => exact g.startDrive k
  | lane l => exact (State.LatchesKept.wakeLane s l).asks g

theorem State.Asks.endDecreasing (g : s.Asks b d) : s.endDecreasing.Asks b d := by
  rw [State.endDecreasing_eq]
  exact foldl (fun _ o h => h.tellActive o) _ (State.LatchesKept.asks (s := s) (t := s.increased) .of_bays g)

theorem State.Asks.settle : ∀ (n : Nat) {s : State}, s.Asks b d → (State.settle n s).Asks b d
  | 0, _, h => h
  | n + 1, s, h => by
    have h1 := (State.LatchesKept.serveRequest s).asks h
    unfold State.settle
    simp only
    split
    · exact h1
    · split
      · exact h1
      · exact settle n h1.endDecreasing
    · split
      · exact h1
      · exact settle n (State.LatchesKept.asks (t := s.serveRequest.endPass) .of_bays h1)

theorem State.Asks.reAttn (g : s.Asks b d) : s.reAttn.Asks b d :=
  State.LatchesKept.asks (t := s.reAttn) .of_bays g

theorem State.granted_latchesKept (s : State) : s.LatchesKept s.granted :=
  have h := s.granted_grants
  ⟨h.slots, h.latchQueue, fun b => by rw [h.bay]⟩

/-- What is asked for is so still where the change closes (R135). -/
theorem State.Asks.closeChange (g : s.Asks b d) : s.closeChange.Asks b d := by
  rw [State.closeChange_eq]
  have h1 : (State.settle s.granted.settleFuel s.granted).Asks b d := .settle _ (s.granted_latchesKept.asks g)
  exact ((State.LatchesKept.relamp _).asks h1).reAttn

/-! ### A request placed -/

theorem queueRequest_mem (l : List LatchRequest) : (⟨b, d⟩ : LatchRequest) ∈ queueRequest b d l := by
  unfold queueRequest
  split
  · next h =>
    obtain ⟨q, hq, hb⟩ := List.any_eq_true.mp h
    exact List.mem_map.mpr ⟨q, hq, if_pos (by simpa using hb)⟩
  · simp

theorem queueRequest_bay {l : List LatchRequest} {q : LatchRequest} (h : q ∈ queueRequest b d l) (hb : q.bay = b) :
    q = ⟨b, d⟩ := by
  unfold queueRequest at h
  split at h
  · obtain ⟨r, -, rfl⟩ := List.mem_map.mp h
    by_cases hr : r.bay = b
    · rw [if_pos hr]
    · rw [if_neg hr] at hb
      exact absurd hb hr
  · next hn =>
    obtain h | h := List.mem_append.mp h
    · exact absurd (List.any_eq_true.mpr ⟨q, h, by simpa using hb⟩) hn
    · simpa using h

/-- Every slot that waits with a request for bay b is the one slot that the next request there goes to, and then none waits in
the queue. -/
theorem State.LatchOrderly.alone (h : s.LatchOrderly b) :
    (∀ j k q r, s.slot j = .reserving q → s.slot k = .reserving r → q.bay = b → r.bay = b → j = k) ∧
      (s.reservingSlot b ≠ none → ∀ q ∈ s.latchQueue, q.bay ≠ b) := by
  obtain ⟨hs, hq⟩ | ⟨⟨-, hq⟩, hs, -⟩ := h
  · rw [State.slotHolds_eq_false] at hs
    exact ⟨fun j _ q _ hj _ hb _ => absurd hb (hs j q (by rw [hj]; rfl)), fun _ => hq⟩
  · exact ⟨fun j k q r hj hk h1 h2 => hs j k q (by rw [hj]; rfl) r (by rw [hk]; rfl) (h1.trans h2.symm),
      fun hn q hm hb => hn (hb ▸ hq q hm)⟩

theorem State.placeRequest_asks (h : s.LatchOrderly b) (d : Direction) : (s.placeRequest b d).Asks b d := by
  obtain ⟨hone, hnone⟩ := h.alone
  unfold State.placeRequest
  split
  · next k hk =>
    obtain ⟨q, hq, hb⟩ := State.reservingSlot_eq_some hk
    have hn := hnone (by rw [hk]; nofun)
    split
    · next hl =>
      have hs : ∀ j, (s.freeReserving k).slot j = if k = j then .free else s.slot j := fun j => s.slot_setSlot k j _
      refine ((State.LatchesKept.latchSuccess (s.freeReserving k) b d).asks ⟨.inr (.inr hl), fun r hr hbr => absurd hbr (hn r hr),
        fun j r hr hbr => ?_⟩).slotService
      rw [hs] at hr
      split at hr
      · cases hr
      · next hj => exact absurd (hone k j q r hq hr hb hbr) hj
    · have hs : ∀ j, (s.setSlot k (.reserving ⟨b, d⟩)).slot j = if k = j then .reserving ⟨b, d⟩ else s.slot j :=
        fun j => s.slot_setSlot k j _
      refine State.Asks.slotService ⟨.inr (.inl ⟨k, by rw [hs, if_pos rfl]; rfl⟩), fun r hr hbr => absurd hbr (hn r hr),
        fun j r hr hbr => ?_⟩
      rw [hs] at hr
      split at hr
      · cases hr
        rfl
      · next hj => exact absurd (hone k j q r hq hr hb hbr) hj
  · next hk =>
    refine State.Asks.slotService ⟨.inl (queueRequest_mem _), fun r hr hbr => queueRequest_bay hr hbr, fun j r hr hbr => ?_⟩
    exact absurd hbr (State.reservingSlot_eq_none.mp hk j r hr)

theorem State.lockUnlessService_asks (h : s.LatchOrderly b) (hs : s.service = none) :
    (s.lockUnlessService b).Asks b .lock := by
  unfold State.lockUnlessService
  rw [if_neg (by simp [State.serviceOpen, hs])]
  exact s.placeRequest_asks h .lock

end

end Sys2Proof.Machine
end

section
/-! SUPPORT. LATCH, requests placed for several bays, and the custody windows (R130 to R133, R139), and the settling of O46 and
O47. -/

namespace Sys2Proof.Machine

set_option Elab.async false

/-! ### An accepted request -/

section
variable (s : State) (x : Status) (d : List Byte)

theorem State.respond_untouched : s.Untouched (s.respond x d) [] [] where
  records _ _ := rfl
  bays _ _ := rfl
  settings := ⟨rfl, rfl, rfl, rfl⟩
  time := ⟨rfl, rfl, rfl⟩
  windows := ⟨rfl, rfl, rfl, rfl⟩
  budget := ⟨rfl, rfl⟩
  keys := rfl
  events := ⟨rfl, fun _ => BitVec.and_self⟩

theorem State.respond_says : (s.respond x d).Says x d := ⟨rfl, rfl⟩

theorem State.respond_latchAsked {b : BayNo} {e : Direction} (h : s.LatchAsked b e) : (s.respond x d).LatchAsked b e := h

end

section
variable {s u : State} {a : List RecordIx} {l : List BayNo}

theorem State.Untouched.closeChange (h : s.Untouched u a l) : s.Untouched u.closeChange a l := by
  have g := h.trans u.closeChange_untouched
  rwa [List.append_nil, List.append_nil] at g

theorem State.Untouched.finish (h : s.Untouched u a l) (x : Status) (d : State → List Byte) : s.Untouched (u.finish x d) a l := by
  have g := h.closeChange.trans (State.respond_untouched u.closeChange x (d u.closeChange))
  rwa [List.append_nil, List.append_nil] at g

theorem State.finish_says (u : State) (x : Status) (d : State → List Byte) : (u.finish x d).Says x (d u.closeChange) :=
  State.respond_says _ _ _

theorem State.Asks.finish {b : BayNo} {e : Direction} (h : u.Asks b e) (x : Status) (d : State → List Byte) :
    (u.finish x d).LatchAsked b e := State.respond_latchAsked _ _ _ h.closeChange.asked

end

/-! ### LATCH -/

theorem direction?_of_eq {f : Byte} {d : Direction} (h : f.toNat = d.ctorIdx) : direction? f = some d := by
  unfold direction? enum?
  rw [h]
  cases d <;> rfl

theorem direction?_of_ge {f : Byte} (h : 2 ≤ f.toNat) : direction? f = none := enum?_of_ge h

theorem State.namedCustody_eq_some {s : State} {b : BayNo} {c : CustodyState} : s.namedCustody b = some c ↔
    ∃ i, (s.bay b).record = some i ∧ (s.record i).custody = c := by
  unfold State.namedCustody
  show (s.bay b).record.map (fun i => (s.record i).custody) = some c ↔ _
  simp

/-- Settles O46, each check in its order, and the request placed at last. -/
theorem latchAsksForAMove : Obligations.LatchAsksForAMove := by
  unfold Obligations.LatchAsksForAMove
  intro s n f b d
  have he : ∀ t : State, s.latchRequest n f = t → exec (.latch n f) s = .next t := fun t h => next_congr h
  refine ⟨fun hn => he _ ?_, fun hn hf => he _ ?_, fun hn hf hp => he _ ?_, fun hn hf hp ha hs => he _ ?_,
    fun hn hf hp ha => ⟨fun ⟨i, hi, hc⟩ => he _ ?_, fun hc => ?_⟩⟩
  · unfold State.latchRequest
    rw [bayNo?_of_ge hn]
    rfl
  · unfold State.latchRequest
    rw [bayNo?_of_eq hn, direction?_of_ge hf]
    rfl
  all_goals
    have hr : s.latchRequest n f = if (s.bay b).populated = false then s.refuse .wrongState
        else if s.serviceAuthorised = false then s.refuse .notAuthorised
        else if s.namedCustody b = some .releasing then s.refuse .wrongState
        else (s.placeRequest b d).finish .accepted fun _ => [] := by
      unfold State.latchRequest
      rw [bayNo?_of_eq hn, direction?_of_eq hf]
  · rw [hr, if_pos hp]
    rfl
  · rw [hr, if_neg (by simp [hp]), if_pos]
    · rfl
    · simp [State.serviceAuthorised, State.serviceOpen, ha, hs]
  all_goals have hau : s.serviceAuthorised ≠ false := by rw [Bool.ne_false_iff]; exact s.serviceAuthorised_iff.mpr ha
  · rw [hr, if_neg (by simp [hp]), if_neg hau, if_pos (State.namedCustody_eq_some.mpr ⟨i, hi, hc⟩)]
    rfl
  · have hn : s.namedCustody b ≠ some .releasing := fun h => by
      obtain ⟨i, hi, g⟩ := State.namedCustody_eq_some.mp h
      exact hc i hi g
    refine ⟨_, he _ (by rw [hr, if_neg (by simp [hp]), if_neg hau, if_neg hn]), State.finish_says _ _ _,
      (s.placeRequest_untouched b d).finish _ _, fun ho => (s.placeRequest_asks ho d).finish _ _⟩

/-! ### Requests placed for several bays -/

section
variable {s : State} {b c : BayNo} {d e : Direction}

theorem queueRequest_other {l : List LatchRequest} (h : c ≠ b) (r : LatchRequest) (hr : r.bay = b) :
    r ∈ queueRequest c e l ↔ r ∈ l := by
  have hne : r.bay ≠ c := fun g => h (g.symm.trans hr)
  unfold queueRequest
  split
  · rw [List.mem_map]
    constructor
    · rintro ⟨q, hq, rfl⟩
      by_cases g : q.bay = c
      · rw [if_pos g] at hne
        exact absurd rfl hne
      · rwa [if_neg g]
    · exact fun hm => ⟨r, hm, if_neg hne⟩
  · simp only [List.mem_append, List.mem_singleton, or_iff_left_iff_imp]
    rintro rfl
    exact absurd rfl hne

/-- A request for another bay leaves what is asked for. -/
theorem State.Asks.placeRequest (g : s.Asks b d) (h : c ≠ b) (e : Direction) : (s.placeRequest c e).Asks b d := by
  unfold State.placeRequest
  split
  · next k hk =>
    obtain ⟨q, hq, hb⟩ := State.reservingSlot_eq_some hk
    have hk' : ∀ r, (s.slot k).request = some r → r.bay ≠ b := fun r hr => by
      rw [hq] at hr
      cases hr
      exact hb ▸ h
    split
    · have h1 : (s.freeReserving k).Asks b d :=
        g.other k q .free (hb ▸ h) hk' nofun (fun j => s.slot_setSlot k j _) rfl fun _ _ => Iff.rfl
      exact ((State.LatchesKept.latchSuccess _ _ _).asks h1).slotService
    · have h1 : (s.setSlot k (.reserving ⟨c, e⟩)).Asks b d :=
        g.other k ⟨c, e⟩ (.reserving ⟨c, e⟩) h hk' (fun r hr => by cases hr; rfl) (fun j => s.slot_setSlot k j _) rfl
          fun _ _ => Iff.rfl
      exact h1.slotService
  · refine State.Asks.slotService ⟨?_, fun r hr hbr => ?_, g.slots⟩
    · exact g.asked.imp_left (queueRequest_other h _ rfl).mpr
    · exact g.queue r ((queueRequest_other h r hbr).mp hr) hbr

/-- No request for bay b stands where slots and queue change for other bays alone. -/
theorem State.LatchIdle.other {t : State} (g : s.LatchIdle b) (k : SlotNo) (x : DriveSlot)
    (hx : ∀ r, x.request = some r → r.bay ≠ b) (hs : ∀ j, t.slot j = if k = j then x else s.slot j)
    (hq : ∀ r ∈ t.latchQueue, r.bay = b → r ∈ s.latchQueue) : t.LatchIdle b := by
  obtain ⟨g1, g2⟩ := g
  rw [State.slotHolds_eq_false] at g1
  refine ⟨State.slotHolds_eq_false.mpr fun j r hr => ?_, fun r hr hb => g2 r (hq r hr hb) hb⟩
  rw [hs] at hr
  split at hr
  · exact hx r hr
  · exact g1 j r hr

theorem State.LatchIdle.serviceOne {q : LatchRequest} (g : s.LatchIdle b) (hq : q.bay ≠ b) : (s.serviceOne q).LatchIdle b := by
  have he : State.LatchIdle { s with latchQueue := s.latchQueue.erase q } b := ⟨g.1, fun r hr => g.2 r (List.mem_of_mem_erase hr)⟩
  unfold State.serviceOne
  split
  · exact g
  · split
    · exact (State.LatchesKept.latchSuccess _ _ _).idle he
    · split
      · next k _ =>
        exact he.other k (.reserving q) (fun r hr => by cases hr; exact hq) (fun j => State.slot_setSlot _ k j _) fun r hr _ => hr
      · exact g

theorem State.LatchIdle.serviceAll (l : List LatchRequest) : ∀ {s : State}, s.LatchIdle b → (∀ q ∈ l, q.bay ≠ b) →
    (l.foldl State.serviceOne s).LatchIdle b := by
  induction l with
  | nil => exact fun g _ => g
  | cons q l ih => exact fun g h => ih (g.serviceOne (h q List.mem_cons_self)) fun r hr => h r (List.mem_cons_of_mem q hr)

theorem State.LatchIdle.slotService (g : s.LatchIdle b) : s.slotService.LatchIdle b := .serviceAll _ g g.2

theorem State.LatchIdle.placeRequest (g : s.LatchIdle b) (h : c ≠ b) (e : Direction) : (s.placeRequest c e).LatchIdle b := by
  unfold State.placeRequest
  split
  · next k hk =>
    split
    · have h1 : (s.freeReserving k).LatchIdle b := g.other k .free nofun (fun j => s.slot_setSlot k j _) fun _ hr _ => hr
      exact ((State.LatchesKept.latchSuccess _ _ _).idle h1).slotService
    · exact (g.other k (.reserving ⟨c, e⟩) (fun r hr => by cases hr; exact h) (fun j => s.slot_setSlot k j _) fun _ hr _ => hr).slotService
  · refine State.LatchIdle.slotService ⟨g.1, fun r hr hb => ?_⟩
    exact g.2 r ((queueRequest_other h r hb).mp hr) hb

/-- A request for another bay leaves bay b ready for one of its own. -/
theorem State.LatchOrderly.placeRequest (g : s.LatchOrderly b) (h : c ≠ b) (e : Direction) : (s.placeRequest c e).LatchOrderly b :=
  g.imp (fun k => k.placeRequest h e) (State.Carries.placeRequest (E := View.All) c e).latches

/-- Of the bays that a request is placed for one after the other, each has its request asked for at the end (R132, R133). -/
theorem State.placeRequests_asks (d : Direction) : ∀ (l : List BayNo) {s : State}, l.Nodup → s.LatchOrderly b → b ∈ l →
    (l.foldl (fun t a => t.placeRequest a d) s).Asks b d := by
  have keep : ∀ (l : List BayNo) {s : State}, b ∉ l → s.Asks b d → (l.foldl (fun t a => t.placeRequest a d) s).Asks b d := by
    intro l
    induction l with
    | nil => exact fun _ g => g
    | cons a l ih =>
      intro s hn g
      obtain ⟨h1, h2⟩ := List.ne_and_not_mem_of_not_mem_cons hn
      exact ih h2 (g.placeRequest (Ne.symm h1) d)
  intro l
  induction l with
  | nil => exact fun _ _ h => absurd h List.not_mem_nil
  | cons a l ih =>
    intro s hn ho hb
    obtain ⟨h1, h2⟩ := List.nodup_cons.mp hn
    by_cases e : a = b
    · subst e
      exact keep l h1 (s.placeRequest_asks ho d)
    · exact ih h2 (ho.placeRequest e d) ((List.mem_cons.mp hb).resolve_left (Ne.symm e))

theorem State.placeRequests_untouched (d : Direction) (l : List BayNo) (s : State) :
    s.Untouched (l.foldl (fun t a => t.placeRequest a d) s) [] [] :=
  State.Untouched.foldl (fun t a => t.placeRequest_untouched a d) l s

end

/-! ### Windows -/

theorem Window.overtaken_eq_true {now e : Nat} {r : Option Nat} (h : ∃ x ∈ r, now ≤ x + 1) :
    Window.overtaken now ⟨e, r⟩ = true := by
  rw [Window.overtaken_iff]
  exact h

theorem Window.overtaken_eq_false {now e : Nat} {r : Option Nat} (h : ∀ x ∈ r, x + 1 < now) :
    Window.overtaken now ⟨e, r⟩ = false := by
  rw [Bool.eq_false_iff, Ne, Window.overtaken_iff]
  rintro ⟨x, hx, hl⟩
  exact absurd (h x hx) (Nat.not_lt.mpr hl)

theorem State.mem_relocks {s : State} {b : BayNo} : s.relocks b = true ↔ (∃ i, (s.bay b).record = some i ∧
    ((s.record i).custody = .inCart ∨ (s.record i).custody = .held ∨ (s.record i).custody = .retiring)) ∧
      (s.bay b).latch ≠ .locked := by
  simp only [State.relocks, Bool.and_eq_true, Bool.or_eq_true, beq_iff_eq, State.namedCustody_eq_some, bne_iff_ne]
  refine and_congr_left fun _ => ?_
  constructor
  · rintro ((⟨i, h, g⟩ | ⟨i, h, g⟩) | ⟨i, h, g⟩)
    · exact ⟨i, h, .inl g⟩
    · exact ⟨i, h, .inr (.inl g)⟩
    · exact ⟨i, h, .inr (.inr g)⟩
  · rintro ⟨i, h, g | g | g⟩
    · exact .inl (.inl ⟨i, h, g⟩)
    · exact .inl (.inr ⟨i, h, g⟩)
    · exact .inr ⟨i, h, g⟩

theorem serviceWindowClosed {s : State} {e : Nat} {r : Option Nat} (hw : s.service = some ⟨e, r⟩)
    (hr : ∀ x ∈ r, x + 1 < s.clk32) : ∃ t, exec .serviceWindowExpiry s = .next t ∧ t.service = none ∧
      t.teacher = s.teacher ∧ s.RecordsKept t [] ∧ s.BaysKept t [] ∧ s.SettingsKept t ∧ s.TimeKept t ∧
      t.keys = s.keys ∧ s.EventsGrow t ∧
      ∀ (b : BayNo) (i : RecordIx), (s.bay b).record = some i → s.LatchOrderly b → (s.bay b).latch ≠ .locked →
        ((s.record i).custody = .inCart ∨ (s.record i).custody = .held ∨ (s.record i).custody = .retiring) →
          t.LatchAsked b .lock := by
  have he : exec .serviceWindowExpiry s = .next s.closeService.closeChange := by
    refine next_congr ?_
    show s.serviceWindowExpiry = _
    unfold State.serviceWindowExpiry
    rw [hw]
    dsimp only
    rw [if_neg (by rw [Window.overtaken_eq_false hr]; nofun)]
  have hu : State.Untouched { s with service := none } s.closeService.closeChange [] [] :=
    (State.placeRequests_untouched .lock _ _).then (State.closeChange_untouched _)
  obtain ⟨h1, h2, -, -⟩ := hu.windows
  refine ⟨_, he, h2, h1, hu.records, hu.bays, hu.settings, hu.time, hu.keys, hu.events, fun b i hi ho hl hc => ?_⟩
  have hm : b ∈ allBays.filter s.relocks :=
    List.mem_filter.mpr ⟨List.mem_finRange b, State.mem_relocks.mpr ⟨⟨i, hi, hc⟩, hl⟩⟩
  have ho' : State.LatchOrderly { s with service := none } b :=
    State.LatchesKept.orderly (s := s) .of_bays ho
  have ha := State.placeRequests_asks .lock _ ((List.nodup_finRange 36).filter _) ho' hm
  exact State.Asks.asked (State.Asks.closeChange (s := s.closeService) ha)

theorem serviceOpened {s : State} (hi : s.serviceInput = true) (hl : s.serviceLevel = false) :
    ∃ t, exec .serviceEdge s = .next t ∧
    t.service = some ⟨s.clk32 + s.custodySettings.serviceLength, if s.service.isSome then some s.clk32 else none⟩ ∧
    t.serviceLevel = true ∧ t.teacher = s.teacher ∧
    t.Holds Source.service 0 ∧ s.RecordsKept t [] ∧ s.BaysKept t [] ∧ s.SettingsKept t ∧ s.TimeKept t ∧
    t.keys = s.keys ∧ s.EventsGrow t ∧
    ∀ b : BayNo, (s.bay b).populated = true → s.service = none → (s.slotHolds b = false ∨ s.LatchLaw) →
      t.LatchAsked b .unlock := by
  let t : State := { s with serviceLevel := s.serviceInput }
  let u : State := t.openService.addSubject Source.service 0
  have he : exec .serviceEdge s = .next t.serviceRise.closeChange := by
    refine next_congr ?_
    show s.serviceEdge = _
    unfold State.serviceEdge
    rw [if_neg (by rw [hi, hl]; nofun)]
    exact if_pos hi
  have hr : t.serviceRise = if s.serviceOpen then u else
      (allBays.filter fun b => (s.bay b).populated).foldl (fun t b => t.placeRequest b .unlock) { u with latchQueue := [] } := rfl
  have hu : u.Untouched t.serviceRise [] [] := by
    rw [hr]
    split
    · exact .refl u
    · exact .after (State.placeRequests_untouched .unlock _ _) (.tables rfl rfl)
  have hs : s.EventsGrow u := (State.addSubject_untouched t.openService Source.service 0).events
  have hk := hu.then t.serviceRise.closeChange_untouched
  obtain ⟨h1, h2, -, h4⟩ := hk.windows
  have hh : u.Holds Source.service 0 := State.addSubject_holds _ _ (by decide)
  have hg := hk.events
  refine ⟨_, he, h2, ?_, h1, hg.holds hh, hk.records, hk.bays, hk.settings, hk.time, hk.keys,
    ⟨hg.1.trans hs.1, fun n => ?_⟩, fun b hb hn ho => ?_⟩
  · rw [h4]
    exact hi
  · rw [← hs.2 n, BitVec.and_assoc, hg.2 n]
  · have ho' : State.LatchOrderly { u with latchQueue := [] } b := by
      obtain h | h := ho
      · exact .inl ⟨h, fun q hq => absurd hq List.not_mem_nil⟩
      · exact .inr (State.latchLaw_iff.mpr ((State.latchLaw_iff.mp h).fewer (List.nil_sublist _) rfl fun _ => rfl))
    have ha := State.placeRequests_asks .unlock (allBays.filter fun b => (s.bay b).populated) ((List.nodup_finRange 36).filter _) ho'
      (List.mem_filter.mpr ⟨List.mem_finRange b, hb⟩)
    have hrise : t.serviceRise = (allBays.filter fun b => (s.bay b).populated).foldl (fun t b => t.placeRequest b .unlock)
        { u with latchQueue := [] } := by
      rw [hr, if_neg (by simp [State.serviceOpen, hn])]
    rw [hrise]
    exact ha.closeChange.asked

/-- Settles O47, each window's expiry and the edge of SERVICE. -/
theorem windowsCloseAndServiceOpens : Obligations.WindowsCloseAndServiceOpens := by
  unfold Obligations.WindowsCloseAndServiceOpens
  refine ⟨fun s e r hw => ⟨fun h => next_congr ?_, fun h => next_congr ?_⟩, fun s h => next_congr ?_, fun s v => rfl,
    fun s e r hw => ⟨fun h => next_congr ?_, serviceWindowClosed hw⟩, fun s h => next_congr ?_, fun s hi hl => next_congr ?_,
    fun s h => next_congr ?_, fun s => serviceOpened⟩
  · show { s with teacher := s.teacher.bind (Window.expire s.clk32) } = _
    rw [hw]
    simp [Window.expire, Window.overtaken_eq_false h]
  · show { s with teacher := s.teacher.bind (Window.expire s.clk32) } = _
    rw [hw]
    simp [Window.expire, Window.overtaken_eq_true h, Window.kept]
  · show { s with teacher := s.teacher.bind (Window.expire s.clk32) } = _
    rw [h, Option.bind_none, ← h]
  · show s.serviceWindowExpiry = _
    unfold State.serviceWindowExpiry
    rw [hw]
    exact if_pos (Window.overtaken_eq_true h)
  · show s.serviceWindowExpiry = _
    unfold State.serviceWindowExpiry
    rw [h]
  · show s.serviceEdge = _
    unfold State.serviceEdge
    rw [if_neg (by rw [hi, hl]; nofun)]
    dsimp only
    rw [if_neg (by simp [hi]), hi]
  · show s.serviceEdge = _
    unfold State.serviceEdge
    exact if_pos h

end Sys2Proof.Machine
end

section
/-! SUPPORT. The requests that write fields of records (R18 to R20), and the settling of O18, O19 and O20. -/

namespace Sys2Proof.Machine

set_option Elab.async false

/-! ### Writes of one record -/

section
variable {s t u : State}

theorem State.Untouched.mono {a a' : List RecordIx} {b b' : List BayNo} (h : s.Untouched t a b) (ha : a ⊆ a') (hb : b ⊆ b') :
    s.Untouched t a' b' where
  records i hi := h.records i fun g => hi (ha g)
  bays c hc := h.bays c fun g => hc (hb g)
  settings := h.settings
  time := h.time
  windows := h.windows
  budget := h.budget
  keys := h.keys
  events := h.events

theorem State.putRecord_untouched (s : State) (i : RecordIx) (r : Record) : s.Untouched (s.putRecord i r) [i] [] where
  records j hj := by
    rw [State.record_putRecord, if_neg fun e => hj (List.mem_singleton.mpr e.symm)]
  bays _ _ := rfl
  settings := ⟨rfl, rfl, rfl, rfl⟩
  time := ⟨rfl, rfl, rfl⟩
  windows := ⟨rfl, rfl, rfl, rfl⟩
  budget := ⟨rfl, rfl⟩
  keys := rfl
  events := ⟨rfl, fun _ => BitVec.and_self⟩

theorem State.requestPassIf_untouched (s : State) (c : Bool) : s.Untouched (s.requestPassIf c) [] [] := by
  unfold State.requestPassIf
  split
  · exact .tables rfl rfl
  · exact .refl s

theorem State.record_requestPassIf (s : State) (c : Bool) (i : RecordIx) : (s.requestPassIf c).record i = s.record i := by
  unfold State.requestPassIf
  split <;> rfl

theorem State.record_respond (s : State) (x : Status) (d : List Byte) (i : RecordIx) : (s.respond x d).record i = s.record i := rfl

theorem State.record_finish (u : State) (x : Status) (d : State → List Byte) (i : RecordIx) :
    (u.record i).SameButUnsecured ((u.finish x d).record i) := by
  rw [State.finish, State.record_respond]
  exact u.closeChange_record i

/-- A record written, and perhaps a reallocation request raised: what the accepted request leaves. -/
theorem State.writes_putRecord (s : State) (i : RecordIx) (r : Record) (c : Bool) (x : Status) (d : State → List Byte) :
    s.Writes (((s.putRecord i r).requestPassIf c).finish x d) i r := by
  have h : s.Untouched ((s.putRecord i r).requestPassIf c) [i] [] :=
    (s.putRecord_untouched i r).trans (State.requestPassIf_untouched _ c)
  refine ⟨?_, h.finish x d⟩
  have g := State.record_finish ((s.putRecord i r).requestPassIf c) x d i
  rwa [State.record_requestPassIf, State.record_putRecord, if_pos rfl] at g

end

/-- MISPLACED's condition in one equation (R7). -/
theorem Record.misplacedNow_eq (r : Record) : r.misplacedNow =
    (r.homeStrict && r.homeBay.isSome && r.currentBay.isSome && r.homeBay != r.currentBay) := by
  have h := r.misplacedNow_iff
  rw [Bool.eq_iff_iff, h]
  simp [and_assoc]

/-! ### AMEND -/

section
variable {s : State} {n f : Byte} {i : RecordIx} {v : Option Half} {a : AmendField} {w : Record → Record} {r : Record}

/-- AMEND past its checks writes its field and asks for the pass that the field calls for (R18, R76). -/
theorem State.amend_writes (hi : n.toNat = i.val) (hc : (s.record i).custody ≠ .free) (ha : amendField? f = some a)
    (hw : s.amendment a v = some w) (hh : a = .holder → (s.record i).custody.onLoan = true)
    (hr : s.writeField a i w = s.putRecord i r) :
    s.amend n f v = ((s.putRecord i r).requestPassIf a.reallocates).finish .done fun _ => [] := by
  unfold State.amend
  rw [recordIx?_of_eq hi, ha]
  dsimp only
  rw [if_neg hc, hw]
  dsimp only
  have hn : ¬(a = .holder ∧ (s.record i).custody.onLoan = false) := fun g => Bool.noConfusion ((hh g.1).symm.trans g.2)
  rw [if_neg hn, hr]

theorem amend_accepted (hi : n.toNat = i.val) (hc : (s.record i).custody ≠ .free) (ha : amendField? f = some a)
    (hw : s.amendment a v = some w) (hh : a = .holder → (s.record i).custody.onLoan = true)
    (hr : s.writeField a i w = s.putRecord i r) : ∃ t, exec (.amend n f v) s = .next t ∧ t.Says .done [] ∧ s.Writes t i r :=
  ⟨_, next_congr (State.amend_writes hi hc ha hw hh hr), State.finish_says _ _ _, s.writes_putRecord i r _ _ _⟩

end

theorem writeField_of_ne {s : State} {a : AmendField} (h : a ≠ .homeBay) (i : RecordIx) (w : Record → Record) :
    s.writeField a i w = s.putRecord i (w (s.record i)) := if_neg h

/-- Settles O18, field by field. -/
theorem amendWritesOneField : Obligations.AmendWritesOneField := by
  unfold Obligations.AmendWritesOneField
  intro s n i v hi hc
  refine ⟨fun h1 h2 => ?_, fun m hm => ?_, ?_, fun b hb hp => ?_, ?_, fun hv => ?_, fun hl hv => ?_⟩
  · refine amend_accepted (a := .target) (w := fun r => { r with target := v.toNat }) hi hc rfl ?_ (fun g => nomatch g) (writeField_of_ne (a := .target) nofun i _)
    rw [State.amendment, target?_eq_some_iff.mpr ⟨rfl, h1, h2⟩]
    rfl
  · refine amend_accepted (a := .readyBy) (w := fun r => { r with readyBy := some m }) hi hc rfl ?_ (fun g => nomatch g) (writeField_of_ne (a := .readyBy) nofun i _)
    rw [State.amendment, minute?_eq_some_iff.mpr hm]
    rfl
  · exact amend_accepted (a := .readyBy) (w := fun r => { r with readyBy := none }) hi hc rfl rfl (fun g => nomatch g) (writeField_of_ne (a := .readyBy) nofun i _)
  · refine amend_accepted (a := .homeBay) (w := fun r => { r with homeBay := some b }) hi hc rfl ?_ (fun g => nomatch g) ?_
    · rw [State.amendment, (s.populatedBay?_eq_some _ _).mpr ⟨hb, hp⟩]
      rfl
    · refine congrArg (s.putRecord i) ?_
      have hm : ∀ r : Record, ({ r with homeBay := some b } : Record).misplacedNow =
          (r.homeStrict && r.currentBay.isSome && r.currentBay != some b) := fun r => by
        rw [Record.misplacedNow_eq, bne_comm]
        simp [Record.homeStrict]
      rw [← hm]
      rfl
  · refine amend_accepted (a := .homeBay) (w := fun r => { r with homeBay := none }) hi hc rfl rfl (fun g => nomatch g) ?_
    refine congrArg (s.putRecord i) ?_
    have hm : ∀ r : Record, ({ r with homeBay := none } : Record).misplacedNow = false := fun r => by
      simp [Record.misplacedNow_eq]
    rw [← hm (s.record i)]
    rfl
  · refine amend_accepted (a := .profileTarget) (w := fun r => { r with profileTarget := byte v.toNat }) hi hc rfl ?_ (fun g => nomatch g) (writeField_of_ne (a := .profileTarget) nofun i _)
    exact if_pos hv
  · refine amend_accepted (a := .holder) (w := fun r => { r with holder := some v.toNat }) hi hc rfl ?_ (fun _ => ?_) (writeField_of_ne (a := .holder) nofun i _)
    · exact if_neg hv
    · obtain h | h := hl <;> rw [h] <;> rfl

/-! ### The flag requests -/

theorem State.writeFlags_eq (s : State) (i : RecordIx) (new : Byte) : s.writeFlags i new =
    (s.putRecord i { s.record i with
      flags := new
      misplaced := new.getLsbD 4 && (s.record i).homeBay.isSome && (s.record i).currentBay.isSome &&
        (s.record i).homeBay != (s.record i).currentBay }).requestPassIf (flagsReallocate (s.record i).flags new) := by
  have h := ({ s.record i with flags := new } : Record).misplacedNow_eq
  change (s.putRecord i (Record.remark { s.record i with flags := new })).requestPassIf _ = _
  unfold Record.remark
  rw [h]
  rfl

theorem changeFlags_accepted {s : State} {n : Byte} {i : RecordIx} (hi : n.toNat = i.val) (hc : (s.record i).custody ≠ .free)
    (g : Byte → Byte) : s.changeFlags n g = (s.writeFlags i (g (s.record i).flags)).finish .done fun _ => [(s.record i).flags] := by
  unfold State.changeFlags
  rw [recordIx?_of_eq hi]
  exact if_neg hc

/-- Settles O19, the three requests by the one write they make. -/
theorem flagRequestsExchangeTheSet : Obligations.FlagRequestsExchangeTheSet := by
  unfold Obligations.FlagRequestsExchangeTheSet
  intro s n f new i c hi hc h
  have he : exec c s = .next ((s.writeFlags i new).finish .done fun _ => [(s.record i).flags]) := by
    obtain ⟨rfl, rfl⟩ | ⟨rfl, rfl⟩ | ⟨rfl, rfl⟩ := h <;> exact next_congr (changeFlags_accepted hi hc _)
  rw [State.writeFlags_eq] at he
  exact ⟨_, he, State.finish_says _ _ _, s.writes_putRecord i _ _ _ _⟩

/-! ### FILL -/

/-- A record as a FILL leaves it (R20). -/
def FillWrite.written (w : FillWrite) (r : Record) : Record :=
  match w.flags with
  | some f => Record.remark { (w.apply r).remark with flags := f }
  | none => (w.apply r).remark

section
variable (w : FillWrite) (s : State) (i : RecordIx)

theorem State.fillRecord_record (j : RecordIx) :
    (s.fillRecord w i).record j = if i = j then w.written (s.record i) else s.record j := by
  unfold State.fillRecord FillWrite.written
  cases w.flags with
  | none =>
    dsimp only
    rw [State.record_requestPassIf, State.record_modRecord]
  | some f =>
    dsimp only
    rw [State.writeFlags, State.record_requestPassIf, State.record_modRecord, State.record_requestPassIf, State.record_requestPassIf,
      State.record_modRecord, State.record_modRecord, if_pos rfl]
    split <;> rfl

theorem State.fillRecord_untouched : s.Untouched (s.fillRecord w i) [i] [] := by
  have h1 : s.Untouched ((s.modRecord i w.apply).requestPassIf (w.target.isSome || w.readyBy.isSome)) [i] [] :=
    (s.putRecord_untouched i _).trans (State.requestPassIf_untouched _ _)
  unfold State.fillRecord
  cases w.flags with
  | none => exact h1
  | some f =>
    have h2 := (h1.trans (State.putRecord_untouched _ i (Record.remark
      { ((s.modRecord i w.apply).requestPassIf (w.target.isSome || w.readyBy.isSome)).record i with flags := f }))).trans
      (State.requestPassIf_untouched _ (flagsReallocate
        (((s.modRecord i w.apply).requestPassIf (w.target.isSome || w.readyBy.isSome)).record i).flags f))
    exact h2.mono (by simp) (by simp)

theorem State.fillRecords (l : List RecordIx) : ∀ s : State, s.Untouched (l.foldl (State.fillRecord w) s) l [] ∧
    (l.Nodup → ∀ j, (l.foldl (State.fillRecord w) s).record j = if j ∈ l then w.written (s.record j) else s.record j) := by
  induction l with
  | nil => exact fun s => ⟨.refl s, fun _ j => by simp⟩
  | cons i l ih =>
    intro s
    obtain ⟨h1, h2⟩ := ih (s.fillRecord w i)
    refine ⟨(s.fillRecord_untouched w i).trans h1, fun hn j => ?_⟩
    obtain ⟨hi, hl⟩ := List.nodup_cons.mp hn
    rw [List.foldl_cons, h2 hl, State.fillRecord_record]
    by_cases e : i = j
    · subst e
      simp [hi]
    · simp [e, Ne.symm e]

end

/-- The fields that a FILL writes, and no others but MISPLACED (R20). -/
theorem FillWrite.written_fields (w : FillWrite) (r : Record) :
    (w.written r).target = w.target.getD r.target ∧ (w.written r).readyBy = w.readyBy.getD r.readyBy ∧
      (w.written r).homeBay = w.homeBay.getD r.homeBay ∧ (w.written r).profileTarget = w.profileTarget.getD r.profileTarget ∧
      (w.written r).flags = w.flags.getD r.flags ∧ w.written r = { r with
        target := (w.written r).target, readyBy := (w.written r).readyBy, homeBay := (w.written r).homeBay
        profileTarget := (w.written r).profileTarget, flags := (w.written r).flags
        misplaced := (w.written r).misplaced } := by
  unfold FillWrite.written
  cases w.flags <;> exact ⟨rfl, rfl, rfl, rfl, rfl, rfl⟩

/-- An operand in range carries the number that was sent. -/
theorem optional?_map {α β γ : Type} {form : α → Option β} {x : Option α} {y : Option β} {f : β → γ} {g : α → γ}
    (h : optional? form x = some y) (hf : ∀ v w, form v = some w → f w = g v) : y.map f = x.map g := by
  obtain ⟨rfl, rfl⟩ | ⟨v, w, rfl, hv, rfl⟩ := optional?_eq_some.mp h
  · rfl
  · exact congrArg some (hf v w hv)

/-- What an accepted template writes, field by field. -/
theorem State.fillWrite?_eq_some {s : State} {f : FillTemplate} {w : FillWrite} (h : s.fillWrite? f = some w) :
    w.target = f.target.map BitVec.toNat ∧ w.readyBy.map (Option.map Fin.val) = f.readyBy.map (Option.map BitVec.toNat) ∧
      w.homeBay.map (Option.map Fin.val) = f.homeBay.map (Option.map BitVec.toNat) ∧
      w.profileTarget = f.profileTarget ∧ w.flags = f.flags := by
  unfold State.fillWrite? at h
  cases hx : optional? target? f.target with
  | none => simp [hx] at h
  | some x =>
    cases hy : optional? (optional? minute?) f.readyBy with
    | none => simp [hx, hy] at h
    | some y =>
      cases hz : optional? (optional? fun b : Byte => s.populatedBay? b.toNat) f.homeBay with
      | none => simp [hx, hy, hz] at h
      | some z =>
        simp only [hx, hy, hz, Option.some.injEq] at h
        subst h
        have h1 : x.map id = f.target.map BitVec.toNat :=
          optional?_map hx fun v w g => (target?_eq_some_iff.mp g).1.symm
        refine ⟨by rwa [Option.map_id] at h1, ?_, ?_, rfl, rfl⟩
        · exact optional?_map hy fun v w g => optional?_map g fun v w g => (minute?_eq_some_iff.mp g).symm
        · exact optional?_map hz fun v w g => optional?_map g fun v w g => ((s.populatedBay?_eq_some _ _).mp g).1.symm

theorem State.mem_fillRange {s : State} {i j : RecordIx} {k : Nat} :
    j ∈ s.fillRange i k ↔ i ≤ j ∧ j.val < i.val + k ∧ (s.record j).custody ≠ .free := by
  simp [State.fillRange, allRecords, Record.enrolled, and_assoc]

theorem State.fillRange_nodup (s : State) (i : RecordIx) (k : Nat) : (s.fillRange i k).Nodup :=
  (List.nodup_finRange _).filter _

theorem fill_accepted {s : State} {n k : Byte} {f : FillTemplate} {i : RecordIx} {w : FillWrite} (hi : n.toNat = i.val)
    (h0 : 0 < k.toNat) (hk : k.toNat ≤ 64) (hw : s.fillWrite? f = some w) (hs : w.selects = true) :
    s.fill n k f = ((s.fillRange i k.toNat).foldl (State.fillRecord w) s).finish .done fun _ => [byte (s.fillRange i k.toNat).length] := by
  unfold State.fill
  rw [recordIx?_of_eq hi]
  dsimp only
  rw [if_neg (Nat.not_lt.mpr hk), if_neg h0.ne', hw]
  exact if_pos hs

/-- Settles O20, by the records that the range holds and what is written into each. -/
theorem fillWritesTheEnrolledRange : Obligations.FillWritesTheEnrolledRange := by
  unfold Obligations.FillWritesTheEnrolledRange
  intro s n k i f hi h0 hk hsel ht hr hh
  have hin : s.FillInRange f := ⟨ht, hr, hh⟩
  obtain ⟨w, hw⟩ := Option.isSome_iff_exists.mp (s.fillInRange_iff.mp hin)
  obtain ⟨h1, h2, h3, h4, h5⟩ := State.fillWrite?_eq_some hw
  have hs : w.selects = true := by
    have hr' := congrArg Option.isSome h2
    have hh' := congrArg Option.isSome h3
    simp only [Option.isSome_map] at hr' hh'
    rw [FillWrite.selects, h1, hr', hh', h4, h5, Option.isSome_map]
    exact hsel
  have hnd := s.fillRange_nodup i k.toNat
  obtain ⟨hu, hrec⟩ := State.fillRecords w (s.fillRange i k.toNat) s
  refine ⟨_, s.fillRange i k.toNat, next_congr (fill_accepted hi h0 hk hw hs), hnd, fun j => State.mem_fillRange,
    State.finish_says _ _ _, hu.finish _ _, fun j hj => ?_⟩
  have g := State.record_finish ((s.fillRange i k.toNat).foldl (State.fillRecord w) s) .done
    (fun _ => [byte (s.fillRange i k.toNat).length]) j
  rw [hrec hnd, if_pos hj] at g
  generalize State.finish _ _ _ = t at g ⊢
  generalize t.record j = q at g ⊢
  generalize s.record j = r at g ⊢
  obtain ⟨f1, f2, f3, f4, f5, f6⟩ := w.written_fields r
  have g : ({ q with unsecured := (w.written r).unsecured } : Record) = w.written r := g
  have e1 : q.target = (w.written r).target := by have e := congrArg Record.target g; exact e
  have e2 : q.readyBy = (w.written r).readyBy := by have e := congrArg Record.readyBy g; exact e
  have e3 : q.homeBay = (w.written r).homeBay := by have e := congrArg Record.homeBay g; exact e
  have e4 : q.profileTarget = (w.written r).profileTarget := by have e := congrArg Record.profileTarget g; exact e
  have e5 : q.flags = (w.written r).flags := by have e := congrArg Record.flags g; exact e
  have e6 : q.misplaced = (w.written r).misplaced := by have e := congrArg Record.misplaced g; exact e
  refine ⟨?_, ?_, ?_, ?_, ?_, ?_⟩
  · rw [e1, f1, h1]
  · rw [e2, f2, ← Option.getD_map (f := Option.map Fin.val), h2]
  · rw [e3, f3, ← Option.getD_map (f := Option.map Fin.val), h3]
  · rw [e4, f4, h4]
  · rw [e5, f5, h5]
  · rw [e1, e2, e3, e4, e5, e6]
    exact (congrArg (fun x => ({ q with unsecured := x } : Record)) (congrArg Record.unsecured f6).symm).trans (g.trans f6)

end Sys2Proof.Machine
end

section
/-! SUPPORT. Releases that lapse and that begin, and records held, released from HELD and retired (R21 to R23, R144, R147),
and the settling of O21, O44 and O45. -/

namespace Sys2Proof.Machine

set_option Elab.async false

/-! ### Orders placed in an otherwise quiet bay -/

section
variable {s t u : State} {b : BayNo} {i : RecordIx}

/-- A record written and then kept but for UNSECURED. -/
theorem State.Untouched.writes {r : Record} (h : (s.putRecord i r).Untouched t [] []) : s.Writes t i r := by
  have g := h.record i
  rw [State.record_putRecord, if_pos rfl] at g
  exact ⟨g, (s.putRecord_untouched i r).trans h⟩

/-- A custody order placed in a bay whose release does not open stands there where the change closes (R58, R62). -/
theorem State.closeChange_custodyOrdered {x : CustodyOrder} (hu : u.unlockingRecord b = none)
    (h : (u.link b).custody.Newest x) : u.closeChange.CustodyOrdered b x :=
  (u.closeChange_link b).custody_newest (fun y hy => absurd hy (u.not_opensWith hu y)) h

theorem State.placeCustodyOrder_newest (x : CustodyOrder) (hd : (s.link b).state ≠ .down) :
    ((s.placeCustodyOrder b x).link b).custody.Newest x := by
  rw [State.link_placeCustodyOrder, if_pos ⟨rfl, hd⟩]
  exact (Link.pump_pumped _ _).custody.newest (Slot.newest_place _ _)

theorem State.release_placeCustodyOrder (x : CustodyOrder) (c : BayNo) : (s.placeCustodyOrder b x).release c = s.release c := by
  unfold State.placeCustodyOrder
  split <;> rfl

theorem State.unlockingRecord_of_release (h : s.release b = none) : s.unlockingRecord b = none := by
  unfold State.unlockingRecord
  rw [h]
  cases (s.bay b).record <;> rfl

/-- What follows leaves an order standing in a bay whose release does not open. -/
theorem State.Follows.custodyNewest (h : s.Follows t) {x : CustodyOrder} (hu : s.unlockingRecord b = none)
    (hx : (s.link b).custody.Newest x) : (t.link b).custody.Newest x :=
  (h.link b).custody_newest (fun y hy => absurd hy (s.not_opensWith hu y)) hx

theorem State.Follows.release_of_none (h : s.Follows t) (hu : s.release b = none) : t.release b = none := by
  obtain e | ⟨i, hi, -⟩ := h.release b
  · exact e.trans hu
  · rw [State.unlockingRecord_of_release hu] at hi
    cases hi

end

/-! ### Releases that lapse -/

/-- A record whose release lapses is IN_CART again, without a holder tag (R147). -/
abbrev Record.lapsed (r : Record) : Record := { r with custody := .inCart, holder := none }

theorem State.finish_eq (u : State) (x : Status) (d : State → List Byte) :
    u.finish x d = u.closeChange.respond x (d u.closeChange) := rfl

section
variable (s : State) (b : BayNo) (i : RecordIx)

/-- A release that lapses, before its LOCK request is placed (R147). -/
def State.lapsed : State :=
  (((s.editRecord i Record.lapsed).addSubject Source.releaseLapsed i.val).setRelease b
    none).placeCustodyOrder b .lock

theorem State.lapseRelease_eq : s.lapseRelease b i = (s.lapsed b i).lockUnlessService b := rfl

theorem State.lapsed_untouched : State.Untouched (s.putRecord i (s.record i).lapsed)
    (s.lapsed b i) [] [] :=
  .after (State.placeCustodyOrder_untouched _ _ _) (.after (.tables (s := (s.editRecord i Record.lapsed).addSubject Source.releaseLapsed i.val) rfl rfl)
    (State.addSubject_untouched _ _ _))

theorem State.lapsed_release : (s.lapsed b i).release b = none := by
  unfold State.lapsed
  rw [State.release_placeCustodyOrder, State.release_setRelease, if_pos rfl]

theorem State.lapsed_ordered (hd : (s.link b).state ≠ .down) : ((s.lapsed b i).link b).custody.Newest .lock :=
  State.placeCustodyOrder_newest .lock hd

theorem State.lapsed_latches : s.LatchesKept (s.lapsed b i) :=
  .trans (.of_bays) (State.LatchesKept.placeCustodyOrder _ b .lock)

theorem State.lapsed_service : (s.lapsed b i).service = s.service :=
  have h := s.lapsed_untouched b i
  h.windows.2.1

/-- A release that lapses: record, subject, entry, order and request (R147). -/
theorem State.lapseRelease_leaves {t : State} (h : (s.lapsed b i).Follows t) :
    s.Writes t i (s.record i).lapsed ∧ t.Holds Source.releaseLapsed i.val ∧
      t.release b = none ∧ ((s.link b).state ≠ .down → (t.link b).custody.Newest .lock) := by
  have hu := (s.lapsed_untouched b i).then h.frame
  have hr := s.lapsed_release b i
  have hs : (s.lapsed b i).Holds Source.releaseLapsed i.val :=
    (State.placeCustodyOrder_untouched _ b .lock).events.holds
      (State.addSubject_holds (s.editRecord i Record.lapsed) Source.releaseLapsed
        i.isLt)
  exact ⟨hu.writes, h.frame.events.holds hs, h.release_of_none hr,
    fun hd => h.custodyNewest (State.unlockingRecord_of_release hr) (s.lapsed_ordered b i hd)⟩

theorem State.lapseRelease_asks (hs : s.service = none) (ho : s.LatchOrderly b) : (s.lapseRelease b i).Asks b .lock :=
  State.lockUnlessService_asks ((s.lapsed_latches b i).orderly ho) ((s.lapsed_service b i).trans hs)

end

/-- Settles O45: both commands lapse the release, and the change closes. -/
theorem lapsedReleasesReturnToTheCart : Obligations.LapsedReleasesReturnToTheCart := by
  unfold Obligations.LapsedReleasesReturnToTheCart
  intro s c i b h
  obtain ⟨h1, h2, h3, h4⟩ := s.lapseRelease_leaves b i (State.Follows.lockUnlessService _ b)
  rw [← s.lapseRelease_eq] at h1 h2 h3 h4
  have ha := s.lapseRelease_asks b i
  generalize hv : s.lapseRelease b i = v at *
  have hn := State.unlockingRecord_of_release h3
  have hr : v.closeChange.release b = none := (v.closeChange_release_of_none hn).trans h3
  have hw : s.Writes v.closeChange i (s.record i).lapsed := ⟨h1.1.trans (v.closeChange_record i), h1.2.closeChange⟩
  have hh := v.closeChange_holds h2
  have ho := fun hd => State.closeChange_custodyOrdered hn (h4 hd)
  have hq := fun hs hl => (ha hs hl).closeChange.asked
  have hf := v.finish_eq .done fun _ => []
  generalize hc : v.closeChange = w at hr hw hh ho hq hf
  obtain ⟨n, rfl, hi, hx, hb⟩ | ⟨e, o, rfl, he⟩ := h
  · have hx : exec (.cancelRelease n) s = .next (w.respond .done []) := by
      refine next_congr (Eq.trans ?_ hf)
      unfold State.cancelRelease
      rw [recordIx?_of_eq hi]
      simp only [hx, hb, hv]
    have hwr := hw.2.trans (w.respond_untouched .done [])
    rw [List.append_nil, List.append_nil] at hwr
    exact ⟨_, hx, ⟨hw.1, hwr⟩, hh, hr, fun _ => w.respond_says .done [], ho, hq⟩
  · refine ⟨w, next_congr ?_, hw, hh, hr, fun ⟨n, g⟩ => (by cases g), ho, hq⟩
    show s.releaseWindowExpiry b = _
    unfold State.releaseWindowExpiry
    simp only [he, hv, hc]

/-! ### Sessions that end -/

theorem State.placeCustodyOrder_only (s : State) (b : BayNo) (x : CustodyOrder) :
    s.placeCustodyOrder b x = { s with links := (s.placeCustodyOrder b x).links } := by
  unfold State.placeCustodyOrder
  split <;> rfl

theorem State.placeLaneOrder_only (s : State) (b : BayNo) (x : LaneOrder) :
    s.placeLaneOrder b x = { s with links := (s.placeLaneOrder b x).links } := by
  unfold State.placeLaneOrder
  split <;> rfl

theorem State.quietFor_only (s : State) (x : Session) : s.quietFor x = { s with links := (s.quietFor x).links } := by
  unfold State.quietFor
  split
  · exact State.placeLaneOrder_only s _ _
  · rfl

/-- The session x of lane l has ended in t with a result (R125, steps 1 to 6). -/
structure State.Ends (s t : State) (l : LaneNo) (x : Session) (r : SessionResult) : Prop where
  record : ∀ i, t.record i = if x.record = i then (s.record i).afterSession s.laneSettings.failureLimit r else s.record i
  bay : ∀ b, t.bay b = if x.bay = b then { s.bay b with lane := none } else s.bay b
  lane : ∀ m, t.lane m = if l = m then ⟨none, some ⟨r, x.record, x.phase.claimed⟩, none⟩ else s.lane m
  link : ∀ b, Link.Fed s.linkSettings (fun _ => False) (fun y => b = x.bay ∧ y = .quiet ∧ (s.bay b).record = some x.record) (s.link b)
    (t.link b)
  quiet : x.phase.onLane = true → (s.bay x.bay).record = some x.record → (s.link x.bay).state ≠ .down →
    (t.link x.bay).lane.Newest .quiet
  reservations : t.reservations = s.reservations.filter fun e => e.owner != .lane l
  ended : t.Holds Source.laneEnd l.val
  events : s.EventsGrow t
  response : t.port.response = s.port.response
  only : t = { s with
    roster := t.roster, bays := t.bays, lanes := t.lanes, links := t.links, reservations := t.reservations
    reallocRequest := t.reallocRequest, port := t.port }

theorem State.quietFor_fed (s : State) (x : Session) (b : BayNo) :
    Link.Fed s.linkSettings (fun _ => False) (fun y => b = x.bay ∧ y = .quiet ∧ (s.bay b).record = some x.record) (s.link b)
      ((s.quietFor x).link b) := by
  unfold State.quietFor
  split
  · next h =>
    have hr : (s.bay x.bay).record = some x.record := by
      simp only [Bool.and_eq_true, beq_iff_eq] at h
      exact h.2
    exact s.placeLaneOrder_fed x.bay b fun e => ⟨e.symm, rfl, e ▸ hr⟩
  · exact .refl

theorem State.placeLaneOrder_newest {s : State} {b : BayNo} (x : LaneOrder) (hd : (s.link b).state ≠ .down) :
    ((s.placeLaneOrder b x).link b).lane.Newest x := by
  rw [State.link_placeLaneOrder, if_pos ⟨rfl, hd⟩]
  exact (Link.pump_pumped _ _).lane.newest (Slot.newest_place _ _)

theorem State.quietFor_newest {s : State} {x : Session} (hx : x.phase.onLane = true) (hr : (s.bay x.bay).record = some x.record)
    (hd : (s.link x.bay).state ≠ .down) : ((s.quietFor x).link x.bay).lane.Newest .quiet := by
  unfold State.quietFor
  rw [if_pos (by simp [hx, hr])]
  exact State.placeLaneOrder_newest _ hd

/-- The session x of lane l ends, but for its record and its subject. -/
def State.vacated (s : State) (l : LaneNo) (x : Session) (r : SessionResult) : State :=
  ((s.setLane l ⟨none, some ⟨r, x.record, x.phase.claimed⟩, none⟩).dropReservation (.lane l)).modBay x.bay
    fun y => { y with lane := none }

theorem State.bay_vacated (s : State) (l : LaneNo) (x : Session) (r : SessionResult) (b : BayNo) :
    (s.vacated l x r).bay b = if x.bay = b then { s.bay b with lane := none } else s.bay b := by
  unfold State.vacated
  rw [State.bay_modBay]
  split
  · next e => subst e; rfl
  · rfl

theorem State.endSession_ends {s : State} {l : LaneNo} {x : Session} (r : SessionResult) (hx : (s.lane l).session = some x) :
    s.Ends (s.endSession l r) l x r := by
  have he : s.endSession l r = State.addSubject (State.editRecord
      { s.vacated l x r with links := ((s.vacated l x r).quietFor x).links } x.record
      (Record.afterSession s.laneSettings.failureLimit r)) Source.laneEnd l.val := by
    rw [← State.quietFor_only]
    exact State.Carries.endSession_eq r hx
  have hl : ∀ b, (s.endSession l r).link b = ((s.vacated l x r).quietFor x).link b := fun b => by
    rw [he]
    rfl
  have hf : ∀ b, Link.Fed s.linkSettings (fun _ => False) (fun y => b = x.bay ∧ y = .quiet ∧ (s.bay b).record = some x.record)
      (s.link b) ((s.endSession l r).link b) := fun b => by
    rw [hl]
    refine ((s.vacated l x r).quietFor_fed x b).mono (fun _ => id) fun y ⟨h1, h2, h3⟩ => ⟨h1, h2, ?_⟩
    rw [State.bay_vacated] at h3
    split at h3
    · exact h3
    · exact h3
  refine ⟨fun i => ?_, fun b => ?_, fun m => ?_, hf, fun h1 h2 h3 => ?_, ?_, ?_, ?_, ?_, ?_⟩
  · rw [he]
    refine (State.record_editRecord _ x.record i _).trans ?_
    split
    · next e => subst e; rfl
    · rfl
  · rw [he]
    exact s.bay_vacated l x r b
  · exact State.Carries.lane_endSession r hx m
  · rw [hl]
    refine State.quietFor_newest h1 ?_ h3
    rw [State.bay_vacated, if_pos rfl]
    exact h2
  · rw [he]
    rfl
  · rw [he]
    exact State.addSubject_holds _ _ (by omega)
  · rw [he]
    exact (State.addSubject_untouched (State.editRecord _ _ _) _ _).events
  · rw [he]
    rfl
  · rw [he]
    rfl

/-- The session that record i may hold has ended in t with a result that counts neither as a failure nor as a success. -/
structure State.Unseats (s t : State) (i : RecordIx) (r : SessionResult) : Prop where
  frame : s.Untouched t [] []
  ended : s.SessionEnded t i r
  record : ∀ j, t.record j = s.record j
  bay : ∀ b, t.bay b = { s.bay b with lane := (t.bay b).lane }
  lane : ∀ m, t.lane m = s.lane m ∨ s.laneOf i = some m ∧ (t.lane m).session = none ∧ (t.lane m).switch = none
  link : ∀ b, Link.Fed s.linkSettings (fun _ => False) (fun y => y = .quiet ∧ (s.bay b).record = some i) (s.link b) (t.link b)
  response : t.port.response = s.port.response
  only : t = { s with
    roster := t.roster, bays := t.bays, lanes := t.lanes, links := t.links, reservations := t.reservations
    reallocRequest := t.reallocRequest, port := t.port }

theorem Record.afterSession_of_neither {r : SessionResult} (hf : r.isFailure = false) (hs : r ≠ .success) (n : Nat) (x : Record) :
    x.afterSession n r = x := by
  unfold Record.afterSession
  simp [hf, hs]

theorem State.endSessionOf_unseats (s : State) (i : RecordIx) {r : SessionResult} (hf : r.isFailure = false) (hs : r ≠ .success) :
    s.Unseats (s.endSessionOf i r) i r := by
  unfold State.endSessionOf
  split
  · next l hl =>
    obtain ⟨x, hx, rfl⟩ := State.Carries.laneOf_eq_some hl
    have h := State.endSession_ends r hx
    have hrec : ∀ j, (s.endSession l r).record j = s.record j := fun j => by
      rw [h.record, Record.afterSession_of_neither hf hs]
      exact ite_self _
    have hbay : ∀ b, (s.endSession l r).bay b = { s.bay b with lane := ((s.endSession l r).bay b).lane } := fun b => by
      rw [h.bay]
      split <;> rfl
    have hlane := h.lane l
    rw [if_pos rfl] at hlane
    refine ⟨⟨fun j _ => ?_, fun b _ => ?_, ?_, ?_, ?_, ?_, ?_, h.events⟩, fun m y hm hy => ?_, hrec, hbay, fun m => ?_,
      fun b => (h.link b).mono (fun _ => id) fun _ => And.right, h.response, h.only⟩
    · rw [hrec]
    · rw [hbay]
    · rw [h.only]; exact ⟨rfl, rfl, rfl, rfl⟩
    · rw [h.only]; exact ⟨rfl, rfl, rfl⟩
    · rw [h.only]; exact ⟨rfl, rfl, rfl, rfl⟩
    · rw [h.only]; exact ⟨rfl, rfl⟩
    · rw [h.only]
    · obtain rfl := Option.some.inj (hl.symm.trans hm)
      obtain rfl := Option.some.inj (hx.symm.trans hy)
      rw [hlane]
      exact ⟨rfl, h.ended⟩
    · rw [h.lane]
      split
      · next e => subst e; exact .inr ⟨hl, rfl, rfl⟩
      · exact .inl rfl
  · next hl => exact ⟨.refl s, fun m y hm => (by rw [hl] at hm; cases hm), fun _ => rfl, fun _ => rfl, fun _ => .inl rfl, fun _ => .refl, rfl, rfl⟩


section
variable {s t u : State} {i : RecordIx} {r : SessionResult}

theorem State.Unseats.latches (h : s.Unseats t i r) : s.LatchesKept t := by
  refine ⟨by rw [h.only], by rw [h.only], fun b => ?_⟩
  rw [h.bay]

theorem State.SessionEnded.follows (h : s.SessionEnded t i r) (g : t.Follows u) : s.SessionEnded u i r := fun l x hl hx => by
  obtain ⟨h1, h2⟩ := h l x hl hx
  refine ⟨?_, g.frame.events.holds h2⟩
  obtain e | ⟨y, -, -, e⟩ := g.lane l
  · rw [e, h1]
  · rw [e]
    exact h1

theorem State.SessionEnded.closeChange (h : s.SessionEnded t i r) : s.SessionEnded t.closeChange i r := fun l x hl hx => by
  obtain ⟨h1, h2⟩ := h l x hl hx
  exact ⟨(t.closeChange_last l).trans h1, t.closeChange_holds h2⟩

end

/-! ### CHECKOUT -/

section
variable {s : State} {i : RecordIx} {b : BayNo}

/-- A record that begins its release is RELEASING with the holder tag (R144). -/
abbrev Record.releasing (x : Half) (r : Record) : Record := { r with custody := .releasing, holder := some x.toNat }

/-- A release that begins, before its UNLOCK request is placed (R144). -/
def State.released (s : State) (i : RecordIx) (b : BayNo) (x : Half) : State :=
  ((s.endSessionOf i .preempted).editRecord i (Record.releasing x)).setRelease b (some ⟨i, .unlocking⟩)

theorem State.beginRelease_eq (x : Half) : s.beginRelease i b x = (s.released i b x).placeRequest b .unlock := rfl

theorem State.released_untouched (x : Half) : s.Writes (s.released i b x) i ((s.record i).releasing x) := by
  have h := s.endSessionOf_unseats i (r := .preempted) rfl nofun
  have g : State.Writes (s.endSessionOf i .preempted) (s.released i b x) i
      (((s.endSessionOf i .preempted).record i).releasing x) := State.Untouched.writes (.tables rfl rfl)
  rw [h.record] at g
  exact ⟨g.1, h.frame.trans g.2⟩

theorem State.released_release (x : Half) : (s.released i b x).release b = some ⟨i, .unlocking⟩ := by
  unfold State.released
  rw [State.release_setRelease, if_pos rfl]

theorem State.released_ended (x : Half) : s.SessionEnded (s.released i b x) i .preempted :=
  (s.endSessionOf_unseats i (r := .preempted) rfl nofun).ended

theorem State.released_latches (x : Half) : s.LatchesKept (s.released i b x) :=
  .trans (s.endSessionOf_unseats i (r := .preempted) rfl nofun).latches .of_bays

theorem State.released_bay (x : Half) (c : BayNo) : ((s.released i b x).bay c).record = (s.bay c).record := by
  have h := (s.endSessionOf_unseats i (r := .preempted) rfl nofun).bay c
  have g := congrArg Bay.record h
  exact g

/-- A release entry that follows stays one of the same record (R138, R145). -/
theorem State.release_record_of {t : State} {e : Release} (hb : (s.bay b).record = some e.record) (he : s.release b = some e)
    (h : t.release b = s.release b ∨ ∃ j, s.unlockingRecord b = some j ∧
      t.release b = some ⟨j, .opened (s.clk32 + s.custodySettings.releaseLength) .waiting⟩) :
    (t.release b).map Release.record = some e.record := by
  obtain g | ⟨j, hj, g⟩ := h
  · rw [g, he]
    rfl
  · rw [g]
    obtain ⟨h1, -, -⟩ := State.unlockingRecord_eq_some.mp hj
    exact congrArg some (Option.some.inj (h1.symm.trans hb))

theorem checkout_accepted {n : Byte} {h : Half} {p o : Bool} {charge : Nat} (hi : n.toNat = i.val) (hh : h ≠ 0)
    (hc : (s.record i).custody = .inCart) (hb : (s.record i).currentBay = some b)
    (ha : s.custodySettings.authority = .host ∨ s.teacher.isSome = true ∨ s.service.isSome = true)
    (hl : (s.record i).flags.getLsbD 2 = false) (hm : (s.record i).misplaced = false)
    (hq : (s.record i).lastCharge = some charge) (ho : o = true ∨ s.budget.checkoutMinimum ≤ charge)
    (hp : p = true ∨ s.laneOf i = none) :
    s.checkout n h p o = (s.beginRelease i b h).finish .accepted fun _ => [] := by
  have hr : s.checkoutRefusal i p o = none := by
    have ha := s.checkoutAuthorised_iff.mpr ha
    have hl : (s.record i).loanBlock = false := hl
    rw [s.checkoutRefusal_cases p o hc, if_neg (by simp [ha, hl]), if_neg (by simp [hm]),
      if_neg (by simp [State.lowCharge_eq_false ⟨charge, hq, ho⟩]), if_neg]
    obtain rfl | g := hp
    · simp
    · simp [g]
  unfold State.checkout
  rw [recordIx?_of_eq hi]
  simp only [if_neg hh, hr, hb]

end

/-- Settles O44: the session ends, the release begins, and UNLOCK is asked for. -/
theorem checkoutBeginsARelease : Obligations.CheckoutBeginsARelease := by
  unfold Obligations.CheckoutBeginsARelease
  intro s n i b h p o charge hi hh hc hb hn ha hl hm hq ho hp
  have he : exec (.checkout n h p o) s = .next ((s.beginRelease i b h).finish .accepted fun _ => []) :=
    next_congr (checkout_accepted hi hh hc hb ha hl hm hq ho hp)
  have hf : (s.released i b h).Follows (s.beginRelease i b h) := .placeRequest _ b .unlock
  have hw := s.released_untouched (i := i) (b := b) h
  have hrel := State.release_record_of ((s.released_bay (i := i) (b := b) h b).trans hn) (s.released_release h) (hf.release b)
  have hse := (s.released_ended (i := i) (b := b) h).follows hf
  have has : s.LatchOrderly b → (s.beginRelease i b h).Asks b .unlock := fun g =>
    State.placeRequest_asks ((s.released_latches h).orderly g) .unlock
  have hbay : ((s.beginRelease i b h).bay b).record = some i :=
    ((hf.frame.bay b).record.trans (s.released_bay h b)).trans hn
  have hwv : s.Writes (s.beginRelease i b h) i ((s.record i).releasing h) :=
    ⟨hw.1.trans (hf.frame.record i), hw.2.trans hf.frame⟩
  rw [State.finish_eq] at he
  generalize s.beginRelease i b h = v at *
  obtain ⟨e, hve, hvi⟩ := Option.map_eq_some_iff.mp hrel
  have hr : (v.closeChange.release b).map Release.record = some i := by
    have g := State.release_record_of (hbay.trans (congrArg some hvi.symm)) hve (v.closeChange_release b)
    exact g.trans (congrArg some hvi)
  have hw' : s.Writes v.closeChange i ((s.record i).releasing h) := ⟨hwv.1.trans (v.closeChange_record i), hwv.2.closeChange⟩
  have hse' := hse.closeChange
  have has' := fun g => (has g).closeChange.asked
  generalize v.closeChange = w at hr hw' hse' has' he
  exact ⟨_, he, w.respond_says _ _, ⟨hw'.1, hw'.2.trans (w.respond_untouched _ _)⟩, hr, has', hse'⟩

/-! ### HOLD, UNHOLD and RETIRE -/

section
variable {s t v : State} {i : RecordIx} {r : Record} {b : BayNo}

theorem State.Writes.finish (h : s.Writes v i r) (x : Status) (d : State → List Byte) : s.Writes (v.finish x d) i r :=
  ⟨h.1.trans (v.record_finish x d i), h.2.finish x d⟩

theorem State.Writes.follows (h : s.Writes v i r) (g : v.Follows t) : s.Writes t i r :=
  ⟨h.1.trans (g.frame.record i), h.2.trans g.frame⟩

theorem State.SessionEnded.finish {y : SessionResult} (h : s.SessionEnded v i y) (x : Status) (d : State → List Byte) :
    s.SessionEnded (v.finish x d) i y := by
  have g := h.closeChange
  rw [State.finish_eq]
  generalize v.closeChange = w at g ⊢
  exact g

/-- The state that a record's request answers is the one it writes. -/
theorem State.Writes.says (h : s.Writes v i r) : (v.finish .done (State.custodyByte i)).Says .done [byte r.custody.ctorIdx] := by
  have g := v.finish_says .done (State.custodyByte i)
  have hc := (h.1.trans (v.closeChange_record i)).custody
  unfold State.custodyByte at g ⊢
  rwa [hc] at g

theorem State.writes_requestPassIf {c : Bool} (h : s.Writes v i r) : s.Writes (v.requestPassIf c) i r := by
  refine ⟨?_, h.2.trans (v.requestPassIf_untouched c)⟩
  rw [State.record_requestPassIf]
  exact h.1

/-- A record is rewritten after its session has ended ABORTED. -/
theorem State.endedWrites (s : State) (i : RecordIx) (f : Record → Record) (c : Bool) :
    s.Writes (((s.endSessionOf i .aborted).editRecord i f).requestPassIf c) i (f (s.record i)) ∧
      s.SessionEnded (((s.endSessionOf i .aborted).editRecord i f).requestPassIf c) i .aborted := by
  have h := s.endSessionOf_unseats i (r := .aborted) rfl nofun
  have g : State.Writes (s.endSessionOf i .aborted) ((s.endSessionOf i .aborted).editRecord i f) i
      (f ((s.endSessionOf i .aborted).record i)) := State.Untouched.writes (.refl _)
  rw [h.record] at g
  refine ⟨State.writes_requestPassIf ⟨g.1, h.frame.trans g.2⟩, ?_⟩
  have he := h.ended
  unfold State.requestPassIf
  split
  · exact he
  · exact he

theorem hold_accepted {n : Byte} (hi : n.toNat = i.val) (hf : (s.record i).custody ≠ .free)
    (hr : (s.record i).custody ≠ .releasing) : s.hold n = (s.holdByHost i).finish .done (State.custodyByte i) := by
  unfold State.hold
  rw [recordIx?_of_eq hi]
  exact if_neg fun g => g.elim hf hr

theorem unhold_accepted {n : Byte} (hi : n.toNat = i.val) (hc : (s.record i).custody = .held)
    (ha : s.custodySettings.authority = .host ∨ s.service.isSome = true) :
    s.unhold n = (s.unholdRecord i).finish .done (State.custodyByte i) := by
  unfold State.unhold
  rw [recordIx?_of_eq hi]
  dsimp only
  rw [if_neg (not_not.mpr hc), if_pos (s.serviceAuthorised_iff.mpr ha)]

/-- RETIRE of an undocked record and of a docked one (R23). -/
theorem retire_accepted {n : Byte} (hi : n.toNat = i.val) :
    ((s.record i).custody = .away ∨ (s.record i).custody = .loaned ∨ (s.record i).custody = .overdue ∨
        (s.record i).custody = .adrift ∨ (s.record i).custody = .held ∧ (s.record i).currentBay = none →
      s.retire n = (s.freeRecord i).finish .done (State.custodyByte i)) ∧
    ((s.record i).custody = .inCart ∨ (s.record i).custody = .retiring ∨
        (s.record i).custody = .held ∧ (s.record i).currentBay.isSome = true →
      s.retire n = (s.retireDocked i).finish .done (State.custodyByte i)) := by
  unfold State.retire
  rw [recordIx?_of_eq hi]
  dsimp only
  refine ⟨?_, ?_⟩
  · rintro (h | h | h | h | ⟨h, hb⟩) <;> simp only [h]
    rw [if_neg (by simp [Record.docked, hb])]
  · rintro (h | h | ⟨h, hb⟩) <;> simp only [h]
    exact if_pos hb

theorem State.freeRecord_writes (s : State) (i : RecordIx) : s.Writes (s.freeRecord i) i Record.freeImage :=
  State.Untouched.writes (.refl _)

/-- After the LOCK order that a record reaching IN_CART is given, its LOCK request may follow (R140). -/
theorem State.receiveInCart_follows (s : State) (b : BayNo) : (s.placeCustodyOrder b .lock).Follows (s.receiveInCart b) := by
  unfold State.receiveInCart
  simp only
  split
  · exact .placeRequest _ b .lock
  · exact .refl _

theorem State.receiveInCart_asks (ha : s.custodySettings.autoLock = true) (hs : s.service = none) (ho : s.LatchOrderly b) :
    (s.receiveInCart b).Asks b .lock := by
  have hp := (s.placeCustodyOrder_untouched b .lock)
  unfold State.receiveInCart State.serviceOpen
  simp only
  rw [hp.settings.2.2.2, hp.windows.2.1, if_pos (by simp [ha, hs])]
  exact State.placeRequest_asks ((State.LatchesKept.placeCustodyOrder s b .lock).orderly ho) .lock

/-- A record that reaches IN_CART in bay b is given LOCK (R140). -/
theorem State.receiveInCart_leaves (s : State) (b : BayNo) : s.Untouched (s.receiveInCart b) [] [] ∧
    (s.release b = none → (s.receiveInCart b).release b = none ∧
      ((s.link b).state ≠ .down → ((s.receiveInCart b).link b).custody.Newest .lock)) := by
  have hf := s.receiveInCart_follows b
  refine ⟨.after hf.frame (s.placeCustodyOrder_untouched b .lock), fun hr => ?_⟩
  have hr' : (s.placeCustodyOrder b .lock).release b = none := (State.release_placeCustodyOrder _ b).trans hr
  exact ⟨hf.release_of_none hr', fun hd => hf.custodyNewest (State.unlockingRecord_of_release hr') (State.placeCustodyOrder_newest _ hd)⟩

theorem State.finish_custodyOrdered {y : CustodyOrder} (hr : v.release b = none) (h : (v.link b).custody.Newest y) (x : Status)
    (d : State → List Byte) : (v.finish x d).CustodyOrdered b y := by
  have g := State.closeChange_custodyOrdered (State.unlockingRecord_of_release hr) h
  rw [State.finish_eq]
  generalize v.closeChange = w at g ⊢
  exact g

/-- UNHOLD by the record's place (R22). -/
theorem State.unholdRecord_writes (s : State) (i : RecordIx) : s.Writes (s.unholdRecord i) i (s.record i).unheld := by
  unfold State.unholdRecord
  split
  · exact State.Untouched.writes (.refl _)
  · next b _ =>
    have h := (State.receiveInCart_leaves (s.editRecord i Record.unheld) b).1
    exact State.Untouched.writes (.after (.tables (s := (s.editRecord i Record.unheld).receiveInCart b) rfl rfl) h)

end

/-- Settles O21, each request by the one record it writes. -/
theorem holdUnholdAndRetireMoveTheRecord : Obligations.HoldUnholdAndRetireMoveTheRecord := by
  unfold Obligations.HoldUnholdAndRetireMoveTheRecord
  refine ⟨fun s n i hi hf hr => ?_, fun s n i c hi hc ha hcb => ?_, fun s n i hi => ⟨fun h => ?_, fun h => ?_⟩⟩
  · obtain ⟨hw, he⟩ := s.endedWrites i (Record.held .host) ((s.record i).docked && (s.record i).custody.fullClass)
    exact ⟨_, next_congr (hold_accepted hi hf hr), hw.says, hw.finish _ _, he.finish _ _⟩
  · have hw := s.unholdRecord_writes i
    have hu : (s.record i).unheld = { s.record i with custody := c, holdReason := none, provStuck := false, failureCount := 0 } := by
      rw [hcb]
      rfl
    have hx := next_congr (unhold_accepted hi hc ha)
    rw [hu] at hw
    refine ⟨_, hx, hw.says, hw.finish _ _, fun b hb => ?_⟩
    have he : s.unholdRecord i = ((s.editRecord i Record.unheld).receiveInCart b).requestPass := by
      unfold State.unholdRecord
      rw [hb]
    have hl := (State.receiveInCart_leaves (s.editRecord i Record.unheld) b).2
    have hk := State.receiveInCart_asks (s := s.editRecord i Record.unheld) (b := b)
    rw [he]
    generalize State.receiveInCart _ b = v at hl hk ⊢
    refine ⟨fun hd hr => ?_, fun h1 h2 h3 => ?_⟩
    · obtain ⟨g1, g2⟩ := hl hr
      exact State.finish_custodyOrdered (v := v.requestPass) g1 (g2 hd) _ _
    · have g : v.requestPass.Asks b .lock := (State.LatchesKept.of_bays (s := v) (t := v.requestPass)).asks
        (hk h1 h2 (State.LatchesKept.orderly (s := s) .of_bays h3))
      exact g.finish _ _
  · have hw := s.freeRecord_writes i
    exact ⟨_, next_congr ((retire_accepted hi).1 h), hw.says, hw.finish _ _⟩
  · obtain ⟨hw, he⟩ := s.endedWrites i (fun r => { r with custody := .retiring, holdReason := none })
      (s.record i).custody.fullClass
    exact ⟨_, next_congr ((retire_accepted hi).2 h), hw.says, hw.finish _ _, he.finish _ _⟩

end Sys2Proof.Machine
end

section
/-! SUPPORT. What stays of a bay without a latch request, and of a drive slot with nothing waiting for it, and the settling of
O48 (R134 to R138). -/

namespace Sys2Proof.Machine

set_option Elab.async false

/-! ### The close of a change, step by step -/

section
variable {P : State → Prop}

/-- What the marks of a request, a pass, its phases and the telling of an owner keep, settling keeps (R75, R98, R99). -/
theorem State.settle_keeps (hm : ∀ (s : State) (x y : Bool), P s → P { s with reallocRequest := x, passPending := y })
    (hp : ∀ s : State, P s → P s.takePass) (hi : ∀ s : State, P s → P s.increased)
    (ht : ∀ (s : State) (o : Owner), P s → P (s.tellActive o)) (he : ∀ s : State, P s → P s.endPass) :
    ∀ (n : Nat) (s : State), P s → P (State.settle n s) := by
  have hs : ∀ s : State, P s → P s.serveRequest := fun s h => by
    unfold State.serveRequest
    split
    · simp only
      split
      · exact hp _ (hm s false s.passPending h)
      all_goals exact hm s false true h
    · exact h
  have hf : ∀ (l : List Owner) (s : State), P s → P (l.foldl State.tellActive s) := fun l => by
    induction l with
    | nil => exact fun _ h => h
    | cons o l ih => exact fun s h => ih _ (ht s o h)
  have hd : ∀ s : State, P s → P s.endDecreasing := fun s h => by
    rw [State.endDecreasing_eq]
    exact hf _ _ (hi s h)
  intro n
  induction n with
  | zero => exact fun _ h => h
  | succ n ih =>
    intro s h
    unfold State.settle
    simp only
    split
    · exact hs s h
    · split
      · exact hs s h
      · exact ih _ (hd _ (hs s h))
    · split
      · exact hs s h
      · exact ih _ (he _ (hs s h))

/-- And so does the close of a change, from the state with its lanes granted on (R111, R181). -/
theorem State.closeChange_keeps (hm : ∀ (s : State) (x y : Bool), P s → P { s with reallocRequest := x, passPending := y })
    (hp : ∀ s : State, P s → P s.takePass) (hi : ∀ s : State, P s → P s.increased)
    (ht : ∀ (s : State) (o : Owner), P s → P (s.tellActive o)) (he : ∀ s : State, P s → P s.endPass)
    (hl : ∀ s : State, P s → P s.relamp) (ha : ∀ s : State, P s → P s.reAttn) (s : State) (h : P s.granted) :
    P s.closeChange := by
  rw [State.closeChange_eq]
  exact ha _ (hl _ (State.settle_keeps hm hp hi ht he _ _ h))

end

/-! ### A bay without a request -/

/-- What becomes of a bay for which no latch request stands: none does still, its latch rests, and UNSECURED of a record changes
only with a LOCK of another bay that names it (R138). -/
structure State.Idles (s t : State) (b : BayNo) : Prop where
  frame : s.Untouched t [] []
  idle : s.LatchIdle b → t.LatchIdle b
  latch : s.LatchIdle b → (t.bay b).latch = (s.bay b).latch
  unsecured : s.LatchIdle b → ∀ i, (t.record i).unsecured = (s.record i).unsecured ∨
    (t.record i).unsecured = false ∧ ∃ c, c ≠ b ∧ (s.bay c).record = some i

namespace State.Idles

variable {s t u : State} {b : BayNo}

theorem refl (s : State) (b : BayNo) : s.Idles s b := ⟨.refl s, id, fun _ => rfl, fun _ _ => .inl rfl⟩

theorem trans (h : s.Idles t b) (g : t.Idles u b) : s.Idles u b where
  frame := h.frame.then g.frame
  idle hi := g.idle (h.idle hi)
  latch hi := (g.latch (h.idle hi)).trans (h.latch hi)
  unsecured hi i := by
    obtain e | ⟨e, c, hc, hr⟩ := g.unsecured (h.idle hi) i
    · rw [e]
      exact h.unsecured hi i
    · exact .inr ⟨e, c, hc, (h.frame.bay c).record.symm.trans hr⟩

theorem foldl {α : Type} {f : State → α → State} (hf : ∀ s x, State.Idles s (f s x) b) :
    ∀ (l : List α) (s : State), s.Idles (l.foldl f s) b
  | [], s => refl s b
  | x :: l, s => (hf s x).trans (foldl hf l _)

theorem of_kept (hf : s.Untouched t [] []) (hl : s.LatchesKept t)
    (hr : ∀ i, (t.record i).unsecured = (s.record i).unsecured := by exact fun _ => rfl) : s.Idles t b :=
  ⟨hf, hl.idle, fun _ => hl.latch b, fun _ i => .inl (hr i)⟩

/-- Nothing is asked of what starts with no request for the bay. -/
theorem of_idle (hf : s.Untouched t [] []) (h : s.LatchIdle b → s.Idles t b) : s.Idles t b :=
  ⟨hf, fun hi => (h hi).idle hi, fun hi => (h hi).latch hi, fun hi => (h hi).unsecured hi⟩

variable (s) (b)

theorem latchSuccess {c : BayNo} (hc : c ≠ b) (d : Direction) : s.Idles (s.latchSuccess c d) b := by
  have hl := State.LatchesKept.latchSuccess s c d
  refine ⟨s.latchSuccess_untouched c d, hl.idle, fun _ => hl.latch b, fun _ i => ?_⟩
  cases d with
  | lock =>
    simp only [State.latchSuccess]
    split
    · next j hj =>
      rw [State.record_editRecord]
      split
      · next e => subst e; exact .inr ⟨rfl, c, hc, hj⟩
      · exact .inl rfl
    · exact .inl rfl
  | unlock =>
    simp only [State.latchSuccess]
    split
    · exact .inl (by
        unfold State.openRelease
        rw [State.placeCustodyOrder_only]
        rfl)
    · exact .inl rfl

theorem serviceOne {q : LatchRequest} (hq : q.bay ≠ b) : s.Idles (s.serviceOne q) b := by
  have h1 : s.Idles { s with latchQueue := s.latchQueue.erase q } b :=
    ⟨.tables rfl rfl, fun hi => ⟨hi.1, fun r hr => hi.2 r (List.mem_of_mem_erase hr)⟩, fun _ => rfl, fun _ _ => .inl rfl⟩
  have hf := s.serviceOne_untouched q
  refine of_idle hf fun hi => ?_
  have hi' := hi.serviceOne hq
  revert hf hi'
  unfold State.serviceOne
  split
  · exact fun _ _ => refl s b
  · split
    · exact fun _ _ => h1.trans (latchSuccess _ b hq _)
    · split
      · exact fun hf hi' => ⟨hf, fun _ => hi', fun _ => rfl, fun _ _ => .inl rfl⟩
      · exact fun _ _ => refl s b

theorem serviceAll : ∀ (l : List LatchRequest) (s : State), (∀ q ∈ l, q.bay ≠ b) → s.Idles (l.foldl State.serviceOne s) b
  | [], s, _ => refl s b
  | q :: l, s, h => (serviceOne s b (h q List.mem_cons_self)).trans (serviceAll l _ fun r hr => h r (List.mem_cons_of_mem q hr))

theorem slotService : s.Idles s.slotService b := of_idle s.slotService_untouched fun hi => serviceAll b _ s hi.2

theorem driveSuccess {k : SlotNo} {q : LatchRequest} (hk : (s.slot k).request = some q) : s.Idles (s.driveSuccess k q) b := by
  refine of_idle (s.driveSuccess_untouched k q) fun hi => ?_
  have hq : q.bay ≠ b := State.slotHolds_eq_false.mp hi.1 k q hk
  have hl := State.Carries.bay_latch_setLatch (s.endSlot k) q.bay q.direction.target b
  have h1 : s.Idles ((s.endSlot k).setLatch q.bay q.direction.target) b :=
    ⟨.after (State.setLatch_untouched _ _ _) (s.endSlot_untouched k), fun hi => hi.other k .free nofun (fun j => s.slot_setSlot k j _)
      fun _ hr _ => hr, fun _ => by rw [hl, if_neg hq]; rfl, fun _ _ => .inl rfl⟩
  exact (h1.trans (latchSuccess _ b hq _)).trans (slotService _ b)

theorem startDrive (k : SlotNo) : s.Idles (s.startDrive k) b := by
  unfold State.startDrive
  split
  · next q hk =>
    split
    · exact driveSuccess s b (by rw [hk]; rfl)
    · refine of_idle (.after (State.setLatch_untouched _ _ _) (s.setSlot_untouched k _)) fun hi => ?_
      have hq : q.bay ≠ b := State.slotHolds_eq_false.mp hi.1 k q (by rw [hk]; rfl)
      have hl := State.Carries.bay_latch_setLatch (s.setSlot k (.driving q)) q.bay .moving b
      exact ⟨.after (State.setLatch_untouched _ _ _) (s.setSlot_untouched k _),
        fun hi => hi.other k (.driving q) (fun r hr => by cases hr; exact hq) (fun j => s.slot_setSlot k j _) fun _ hr _ => hr,
        fun _ => by rw [hl, if_neg hq]; rfl, fun _ _ => .inl rfl⟩
  · exact refl s b
  · exact refl s b

theorem wakeLane (l : LaneNo) : s.Idles (s.wakeLane l) b := of_kept (s.wakeLane_untouched l) (State.LatchesKept.wakeLane s l) fun i => by
  unfold State.wakeLane
  split
  · split
    · simp only
      rw [State.placeLaneOrder_only]
      rfl
    · rfl
  · rfl

theorem tellActive (o : Owner) : s.Idles (s.tellActive o) b := by
  cases o with
  | latch k => exact startDrive s b k
  | lane l => exact wakeLane s b l

/-- A bay without a request is left without one where a change closes. -/
theorem closeChange : s.Idles s.closeChange b := by
  have hr : ∀ {t u : State}, u.roster = t.roster → ∀ i, (u.record i).unsecured = (t.record i).unsecured := fun h i => by
    rw [State.record_congr h]
  refine State.closeChange_keeps (P := fun t => s.Idles t b) (fun t x y h => h.trans (of_kept (.tables rfl rfl) .of_bays))
    (fun t h => h.trans (of_kept t.takePass_untouched (State.LatchesKept.takePass t) (hr t.takePass_roster)))
    (fun t h => h.trans (of_kept (.tables rfl rfl) .of_bays)) (fun t o h => h.trans (tellActive t b o))
    (fun t h => h.trans (of_kept t.endPass_untouched .of_bays))
    (fun t h => h.trans (of_kept t.relamp_untouched (State.LatchesKept.relamp t) (hr t.relamp_roster)))
    (fun t h => h.trans (of_kept t.reAttn_untouched .of_bays)) s ?_
  have hg := s.granted_grants
  refine of_kept (.after (State.grantLanes_untouched 4 _) s.requeue_untouched) s.granted_latchesKept fun i => ?_
  rw [hg.record]

end State.Idles

/-! ### Reservations that are not there -/

/-- No reservation of an owner stands in the list. -/
def State.Unreserved (s : State) (o : Owner) : Prop := ∀ e ∈ s.reservations, e.owner ≠ o

namespace State.Unreserved

variable {s t : State} {o : Owner}

theorem congr (h : s.Unreserved o) (hr : t.reservations = s.reservations := by rfl) : t.Unreserved o := by
  unfold State.Unreserved at *
  rwa [hr]

theorem drop (h : s.Unreserved o) (p : Owner) : (s.dropReservation p).Unreserved o :=
  fun e he => h e (List.mem_of_mem_filter he)

theorem dropped (s : State) (o : Owner) : (s.dropReservation o).Unreserved o := fun e he => by
  have h := (List.mem_filter.mp he).2
  simpa using h

theorem raise (h : s.Unreserved o) {p : Owner} (hp : p ≠ o) (a : Nat) : (s.raiseReservation p a).Unreserved o := fun e he => by
  obtain he | he := List.mem_append.mp he
  · exact h e he
  · rw [List.mem_singleton.mp he]
    exact hp

theorem takePass (h : s.Unreserved o) : s.takePass.Unreserved o := by
  intro e he
  rw [State.takePass_reservations] at he
  obtain ⟨f, hf, hef⟩ : ∃ f ∈ s.reservations, e.owner = f.owner := by
    have key : ∀ {l m : List Reservation}, List.Forall₂ (fun e f => f = e ∨ e.state = .pending ∧ f = { e with state := .admitted }) l m →
        ∀ e ∈ m, ∃ f ∈ l, e.owner = f.owner := by
      intro l m hl
      induction hl with
      | nil => exact fun e he => absurd he List.not_mem_nil
      | @cons a c l m hac _ ih =>
        intro e he
        obtain rfl | he := List.mem_cons.mp he
        · refine ⟨a, List.mem_cons_self, ?_⟩
          obtain rfl | ⟨-, rfl⟩ := hac <;> rfl
        · obtain ⟨f, hf, h⟩ := ih e he
          exact ⟨f, List.mem_cons_of_mem a hf, h⟩
    exact key (admitWalk_forall₂ _ _ _ _ _) e he
  rw [hef]
  exact h f hf

theorem increased (h : s.Unreserved o) : s.increased.Unreserved o := fun e he => by
  obtain ⟨f, hf, rfl⟩ := List.mem_map.mp he
  have ho : f.activate.owner = f.owner := by
    unfold Reservation.activate
    split <;> rfl
  rw [ho]
  exact h f hf

theorem wakeLane (h : s.Unreserved o) (l : LaneNo) : (s.wakeLane l).Unreserved o := by
  unfold State.wakeLane
  split
  · split
    · simp only
      rw [State.placeLaneOrder_only]
      exact h
    · exact h
  · exact h

theorem latchSuccess (h : s.Unreserved o) (b : BayNo) (d : Direction) : (s.latchSuccess b d).Unreserved o := by
  cases d with
  | lock =>
    simp only [State.latchSuccess]
    split
    · exact h
    · exact h
  | unlock =>
    simp only [State.latchSuccess]
    split
    · unfold State.openRelease
      rw [State.placeCustodyOrder_only]
      exact h
    · exact h

end State.Unreserved

/-! ### A drive slot with nothing waiting -/

/-- No request waits, slot k is FREE, and it has no reservation (R136, R138). -/
structure State.SlotRests (s : State) (k : SlotNo) : Prop where
  queue : s.latchQueue = []
  slot : s.slot k = .free
  unreserved : s.Unreserved (.latch k)

namespace State.SlotRests

variable {s t : State} {k : SlotNo}

theorem congr (h : s.SlotRests k) (hq : t.latchQueue = s.latchQueue := by rfl) (hs : t.slots = s.slots := by rfl)
    (hr : t.reservations = s.reservations := by rfl) : t.SlotRests k :=
  ⟨hq.trans h.queue, (State.slot_congr hs k).trans h.slot, h.unreserved.congr hr⟩

theorem latchSuccess (h : s.SlotRests k) (b : BayNo) (d : Direction) : (s.latchSuccess b d).SlotRests k := by
  have hl := State.LatchesKept.latchSuccess s b d
  exact ⟨hl.queue.trans h.queue, (hl.slot k).trans h.slot, h.unreserved.latchSuccess b d⟩

theorem slotService (h : s.SlotRests k) : s.slotService.SlotRests k := by
  unfold State.slotService
  rw [h.queue]
  exact h

/-- The end of a drive of another slot, or of this one. -/
theorem driveSuccess (h : s.SlotRests k) (j : SlotNo) (q : LatchRequest) : (s.driveSuccess j q).SlotRests k := by
  have h1 : ((s.endSlot j).setLatch q.bay q.direction.target).SlotRests k := by
    refine ⟨h.queue, ?_, (h.unreserved.drop (.latch j)).congr⟩
    refine (s.slot_setSlot j k .free).trans ?_
    split
    · rfl
    · exact h.slot
  exact (h1.latchSuccess _ _).slotService

theorem startDrive (h : s.SlotRests k) (j : SlotNo) : (s.startDrive j).SlotRests k := by
  unfold State.startDrive
  split
  · next q hj =>
    split
    · exact h.driveSuccess j q
    · refine ⟨h.queue, (s.slot_setSlot j k (.driving q)).trans ?_, h.unreserved⟩
      rw [if_neg]
      · exact h.slot
      · rintro rfl
        rw [h.slot] at hj
        cases hj
  · exact h
  · exact h

theorem tellActive (h : s.SlotRests k) (o : Owner) : (s.tellActive o).SlotRests k := by
  cases o with
  | latch j => exact h.startDrive j
  | lane l =>
    have hl := State.LatchesKept.wakeLane s l
    exact ⟨hl.queue.trans h.queue, (hl.slot k).trans h.slot, h.unreserved.wakeLane l⟩

theorem grantLanes : ∀ (n : Nat) {s : State}, s.SlotRests k → (State.grantLanes n s).SlotRests k
  | 0, _, h => h
  | n + 1, s, h => by
    unfold State.grantLanes
    split
    · split
      · split
        · next l _ _ b _ => exact grantLanes n ⟨h.queue, h.slot, h.unreserved.raise (by nofun) _⟩
        · exact h
      · exact h
    · exact h

theorem closeChange (h : s.SlotRests k) : s.closeChange.SlotRests k :=
  State.closeChange_keeps (P := fun t => t.SlotRests k) (fun _ _ _ h => h.congr)
    (fun t h => ⟨t.takePass_latchQueue.trans h.queue, (State.slot_congr t.takePass_slots k).trans h.slot, h.unreserved.takePass⟩)
    (fun _ h => ⟨h.queue, h.slot, h.unreserved.increased⟩) (fun _ o h => h.tellActive o) (fun _ h => h.congr)
    (fun t h => h.congr t.relamp_latchQueue t.relamp_slots t.relamp_reservations) (fun _ h => h.congr) s
    (grantLanes 4 (h.congr (t := s.requeue)))

end State.SlotRests

/-! ### Latch switches and drives -/

section
variable {s t : State} {b : BayNo} {k : SlotNo} {d : Direction}

theorem State.drivingSlot_eq_some (h : s.drivingSlot b = some k) : ∃ q, s.slot k = .driving q ∧ q.bay = b := by
  have := List.find?_some h
  split at this
  · exact ⟨_, ‹_›, by simpa using this⟩
  · simp at this

theorem State.driveAt_of_idle (h : s.LatchIdle b) : s.driveAt b = none := by
  unfold State.driveAt
  cases hk : s.drivingSlot b with
  | none => rfl
  | some k =>
    obtain ⟨q, hq, hb⟩ := State.drivingSlot_eq_some hk
    exact absurd hb (State.slotHolds_eq_false.mp h.1 k q (by rw [hq]; rfl))

/-- A drive of bay b in slot k is the one found there where no other slot holds a request for the bay. -/
theorem State.driveAt_of_driving (hk : s.slot k = .driving ⟨b, d⟩)
    (ho : ∀ j : SlotNo, j ≠ k → (s.slot j).request.map LatchRequest.bay ≠ some b) : s.driveAt b = some (k, ⟨b, d⟩) := by
  have hs : (s.drivingSlot b).isSome = true := State.drivingSlot_isSome.mpr ⟨k, ⟨b, d⟩, hk, rfl⟩
  obtain ⟨j, hj⟩ := Option.isSome_iff_exists.mp hs
  obtain ⟨q, hq, hb⟩ := State.drivingSlot_eq_some hj
  have e : j = k := by
    by_contra g
    exact ho j g (by rw [hq]; exact congrArg some hb)
  subst e
  unfold State.driveAt
  rw [hj]
  show (s.slot j).request.map _ = _
  rw [hk]
  rfl

theorem State.modBay_untouched (s : State) (b : BayNo) (f : Bay → Bay) : s.Untouched (s.modBay b f) [] [b] where
  records _ _ := rfl
  bays c hc := by
    rw [State.bay_modBay, if_neg fun e => hc (List.mem_singleton.mpr e.symm)]
  settings := ⟨rfl, rfl, rfl, rfl⟩
  time := ⟨rfl, rfl, rfl⟩
  windows := ⟨rfl, rfl, rfl, rfl⟩
  budget := ⟨rfl, rfl⟩
  keys := rfl
  events := ⟨rfl, fun _ => BitVec.and_self⟩

theorem positionOf_ite (x y : Bool) : positionOf x y =
    if x = true ∧ y = false then .locked else if x = false ∧ y = true then .unlocked else .unknown := by
  cases x <;> cases y <;> rfl

theorem latchSwitchChange_eq {x y : Bool} (hc : x ≠ (s.bay b).lockedSwitch ∨ y ≠ (s.bay b).unlockedSwitch) :
    s.latchSwitchChange b x y = match (s.setSwitches b x y).driveAt b with
      | some (k, q) => if ((s.setSwitches b x y).bay b).targetClosed q.direction then
          ((s.setSwitches b x y).driveSuccess k q).closeChange else s.setSwitches b x y
      | none => ((s.setSwitches b x y).setLatch b (positionOf x y)).slotService.closeChange := by
  unfold State.latchSwitchChange
  exact if_neg fun g => hc.elim (fun h => h g.1.symm) fun h => h g.2.symm

/-- A change of a position switch in a bay without a request re-derives its latch position (R134). -/
theorem latchSwitch_idle {x y : Bool} (hi : s.LatchIdle b) (hc : x ≠ (s.bay b).lockedSwitch ∨ y ≠ (s.bay b).unlockedSwitch) :
    ∃ t, exec (.latchSwitchChange b x y) s = .next t ∧ (t.bay b).lockedSwitch = x ∧ (t.bay b).unlockedSwitch = y ∧
      (t.bay b).latch = (if x = true ∧ y = false then .locked else if x = false ∧ y = true then .unlocked
        else .unknown) ∧ s.Untouched t [] [b] := by
  let u := (s.setSwitches b x y).setLatch b (positionOf x y)
  have hi' : u.LatchIdle b := hi
  have hu : u.Idles u.slotService.closeChange b := (State.Idles.slotService u b).trans (.closeChange _ b)
  have he : exec (.latchSwitchChange b x y) s = .next u.slotService.closeChange := by
    refine next_congr ((latchSwitchChange_eq hc).trans ?_)
    rw [State.driveAt_of_idle (s := s.setSwitches b x y) hi]
  have hb : (u.bay b).lockedSwitch = x ∧ (u.bay b).unlockedSwitch = y ∧ (u.bay b).latch = positionOf x y := by
    simp only [u, State.setLatch, State.setSwitches, State.bay_modBay]
    exact ⟨rfl, rfl, rfl⟩
  obtain ⟨h1, h2, h3⟩ := hb
  have hk := hu.frame.bay b
  exact ⟨_, he, hk.lockedSwitch.trans h1, hk.unlockedSwitch.trans h2, ((hu.latch hi').trans h3).trans (positionOf_ite x y),
    ((s.modBay_untouched b _).trans (State.setLatch_untouched _ b _)).trans hu.frame⟩

/-- With the slot that drives bay b given up, no request for the bay stands. -/
theorem State.endSlot_idle (ho : ∀ j : SlotNo, j ≠ k → (s.slot j).request.map LatchRequest.bay ≠ some b)
    (hq : ∀ q ∈ s.latchQueue, q.bay ≠ b) : (s.endSlot k).LatchIdle b := by
  refine ⟨State.slotHolds_eq_false.mpr fun j q hj hb => ?_, hq⟩
  have hs : (s.endSlot k).slot j = if k = j then .free else s.slot j := s.slot_setSlot k j .free
  rw [hs] at hj
  split at hj
  · cases hj
  · next e => exact ho j (Ne.symm e) (by rw [hj]; exact congrArg some hb)

/-- A slot whose drive has ended, with no request waiting (R138). -/
theorem State.endSlot_rests (s : State) (k : SlotNo) (hq : s.latchQueue = []) : (s.endSlot k).SlotRests k :=
  ⟨hq, (s.slot_setSlot k k .free).trans (if_pos rfl), State.Unreserved.dropped _ _⟩

/-- The release of a bay that opens: its entry, and RELEASE with the holder tag (R145). -/
theorem State.openRelease_leaves (s : State) (b : BayNo) (i : RecordIx) :
    (s.openRelease b i).release b = some ⟨i, .opened (s.clk32 + s.custodySettings.releaseLength) .waiting⟩ ∧
      ((s.link b).state ≠ .down → ∀ h : Nat, (s.record i).holder = some h →
        ((s.openRelease b i).link b).custody.Newest (.release h)) := by
  unfold State.openRelease
  simp only
  refine ⟨?_, fun hd h hh => ?_⟩
  · rw [State.release_placeCustodyOrder, State.release_setRelease, if_pos rfl]
  · have g := State.placeCustodyOrder_newest (s := s.setRelease b (some ⟨i, .opened (s.clk32 + s.custodySettings.releaseLength) .waiting⟩))
      (b := b) (.release ((s.record i).holder.getD 0)) hd
    have hd' : (s.record i).holder.getD 0 = h := by rw [hh]; rfl
    rw [← hd']
    exact g

theorem State.unlockingRecord_of_opened {i : RecordIx} {e : Nat} {o : OrderOutcome} (h : s.release b = some ⟨i, .opened e o⟩) :
    s.unlockingRecord b = none := by
  rw [Option.eq_none_iff_forall_ne_some]
  intro j hj
  obtain ⟨-, -, g⟩ := State.unlockingRecord_eq_some.mp hj
  rw [h] at g
  cases g

/-- What follows, and the close of the change, leave a release that is open as it is, with its order (R62, R145). -/
theorem State.Follows.opened (h : s.Follows t) {i : RecordIx} {e : Nat} {o : OrderOutcome} (hr : s.release b = some ⟨i, .opened e o⟩) :
    t.closeChange.release b = some ⟨i, .opened e o⟩ ∧
      ∀ x, (s.link b).custody.Newest x → t.closeChange.CustodyOrdered b x := by
  have hn := State.unlockingRecord_of_opened hr
  have ht : t.release b = some ⟨i, .opened e o⟩ := by
    obtain g | ⟨j, hj, -⟩ := h.release b
    · exact g.trans hr
    · rw [hn] at hj
      cases hj
  have hn' := State.unlockingRecord_of_opened ht
  exact ⟨(t.closeChange_release_of_none hn').trans ht,
    fun x hx => State.closeChange_custodyOrdered hn' (h.custodyNewest hn hx)⟩

/-- The drive of slot k for the one request of bay b ends in success (R138). -/
theorem State.driveSuccess_leaves (hk : s.slot k = .driving ⟨b, d⟩)
    (ho : ∀ j : SlotNo, j ≠ k → (s.slot j).request.map LatchRequest.bay ≠ some b) (hq : ∀ q ∈ s.latchQueue, q.bay ≠ b)
    (ht : t = (s.driveSuccess k ⟨b, d⟩).closeChange) : (t.bay b).latch = d.target ∧ s.Untouched t [] [] ∧
      (s.latchQueue = [] → t.slot k = .free ∧ ∀ e ∈ t.reservations, e.owner ≠ .latch k) ∧
      (∀ i : RecordIx, d = .lock → (s.bay b).record = some i → (t.record i).unsecured = false) ∧
      (∀ i : RecordIx, d = .unlock → (s.bay b).record = some i → (s.record i).custody = .releasing →
        s.release b = some ⟨i, .unlocking⟩ →
        t.release b = some ⟨i, .opened (s.clk32 + s.custodySettings.releaseLength) .waiting⟩ ∧
        ((s.link b).state ≠ .down → ∀ h : Nat, (s.record i).holder = some h → t.CustodyOrdered b (.release h))) := by
  let u := (s.endSlot k).setLatch b d.target
  let v := u.latchSuccess b d
  have htv : t = v.slotService.closeChange := ht
  have hl : (u.bay b).latch = d.target := by
    rw [State.Carries.bay_latch_setLatch, if_pos rfl]
  have hv := State.LatchesKept.latchSuccess u b d
  have hui : u.LatchIdle b := s.endSlot_idle ho hq
  have hvi : v.LatchIdle b := hv.idle hui
  have hi : v.Idles t b := by
    rw [htv]
    exact (State.Idles.slotService v b).trans (.closeChange _ b)
  have hb : ∀ i, (s.bay b).record = some i → (u.bay b).record = some i := fun i h =>
    (State.setLatch_untouched (s.endSlot k) b d.target).bay b |>.record.trans h
  refine ⟨(hi.latch hvi).trans ((hv.latch b).trans hl), ?_, fun h0 => ?_, fun i hd hr => ?_, fun i hd hr hc hx => ?_⟩
  · rw [ht]
    exact .after (State.closeChange_untouched _) (s.driveSuccess_untouched k _)
  · have hs : v.SlotRests k := ((s.endSlot_rests k h0).congr (t := u)).latchSuccess b d
    have h := hs.slotService.closeChange
    rw [← htv] at h
    exact ⟨h.slot, h.unreserved⟩
  · subst hd
    have hve : v = u.editRecord i fun r => { r with unsecured := false } := by
      show u.latchSuccess b .lock = _
      simp only [State.latchSuccess, hb i hr]
    have hvu : (v.record i).unsecured = false := by
      rw [hve, State.record_editRecord, if_pos rfl]
    obtain g | ⟨g, -⟩ := hi.unsecured hvi i
    · exact g.trans hvu
    · exact g
  · subst hd
    have hun : u.unlockingRecord b = some i := State.unlockingRecord_eq_some.mpr ⟨hb i hr, hc, by
      have : u.release b = s.release b := rfl
      rw [this, hx]
      rfl⟩
    have hve : v = u.openRelease b i := by
      show u.latchSuccess b .unlock = _
      simp only [State.latchSuccess, hun]
    obtain ⟨g1, g2⟩ := u.openRelease_leaves b i
    rw [← hve] at g1 g2
    obtain ⟨f1, f2⟩ := (State.Follows.slotService v).opened g1
    rw [← htv] at f1 f2
    exact ⟨f1, fun hd h hh => f2 _ (g2 hd h hh)⟩

/-- A drive that fails leaves the sets of subjects no smaller. -/
theorem State.latchFailure_grows (s : State) (b : BayNo) (d : Direction) : s.EventsGrow (s.latchFailure b d) := by
  have hr : s.EventsGrow s := ⟨rfl, fun _ => BitVec.and_self⟩
  cases d with
  | lock =>
    simp only [State.latchFailure]
    split
    · split
      · exact hr
      · exact hr
    · exact hr
  | unlock =>
    simp only [State.latchFailure]
    split
    · next i _ => exact (s.lapseRelease_leaves b i (State.Follows.lockUnlessService _ b)).1.2.events
    · exact hr

/-- The drive of slot k for the one request of bay b ends in failure (R138). -/
theorem State.driveFailure_leaves (hk : s.slot k = .driving ⟨b, d⟩)
    (ho : ∀ j : SlotNo, j ≠ k → (s.slot j).request.map LatchRequest.bay ≠ some b) (hq : ∀ q ∈ s.latchQueue, q.bay ≠ b)
    (ht : t = (s.driveFailure k ⟨b, d⟩).closeChange) : t.Holds Source.latchFault b.val ∧
        (d = .lock → (t.bay b).latch = .unknown) ∧
        (d = .lock → s.latchQueue = [] → t.slot k = .free ∧ ∀ e ∈ t.reservations, e.owner ≠ .latch k) ∧
        (∀ i : RecordIx, d = .lock → (s.bay b).record = some i → (s.record i).custody = .inCart →
          (∀ c : BayNo, (s.bay c).record = some i → c = b) → (t.record i).unsecured = true) ∧
        (∀ i : RecordIx, d = .unlock → (s.bay b).record = some i → (s.record i).custody = .releasing →
          s.release b = some ⟨i, .unlocking⟩ → t.release b = none ∧ t.Holds Source.releaseLapsed i.val ∧
            ((s.link b).state ≠ .down → t.CustodyOrdered b .lock) ∧ (s.service = none → t.LatchAsked b .lock) ∧
            s.Writes t i { s.record i with custody := .inCart, holder := none }) := by
  let u := ((s.endSlot k).setLatch b .unknown).addSubject Source.latchFault b.val
  let v := u.latchFailure b d
  have htv : t = v.slotService.closeChange := ht
  have hl : (u.bay b).latch = .unknown := by
    refine (State.Carries.bay_latch_setLatch (s.endSlot k) b .unknown b).trans (if_pos rfl)
  have hui : u.LatchIdle b := s.endSlot_idle ho hq
  have hsu : s.Untouched u [] [] :=
    .after (State.addSubject_untouched _ _ _) (.after (State.setLatch_untouched _ b .unknown) (s.endSlot_untouched k))
  have hb : ∀ c, (u.bay c).record = (s.bay c).record := fun c => (hsu.bay c).record
  have hrec : ∀ i, u.record i = s.record i := fun _ => rfl
  have hvt : v.Untouched t [] [] := by
    rw [htv]
    exact .after (State.closeChange_untouched _) v.slotService_untouched
  have hlock : d = .lock → u.LatchesKept v ∧ v.Unreserved (.latch k) := fun hd => by
    have hn : u.Unreserved (.latch k) := (State.Unreserved.dropped (s.setSlot k .free) (.latch k)).congr
    show u.LatchesKept (u.latchFailure b d) ∧ (u.latchFailure b d).Unreserved (.latch k)
    subst hd
    simp only [State.latchFailure]
    split
    · split
      · exact ⟨.of_bays, hn⟩
      · exact ⟨.refl u, hn⟩
    · exact ⟨.refl u, hn⟩
  have hi : v.Idles t b := by
    rw [htv]
    exact (State.Idles.slotService v b).trans (.closeChange _ b)
  refine ⟨?_, fun hd => ?_, fun hd h0 => ?_, fun i hd hr hc hu => ?_, fun i hd hr hc hx => ?_⟩
  · exact hvt.events.holds ((u.latchFailure_grows b d).holds (State.addSubject_holds _ _ (by omega)))
  · have hv := (hlock hd).1
    exact (hi.latch (hv.idle hui)).trans ((hv.latch b).trans hl)
  · obtain ⟨hv, hn⟩ := hlock hd
    have hs : v.SlotRests k := ⟨hv.queue.trans h0, (hv.slot k).trans ((s.slot_setSlot k k .free).trans (if_pos rfl)), hn⟩
    have h := hs.slotService.closeChange
    rw [← htv] at h
    exact ⟨h.slot, h.unreserved⟩
  · have hv := (hlock hd).1
    subst hd
    have hve : v = u.editRecord i fun r => { r with unsecured := true } := by
      show u.latchFailure b .lock = _
      simp only [State.latchFailure, (hb b).trans hr]
      exact if_pos hc
    have hvu : (v.record i).unsecured = true := by
      rw [hve, State.record_editRecord, if_pos rfl]
    obtain g | ⟨-, c, hcb, hcr⟩ := hi.unsecured (hv.idle hui) i
    · exact g.trans hvu
    · rw [hve] at hcr
      exact absurd (hu c ((hb c).symm.trans hcr)) hcb
  · subst hd
    have hun : u.unlockingRecord b = some i := State.unlockingRecord_eq_some.mpr ⟨(hb b).trans hr, hc, by
      have : u.release b = s.release b := rfl
      rw [this, hx]
      rfl⟩
    have hve : v = u.lapseRelease b i := by
      show u.latchFailure b .unlock = _
      simp only [State.latchFailure, hun]
    have hf : (u.lapsed b i).Follows v.slotService := by
      rw [hve, u.lapseRelease_eq]
      exact (State.Follows.lockUnlessService _ b).trans (.slotService _)
    obtain ⟨⟨h1, h2⟩, h3, h4, h5⟩ := u.lapseRelease_leaves b i hf
    have ha : s.service = none → v.slotService.Asks b .lock := fun hs => by
      rw [hve]
      exact (u.lapseRelease_asks b i hs (.inl hui)).slotService
    have hn := State.unlockingRecord_of_release h4
    have hw : s.Writes v.slotService.closeChange i (s.record i).lapsed :=
      ⟨h1.trans (State.closeChange_record _ i), (hsu.trans h2).closeChange⟩
    have hc1 := (State.closeChange_release_of_none _ hn).trans h4
    have hc2 := State.closeChange_holds _ h3
    have hc3 := fun hd => State.closeChange_custodyOrdered hn (h5 hd)
    have hc4 := fun hs => (ha hs).closeChange.asked
    rw [← htv] at hw hc1 hc2 hc3 hc4
    exact ⟨hc1, hc2, hc3, hc4, hw⟩

end

/-- Settles O48, by what a change of the switches finds and by the two ends of a drive. -/
theorem drivesEndBySwitchOrTimer : Obligations.DrivesEndBySwitchOrTimer := by
  unfold Obligations.DrivesEndBySwitchOrTimer
  refine ⟨fun s b x y hi hc => latchSwitch_idle hi hc, fun s b k d x y hk ho hq hc hx => ?_, fun s b k d hk ho hq => ?_⟩
  · have he : exec (.latchSwitchChange b x y) s = .next ((s.setSwitches b x y).driveSuccess k ⟨b, d⟩).closeChange := by
      refine next_congr ((latchSwitchChange_eq hc).trans ?_)
      rw [State.driveAt_of_driving (s := s.setSwitches b x y) hk ho]
      refine if_pos ?_
      simp only [State.setSwitches, State.bay_modBay]
      cases d with
      | lock => exact hx
      | unlock => exact hx
    have hb : ∀ i, (s.bay b).record = some i → ((s.setSwitches b x y).bay b).record = some i := fun i hi => by
      simp only [State.setSwitches, State.bay_modBay]
      exact hi
    obtain ⟨h1, h2, h3, h4, h5⟩ := State.driveSuccess_leaves (s := s.setSwitches b x y) hk ho hq rfl
    exact ⟨_, he, h1, (s.modBay_untouched b _).trans h2, h3, fun i hd hi => h4 i hd (hb i hi),
      fun i hd hi => h5 i hd (hb i hi)⟩
  · have he : exec (.driveTimeout k) s = .next (s.driveFailure k ⟨b, d⟩).closeChange := by
      refine next_congr ?_
      unfold State.driveTimeout
      rw [hk]
    exact ⟨_, he, State.driveFailure_leaves hk ho hq rfl⟩

end Sys2Proof.Machine
end

section
/-! SUPPORT. The end of a session where its change closes, with no lane granted in its place, and the settling of O43 (R118 to
R125). -/

namespace Sys2Proof.Machine

set_option Elab.async false

/-! ### The mark of a bay's lane -/

section
variable (s : State)

theorem State.latchSuccess_bays (b : BayNo) (d : Direction) : (s.latchSuccess b d).bays = s.bays := by
  cases d with
  | lock =>
    simp only [State.latchSuccess]
    split <;> rfl
  | unlock =>
    simp only [State.latchSuccess]
    split
    · unfold State.openRelease
      rw [State.placeCustodyOrder_only]
      rfl
    · rfl

theorem State.serviceOne_bays (q : LatchRequest) : (s.serviceOne q).bays = s.bays := by
  unfold State.serviceOne
  split
  · rfl
  · split
    · exact State.latchSuccess_bays _ _ _
    · split <;> rfl

theorem State.slotService_bays : s.slotService.bays = s.bays := by
  have h : ∀ (l : List LatchRequest) (t : State), (l.foldl State.serviceOne t).bays = t.bays := fun l => by
    induction l with
    | nil => exact fun _ => rfl
    | cons q l ih => exact fun t => (ih _).trans (t.serviceOne_bays q)
  exact h _ s

theorem State.wakeLane_bays (l : LaneNo) : (s.wakeLane l).bays = s.bays := by
  unfold State.wakeLane
  split
  · split
    · simp only
      rw [State.placeLaneOrder_only]
      rfl
    · rfl
  · rfl

theorem State.driveSuccess_lane (k : SlotNo) (q : LatchRequest) (b : BayNo) :
    ((s.driveSuccess k q).bay b).lane = (s.bay b).lane := by
  have h : (s.driveSuccess k q).bays = ((s.endSlot k).setLatch q.bay q.direction.target).bays :=
    (State.slotService_bays _).trans (State.latchSuccess_bays _ _ _)
  rw [State.bay_congr h]
  exact (State.Carries.bay_same_setLatch (s.endSlot k) q.bay _ b).1

theorem State.tellActive_lane (o : Owner) (b : BayNo) : ((s.tellActive o).bay b).lane = (s.bay b).lane := by
  cases o with
  | lane l => exact congrArg Bay.lane (State.bay_congr (s.wakeLane_bays l) b)
  | latch k =>
    show ((s.startDrive k).bay b).lane = _
    unfold State.startDrive
    split
    · split
      · exact s.driveSuccess_lane k _ b
      · exact (State.Carries.bay_same_setLatch (s.setSlot k _) _ _ b).1
    · rfl
    · rfl

/-- The lane of a bay is that of the grants alone where a change closes (R116). -/
theorem State.closeChange_laneMark (b : BayNo) : (s.closeChange.bay b).lane = (s.granted.bay b).lane :=
  State.closeChange_keeps (P := fun t => (t.bay b).lane = (s.granted.bay b).lane) (fun _ _ _ h => h)
    (fun t h => by rw [t.takePass_bay]; exact h) (fun _ h => h) (fun t o h => (t.tellActive_lane o b).trans h)
    (fun _ h => h) (fun t h => by rw [t.relamp_bay]; exact h) (fun _ h => h) s rfl

end

/-! ### Reservations of lanes -/

section
variable {s : State} {l : LaneNo}

theorem State.Unreserved.slotService (h : s.Unreserved (.lane l)) : s.slotService.Unreserved (.lane l) := by
  have one : ∀ (s : State) (q : LatchRequest), s.Unreserved (.lane l) → (s.serviceOne q).Unreserved (.lane l) := fun s q h => by
    unfold State.serviceOne
    split
    · exact h
    · split
      · exact State.Unreserved.latchSuccess (s := { s with latchQueue := s.latchQueue.erase q }) h _ _
      · split
        · next k _ =>
          exact State.Unreserved.raise (s := State.setSlot { s with latchQueue := s.latchQueue.erase q } k (.reserving q))
            (p := .latch k) h (by nofun) _
        · exact h
  have all : ∀ (m : List LatchRequest) (s : State), s.Unreserved (.lane l) → (m.foldl State.serviceOne s).Unreserved (.lane l) :=
    fun m => by
      induction m with
      | nil => exact fun _ h => h
      | cons q m ih => exact fun s h => ih _ (one s q h)
  exact all _ s h

theorem State.Unreserved.startDrive (h : s.Unreserved (.lane l)) (k : SlotNo) : (s.startDrive k).Unreserved (.lane l) := by
  unfold State.startDrive
  split
  · next q _ =>
    split
    · have h1 : ((s.endSlot k).setLatch q.bay q.direction.target).Unreserved (.lane l) := (h.drop (.latch k)).congr
      exact (h1.latchSuccess _ _).slotService
    · exact h
  · exact h
  · exact h

/-- No reservation of a lane comes of what follows the grants (R91, R116). -/
theorem State.Unreserved.closeChange (h : s.granted.Unreserved (.lane l)) : s.closeChange.Unreserved (.lane l) :=
  State.closeChange_keeps (P := fun t => t.Unreserved (.lane l)) (fun _ _ _ h => h) (fun _ h => h.takePass)
    (fun _ h => h.increased) (fun _ o h => match o with
      | .latch k => h.startDrive k
      | .lane m => h.wakeLane m) (fun _ h => h) (fun t h => h.congr t.relamp_reservations) (fun _ h => h) s h

end

/-! ### The end of a session -/

section
variable {s t : State} {l : LaneNo} {x : Session} {r : SessionResult}

theorem State.granted_of_not_permitted (h : s.grantsPermitted = false) : s.granted = s.requeue :=
  State.grantLanes_of_not_permitted _ 4 h

/-- A session that has ended has left its lane and its bay where the change closes with no grant (R125). -/
theorem State.Ends.freed (h : s.Ends t l x r) (hx : (s.lane l).session = some x) : s.LaneFreed t.closeChange l x := by
  intro hp
  have hl := h.lane l
  rw [if_pos rfl] at hl
  have hpt : t.grantsPermitted = false := by
    unfold State.grantsPermitted
    rw [h.only]
    exact hp
  have hgr := State.granted_of_not_permitted hpt
  have hgl : ∀ m, t.granted.lane m = t.lane m := fun m => by
    rw [hgr]
    rfl
  have hlane : t.closeChange.lane l = t.lane l := by
    obtain e | ⟨y, hy, -, -⟩ := t.granted_follows.lane l
    · rw [e, hgl]
    · rw [hgl, hl] at hy
      cases hy
  refine ⟨by rw [hlane, hl], by rw [hlane, hl], ?_, ?_, fun hn hlw hon hr hd => ?_⟩
  · rw [t.closeChange_laneMark, hgr]
    show (t.bay x.bay).lane = none
    rw [h.bay, if_pos rfl]
  · refine State.Unreserved.closeChange ?_
    rw [hgr]
    have hu : t.Unreserved (.lane l) := fun e he => by
      rw [h.reservations] at he
      simpa using (List.mem_filter.mp he).2
    exact hu
  · have hq := h.quiet hon hr hd
    refine (t.closeChange_link x.bay).lane_newest (fun y hy => ?_) hq
    obtain ⟨m, z, rfl, hz, -, hb⟩ := hy
    rw [hgl, h.lane] at hz
    split at hz
    · cases hz
    · next e =>
      obtain ⟨-, -, h3, -⟩ := hlw
      exact absurd (h3 l m x hx z hz (.inl hb.symm)) e

theorem State.Ends.closed (h : s.Ends t l x r) : (t.closeChange.lane l).last = some ⟨r, x.record, x.phase.claimed⟩ ∧
    t.closeChange.Holds Source.laneEnd l.val := by
  have hl := h.lane l
  rw [if_pos rfl] at hl
  exact ⟨(t.closeChange_last l).trans (by rw [hl]), t.closeChange_holds h.ended⟩

theorem State.Ends.untouched (h : s.Ends t l x r) :
    State.Untouched (s.putRecord x.record ((s.record x.record).afterSession s.laneSettings.failureLimit r)) t [] [] where
  records i _ := by
    rw [h.record, State.record_putRecord]
    split
    · next e => subst e; rfl
    · rfl
  bays b _ := by
    rw [h.bay]
    split <;> rfl
  settings := by rw [h.only]; exact ⟨rfl, rfl, rfl, rfl⟩
  time := by rw [h.only]; exact ⟨rfl, rfl, rfl⟩
  windows := by rw [h.only]; exact ⟨rfl, rfl, rfl, rfl⟩
  budget := by rw [h.only]; exact ⟨rfl, rfl⟩
  keys := by rw [h.only]; rfl
  events := h.events

end

/-! ### LANE_DONE -/

/-- No lane but l has a session in bay b, and no record that waits is docked there. -/
def State.SoleSeat (s : State) (l : LaneNo) (b : BayNo) : Prop :=
  (∀ m y, (s.lane m).session = some y → y.bay = b → m = l) ∧ ∀ i ∈ s.queue, (s.record i).currentBay ≠ some b

section
variable {s : State} {l : LaneNo} {x : Session} {b : BayNo}

theorem State.SoleSeat.grantLanes : ∀ (n : Nat) {s : State}, s.SoleSeat l b → (State.grantLanes n s).SoleSeat l b
  | 0, _, h => h
  | n + 1, s, h => by
    unfold State.grantLanes
    split
    · split
      · next i rest m hq _ =>
        split
        · next c hc =>
          obtain ⟨h1, h2⟩ := h
          refine grantLanes n ⟨fun j y hy hb => ?_, fun j hj => h2 j (List.mem_of_mem_erase hj)⟩
          rw [State.Grants.lane_grantLane] at hy
          split at hy
          · cases hy
            exact absurd (hc.trans (congrArg some hb)) (h2 i (by rw [hq]; exact List.mem_cons_self))
          · exact h1 j y hy hb
        · exact h
      · exact h
    · exact h

/-- A bay's session that is the only one there, of the only record docked there, is so also among the records that wait where a
change closes (R110, R115). -/
theorem State.soleSeat (hx : (s.lane l).session = some x) (h1 : ∀ m y, (s.lane m).session = some y → y.bay = x.bay → m = l)
    (hr : ∀ i, (s.record i).currentBay = some x.bay → i = x.record) : s.requeue.SoleSeat l x.bay := by
  refine ⟨h1, fun i hi hb => ?_⟩
  have he : s.eligible i = true := by
    obtain hi | hi := List.mem_append.mp hi
    · exact (List.mem_filter.mp hi).2
    · have := (List.mem_filter.mp hi).2
      simp only [Bool.and_eq_true] at this
      exact this.1
  have hno : s.laneOf i = none := by
    unfold State.eligible at he
    simp only [Bool.and_eq_true, Option.isNone_iff_eq_none] at he
    exact he.2
  exact State.Carries.laneOf_eq_none.mp hno l x hx (hr i hb).symm

/-- Under the naming and lane laws the bay of a session names its record and has no other session (R2, R115). -/
theorem State.LaneLaw.seat (hl : s.LaneLaw) (hn : s.NamingLaw) (hx : (s.lane l).session = some x) :
    (∀ m y, (s.lane m).session = some y → y.bay = x.bay → m = l) ∧ ∀ i, (s.record i).currentBay = some x.bay → i = x.record := by
  obtain ⟨h1, -, h3, -⟩ := hl
  refine ⟨fun m y hy hb => h3 m l y hy x hx (.inl hb), fun i hb => ?_⟩
  have hr := (hn.1 _ _).mp (h1 l x hx).2.1
  exact Option.some.inj (((hn.1 _ _).mp hb).symm.trans hr)

theorem State.placeLaneOrder_fields (s : State) (b : BayNo) (o : LaneOrder) : (s.placeLaneOrder b o).lanes = s.lanes ∧
    (s.placeLaneOrder b o).roster = s.roster := by
  rw [State.placeLaneOrder_only]
  exact ⟨rfl, rfl⟩

/-- The lane of a session that closes, before the orders that go with it (R120). -/
def State.closingLane (s : State) (l : LaneNo) (x : Session) (g : Byte) : State :=
  s.setLane l { s.lane l with session := some { x with phase := .closing g }, switch := none }

theorem State.closeSession_eq (g : Byte) : s.closeSession l x g =
    (((s.closingLane l x g).placeLaneOrder x.bay .quiet).modLink x.bay Link.requestVerify).pumpLink x.bay := rfl

theorem State.closeSession_lane (g : Byte) (m : LaneNo) : (s.closeSession l x g).lane m = (s.closingLane l x g).lane m := by
  have h := (State.placeLaneOrder_fields (s.closingLane l x g) x.bay .quiet).1
  exact State.lane_congr h m

theorem State.closeSession_untouched (g : Byte) : s.Untouched (s.closeSession l x g) [] [] :=
  .after (State.pumpLink_untouched _ _) (.after (State.modLink_untouched _ _ _) (.after (State.placeLaneOrder_untouched _ _ _)
    (.tables (t := s.closingLane l x g) rfl rfl)))

theorem State.closeSession_link (g : Byte) : ((s.closeSession l x g).link x.bay).verify = true ∧
    ((s.link x.bay).state ≠ .down → ((s.closeSession l x g).link x.bay).lane.Newest .quiet) := by
  rw [State.closeSession_eq, State.link_pumpLink, if_pos rfl, State.link_modLink, if_pos rfl]
  refine ⟨(Link.pump_pumped _ _).kept.verify, fun hd => (Link.pump_pumped _ _).lane.newest ?_⟩
  exact State.placeLaneOrder_newest (s := s.closingLane l x g) .quiet hd

end

/-- LANE_DONE of a CONNECTED session (R120). -/
theorem laneDone_accepted {s : State} {n g : Byte} {l : LaneNo} {x : Session} {k : Nat} (hn : n.toNat = l.val)
    (hx : (s.lane l).session = some x) (hp : x.phase = .connected k) : ∃ t, exec (.laneDone n g) s = .next t ∧ t.Says .done [] ∧
      (t.lane l).session = some { x with phase := .closing g } ∧ (t.lane l).switch = none ∧
      (t.link x.bay).verify = true ∧ s.Untouched t [] [] ∧
      (s.NamingLaw → s.LaneLaw → (s.link x.bay).state ≠ .down → t.LaneOrdered x.bay .quiet) := by
  let u := s.closeSession l x g
  have he : exec (.laneDone n g) s = .next (u.closeChange.respond .done []) := by
    refine next_congr (Eq.trans ?_ (u.finish_eq .done fun _ => []))
    unfold State.laneDone
    rw [laneNo?_of_eq hn]
    simp only [hx, hp]
    rfl
  have hul : ∀ m, u.lane m = if l = m then
      { s.lane l with session := some { x with phase := .closing g }, switch := none } else s.lane m := fun m =>
    (State.closeSession_lane g m).trans (s.lane_setLane l m _)
  have hl := hul l
  rw [if_pos rfl] at hl
  obtain ⟨hv, hq⟩ := State.closeSession_link (s := s) (l := l) (x := x) g
  have hcl : u.closeChange.lane l = u.lane l := u.closeChange_lane (congrArg Lane.session hl) (by nofun)
  have hcv : (u.closeChange.link x.bay).verify = true := (u.closeChange_link x.bay).kept.verify.trans hv
  have hcu := (State.closeSession_untouched (s := s) (l := l) (x := x) g).closeChange
  have hcq : s.NamingLaw → s.LaneLaw → (s.link x.bay).state ≠ .down → u.closeChange.LaneOrdered x.bay .quiet := fun h1 h2 h3 => by
    obtain ⟨g1, g2⟩ := h2.seat h1 hx
    have hrec : ∀ i, u.record i = s.record i := fun i =>
      State.record_congr (State.placeLaneOrder_fields (s.closingLane l x g) x.bay .quiet).2 i
    have hs : u.requeue.SoleSeat l x.bay := by
      refine State.soleSeat (x := { x with phase := .closing g }) (congrArg Lane.session hl) (fun m y hy hb => ?_)
        fun i hi => g2 i (hrec i ▸ hi)
      rw [hul] at hy
      split at hy
      · next e => exact e.symm
      · exact g1 m y hy hb
    have hgl := u.granted_grants.held l (by rw [hl]; rfl)
    refine (u.closeChange_link x.bay).lane_newest (fun y hy => ?_) (hq h3)
    obtain ⟨m, z, rfl, hz, hzp, hb⟩ := hy
    obtain rfl := (hs.grantLanes 4).1 m z hz hb
    have hz' : (u.granted.lane m).session = some z := hz
    rw [hgl, hl] at hz'
    cases hz'
    cases hzp
  generalize u.closeChange = w at he hcl hcv hcu hcq
  exact ⟨_, he, w.respond_says _ _, congrArg Lane.session (hcl.trans hl), congrArg Lane.switch (hcl.trans hl), hcv,
    hcu.trans (w.respond_untouched _ _), hcq⟩

/-! ### LANE_CANCEL and the lane timers -/

section
variable {s : State} {n g : Byte} {l : LaneNo} {x : Session} {k : Nat}

/-- LANE_CANCEL of a session that is not CLOSING (R123). -/
theorem laneCancel_accepted (hn : n.toNat = l.val) (hx : (s.lane l).session = some x) (hp : ∀ c : Byte, x.phase ≠ .closing c) :
    ∃ t, exec (.laneCancel n) s = .next t ∧ t.Says .done [] ∧
      (t.lane l).last = some ⟨.cancelled, x.record, none⟩ ∧ t.Holds Source.laneEnd l.val ∧ s.Untouched t [] [] ∧
      s.LaneFreed t l x := by
  have hc : x.phase.isClosing = false ∧ x.phase.claimed = none := by
    cases h : x.phase with
    | closing c => exact absurd h (hp c)
    | admitting | waking | connected => exact ⟨rfl, rfl⟩
  let u := s.endSession l .cancelled
  have he : exec (.laneCancel n) s = .next (u.closeChange.respond .done []) := by
    refine next_congr (Eq.trans ?_ (u.finish_eq .done fun _ => []))
    unfold State.laneCancel
    rw [laneNo?_of_eq hn]
    simp only [hx, hc.1]
    rfl
  have h : s.Ends u l x .cancelled := State.endSession_ends .cancelled hx
  obtain ⟨h1, h2⟩ := h.closed
  rw [hc.2] at h1
  have h3 := h.freed hx
  have hu := h.untouched
  rw [Record.afterSession_of_neither (r := .cancelled) rfl (by nofun)] at hu
  have hs : s.Untouched (s.putRecord x.record (s.record x.record)) [] [] :=
    ⟨fun i _ => by
      rw [State.record_putRecord]
      split
      · next e => subst e; rfl
      · rfl, fun _ _ => rfl, ⟨rfl, rfl, rfl, rfl⟩, ⟨rfl, rfl, rfl⟩, ⟨rfl, rfl, rfl, rfl⟩, ⟨rfl, rfl⟩, rfl,
      ⟨rfl, fun _ => BitVec.and_self⟩⟩
  have h4 := (hs.trans hu).closeChange
  generalize u.closeChange = w at he h1 h2 h3 h4
  exact ⟨_, he, w.respond_says _ _, h1, h2, h4.trans (w.respond_untouched _ _), h3⟩

theorem Record.afterSession_of_failure {r : SessionResult} {y : Record} (hf : r.isFailure = true) (hc : y.custody ≠ .free) (m : Nat) :
    y.afterSession m r = { y with
      failureCount := min 7 (y.failureCount + 1)
      provStuck := y.provStuck || decide (m ≤ min 7 (y.failureCount + 1)) } := by
  unfold Record.afterSession
  have hs : r ≠ .success := by
    rintro rfl
    cases hf
  rw [if_neg hc, if_neg hs, if_pos hf]

/-- A session that ends in a failure, its change closed (R118, R119, R125). -/
theorem State.failed_session {r : SessionResult} {t : State} (hx : (s.lane l).session = some x)
    (hc : (s.record x.record).custody ≠ .free) (hf : r.isFailure = true) (hp : x.phase.claimed = none)
    (ht : t = (s.endSession l r).closeChange) :
    (t.lane l).last = some ⟨r, x.record, none⟩ ∧ t.Holds Source.laneEnd l.val ∧
      s.Writes t x.record { s.record x.record with
        failureCount := min 7 ((s.record x.record).failureCount + 1)
        provStuck := (s.record x.record).provStuck ||
          decide (s.laneSettings.failureLimit ≤ min 7 ((s.record x.record).failureCount + 1)) } ∧
      s.LaneFreed t l x := by
  have h := State.endSession_ends r hx
  obtain ⟨h1, h2⟩ := h.closed
  rw [hp] at h1
  have hu := h.untouched.closeChange
  rw [Record.afterSession_of_failure hf hc] at hu
  have h3 := h.freed hx
  rw [← ht] at h1 h2 h3 hu
  exact ⟨h1, h2, State.Untouched.writes hu, h3⟩

end

/-- Settles O43, each request and timer by the phase it finds the session in. -/
theorem laneSessionsCloseAndEnd : Obligations.LaneSessionsCloseAndEnd := by
  unfold Obligations.LaneSessionsCloseAndEnd
  intro s n g l x k
  refine ⟨fun hn hx hp => laneDone_accepted hn hx hp, fun hn hx hp => laneCancel_accepted hn hx hp, fun c r hx hc h => ?_,
    fun hn h => ?_, fun hn hx hp => ?_, fun hn => ⟨?_, ?_⟩⟩
  · obtain ⟨rfl, hp, rfl⟩ | ⟨rfl, hp, rfl⟩ := h
    · refine ⟨_, next_congr ?_, State.failed_session hx hc rfl (by rw [hp]; rfl) rfl⟩
      unfold State.wakeTimeout
      simp only [hx]
      exact if_pos hp
    · refine ⟨_, next_congr ?_, State.failed_session hx hc rfl (by rw [hp]; rfl) rfl⟩
      unfold State.sessionTimeout
      simp only [hx]
      exact if_pos (by rw [hp]; rfl)
  · have hl := laneNo?_of_eq hn
    obtain hx | ⟨c, hx, hp⟩ := h
    · refine ⟨next_congr ?_, next_congr ?_⟩
      · unfold State.laneDone
        rw [hl]
        simp only [hx]
        rfl
      · unfold State.laneCancel
        rw [hl]
        simp only [hx]
        rfl
    · refine ⟨next_congr ?_, next_congr ?_⟩
      · unfold State.laneDone
        rw [hl]
        simp only [hx, hp]
        rfl
      · unfold State.laneCancel
        rw [hl]
        simp only [hx, hp]
        rfl
  · refine next_congr ?_
    unfold State.laneDone
    rw [laneNo?_of_eq hn]
    obtain hp | hp := hp <;> simp only [hx, hp] <;> rfl
  · refine next_congr ?_
    unfold State.laneDone
    rw [laneNo?_of_ge hn]
    rfl
  · refine next_congr ?_
    unfold State.laneCancel
    rw [laneNo?_of_ge hn]
    rfl

end Sys2Proof.Machine
end

section
/-! SUPPORT. What other bays' operations leave of a bay that rests, of a bay that holds no tablet and of a latch request that has
gone, and partners released (R29, R35, R141). -/

namespace Sys2Proof.Machine

set_option Elab.async false

/-! ### A bay left alone -/

/-- Bay p keeps its identity; its link is given at most orders and the time for them; and without power and target its output
and a grant of 0 stay. -/
structure State.Spares (s t : State) (p : BayNo) : Prop where
  settings : t.linkSettings = s.linkSettings
  bay : (s.bay p).IdentityKept (t.bay p)
  link : Link.Fed s.linkSettings (fun _ => True) (fun _ => True) (s.link p) (t.link p)
  still : (s.bay p).state.switchedOff → (s.output p).target = none →
    t.output p = s.output p ∧ ((s.bay p).grant = 0 → (t.bay p).grant = 0)

section
variable {s t u : State} {p b : BayNo}

theorem State.Spares.refl (s : State) (p : BayNo) : s.Spares s p := ⟨rfl, rfl, .refl, fun _ _ => ⟨rfl, id⟩⟩

theorem State.Spares.trans (h : s.Spares t p) (g : t.Spares u p) : s.Spares u p where
  settings := g.settings.trans h.settings
  bay := h.bay.trans g.bay
  link := by
    have k := g.link
    rw [h.settings] at k
    exact h.link.trans k
  still ho ht := by
    obtain ⟨h1, h2⟩ := h.still ho ht
    obtain ⟨g1, g2⟩ := g.still (h.bay.state ▸ ho) (h1 ▸ ht)
    exact ⟨g1.trans h1, g2 ∘ h2⟩

/-- What leaves the bay, its link and its output as they are. -/
theorem State.Spares.of_eq (hb : t.bay p = s.bay p) (hl : t.link p = s.link p) (ho : t.output p = s.output p)
    (hs : t.linkSettings = s.linkSettings := by rfl) : s.Spares t p where
  settings := hs
  bay := by rw [hb]
  link := by
    rw [hl]
    exact .refl
  still _ _ := ⟨ho, fun h => hb ▸ h⟩

theorem State.Follows.spares (h : s.Follows t) (p : BayNo) : s.Spares t p :=
  ⟨h.frame.settings.1, h.frame.bay p, (h.link p).mono (fun _ _ => trivial) fun _ _ => trivial, h.still p⟩

theorem State.Unseats.spares {i : RecordIx} {r : SessionResult} (h : s.Unseats t i r) (p : BayNo) : s.Spares t p where
  settings := h.frame.settings.1
  bay := h.frame.bay p
  link := (h.link p).mono (fun _ _ => trivial) fun _ _ => trivial
  still _ _ := by
    refine ⟨?_, fun g => ?_⟩
    · rw [h.only]
      rfl
    · rw [h.bay p]
      exact g

theorem State.closeChange_spares (s : State) (p : BayNo) : s.Spares s.closeChange p :=
  ⟨s.closeChange_untouched.settings.1, s.closeChange_bay p, (s.closeChange_link p).mono (fun _ _ => trivial) fun _ _ => trivial,
    s.closeChange_still⟩

theorem State.placeCustodyOrder_spares (s : State) (b : BayNo) (x : CustodyOrder) (p : BayNo) : s.Spares (s.placeCustodyOrder b x) p where
  settings := (s.placeCustodyOrder_untouched b x).settings.1
  bay := (s.placeCustodyOrder_untouched b x).bay p
  link := s.placeCustodyOrder_fed b p fun _ => trivial
  still _ _ := by
    rw [State.placeCustodyOrder_only]
    exact ⟨rfl, id⟩

theorem State.modBay_spares (s : State) {b : BayNo} (f : Bay → Bay) (h : b ≠ p) : s.Spares (s.modBay b f) p :=
  .of_eq ((State.bay_modBay s b p f).trans (if_neg h)) rfl rfl

theorem State.modLink_spares (s : State) {b : BayNo} (f : Link → Link) (h : b ≠ p) : s.Spares (s.modLink b f) p :=
  .of_eq rfl ((s.link_modLink b p f).trans (if_neg h)) rfl

/-! ### A bay that rests -/

theorem State.LinkStarts.spares {n : Nat} (h : s.LinkStarts p n) (g : s.Spares t p) : t.LinkStarts p n := by
  obtain ⟨h1, h2, h3, h4, h5, h6, h7, h8⟩ := h
  have e := g.link.of_busy (by simp [h1])
  unfold State.LinkStarts
  rw [e]
  exact ⟨h1, h2, h3, h4, h5, h6, h7, h8⟩

theorem State.OutputDropped.spares {c : ChargeState} (h : s.OutputDropped p c) (ho : (s.bay p).state.switchedOff)
    (g : s.Spares t p) : t.OutputDropped p c := by
  obtain ⟨h1, h2, h3, h4, h5, h6, h7⟩ := h
  obtain ⟨e, hg⟩ := g.still ho h5
  unfold State.OutputDropped
  rw [e]
  exact ⟨h1, h2, h3, h4, h5, h6, hg h7⟩

/-- A partner released stays so. -/
theorem State.PartnerReleased.spares (h : s.PartnerReleased t p) (g : t.Spares u p) : s.PartnerReleased u p := by
  obtain ⟨h1, h2⟩ := h
  refine ⟨fun hs => ?_, fun hs => ?_⟩
  · obtain ⟨k1, k2, k3, k4, k5⟩ := h1 hs
    exact ⟨g.bay.state.trans k1, g.bay.reportedId.trans k2, g.bay.partner.trans k3, k4.spares g,
      k5.spares (.inr (.inr (.inl k1))) g⟩
  · obtain ⟨k1, k2, k3, k4⟩ := h2 hs
    exact ⟨g.bay.state.trans k1, g.bay.faultReason.trans k2, g.bay.reportedId.trans k3, g.bay.partner.trans k4⟩

/-- A bay without a tablet, its link DOWN and its output at rest, stays so (R29). -/
theorem State.BayCleared.spares (h : s.BayCleared b) (ho : (s.bay b).state.switchedOff) (g : s.Spares t b) : t.BayCleared b := by
  obtain ⟨⟨h1, h2, h3, h4, h5, h6, h7⟩, hl, o1, o2, o3, o4, o5, o6⟩ := h
  obtain ⟨e, hg⟩ := g.still ho o5
  refine ⟨⟨g.bay.record.trans h1, g.bay.reportedId.trans h2, g.bay.foreignCause.trans h3, g.bay.partner.trans h4,
    g.bay.faultReason.trans h5, g.bay.recovery.trans h6, hg h7⟩, (g.link.of_down (by rw [hl]; rfl)).trans hl, ?_⟩
  rw [e]
  exact ⟨o1, o2, o3, o4, o5, o6⟩

end

/-! ### Outputs dropped and partners released -/

section
variable (s : State) (b : BayNo) (c : ChargeState)

theorem State.dropOutput_bay (p : BayNo) : (s.dropOutput b c).bay p = if b = p then { s.bay b with grant := 0 } else s.bay p :=
  State.bay_modBay (s.modOutput b _) b p _

theorem State.dropOutput_output (p : BayNo) : (s.dropOutput b c).output p = if b = p then (s.output b).drop c else s.output p :=
  s.output_modOutput b p _

theorem State.dropOutput_untouched : s.Untouched (s.dropOutput b c) [] [] :=
  .of_bays rfl (fun p => by
    rw [State.dropOutput_bay]
    split
    · next h => subst h; rfl
    · rfl) ⟨⟨⟨rfl, rfl, rfl, rfl⟩, ⟨rfl, rfl, rfl⟩, ⟨rfl, rfl, rfl, rfl⟩⟩, ⟨rfl, rfl⟩, rfl, rfl⟩

theorem State.dropOutput_spares {p : BayNo} (h : b ≠ p) : s.Spares (s.dropOutput b c) p :=
  .of_eq ((s.dropOutput_bay b c p).trans (if_neg h)) rfl ((s.dropOutput_output b c p).trans (if_neg h))

theorem State.dropOutput_dropped : (s.dropOutput b c).OutputDropped b c := by
  unfold State.OutputDropped
  rw [State.dropOutput_output, State.dropOutput_bay, if_pos rfl, if_pos rfl]
  exact ⟨rfl, rfl, rfl, rfl, rfl, rfl, rfl⟩

end

/-! ### Bring-ups that begin -/

/-- Bay c is rewritten, a fresh bring-up of its link begins, and its output is dropped (R28, R35). -/
def State.broughtUp (s : State) (c : BayNo) (f : Bay → Bay) : State :=
  ((s.modBay c f).modLink c (Link.beginBringup true)).dropOutput c .off

section
variable (s : State) (c : BayNo) (f : Bay → Bay)

theorem State.broughtUp_bay : (s.broughtUp c f).bay c = { f (s.bay c) with grant := 0 } := by
  unfold State.broughtUp
  rw [State.dropOutput_bay, if_pos rfl]
  have h : ((s.modBay c f).modLink c (Link.beginBringup true)).bay c = f (s.bay c) :=
    (State.bay_modBay s c c f).trans (if_pos rfl)
  rw [h]

theorem State.broughtUp_linkStarts : (s.broughtUp c f).LinkStarts c 0 := by
  have h : (s.broughtUp c f).link c = Link.beginBringup true (s.link c) := (State.link_modLink _ c c _).trans (if_pos rfl)
  unfold State.LinkStarts
  rw [h]
  exact ⟨rfl, rfl, rfl, rfl, rfl, rfl, rfl, rfl⟩

theorem State.broughtUp_dropped : (s.broughtUp c f).OutputDropped c .off := State.dropOutput_dropped _ c .off

theorem State.broughtUp_untouched : s.Untouched (s.broughtUp c f) [] [c] :=
  (s.modBay_untouched c f).trans (.after (State.dropOutput_untouched _ c .off) (State.modLink_untouched (s.modBay c f) c _))

theorem State.broughtUp_spares {p : BayNo} (h : c ≠ p) : s.Spares (s.broughtUp c f) p :=
  ((s.modBay_spares f h).trans (State.modLink_spares _ _ h)).trans (State.dropOutput_spares _ c .off h)

end

/-! ### Partners released -/

section
variable {s : State} {b p : BayNo}

/-- What the release of a partner writes is in the partner's bay, link and output alone, and a reallocation request (R35). -/
theorem State.releasePartner_only (s : State) (b : BayNo) : s.releasePartner b = { s with
    bays := (s.releasePartner b).bays, links := (s.releasePartner b).links, outputs := (s.releasePartner b).outputs
    reallocRequest := (s.releasePartner b).reallocRequest } := by
  unfold State.releasePartner
  split
  · rfl
  · split <;> rfl

/-- A partner in COLLIDED as it is released. -/
abbrev Bay.freed (x : Bay) : Bay := { x with state := .bringup, reportedId := none, partner := none }

/-- The release of a partner, by the partner's state (R35). -/
theorem State.releasePartner_cases (hp : (s.bay b).partner = some p) :
    (s.bay p).state = .collided ∧ s.releasePartner b = (s.broughtUp p Bay.freed).requestPass ∨
    (s.bay p).state = .fault ∧ s.releasePartner b = s.modBay p (fun x => { x with reportedId := none, partner := none }) ∨
    (s.bay p).state ≠ .collided ∧ (s.bay p).state ≠ .fault ∧ s.releasePartner b = s := by
  unfold State.releasePartner
  rw [hp]
  cases hs : (s.bay p).state with
  | collided => exact .inl ⟨rfl, by simp only [hs]; rfl⟩
  | fault => exact .inr (.inl ⟨rfl, by simp only [hs]⟩)
  | disabled | empty | bringup | identified | foreign => exact .inr (.inr ⟨nofun, nofun, by simp only [hs]⟩)

theorem State.releasePartner_of_none (hp : (s.bay b).partner = none) : s.releasePartner b = s := by
  unfold State.releasePartner
  rw [hp]

theorem State.releasePartner_spares {c : BayNo} (hp : (s.bay b).partner ≠ some c) : s.Spares (s.releasePartner b) c := by
  cases h : (s.bay b).partner with
  | none =>
    rw [State.releasePartner_of_none h]
    exact .refl s c
  | some p =>
    have hc : p ≠ c := fun e => hp (h.trans (congrArg some e))
    obtain ⟨-, e⟩ | ⟨-, e⟩ | ⟨-, -, e⟩ := State.releasePartner_cases h <;> rw [e]
    · exact (s.broughtUp_spares p Bay.freed hc).trans (.of_eq rfl rfl rfl)
    · exact s.modBay_spares _ hc
    · exact .refl s c

theorem State.releasePartner_untouched (s : State) (b : BayNo) : s.Untouched (s.releasePartner b) [] (s.bay b).partner.toList := by
  cases h : (s.bay b).partner with
  | none =>
    rw [State.releasePartner_of_none h]
    exact .refl s
  | some p =>
    obtain ⟨-, e⟩ | ⟨-, e⟩ | ⟨-, -, e⟩ := State.releasePartner_cases h <;> rw [e]
    · exact (s.broughtUp_untouched p Bay.freed).trans (.tables (s := s.broughtUp p Bay.freed) rfl rfl)
    · exact s.modBay_untouched p _
    · exact (State.Untouched.refl s).mono (List.nil_subset _) (List.nil_subset _)

theorem State.releasePartner_released (hp : (s.bay b).partner = some p) : s.PartnerReleased (s.releasePartner b) p := by
  obtain ⟨hs, e⟩ | ⟨hs, e⟩ | ⟨h1, h2, -⟩ := State.releasePartner_cases hp
  · rw [e]
    refine ⟨fun _ => ?_, fun g => BayState.noConfusion (hs.symm.trans g)⟩
    have hb : (s.broughtUp p Bay.freed).requestPass.bay p = { (s.bay p).freed with grant := 0 } := s.broughtUp_bay p Bay.freed
    rw [hb]
    exact ⟨rfl, rfl, rfl, s.broughtUp_linkStarts p Bay.freed, s.broughtUp_dropped p Bay.freed⟩
  · rw [e]
    refine ⟨fun g => BayState.noConfusion (hs.symm.trans g), fun _ => ?_⟩
    have hb := (State.bay_modBay s p p fun x => { x with reportedId := none, partner := none }).trans (if_pos rfl)
    rw [hb]
    exact ⟨hs, rfl, rfl, rfl⟩
  · exact ⟨fun g => absurd g h1, fun g => absurd g h2⟩

end

end Sys2Proof.Machine
end

section
/-! SUPPORT. Bays that cease to name their record, records that are undocked, and LOCK requests dropped (R8, R29, R64, R141). -/

namespace Sys2Proof.Machine

set_option Elab.async false

/-! ### A latch request that has gone -/

/-- A latch request stands neither in the queue nor in a slot that waits with it. -/
structure State.Lacks (s : State) (q : LatchRequest) : Prop where
  queue : q ∉ s.latchQueue
  slots : ∀ k, s.slot k ≠ .reserving q

namespace State.Lacks

variable {s t : State} {q : LatchRequest}

theorem of_latches (h : s.Lacks q) (g : s.LatchesKept t) : t.Lacks q :=
  ⟨by rw [g.queue]; exact h.queue, fun k => by rw [g.slot]; exact h.slots k⟩

theorem setSlot (h : s.Lacks q) (k : SlotNo) {x : DriveSlot} (hx : x ≠ .reserving q) : (s.setSlot k x).Lacks q :=
  ⟨h.queue, fun j => by
    rw [State.slot_setSlot]
    split
    · exact hx
    · exact h.slots j⟩

theorem serviceOne (h : s.Lacks q) {r : LatchRequest} (hr : r ≠ q) : (s.serviceOne r).Lacks q := by
  have he : State.Lacks { s with latchQueue := s.latchQueue.erase r } q :=
    ⟨fun g => h.queue (List.mem_of_mem_erase g), h.slots⟩
  unfold State.serviceOne
  split
  · exact h
  · split
    · exact he.of_latches (State.LatchesKept.latchSuccess _ _ _)
    · split
      · next k _ => exact (he.setSlot k (x := .reserving r) fun g => hr (DriveSlot.reserving.inj g)).of_latches .of_bays
      · exact h

theorem slotService (h : s.Lacks q) : s.slotService.Lacks q := by
  have all : ∀ (l : List LatchRequest) (s : State), s.Lacks q → q ∉ l → (l.foldl State.serviceOne s).Lacks q := fun l => by
    induction l with
    | nil => exact fun _ h _ => h
    | cons r l ih => exact fun s h hl => ih _ (h.serviceOne fun e => hl (e ▸ List.mem_cons_self)) fun g => hl (List.mem_cons_of_mem r g)
  exact all _ s h h.queue

theorem setLatch (h : s.Lacks q) (b : BayNo) (p : LatchPosition) : (s.setLatch b p).Lacks q := ⟨h.queue, h.slots⟩

theorem startDrive (h : s.Lacks q) (k : SlotNo) : (s.startDrive k).Lacks q := by
  unfold State.startDrive
  split
  · next r hr =>
    split
    · have h1 : (s.endSlot k).Lacks q := (h.setSlot k (x := .free) nofun).of_latches .of_bays
      exact ((h1.setLatch r.bay r.direction.target).of_latches (State.LatchesKept.latchSuccess _ _ _)).slotService
    · exact (h.setSlot k (x := .driving r) nofun).setLatch _ _
  · exact h
  · exact h

theorem closeChange (h : s.Lacks q) : s.closeChange.Lacks q :=
  State.closeChange_keeps (P := fun t => t.Lacks q) (fun _ _ _ h => ⟨h.queue, h.slots⟩)
    (fun t h => h.of_latches (State.LatchesKept.takePass t)) (fun _ h => ⟨h.queue, h.slots⟩)
    (fun t o h => match o with
      | .latch k => h.startDrive k
      | .lane l => h.of_latches (State.LatchesKept.wakeLane t l))
    (fun _ h => ⟨h.queue, h.slots⟩) (fun t h => h.of_latches (State.LatchesKept.relamp t)) (fun _ h => ⟨h.queue, h.slots⟩) s
    (h.of_latches s.granted_latchesKept)

end State.Lacks

section
variable {s : State} {b : BayNo} {d : Direction}

/-- Under the latch law the requests of a bay in one direction have gone when they are dropped (R137, R141). -/
theorem State.dropRequests_lacks (h : s.LatchLaw) : ((s.dropQueued b d).dropReserving b d).Lacks ⟨b, d⟩ := by
  obtain ⟨-, hs, -⟩ := h
  have hq : (⟨b, d⟩ : LatchRequest) ∉ (s.dropQueued b d).latchQueue := fun g => by
    have := (List.mem_filter.mp g).2
    simp at this
  have hone : ∀ j k, s.slot j = .reserving ⟨b, d⟩ → ∀ r, s.slot k = .reserving r → r.bay = b → j = k := fun j k hj r hk hb =>
    hs j k ⟨b, d⟩ (by rw [hj]; rfl) r (by rw [hk]; rfl) hb.symm
  unfold State.dropReserving
  split
  · next k hk =>
    obtain ⟨r, hr, hb⟩ := State.reservingSlot_eq_some hk
    have hr' : s.slot k = .reserving r := hr
    split
    · have h1 : ((s.dropQueued b d).freeReserving k).Lacks ⟨b, d⟩ := by
        refine ⟨hq, fun j hj => ?_⟩
        have e : ((s.dropQueued b d).freeReserving k).slot j = if k = j then .free else s.slot j := s.slot_setSlot k j .free
        rw [e] at hj
        split at hj
        · cases hj
        · next hkj => exact hkj (hone j k hj r hr' hb).symm
      exact h1.slotService
    · next hne => exact ⟨hq, fun j hj => hne (by rw [← hone j k hj r hr' hb]; exact hj)⟩
  · next hn =>
    refine ⟨hq, fun j hj => ?_⟩
    have := List.find?_eq_none.mp hn j (List.mem_finRange j)
    rw [hj] at this
    simp at this

end

/-! ### Naming ends -/

section
variable (s : State) (b : BayNo)

theorem State.ceaseNaming_bay (c : BayNo) : (s.ceaseNaming b).bay c = if b = c then { s.bay b with record := none } else s.bay c :=
  State.bay_modBay s b c fun x => { x with record := none }

theorem State.ceaseNaming_link (c : BayNo) : (s.ceaseNaming b).link c = if b = c then (s.link b).emptySlots else s.link c :=
  State.link_modLink (s.modBay b _) b c _

theorem State.ceaseNaming_output (c : BayNo) : (s.ceaseNaming b).output c =
    if b = c then { s.output b with remainder := 0 } else s.output c :=
  State.output_modOutput (((s.modBay b _).emptySlots b).modEntry b _) b c _

theorem State.ceaseNaming_untouched : s.Untouched (s.ceaseNaming b) [] [b] :=
  (s.modBay_untouched b fun x => { x with record := none }).trans
    (.tables (s := s.modBay b fun x => { x with record := none }) rfl rfl)

theorem State.ceaseNaming_latches : s.LatchesKept (s.ceaseNaming b) := by
  refine ⟨rfl, rfl, fun c => ?_⟩
  rw [State.ceaseNaming_bay]
  split
  · next e => subst e; rfl
  · rfl

theorem State.ceaseNaming_spares {c : BayNo} (h : b ≠ c) : s.Spares (s.ceaseNaming b) c :=
  .of_eq ((s.ceaseNaming_bay b c).trans (if_neg h)) ((s.ceaseNaming_link b c).trans (if_neg h))
    ((s.ceaseNaming_output b c).trans (if_neg h))

end

/-! ### Records undocked -/

section
variable {s t u : State} {b : BayNo} {i : RecordIx} {x : Bool}

/-- A record undocked stays so where it and the sets of subjects are kept. -/
theorem State.Undocked.kept (h : s.Undocked t i) (hr : (t.record i).SameButUnsecured (u.record i)) (he : t.EventsGrow u) :
    s.Undocked u i := by
  obtain ⟨h1, h2⟩ := h
  have hb : (u.record i).currentBay = (t.record i).currentBay := by
    have g := congrArg Record.currentBay hr
    exact g
  have ha : (u.record i).adriftReason = (t.record i).adriftReason := by
    have g := congrArg Record.adriftReason hr
    exact g
  refine ⟨hb.trans h1, ?_⟩
  cases hc : (s.record i).custody <;> simp only [hc] at h2 ⊢
  case inCart => exact ⟨hr.custody.trans h2.1, ha.trans h2.2.1, he.holds h2.2.2⟩
  case releasing => exact ⟨hr.custody.trans h2.1, hr.holder.trans h2.2.1, he.holds h2.2.2⟩
  case retiring => exact h2.trans hr
  case held => exact ⟨hr.custody.trans h2.1, he.holds h2.2⟩

/-- The undock transition of a record that has left its bay. -/
def State.undockTransition (s : State) (b : BayNo) (i : RecordIx) : State :=
  match (s.record i).custody with
  | .inCart =>
    (s.editRecord i fun r => { r with
      custody := .adrift, adriftReason := some (if s.serviceOpen then .service else .forced) }).addSubject
        Source.adrift i.val
  | .releasing =>
    ((s.editRecord i fun r => { r with custody := .loaned }).addSubject Source.loanStart i.val).setRelease b none
  | .retiring => s.freeRecord i
  | .held => s.addSubject Source.adrift i.val
  | .free | .away | .loaned | .overdue | .adrift => s

theorem State.undockRecord_only (s : State) (b : BayNo) (i : RecordIx) (x : Bool) : s.undockRecord b i x = { s with
    roster := (s.undockRecord b i x).roster, releases := (s.undockRecord b i x).releases, port := (s.undockRecord b i x).port } ∧
    (s.undockRecord b i x).port.response = s.port.response := by
  unfold State.undockRecord
  simp only
  split <;> exact ⟨rfl, rfl⟩

theorem State.undockRecord_release (s : State) (b : BayNo) (i : RecordIx) (x : Bool) (c : BayNo) :
    (s.undockRecord b i x).release c = s.release c ∨ c = b ∧ (s.undockRecord b i x).release c = none := by
  have he : s.undockRecord b i x = (s.modRecord i (Record.leaveBay x)).undockTransition b i := rfl
  rw [he]
  unfold State.undockTransition
  split
  case h_2 =>
    rw [State.release_setRelease]
    split
    · next e => exact .inr ⟨e.symm, rfl⟩
    · exact .inl rfl
  all_goals exact .inl rfl

/-- The undock transition of a record (R8, R64, R141, R146). -/
theorem State.undockRecord_leaves (s : State) (b : BayNo) (i : RecordIx) (x : Bool) : s.Undocked (s.undockRecord b i x) i ∧
    s.Untouched (s.undockRecord b i x) [i] [] ∧
    ((s.record i).custody ≠ .retiring →
      ((s.undockRecord b i x).record i).orderUndelivered = ((s.record i).orderUndelivered || x)) := by
  let v := s.modRecord i (Record.leaveBay x)
  have hv : v.record i = ((s.record i).leaveBay x).remark := (State.record_modRecord s i i _).trans (if_pos rfl)
  have hc : (v.record i).custody = (s.record i).custody := by rw [hv]; rfl
  have hu : s.Untouched v [i] [] := s.putRecord_untouched i _
  have hb : (v.record i).currentBay = none := by rw [hv]; rfl
  have ho : (v.record i).orderUndelivered = ((s.record i).orderUndelivered || x) := by rw [hv]; rfl
  have hh : (v.record i).holder = (s.record i).holder := by rw [hv]; rfl
  have edit : ∀ (f : Record → Record) (w : State), (v.editRecord i f).Untouched w [] [] →
      s.Untouched w [i] [] ∧ (f (v.record i)).SameButUnsecured (w.record i) := fun f w h => by
    have g : v.Writes w i (f (v.record i)) := State.Untouched.writes h
    exact ⟨(hu.trans g.2).mono (by simp) (by simp), g.1⟩
  have he : s.undockRecord b i x = v.undockTransition b i := rfl
  rw [he]
  unfold State.undockTransition State.Undocked
  rw [hc]
  cases hcc : (s.record i).custody with
  | inCart =>
    let f : Record → Record := fun r => { r with
      custody := .adrift, adriftReason := some (if v.serviceOpen then .service else .forced) }
    have hw : ((v.editRecord i f).addSubject Source.adrift i.val).record i = f (v.record i) :=
      (State.record_editRecord v i i f).trans (if_pos rfl)
    have g := (edit f _ (State.addSubject_untouched _ Source.adrift i.val)).1
    refine ⟨⟨?_, ?_, ?_, State.addSubject_holds _ _ i.isLt⟩, g, fun _ => ?_⟩
    · exact (congrArg Record.currentBay hw).trans hb
    · exact congrArg Record.custody hw
    · exact congrArg Record.adriftReason hw
    · exact (congrArg Record.orderUndelivered hw).trans ho
  | releasing =>
    let f : Record → Record := fun r => { r with custody := .loaned }
    have hw : (((v.editRecord i f).addSubject Source.loanStart i.val).setRelease b none).record i = f (v.record i) :=
      (State.record_editRecord v i i f).trans (if_pos rfl)
    have g := (edit f (((v.editRecord i f).addSubject Source.loanStart i.val).setRelease b none)
      (.after (.tables (s := (v.editRecord i f).addSubject Source.loanStart i.val) rfl rfl)
        (State.addSubject_untouched _ Source.loanStart i.val))).1
    have hs : ((v.editRecord i f).addSubject Source.loanStart i.val).Holds Source.loanStart i.val :=
      State.addSubject_holds _ _ i.isLt
    refine ⟨⟨?_, ?_, ?_, hs⟩, g, fun _ => ?_⟩
    · exact (congrArg Record.currentBay hw).trans hb
    · exact congrArg Record.custody hw
    · exact (congrArg Record.holder hw).trans hh
    · exact (congrArg Record.orderUndelivered hw).trans ho
  | retiring =>
    have hw : (v.freeRecord i).record i = Record.freeImage := (State.record_putRecord v i i _).trans (if_pos rfl)
    refine ⟨⟨congrArg Record.currentBay hw, ?_⟩, (hu.trans (v.putRecord_untouched i _)).mono (by simp) (by simp), fun g => absurd rfl g⟩
    show Record.freeImage.SameButUnsecured ((v.freeRecord i).record i)
    rw [hw]
  | held =>
    exact ⟨⟨hb, hc.trans hcc, State.addSubject_holds _ _ i.isLt⟩, hu.trans (State.addSubject_untouched v _ _), fun _ => ho⟩
  | free | away | loaned | overdue | adrift => exact ⟨⟨hb, trivial⟩, hu, fun _ => ho⟩

end

/-! ### Bays undocked -/

/-- Bay b has undocked in t the record it names in s, if any (R8, R29, R36); empties tells of the bay's LOCK requests, which then
have gone too (R141). -/
structure State.LeavesBay (s t : State) (b : BayNo) (empties : Bool) : Prop where
  untouched : s.Untouched t (s.bay b).record.toList [b]
  bay : ({ s.bay b with record := none } : Bay).IdentityKept (t.bay b)
  spares : ∀ c, b ≠ c → s.Spares t c
  undocked : ∀ i ∈ (s.bay b).record, s.Undocked t i
  undelivered : ∀ i ∈ (s.bay b).record, (s.record i).custody ≠ .retiring →
    (t.record i).orderUndelivered = ((s.record i).orderUndelivered || (s.link b).custody.holdsRelease)
  session : ∀ i ∈ (s.bay b).record, s.SessionEnded t i .aborted
  response : t.port.response = s.port.response
  locks : empties = true → (s.bay b).record.isSome = true → s.LatchLaw → t.Lacks ⟨b, .lock⟩
  latches : empties = false → s.LatchesKept t
  link : empties = false → Link.Fed s.linkSettings (fun _ => False) (fun _ => False)
    (if (s.bay b).record.isSome then (s.link b).emptySlots else s.link b) (t.link b)
  release : empties = false → ∀ c, t.release c = s.release c ∨ c = b ∧ t.release c = none

section
variable {s : State} {b : BayNo} {i : RecordIx}

/-- Bay b has undocked record i, its LOCK requests aside. -/
def State.undocking (s : State) (b : BayNo) (i : RecordIx) : State :=
  ((s.ceaseNaming b).endSessionOf i .aborted).undockRecord b i (s.link b).custody.holdsRelease

theorem State.undock_of_some (h : (s.bay b).record = some i) (e : Bool) :
    s.undock b e = (if e then (s.undocking b i).dropLocks b else s.undocking b i).requestPass := by
  unfold State.undock
  rw [h]
  rfl

theorem State.undock_of_none (h : (s.bay b).record = none) (e : Bool) : s.undock b e = s := by
  unfold State.undock
  rw [h]

theorem State.LeavesBay.of_none (h : (s.bay b).record = none) (e : Bool) : s.LeavesBay s b e where
  untouched := by
    rw [h]
    exact (State.Untouched.refl s).mono (List.nil_subset _) (List.nil_subset _)
  bay := by
    rw [← h]
  spares c _ := .refl s c
  undocked j hj := by rw [h] at hj; cases hj
  undelivered j hj := by rw [h] at hj; cases hj
  session j hj := by rw [h] at hj; cases hj
  response := rfl
  locks _ g := by rw [h] at g; cases g
  latches _ := .refl s
  link _ := by
    rw [h]
    exact .refl
  release _ _ := .inl rfl

theorem State.undocking_leaves (h : (s.bay b).record = some i) : s.LeavesBay (s.undocking b i) b false := by
  let u := s.ceaseNaming b
  let v := u.endSessionOf i .aborted
  have hv : u.Unseats v i .aborted := u.endSessionOf_unseats i rfl nofun
  obtain ⟨hd, hw, ho⟩ := v.undockRecord_leaves b i (s.link b).custody.holdsRelease
  obtain ⟨hy, hr⟩ := v.undockRecord_only b i (s.link b).custody.holdsRelease
  have hrl := v.undockRecord_release b i (s.link b).custody.holdsRelease
  have hwe : s.undocking b i = v.undockRecord b i (s.link b).custody.holdsRelease := rfl
  rw [← hwe] at hd hw ho hy hr hrl
  generalize s.undocking b i = w at hd hw ho hy hr hrl ⊢
  have hrec : ∀ j, v.record j = s.record j := fun j => hv.record j
  have hub : (u.bay b).record = none := by rw [State.ceaseNaming_bay, if_pos rfl]
  have hwb : ∀ c, w.bay c = v.bay c := fun c => by rw [hy]; rfl
  have hwl : ∀ c, w.link c = v.link c := fun c => by rw [hy]; rfl
  have hwo : ∀ c, w.output c = v.output c := fun c => by rw [hy]; rfl
  have mem : ∀ j, j ∈ (s.bay b).record → j = i := fun j hj => Option.some.inj (hj.symm.trans h)
  constructor
  case untouched =>
    rw [h]
    exact ((s.ceaseNaming_untouched b).trans hv.frame).trans hw |>.mono (by simp) (by simp)
  case bay =>
    rw [hwb]
    have g := hv.frame.bay b
    rw [State.ceaseNaming_bay, if_pos rfl] at g
    exact g
  case spares =>
    intro c hc
    exact ((s.ceaseNaming_spares b hc).trans (hv.spares c)).trans (.of_eq (hwb c) (hwl c) (hwo c) (by rw [hy]))
  case undocked =>
    intro j hj
    obtain rfl := mem j hj
    have hs : v.service = s.service := hv.frame.windows.2.1
    unfold State.Undocked at hd ⊢
    rw [hrec, hs] at hd
    exact hd
  case undelivered =>
    intro j hj
    obtain rfl := mem j hj
    rw [hrec] at ho
    exact ho
  case session =>
    intro j hj l x hl hx
    obtain rfl := mem j hj
    obtain ⟨h1, h2⟩ := hv.ended l x hl hx
    refine ⟨?_, hw.events.holds h2⟩
    have hwn : w.lane l = v.lane l := by rw [hy]; rfl
    rw [hwn]
    exact h1
  case response => exact hr.trans hv.response
  case locks => exact fun g => by cases g
  case latches =>
    intro _
    exact ((s.ceaseNaming_latches b).trans hv.latches).trans (.of_bays (by rw [hy]) (by rw [hy]) (by rw [hy]))
  case link =>
    intro _
    have g := hv.link b
    rw [State.ceaseNaming_link, if_pos rfl] at g
    rw [hwl, h]
    exact g.mono (fun _ => id) fun y ⟨_, k⟩ => by rw [hub] at k; cases k
  case release =>
    intro _ c
    have hvc : v.release c = s.release c := by rw [hv.only]; rfl
    rw [← hvc]
    exact hrl c

theorem State.LeavesBay.requestPass {t : State} {e : Bool} (h : s.LeavesBay t b e) : s.LeavesBay t.requestPass b e where
  untouched := by
    have g := h.untouched.trans (.tables (s := t) (t := t.requestPass) rfl rfl)
    rwa [List.append_nil, List.append_nil] at g
  bay := h.bay
  spares c hc := (h.spares c hc).trans (.of_eq rfl rfl rfl)
  undocked := h.undocked
  undelivered := h.undelivered
  session := h.session
  response := h.response
  locks h1 h2 h3 := ⟨(h.locks h1 h2 h3).queue, (h.locks h1 h2 h3).slots⟩
  latches h1 := (h.latches h1).trans .of_bays
  link := h.link
  release := h.release

/-- Bay b undocks its record, if it names one, and nothing else. -/
theorem State.undock_leaves (s : State) (b : BayNo) : s.LeavesBay (s.undock b false) b false := by
  cases h : (s.bay b).record with
  | none =>
    rw [State.undock_of_none h]
    exact .of_none h false
  | some i =>
    rw [State.undock_of_some h]
    exact (State.undocking_leaves h).requestPass

/-- The same where the bay's LOCK requests go with it (R141). -/
theorem State.undock_empties (s : State) (b : BayNo) : s.LeavesBay (s.undock b true) b true := by
  cases h : (s.bay b).record with
  | none =>
    rw [State.undock_of_none h]
    exact .of_none h true
  | some i =>
    rw [State.undock_of_some h, if_pos rfl]
    have g := State.undocking_leaves h
    generalize s.undocking b i = w at g ⊢
    have hf : w.Follows (w.dropLocks b) := .dropLocks w b
    refine State.LeavesBay.requestPass ⟨?_, g.bay.trans (hf.frame.bay b), fun c hc => (g.spares c hc).trans (hf.spares c), fun j hj => ?_,
      fun j hj hc => ?_, fun j hj => (g.session j hj).follows hf, hf.response.trans g.response, fun _ _ hl => ?_, nofun, nofun, nofun⟩
    · have k := g.untouched.trans hf.frame
      rwa [List.append_nil, List.append_nil] at k
    · exact (g.undocked j hj).kept (hf.frame.record j) hf.frame.events
    · have k := congrArg Record.orderUndelivered (hf.frame.record j)
      have k' : ((w.dropLocks b).record j).orderUndelivered = (w.record j).orderUndelivered := k
      exact k'.trans (g.undelivered j hj hc)
    · exact State.dropRequests_lacks ((g.latches rfl).latchLaw hl)

end

end Sys2Proof.Machine
end

section
/-! SUPPORT. Bays emptied and brought up (R28, R29, R40, R41), and the settling of O23 and O24. -/

namespace Sys2Proof.Machine

set_option Elab.async false

/-! ### A bay where no session and no record is -/

/-- No record is docked in bay b, no lane has a session or its switch there, and the bay has no lane. -/
structure State.Vacant (s : State) (b : BayNo) : Prop where
  docked : ∀ i, (s.record i).currentBay ≠ some b
  lanes : ∀ l x, (s.lane l).session = some x → x.bay ≠ b
  switches : ∀ l, (s.lane l).switch ≠ some b
  mark : (s.bay b).lane = none

section
variable {s t : State} {b : BayNo}

/-- Under the lane law a bay where no record is docked is vacant (R114, R115). -/
theorem State.LaneLaw.vacant (h : s.LaneLaw) (hd : ∀ i, (s.record i).currentBay ≠ some b) : s.Vacant b := by
  obtain ⟨h1, h2, -, h4⟩ := h
  have hl : ∀ l x, (s.lane l).session = some x → x.bay ≠ b := fun l x hx e => hd x.record (e ▸ (h1 l x hx).2.1)
  refine ⟨hd, hl, fun l hs => ?_, ?_⟩
  · rw [h4] at hs
    obtain ⟨x, hx, hb⟩ := Option.bind_eq_some_iff.mp hs
    split at hb
    · exact hl l x hx (Option.some.inj hb)
    · cases hb
  · cases hm : (s.bay b).lane with
    | none => rfl
    | some l =>
      obtain ⟨x, hx, hb⟩ := Option.map_eq_some_iff.mp (h2 b l hm)
      exact absurd hb (hl l x hx)

theorem State.Vacant.grantLanes : ∀ (n : Nat) {s : State}, s.Vacant b → (State.grantLanes n s).Vacant b
  | 0, _, h => h
  | n + 1, s, h => by
    unfold State.grantLanes
    split
    · split
      · next i _ l _ _ =>
        split
        · next c hc =>
          have hcb : c ≠ b := fun e => h.docked i (e ▸ hc)
          refine grantLanes n ⟨h.docked, fun m x hx => ?_, fun m => ?_, ?_⟩
          · rw [State.Grants.lane_grantLane] at hx
            split at hx
            · cases hx
              exact hcb
            · exact h.lanes m x hx
          · rw [State.Grants.lane_grantLane]
            split
            · exact h.switches l
            · exact h.switches m
          · rw [State.Grants.bay_grantLane, if_neg hcb]
            exact h.mark
        · exact h
      · exact h
    · exact h

/-- A vacant bay's lane and switches stay as they are where a change closes (R116, R117). -/
theorem State.Vacant.closed (h : s.Vacant b) : (∀ l, (s.closeChange.lane l).switch ≠ some b) ∧ (s.closeChange.bay b).lane = none := by
  have hg : s.granted.Vacant b := grantLanes 4 (s := s.requeue) ⟨h.docked, h.lanes, h.switches, h.mark⟩
  refine ⟨fun l => ?_, (s.closeChange_laneMark b).trans hg.mark⟩
  obtain e | ⟨y, hy, -, e⟩ := s.granted_follows.lane l
  · rw [e]
    exact hg.switches l
  · rw [e]
    exact fun g => hg.lanes l y hy (Option.some.inj g)

end

/-! ### A bay emptied -/

section
variable (s : State) (b : BayNo) (d : BayState)

/-- A bay that is emptied, before its own fields are written: record, link, output and partner (R29). -/
def State.detached (s : State) (b : BayNo) : State :=
  let t := ((s.undock b true).modLink b fun _ => Link.downValues).dropOutput b .off
  if (s.bay b).partnered then t.releasePartner b else t

theorem State.emptyBay_eq : s.emptyBay b d =
    (if (s.bay b).state.occupied then ((s.detached b).modBay b fun y => { y.strip with state := d }).addSubject Source.undock b.val
      else (s.detached b).modBay b fun y => { y.strip with state := d }).requestPassIf (s.emptyingReallocates b d) := by
  unfold State.emptyBay State.detached
  rfl

/-- The release of a partner leaves every bay but the partner as it is. -/
theorem State.releasePartner_other {c : BayNo} (h : (s.bay b).partner ≠ some c) : (s.releasePartner b).bay c = s.bay c ∧
    (s.releasePartner b).link c = s.link c ∧ (s.releasePartner b).output c = s.output c := by
  cases hp : (s.bay b).partner with
  | none =>
    rw [State.releasePartner_of_none hp]
    exact ⟨rfl, rfl, rfl⟩
  | some p =>
    have hc : p ≠ c := fun e => h (hp.trans (congrArg some e))
    obtain ⟨-, e⟩ | ⟨-, e⟩ | ⟨-, -, e⟩ := State.releasePartner_cases hp <;> rw [e]
    · refine ⟨(State.dropOutput_bay _ p .off c).trans ((if_neg hc).trans ?_), ?_,
        (State.dropOutput_output _ p .off c).trans (if_neg hc)⟩
      · exact (State.bay_modBay s p c Bay.freed).trans (if_neg hc)
      · exact (State.link_modLink (s.modBay p Bay.freed) p c _).trans (if_neg hc)
    · exact ⟨(State.bay_modBay s p c _).trans (if_neg hc), rfl, rfl⟩
    · exact ⟨rfl, rfl, rfl⟩

variable {s} {b} {d}

/-- The end of a session stands in the lane's last result and its subject. -/
theorem State.SessionEnded.kept {t u : State} {i : RecordIx} {r : SessionResult} (h : s.SessionEnded t i r)
    (hl : ∀ l, (u.lane l).last = (t.lane l).last) (he : t.EventsGrow u) : s.SessionEnded u i r := fun l x h1 h2 => by
  obtain ⟨g1, g2⟩ := h l x h1 h2
  exact ⟨(hl l).trans g1, he.holds g2⟩

theorem State.PartnerReleased.source {u t : State} {p : BayNo} (h : u.PartnerReleased t p) (g : (s.bay p).IdentityKept (u.bay p)) :
    s.PartnerReleased t p := by
  obtain ⟨h1, h2⟩ := h
  refine ⟨fun hs => h1 (g.state.trans hs), fun hs => ?_⟩
  obtain ⟨k1, k2, k3, k4⟩ := h2 (g.state.trans hs)
  exact ⟨k1, k2.trans g.faultReason, k3, k4⟩

/-- What the release of the partner of a bay that stands in a collision writes, if the bay does. -/
structure State.Releases (s t : State) (b : BayNo) (partnered : Bool) : Prop where
  untouched : s.Untouched t [] (s.bay b).partner.toList
  other : ∀ c, (s.bay b).partner ≠ some c → t.bay c = s.bay c ∧ t.link c = s.link c ∧ t.output c = s.output c
  released : ∀ p ∈ (s.bay b).partner, partnered = true → s.PartnerReleased t p
  latches : s.LatchesKept t
  only : t = { s with bays := t.bays, links := t.links, outputs := t.outputs, reallocRequest := t.reallocRequest }

theorem State.releasePartner_releases (s : State) (b : BayNo) (c : Bool) : s.Releases (if c then s.releasePartner b else s) b c := by
  cases c with
  | false => exact ⟨(State.Untouched.refl s).mono (List.nil_subset _) (List.nil_subset _), fun _ _ => ⟨rfl, rfl, rfl⟩,
      fun _ _ => nofun, .refl s, rfl⟩
  | true =>
    refine ⟨s.releasePartner_untouched b, fun c hc => s.releasePartner_other b hc, fun p hp _ => State.releasePartner_released hp,
      ⟨?_, ?_, fun c => ?_⟩, s.releasePartner_only b⟩
    · have g := congrArg State.slots (s.releasePartner_only b)
      exact g
    · have g := congrArg State.latchQueue (s.releasePartner_only b)
      exact g
    · show ((s.releasePartner b).bay c).latch = _
      cases hp : (s.bay b).partner with
      | none => rw [State.releasePartner_of_none hp]
      | some p =>
        by_cases hc : p = c
        · subst hc
          obtain ⟨-, e⟩ | ⟨-, e⟩ | ⟨-, -, e⟩ := State.releasePartner_cases hp <;> rw [e]
          · have g := congrArg Bay.latch (s.broughtUp_bay p Bay.freed)
            exact g
          · rw [State.bay_modBay, if_pos rfl]
        · rw [(s.releasePartner_other b fun e => hc (Option.some.inj (hp.symm.trans e))).1]

/-- What a bay that is emptied has lost before its own fields are written. -/
structure State.Detaches (s t : State) (b : BayNo) : Prop where
  untouched : s.Untouched t (s.bay b).record.toList (b :: (s.bay b).partner.toList)
  bay : ({ s.bay b with record := none } : Bay).IdentityKept (t.bay b)
  link : t.link b = Link.downValues
  dropped : t.OutputDropped b .off
  undocked : ∀ i ∈ (s.bay b).record, s.Undocked t i
  undelivered : ∀ i ∈ (s.bay b).record, (s.record i).custody ≠ .retiring →
    (t.record i).orderUndelivered = ((s.record i).orderUndelivered || (s.link b).custody.holdsRelease)
  session : ∀ i ∈ (s.bay b).record, s.SessionEnded t i .aborted
  partner : ∀ p ∈ (s.bay b).partner, (s.bay b).partnered = true → s.PartnerReleased t p
  locks : (s.bay b).record.isSome = true → s.LatchLaw → t.Lacks ⟨b, .lock⟩
  response : t.port.response = s.port.response

theorem State.detached_detaches (hp : (s.bay b).partner ≠ some b) : s.Detaches (s.detached b) b := by
  have h := s.undock_empties b
  let v := ((s.undock b true).modLink b fun _ => Link.downValues).dropOutput b .off
  have hvb : ({ s.bay b with record := none } : Bay).IdentityKept (v.bay b) := by
    have e : v.bay b = { (s.undock b true).bay b with grant := 0 } := (State.dropOutput_bay _ b .off b).trans (if_pos rfl)
    rw [e]
    exact h.bay
  have hvl : v.link b = Link.downValues := (State.link_modLink (s.undock b true) b b fun _ => Link.downValues).trans (if_pos rfl)
  have hvd : v.OutputDropped b .off := State.dropOutput_dropped _ b .off
  have hvu : (s.undock b true).Untouched v [] [] :=
    .after (State.dropOutput_untouched _ b .off) (State.modLink_untouched (s.undock b true) b fun _ => Link.downValues)
  have hsv : s.Untouched v (s.bay b).record.toList [b] := by
    have g := h.untouched.trans hvu
    rwa [List.append_nil, List.append_nil] at g
  have hpart : (v.bay b).partner = (s.bay b).partner := hvb.partner
  have hspare : ∀ c, b ≠ c → s.Spares v c := fun c hc =>
    ((h.spares c hc).trans (State.modLink_spares _ _ hc)).trans (State.dropOutput_spares _ b .off hc)
  have hw : v.Releases (s.detached b) b (s.bay b).partnered := v.releasePartner_releases b _
  generalize s.detached b = w at hw ⊢
  obtain ⟨hb, hl, ho⟩ := hw.other b (hpart ▸ hp)
  have hrec : ∀ i, w.record i = v.record i := fun i => by rw [hw.only]; rfl
  constructor
  case untouched => 
    have g := hsv.trans hw.untouched
    rw [hpart, List.append_nil] at g
    exact g
  case bay => rw [hb]; exact hvb
  case link => rw [hl]; exact hvl
  case dropped =>
    unfold State.OutputDropped
    rw [hb, ho]
    exact hvd
  case undocked =>
    intro i hi
    exact ((h.undocked i hi).kept (hvu.record i) hvu.events).kept (by rw [hrec]) hw.untouched.events
  case undelivered =>
    intro i hi hc
    rw [hrec]
    exact h.undelivered i hi hc
  case session =>
    intro i hi
    have h1 : s.SessionEnded v i .aborted := (h.session i hi).kept (fun _ => rfl) hvu.events
    exact h1.kept (fun l => by rw [hw.only]; rfl) hw.untouched.events
  case partner =>
    intro p hpp hc
    have hne : b ≠ p := fun e => hp (e ▸ hpp)
    exact (hw.released p (hpart ▸ hpp) hc).source (hspare p hne).bay
  case locks =>
    intro h1 h2
    have h3 := h.locks rfl h1 h2
    exact State.Lacks.of_latches (s := v) ⟨h3.queue, h3.slots⟩ hw.latches
  case response =>
    rw [hw.only]
    exact h.response

/-- The bay's own fields written where its tablet's bonds have been cut: it holds no tablet, and is DISABLED or EMPTY. -/
structure State.Empties (s t : State) (b : BayNo) : Prop where
  untouched : s.Untouched t [] [b]
  only : t = { s with bays := t.bays, port := t.port, reallocRequest := t.reallocRequest }
  response : t.port.response = s.port.response
  other : ∀ c, b ≠ c → t.bay c = s.bay c
  off : (t.bay b).state = .disabled ∨ (t.bay b).state = .empty
  latch : (t.bay b).latch = (s.bay b).latch
  grant : (t.bay b).grant = (s.bay b).grant
  record : (t.bay b).record = (s.bay b).record
  stripped : (t.bay b).reportedId = none ∧ (t.bay b).foreignCause = none ∧ (t.bay b).partner = none ∧
    (t.bay b).faultReason = none ∧ (t.bay b).recovery = false

/-- Everything bound to the tablet of a bay that is emptied is ended where the change closes (R29, R40). -/
theorem State.Detaches.ended {w u : State} (h : s.Detaches w b) (g : w.Empties u b) (hp : (s.bay b).partner ≠ some b)
    (hlaw : s.LaneLaw → u.LaneLaw) (hsub : (s.bay b).state.occupied = true → u.Holds Source.undock b.val) :
    s.BayEnded u.closeChange b := by
  have hrec : ∀ i, u.record i = w.record i := fun i => by rw [g.only]; rfl
  have hlane : ∀ l, u.lane l = w.lane l := fun l => by rw [g.only]; rfl
  have hsw : (u.bay b).state.switchedOff := g.off.imp id .inl
  have hcl : u.BayCleared b := by
    obtain ⟨d1, d2, d3, d4, d5, d6, d7⟩ := h.dropped
    obtain ⟨g1, g2, g3, g4, g5⟩ := g.stripped
    have hlk : u.link b = w.link b := by rw [g.only]; rfl
    have hou : u.output b = w.output b := by rw [g.only]; rfl
    refine ⟨⟨g.record.trans h.bay.record, g1, g2, g3, g4, g5, g.grant.trans d7⟩, hlk.trans h.link, ?_⟩
    rw [hou]
    exact ⟨d1, d2, d3, d4, d5, d6⟩
  have hsp : ∀ c, b ≠ c → w.Spares u c := fun c hc => .of_eq (g.other c hc) (by rw [g.only]; rfl) (by rw [g.only]; rfl) (by rw [g.only])
  constructor
  case cleared => exact hcl.spares hsw (u.closeChange_spares b)
  case undocked =>
    intro i hi
    exact ((h.undocked i hi).kept (by rw [hrec]) g.untouched.events).kept (u.closeChange_record i) u.closeChange_untouched.events
  case undelivered =>
    intro i hi hc
    have e : (u.closeChange.record i).orderUndelivered = (u.record i).orderUndelivered := by
      have k := congrArg Record.orderUndelivered (u.closeChange_record i)
      exact k
    rw [e, hrec, h.undelivered i hi hc]
    exact Bool.or_eq_true _ _ ▸ Iff.rfl
  case session =>
    intro i hi
    exact ((h.session i hi).kept (fun l => by rw [hlane]) g.untouched.events).closeChange
  case switch =>
    intro hn hl
    refine (State.LaneLaw.vacant (hlaw hl) fun i hi => ?_).closed
    rw [hrec] at hi
    by_cases hm : i ∈ (s.bay b).record
    · rw [(h.undocked i hm).1] at hi
      cases hi
    · have e : (w.record i).currentBay = (s.record i).currentBay := by
        have k := congrArg Record.currentBay (h.untouched.records i fun q => hm (Option.mem_toList.mp q))
        exact k
      exact hm ((hn.1 i b).mp (e ▸ hi))
  case partner =>
    intro p hpp hc
    have hne : b ≠ p := fun e => hp (e ▸ hpp)
    exact ((h.partner p hpp hc).spares (hsp p hne)).spares (u.closeChange_spares p)
  case locks =>
    intro h1 h2
    have k : u.Lacks ⟨b, .lock⟩ := by
      refine (h.locks h1 h2).of_latches ⟨by rw [g.only], by rw [g.only], fun c => ?_⟩
      by_cases e : b = c
      · subst e
        exact g.latch
      · rw [g.other c e]
    have k' := k.closeChange
    exact ⟨k'.queue, k'.slots⟩
  case subject =>
    intro hs
    refine u.closeChange_holds (hsub ?_)
    obtain e | e | e | e := hs <;> rw [e] <;> rfl
  case untouched =>
    have k := (h.untouched.trans g.untouched).closeChange
    exact k.mono (by simp) (by simp)

theorem State.requestPassIf_fields (s : State) (c : Bool) : s.requestPassIf c = { s with reallocRequest := (s.requestPassIf c).reallocRequest } := by
  unfold State.requestPassIf
  split <;> rfl

theorem State.emptyBay_empties (s : State) (b : BayNo) {d : BayState} (hd : d = .disabled ∨ d = .empty) :
    (s.detached b).Empties (s.emptyBay b d) b ∧ ((s.emptyBay b d).bay b).state = d ∧
      ((s.emptyBay b d).bay b).contact = ((s.detached b).bay b).contact ∧
      ((s.bay b).state.occupied = true → (s.emptyBay b d).Holds Source.undock b.val) := by
  rw [State.emptyBay_eq]
  generalize s.detached b = w
  generalize s.emptyingReallocates b d = c
  have hm : (w.modBay b fun y => { y.strip with state := d }).bay b = { (w.bay b).strip with state := d } :=
    (State.bay_modBay w b b fun y => { y.strip with state := d }).trans (if_pos rfl)
  have ho : ∀ c, b ≠ c → (w.modBay b fun y => { y.strip with state := d }).bay c = w.bay c := fun c hc =>
    (State.bay_modBay w b c fun y => { y.strip with state := d }).trans (if_neg hc)
  have hu := w.modBay_untouched b fun y => { y.strip with state := d }
  generalize hv : (w.modBay b fun y => { y.strip with state := d }) = v at hm ho hu
  have hvo : v = { w with bays := v.bays } := by rw [← hv]; rfl
  have main : ∀ x : State, x = v ∨ x = v.addSubject Source.undock b.val →
      w.Empties (x.requestPassIf c) b ∧ ((x.requestPassIf c).bay b).state = d ∧ ((x.requestPassIf c).bay b).contact = (w.bay b).contact := by
    intro x hx
    have hxb : ∀ a, x.bay a = v.bay a := fun a => by obtain rfl | rfl := hx <;> rfl
    have hxu : v.Untouched x [] [] := by
      obtain rfl | rfl := hx
      · exact .refl x
      · exact State.addSubject_untouched v _ _
    have hxo : x = { w with bays := x.bays, port := x.port } ∧ x.port.response = w.port.response := by
      obtain rfl | rfl := hx
      · rw [hvo]
        exact ⟨rfl, rfl⟩
      · rw [hvo]
        exact ⟨rfl, rfl⟩
    have hy := x.requestPassIf_fields c
    have hyu := x.requestPassIf_untouched c
    generalize x.requestPassIf c = y at hy hyu
    have hyb : ∀ a, y.bay a = v.bay a := fun a => by rw [← hxb, hy]; rfl
    have e := (hyb b).trans hm
    refine ⟨⟨?_, ?_, ?_, fun a ha => (hyb a).trans (ho a ha), ?_, ?_, ?_, ?_, ?_⟩, ?_, ?_⟩
    · have g := (hu.trans hxu).trans hyu
      rwa [List.append_nil, List.append_nil, List.append_nil, List.append_nil] at g
    · rw [hy, hxo.1]
    · rw [hy]
      exact hxo.2
    · rw [e]
      exact hd
    · have g := congrArg Bay.latch e
      exact g
    · have g := congrArg Bay.grant e
      exact g
    · have g := congrArg Bay.record e
      exact g
    · rw [e]
      exact ⟨rfl, rfl, rfl, rfl, rfl⟩
    · have g := congrArg Bay.state e
      exact g
    · have g := congrArg Bay.contact e
      exact g
  split
  · obtain ⟨h1, h2, h3⟩ := main _ (.inr rfl)
    refine ⟨h1, h2, h3, fun _ => ?_⟩
    exact (State.requestPassIf_untouched _ c).events.holds (State.addSubject_holds _ _ (by omega))
  · next hn =>
    obtain ⟨h1, h2, h3⟩ := main _ (.inl rfl)
    exact ⟨h1, h2, h3, fun g => absurd g hn⟩

theorem State.BayEnded.respond {t : State} (h : s.BayEnded t b) (x : Status) (m : List Byte) : s.BayEnded (t.respond x m) b :=
  ⟨h.cleared, h.undocked, h.undelivered, h.session, h.switch, h.partner, h.locks, h.subject, by
    have g := h.untouched.trans (t.respond_untouched x m)
    rwa [List.append_nil, List.append_nil] at g⟩

/-- The end of a bay does not look at its contact. -/
theorem State.BayEnded.of_contact {t : State} {v : Bool} (h : (s.setContact b v).BayEnded t b) : s.BayEnded t b := by
  have hb : ∀ c, (s.setContact b v).bay c = { s.bay c with contact := ((s.setContact b v).bay c).contact } := fun c => by
    have e := State.bay_modBay s b c fun x => { x with contact := v }
    have e' : (s.setContact b v).bay c = if b = c then { s.bay b with contact := v } else s.bay c := e
    rw [e']
    split
    · next g => subst g; rfl
    · rfl
  have hr : ∀ c, ((s.setContact b v).bay c).record = (s.bay c).record := fun c => by rw [hb]
  have hs : ∀ c, ((s.setContact b v).bay c).state = (s.bay c).state := fun c => by rw [hb]
  have hp : ((s.setContact b v).bay b).partner = (s.bay b).partner := by rw [hb]
  have hn : ((s.setContact b v).bay b).partnered = (s.bay b).partnered := by rw [hb]; rfl
  have hsp : ∀ p, (s.setContact b v).PartnerReleased t p → s.PartnerReleased t p := fun p g => by
    have hf : ((s.setContact b v).bay p).faultReason = (s.bay p).faultReason := by rw [hb]
    obtain ⟨g1, g2⟩ := g
    refine ⟨fun k => g1 ((hs p).trans k), fun k => ?_⟩
    obtain ⟨k1, k2, k3⟩ := g2 ((hs p).trans k)
    exact ⟨k1, k2.trans hf, k3⟩
  constructor
  case cleared => exact h.cleared
  case undocked => exact fun i hi => h.undocked i (by rw [hr]; exact hi)
  case undelivered => exact fun i hi => h.undelivered i (by rw [hr]; exact hi)
  case session => exact fun i hi => h.session i (by rw [hr]; exact hi)
  case switch =>
    intro h1 h2
    refine h.switch ⟨fun i c => ?_, fun c => ?_⟩ ?_
    · rw [hr]
      exact h1.1 i c
    · rw [hr, hs]
      exact h1.2 c
    · exact h2.congr (fun _ => rfl) (fun c => by rw [hb]) fun l x hx k1 k2 => ⟨k1, k2⟩
  case partner => exact fun p hpp hc => hsp p (h.partner p (by rw [hp]; exact hpp) (hn.trans hc))
  case locks =>
    intro h1 h2
    exact h.locks (by rw [hr]; exact h1) (h2.congr rfl rfl fun c => by rw [hb])
  case subject => exact fun g => h.subject (by rw [hs]; exact g)
  case untouched =>
    have g := h.untouched
    rw [hr, hp] at g
    exact ((s.modBay_untouched b fun x => { x with contact := v }).trans g).mono (by simp) (by simp)

theorem State.Empties.hostDisabled {w u : State} (h : w.Empties u b) : w.Empties (u.modBay b fun x => { x with hostDisabled := true }) b := by
  have e := (State.bay_modBay u b b fun x => { x with hostDisabled := true }).trans (if_pos rfl)
  have eo : ∀ c, b ≠ c → (u.modBay b fun x => { x with hostDisabled := true }).bay c = u.bay c := fun c hc =>
    (State.bay_modBay u b c fun x => { x with hostDisabled := true }).trans (if_neg hc)
  refine ⟨?_, ?_, h.response, fun c hc => (eo c hc).trans (h.other c hc), ?_, ?_, ?_, ?_, ?_⟩
  · exact (h.untouched.trans (u.modBay_untouched b _)).mono (by simp) (by simp)
  · rw [h.only]
    rfl
  all_goals rw [e]
  · exact h.off
  · exact h.latch
  · exact h.grant
  · exact h.record
  · exact h.stripped

end

/-- Settles O23: the bay is emptied, and the change closes. -/
theorem bayDisableAndContactLossEndTheBay : Obligations.BayDisableAndContactLossEndTheBay := by
  unfold Obligations.BayDisableAndContactLossEndTheBay
  refine ⟨fun s n b hn hpop hdis hp => ?_, fun s b hpop hc hraw => ⟨fun hst hp => ?_, fun hst => ?_⟩⟩
  · have hd := State.detached_detaches hp
    obtain ⟨he, h1, h2, h3⟩ := s.emptyBay_empties b (d := .disabled) (.inl rfl)
    have hu := he.hostDisabled
    have hlaw : s.LaneLaw → ((s.emptyBay b .disabled).modBay b fun x => { x with hostDisabled := true }).LaneLaw := fun hl =>
      ((State.Carries.emptyBay (E := View.All) b .disabled trivial fun e => hp ((s.undock_empties b).bay.partner ▸ e)).trans
        (State.Carries.modBay_same b _)).lanes hl
    have hb := (State.bay_modBay (s.emptyBay b .disabled) b b fun x => { x with hostDisabled := true }).trans (if_pos rfl)
    generalize hv : (s.emptyBay b .disabled).modBay b (fun x => { x with hostDisabled := true }) = v at hu hlaw hb
    have hend := hd.ended hu hp hlaw fun g => by rw [← hv]; exact h3 g
    have hx : exec (.bayDisable n) s = .next (v.closeChange.respond .done []) := by
      refine next_congr (Eq.trans ?_ (v.finish_eq .done fun _ => []))
      unfold State.bayDisable
      rw [bayNo?_of_eq hn]
      simp only [hpop, hdis, hv]
      rfl
    have hk := v.closeChange_bay b
    generalize v.closeChange = w at hend hx hk
    refine ⟨_, hx, w.respond_says _ _, hend.respond _ _, hk.state.trans ?_, hk.hostDisabled.trans ?_, hk.contact.trans ?_⟩
    · have g := congrArg Bay.state hb
      exact g.trans h1
    · have g := congrArg Bay.hostDisabled hb
      exact g
    · have g := congrArg Bay.contact hb
      exact g.trans (h2.trans hd.bay.contact)
  · have hrun : (s.bay b).departureRunning = true := by simp [Bay.departureRunning, hpop, hc, hraw]
    have hsb := (State.bay_modBay s b b fun x => { x with contact := false }).trans (if_pos rfl)
    have hp' : ((s.setContact b false).bay b).partner ≠ some b := by
      have g := congrArg Bay.partner hsb
      exact fun e => hp (g.symm.trans e)
    have hcon : ((s.setContact b false).bay b).contact = false := by
      have g := congrArg Bay.contact hsb
      exact g
    have hd := State.detached_detaches hp'
    obtain ⟨he, h1, h2, h3⟩ := (s.setContact b false).emptyBay_empties b (d := .empty) (.inr rfl)
    have hlaw : (s.setContact b false).LaneLaw → ((s.setContact b false).emptyBay b .empty).LaneLaw := fun hl =>
      (State.Carries.emptyBay (E := View.All) b .empty trivial
        fun e => hp' (((s.setContact b false).undock_empties b).bay.partner ▸ e)).lanes hl
    have hend := (hd.ended he hp' hlaw h3).of_contact
    have hresp : ((s.setContact b false).emptyBay b .empty).port.response = s.port.response := he.response.trans hd.response
    have hx : exec (.contactLoss b) s = .next ((s.setContact b false).emptyBay b .empty).closeChange := by
      refine next_congr ?_
      unfold State.contactLoss
      rw [if_pos hrun]
      exact if_neg hst
    generalize (s.setContact b false).emptyBay b .empty = v at h1 h2 hend hx hresp
    have hk := v.closeChange_bay b
    exact ⟨_, hx, v.closeChange_response.trans hresp, hend, hk.state.trans h1, hk.contact.trans (h2.trans (hd.bay.contact.trans hcon))⟩
  · have hrun : (s.bay b).departureRunning = true := by simp [Bay.departureRunning, hpop, hc, hraw]
    refine next_congr ?_
    unfold State.contactLoss
    rw [if_pos hrun]
    exact if_pos hst

/-! ### Bays brought up -/

/-- A bay that begins a bring-up (R28). -/
abbrev Bay.starting (x : Bay) : Bay := { x.strip with state := .bringup }

theorem State.enterBringup_eq (s : State) (b : BayNo) : s.enterBringup b = s.broughtUp b Bay.starting := rfl

/-- A bay that begins a bring-up does so still where the change closes. -/
theorem State.broughtUp_closed (s : State) (b : BayNo) : ((s.broughtUp b Bay.starting).closeChange.bay b).state = .bringup ∧
    (s.broughtUp b Bay.starting).closeChange.LinkStarts b 0 ∧ (s.broughtUp b Bay.starting).closeChange.OutputDropped b .off := by
  have h := s.broughtUp_bay b Bay.starting
  have h1 := s.broughtUp_linkStarts b Bay.starting
  have h2 := s.broughtUp_dropped b Bay.starting
  have hst : ((s.broughtUp b Bay.starting).bay b).state = .bringup := by
    rw [h]
  generalize s.broughtUp b Bay.starting = v at hst h1 h2
  have g := v.closeChange_spares b
  exact ⟨g.bay.state.trans hst, h1.spares g, h2.spares (.inr (.inr (.inl hst))) g⟩

theorem bayEnable_accepted {s : State} {n : Byte} {b : BayNo} (hn : n.toNat = b.val) (hp : (s.bay b).populated = true)
    (hd : (s.bay b).hostDisabled = true) : s.bayEnable n = (s.enableBay b).finish .done fun _ => [] := by
  unfold State.bayEnable
  rw [bayNo?_of_eq hn]
  simp only [hp, hd]
  rfl

/-- Settles O24, by the contact the bay has. -/
theorem bayEnableAndContactArrivalBeginBringup : Obligations.BayEnableAndContactArrivalBeginBringup := by
  unfold Obligations.BayEnableAndContactArrivalBeginBringup
  refine ⟨fun s n b hn hp hd => ?_, fun s b v => ⟨rfl, fun hp hc hraw => ⟨fun hst => ?_, fun hst => ?_⟩⟩⟩
  · let u := s.modBay b fun x => { x with hostDisabled := false, state := .empty }
    have hub : u.bay b = { s.bay b with hostDisabled := false, state := .empty } :=
      (State.bay_modBay s b b fun x => { x with hostDisabled := false, state := .empty }).trans (if_pos rfl)
    have huu : s.Untouched u [] [b] := s.modBay_untouched b _
    have hcu : (u.bay b).contact = (s.bay b).contact := by rw [hub]
    have hx : exec (.bayEnable n) s = .next ((s.enableBay b).closeChange.respond .done []) :=
      next_congr ((bayEnable_accepted hn hp hd).trans (State.finish_eq _ .done fun _ => []))
    have he : s.enableBay b = if (u.bay b).contact then u.broughtUp b Bay.starting else u := rfl
    cases hc : (s.bay b).contact with
    | false =>
      rw [hcu, hc, if_neg nofun] at he
      rw [he] at hx
      have hk := u.closeChange_bay b
      have huc := huu.closeChange
      have hud : (u.bay b).hostDisabled = false := by rw [hub]
      have hus : (u.bay b).state = .empty := by rw [hub]
      generalize u.closeChange = w at hx hk huc
      exact ⟨_, hx, w.respond_says _ _, hk.hostDisabled.trans hud, huc.trans (w.respond_untouched _ _),
        fun _ => hk.state.trans hus, nofun⟩
    | true =>
      rw [hcu, hc, if_pos rfl] at he
      rw [he] at hx
      obtain ⟨h1, h2, h3⟩ := u.broughtUp_closed b
      have huc := (huu.trans (u.broughtUp_untouched b Bay.starting)).closeChange
      have hud : ((u.broughtUp b Bay.starting).bay b).hostDisabled = false := by
        rw [State.broughtUp_bay, hub]
        rfl
      have hk := (u.broughtUp b Bay.starting).closeChange_bay b
      generalize (u.broughtUp b Bay.starting).closeChange = w at hx h1 h2 h3 huc hk
      exact ⟨_, hx, w.respond_says _ _, hk.hostDisabled.trans hud, (huc.trans (w.respond_untouched _ _)).mono (by simp) (by simp),
        nofun, fun _ => ⟨h1, h2, h3⟩⟩
  · have hrun : (s.bay b).arrivalRunning = true := by simp [Bay.arrivalRunning, hp, hc, hraw]
    let u := s.setContact b true
    have hub : u.bay b = { s.bay b with contact := true } :=
      (State.bay_modBay s b b fun x => { x with contact := true }).trans (if_pos rfl)
    have hx : exec (.contactArrival b) s = .next (u.broughtUp b Bay.starting).closeChange := by
      refine next_congr ?_
      unfold State.contactArrival
      rw [if_pos hrun]
      exact if_pos hst
    obtain ⟨h1, h2, h3⟩ := u.broughtUp_closed b
    have huc := ((s.modBay_untouched b fun x => { x with contact := true }).trans (u.broughtUp_untouched b Bay.starting)).closeChange
    have hbb : (u.broughtUp b Bay.starting).bay b = { (u.bay b).starting with grant := 0 } := u.broughtUp_bay b Bay.starting
    have hresp : (u.broughtUp b Bay.starting).port.response = s.port.response := rfl
    generalize u.broughtUp b Bay.starting = v at hx h1 h2 h3 huc hbb hresp
    have hk := v.closeChange_bay b
    refine ⟨_, hx, v.closeChange_response.trans hresp, h1, hk.contact.trans ?_, hk.reportedId.trans ?_, h2, h3,
      huc.mono (by simp) (by simp)⟩
    · rw [hbb, hub]
      rfl
    · rw [hbb]
      rfl
  · have hrun : (s.bay b).arrivalRunning = true := by simp [Bay.arrivalRunning, hp, hc, hraw]
    refine next_congr ?_
    unfold State.contactArrival
    rw [if_pos hrun]
    exact if_neg (by rw [hst]; nofun)

end Sys2Proof.Machine
end

section
/-! SUPPORT. Bays in a fault (R37, R38, R100), and the settling of O38. -/

namespace Sys2Proof.Machine

set_option Elab.async false

/-! ### Identity lost -/

section
variable {s t u : State} {b c : BayNo}

theorem State.releasePartner_record (s : State) (b c : BayNo) : ((s.releasePartner b).bay c).record = (s.bay c).record := by
  cases hp : (s.bay b).partner with
  | none => rw [State.releasePartner_of_none hp]
  | some p =>
    by_cases hc : p = c
    · subst hc
      obtain ⟨-, e⟩ | ⟨-, e⟩ | ⟨-, -, e⟩ := State.releasePartner_cases hp <;> rw [e]
      · have g := congrArg Bay.record (s.broughtUp_bay p Bay.freed)
        exact g
      · rw [State.bay_modBay, if_pos rfl]
    · rw [(s.releasePartner_other b fun e => hc (Option.some.inj (hp.symm.trans e))).1]

/-- A bay's identity fields but its record are removed. -/
abbrev Bay.nameless (x : Bay) : Bay := { x with reportedId := none, foreignCause := none, partner := none }

/-- What a fault takes of the identity of a bay, by its state (R37, R38). -/
theorem State.loseIdentity_cases (s : State) (b : BayNo) :
    (s.bay b).state = .collided ∧ s.loseIdentity b = (s.releasePartner b).modBay b Bay.nameless ∨
    (s.bay b).state = .foreign ∧ s.loseIdentity b = s.modBay b Bay.nameless ∨
    ((s.bay b).state ≠ .foreign ∧ (s.bay b).state ≠ .collided) ∧ s.loseIdentity b = s := by
  unfold State.loseIdentity
  cases h : (s.bay b).state with
  | collided => exact .inl ⟨rfl, rfl⟩
  | foreign => exact .inr (.inl ⟨rfl, rfl⟩)
  | disabled | empty | bringup | identified | fault => exact .inr (.inr ⟨⟨nofun, nofun⟩, rfl⟩)

theorem State.IdentityLost.spares (h : s.IdentityLost t b) (g : t.Spares u b) (gp : ∀ p ∈ (s.bay b).partner, t.Spares u p) :
    s.IdentityLost u b := by
  obtain ⟨h1, h2, h3, h4⟩ := h
  refine ⟨g.bay.record.trans h1, fun hs => ?_, fun hs p hp => (h3 hs p hp).spares (gp p hp), fun ha hb => ?_⟩
  · obtain ⟨k1, k2, k3⟩ := h2 hs
    exact ⟨g.bay.reportedId.trans k1, g.bay.foreignCause.trans k2, g.bay.partner.trans k3⟩
  · obtain ⟨k1, k2, k3⟩ := h4 ha hb
    exact ⟨g.bay.reportedId.trans k1, g.bay.foreignCause.trans k2, g.bay.partner.trans k3⟩

theorem State.loseIdentity_untouched (s : State) (b : BayNo) : s.Untouched (s.loseIdentity b) [] (b :: (s.bay b).partner.toList) := by
  obtain ⟨-, e⟩ | ⟨-, e⟩ | ⟨-, e⟩ := s.loseIdentity_cases b <;> rw [e]
  · exact ((s.releasePartner_untouched b).trans (State.modBay_untouched _ b _)).mono (by simp) (by simp)
  · exact (s.modBay_untouched b _).mono (by simp) (by simp)
  · exact (State.Untouched.refl s).mono (by simp) (by simp)

theorem State.loseIdentity_record (s : State) (b c : BayNo) : ((s.loseIdentity b).bay c).record = (s.bay c).record := by
  have hm : ∀ t : State, ((t.modBay b Bay.nameless).bay c).record = (t.bay c).record := fun t => by
    rw [State.bay_modBay]
    split
    · next e => subst e; rfl
    · rfl
  obtain ⟨-, e⟩ | ⟨-, e⟩ | ⟨-, e⟩ := s.loseIdentity_cases b <;> rw [e]
  · exact (hm _).trans (s.releasePartner_record b c)
  · exact hm s

theorem State.loseIdentity_only (s : State) (b : BayNo) : s.loseIdentity b = { s with
    bays := (s.loseIdentity b).bays, links := (s.loseIdentity b).links, outputs := (s.loseIdentity b).outputs
    reallocRequest := (s.loseIdentity b).reallocRequest } := by
  obtain ⟨-, e⟩ | ⟨-, e⟩ | ⟨-, e⟩ := s.loseIdentity_cases b <;> rw [e]
  · rw [s.releasePartner_only b]
    rfl
  · rfl

theorem State.loseIdentity_other (hb : b ≠ c) (hp : (s.bay b).partner ≠ some c) : (s.loseIdentity b).bay c = s.bay c ∧
    (s.loseIdentity b).link c = s.link c ∧ (s.loseIdentity b).output c = s.output c := by
  obtain ⟨-, e⟩ | ⟨-, e⟩ | ⟨-, e⟩ := s.loseIdentity_cases b <;> rw [e]
  · obtain ⟨h1, h2, h3⟩ := s.releasePartner_other b hp
    exact ⟨((State.bay_modBay _ b c _).trans (if_neg hb)).trans h1, h2, h3⟩
  · exact ⟨(State.bay_modBay _ b c _).trans (if_neg hb), rfl, rfl⟩
  · exact ⟨rfl, rfl, rfl⟩

theorem State.loseIdentity_own (hp : (s.bay b).partner ≠ some b) : (s.loseIdentity b).link b = s.link b := by
  obtain ⟨-, e⟩ | ⟨-, e⟩ | ⟨-, e⟩ := s.loseIdentity_cases b <;> rw [e]
  · exact (s.releasePartner_other b hp).2.1
  · rfl

theorem State.loseIdentity_lost (hp : (s.bay b).partner ≠ some b) : s.IdentityLost (s.loseIdentity b) b := by
  refine ⟨s.loseIdentity_record b b, ?_⟩
  obtain ⟨h, e⟩ | ⟨h, e⟩ | ⟨⟨h1, h2⟩, e⟩ := s.loseIdentity_cases b <;> rw [e]
  · have hb := (State.bay_modBay (s.releasePartner b) b b Bay.nameless).trans (if_pos rfl)
    refine ⟨fun _ => ?_, fun _ p hpp => ?_, fun _ g => absurd h g⟩
    · rw [hb]
      exact ⟨rfl, rfl, rfl⟩
    · exact (State.releasePartner_released hpp).spares (State.modBay_spares _ _ fun e => hp (e ▸ hpp))
  · have hb := (State.bay_modBay s b b Bay.nameless).trans (if_pos rfl)
    refine ⟨fun _ => ?_, fun g => BayState.noConfusion (h.symm.trans g), fun g => absurd h g⟩
    rw [hb]
    exact ⟨rfl, rfl, rfl⟩
  · exact ⟨fun g => (g.elim h1 h2).elim, fun g => absurd g h2, fun _ _ => ⟨rfl, rfl, rfl⟩⟩

end

/-! ### Bays that go to FAULT -/

/-- A write that puts a bay into FAULT and leaves its identity. -/
structure Bay.Faults (f : Bay → Bay) : Prop where
  state : ∀ x, (f x).state = .fault
  record : ∀ x, (f x).record = x.record
  reportedId : ∀ x, (f x).reportedId = x.reportedId
  foreignCause : ∀ x, (f x).foreignCause = x.foreignCause
  partner : ∀ x, (f x).partner = x.partner
  latch : ∀ x, (f x).latch = x.latch

/-- Bay b loses its identity, is rewritten, is cut, and adds a subject (R37, R38). -/
def State.faulted (s : State) (b : BayNo) (f : Bay → Bay) (n : SourceNo) : State :=
  ((((s.loseIdentity b).modBay b f).dropOutput b .cut).addSubject n b.val).requestPass

section
variable {s : State} {b : BayNo} {f : Bay → Bay} {n : SourceNo}

theorem State.faulted_bay (s : State) (b : BayNo) (f : Bay → Bay) (n : SourceNo) :
    (s.faulted b f n).bay b = { f ((s.loseIdentity b).bay b) with grant := 0 } := by
  have h : (s.faulted b f n).bay b = (((s.loseIdentity b).modBay b f).dropOutput b .cut).bay b := rfl
  rw [h, State.dropOutput_bay, if_pos rfl, State.bay_modBay, if_pos rfl]

theorem State.faulted_only (s : State) (b : BayNo) (f : Bay → Bay) (n : SourceNo) : s.faulted b f n = { s with
    bays := (s.faulted b f n).bays, links := (s.faulted b f n).links, outputs := (s.faulted b f n).outputs
    reallocRequest := (s.faulted b f n).reallocRequest, port := (s.faulted b f n).port } ∧
    (s.faulted b f n).port.response = s.port.response ∧ (s.faulted b f n).Holds n b.val := by
  unfold State.faulted
  rw [s.loseIdentity_only b]
  exact ⟨rfl, rfl, State.addSubject_holds _ _ (by omega)⟩

/-- A bay that goes to FAULT, where the change closes (R35, R37, R38, R100). -/
theorem State.faulted_leaves (s : State) (b : BayNo) (n : SourceNo) (hf : Bay.Faults f) :
    (s.faulted b f n).OutputDropped b .cut ∧ ((s.faulted b f n).bay b).state = .fault ∧
      ((s.faulted b f n).bay b).record = (s.bay b).record ∧
      s.Untouched (s.faulted b f n) [] (b :: (s.bay b).partner.toList) ∧
      ((s.bay b).partner ≠ some b → s.IdentityLost (s.faulted b f n) b) := by
  have hb := s.faulted_bay b f n
  have hu : (s.loseIdentity b).Untouched (s.faulted b f n) [] [b] :=
    ((State.modBay_untouched _ b f).trans (.after (State.addSubject_untouched _ n b.val) (State.dropOutput_untouched _ b .cut))).trans
      (.tables (s := (((s.loseIdentity b).modBay b f).dropOutput b .cut).addSubject n b.val) rfl rfl)
  refine ⟨State.dropOutput_dropped _ b .cut, ?_, ?_, ((s.loseIdentity_untouched b).trans hu).mono (by simp) (by simp), fun hp => ?_⟩
  · rw [hb]
    exact hf.state _
  · rw [hb]
    exact (hf.record _).trans (s.loseIdentity_record b b)
  · have hne : ∀ p ∈ (s.bay b).partner, b ≠ p := fun p hpp e => hp (e ▸ hpp)
    have hsp : ∀ p, b ≠ p → (s.loseIdentity b).Spares (s.faulted b f n) p := fun p hbp =>
      ((State.modBay_spares _ f hbp).trans (State.dropOutput_spares _ b .cut hbp)).trans (.of_eq rfl rfl rfl)
    obtain ⟨h1, h2, h3, h4⟩ := State.loseIdentity_lost hp
    refine ⟨?_, fun hs => ?_, fun hs p hpp => (h3 hs p hpp).spares (hsp p (hne p hpp)), fun ha hc => ?_⟩
    · rw [hb]
      exact (hf.record _).trans h1
    · rw [hb]
      obtain ⟨k1, k2, k3⟩ := h2 hs
      exact ⟨(hf.reportedId _).trans k1, (hf.foreignCause _).trans k2, (hf.partner _).trans k3⟩
    · rw [hb]
      obtain ⟨k1, k2, k3⟩ := h4 ha hc
      exact ⟨(hf.reportedId _).trans k1, (hf.foreignCause _).trans k2, (hf.partner _).trans k3⟩

end

/-- A bay that is cut (R38). -/
abbrev Bay.cutOff (x : Bay) : Bay := { x with state := .fault, faultReason := some .output }

theorem State.cut_eq (s : State) (b : BayNo) : s.cut b = s.faulted b Bay.cutOff Source.outputFault := rfl

theorem Bay.cutOff_faults : Bay.Faults Bay.cutOff :=
  ⟨fun _ => rfl, fun _ => rfl, fun _ => rfl, fun _ => rfl, fun _ => rfl, fun _ => rfl⟩

/-- A cut, its change closed (R38, R100). -/
theorem State.cut_closed (s : State) (b : BayNo) : (s.cut b).closeChange.OutputDropped b .cut ∧
    ((s.cut b).closeChange.bay b).state = .fault ∧ ((s.cut b).closeChange.bay b).faultReason = some .output ∧
    ((s.cut b).closeChange.bay b).record = (s.bay b).record ∧ (s.cut b).closeChange.Holds Source.outputFault b.val ∧
    ((s.bay b).partner ≠ some b → s.IdentityLost (s.cut b).closeChange b) ∧
    s.Untouched (s.cut b).closeChange [] (b :: (s.bay b).partner.toList) := by
  obtain ⟨h1, h2, h3, h4, h5⟩ := s.faulted_leaves b Source.outputFault Bay.cutOff_faults
  obtain ⟨-, -, h6⟩ := s.faulted_only b Bay.cutOff Source.outputFault
  have hr : ((s.cut b).bay b).faultReason = some .output := by
    rw [s.cut_eq, State.faulted_bay]
  rw [← s.cut_eq] at h1 h2 h3 h4 h5 h6
  generalize s.cut b = v at h1 h2 h3 h4 h5 h6 hr
  have g := v.closeChange_spares b
  exact ⟨h1.spares (.inr (.inr (.inr h2))) g, g.bay.state.trans h2, g.bay.faultReason.trans hr, g.bay.record.trans h3,
    v.closeChange_holds h6, fun hp => (h5 hp).spares g fun p _ => v.closeChange_spares p, h4.closeChange⟩

/-- Settles O38: both commands cut the bay, or nothing happens. -/
theorem cutsDropTheOutput : Obligations.CutsDropTheOutput := by
  unfold Obligations.CutsDropTheOutput
  intro s b c
  refine ⟨fun h => ?_, fun hc hn => ?_⟩
  · have hx : exec c s = .next (s.cut b).closeChange := by
      obtain ⟨rfl, hm⟩ | ⟨rfl, hm⟩ := h
      · exact if_pos hm
      · exact if_pos hm
    exact ⟨_, hx, s.cut_closed b⟩
  · subst hc
    exact if_neg (by rw [hn]; nofun)

end Sys2Proof.Machine
end

section
/-! SUPPORT. Links reset (R39, R66), and the settling of O34. -/

namespace Sys2Proof.Machine

set_option Elab.async false

section
variable {s : State} {b : BayNo} {n : Byte}

theorem linkReset_accepted (hn : n.toNat = b.val) (h : (s.link b).state = .failed ∨ (s.link b).state = .up) :
    exec (.linkReset n) s = .next ((s.resetLink b).closeChange.respond .accepted []) := by
  refine next_congr (Eq.trans ?_ (State.finish_eq _ .accepted fun _ => []))
  unfold State.linkReset
  rw [bayNo?_of_eq hn]
  exact if_pos h

/-- The link of bay b with a fresh bring-up begun (R52, R66). -/
def State.relinked (s : State) (b : BayNo) : State := s.modLink b (Link.beginBringup true)

theorem State.relinked_starts (s : State) (b : BayNo) : (s.relinked b).LinkStarts b 0 := by
  have h : (s.relinked b).link b = Link.beginBringup true (s.link b) := (s.link_modLink b b _).trans (if_pos rfl)
  unfold State.LinkStarts
  rw [h]
  exact ⟨rfl, rfl, rfl, rfl, rfl, rfl, rfl, rfl⟩

theorem State.relinked_untouched (s : State) (b : BayNo) : s.Untouched (s.relinked b) [] [] := s.modLink_untouched b _

/-- A FAULT bay with its recovery mark (R39). -/
abbrev Bay.recovering (x : Bay) : Bay := { x with recovery := true }

theorem State.resetLink_of_sound (h : (s.bay b).state ≠ .fault) : s.resetLink b = s.relinked b := if_neg h

theorem State.resetLink_of_named (h : (s.bay b).state = .fault) (hr : (s.bay b).record.isSome = true) :
    s.resetLink b = (s.relinked b).modBay b Bay.recovering := by
  obtain ⟨i, hi⟩ := Option.isSome_iff_exists.mp hr
  unfold State.resetLink
  simp only [h, hi]
  rfl

theorem State.resetLink_of_unnamed (h : (s.bay b).state = .fault) (hr : (s.bay b).record = none) : s.resetLink b =
    ((if (s.bay b).partnered then (s.relinked b).releasePartner b else s.relinked b).broughtUp b Bay.starting).requestPass := by
  unfold State.resetLink
  simp only [h, hr]
  rfl

theorem Bay.partnered_of_fault {x : Bay} {p : BayNo} (h : x.state = .fault) (hp : p ∈ x.partner) : x.partnered = true := by
  have g : x.partner = some p := hp
  unfold Bay.partnered
  rw [h, g]
  rfl

end

/-- Settles O34, by what the bay whose link is reset holds. -/
theorem linkResetBeginsAfresh : Obligations.LinkResetBeginsAfresh := by
  unfold Obligations.LinkResetBeginsAfresh
  intro s n b
  refine ⟨fun h => ?_, fun hn h1 h2 => ?_, fun hn h => ?_⟩
  · refine next_congr ?_
    unfold State.linkReset
    rw [bayNo?_of_ge h]
    rfl
  · refine next_congr ?_
    unfold State.linkReset
    rw [bayNo?_of_eq hn]
    exact if_neg (not_or.mpr ⟨h1, h2⟩)
  · refine ⟨_, linkReset_accepted hn h, State.respond_says _ _ _, ?_⟩
    have hq : ∀ (v : State) (p : BayNo), v.Spares (v.closeChange.respond .accepted []) p := fun v p => by
      have g := v.closeChange_spares p
      generalize v.closeChange = w at g
      exact g.trans (.of_eq rfl rfl rfl)
    have ht : ∀ v : State, v.LinkStarts b 0 → (v.closeChange.respond .accepted []).LinkStarts b 0 := fun v hv => hv.spares (hq v b)
    have hu : ∀ (v : State) {B : List BayNo}, s.Untouched v [] B → s.Untouched (v.closeChange.respond .accepted []) [] B :=
      fun v _ hv => (hv.closeChange.trans (State.respond_untouched _ _ _)).mono (by simp) (by simp)
    have hk : ∀ v : State, (v.bay b).IdentityKept ((v.closeChange.respond .accepted []).bay b) := fun v => (hq v b).bay
    by_cases hf : (s.bay b).state = .fault
    swap
    · rw [State.resetLink_of_sound hf]
      exact ⟨ht _ (s.relinked_starts b), fun _ => hu _ (s.relinked_untouched b), fun g => absurd g hf, fun g => absurd g hf⟩
    cases hr : (s.bay b).record with
    | some i =>
      rw [State.resetLink_of_named hf (Option.isSome_iff_exists.mpr ⟨i, hr⟩)]
      have hv : ((s.relinked b).modBay b Bay.recovering).bay b = (s.bay b).recovering :=
        (State.bay_modBay (s.relinked b) b b Bay.recovering).trans (if_pos rfl)
      have hs : ((s.relinked b).modBay b Bay.recovering).LinkStarts b 0 := s.relinked_starts b
      have huv := (s.relinked_untouched b).trans ((s.relinked b).modBay_untouched b Bay.recovering)
      generalize (s.relinked b).modBay b Bay.recovering = v at hv hs huv
      have k := hk v
      have ku := hu v huv
      have ks := ht v hs
      generalize v.closeChange.respond .accepted [] = t at k ku ks
      rw [hv] at k
      exact ⟨ks, fun g => absurd hf g, fun _ _ => ⟨k.state.trans hf, k.recovery, k.record.trans hr, k.faultReason, k.reportedId,
        k.partner, ku⟩, fun _ => nofun⟩
    | none =>
      rw [State.resetLink_of_unnamed hf hr]
      have hrel : (s.relinked b).Releases (if (s.bay b).partnered then (s.relinked b).releasePartner b else s.relinked b) b
        (s.bay b).partnered := State.releasePartner_releases _ b _
      have hrec : ((if (s.bay b).partnered then (s.relinked b).releasePartner b else s.relinked b).bay b).record = none := by
        split
        · exact (State.releasePartner_record _ b b).trans hr
        · exact hr
      generalize (if (s.bay b).partnered then (s.relinked b).releasePartner b else s.relinked b) = w at hrel hrec
      have hb : (w.broughtUp b Bay.starting).requestPass.bay b = { (w.bay b).starting with grant := 0 } := w.broughtUp_bay b Bay.starting
      have hs : (w.broughtUp b Bay.starting).requestPass.LinkStarts b 0 := w.broughtUp_linkStarts b Bay.starting
      have hwu : s.Untouched w [] (s.bay b).partner.toList := (s.relinked_untouched b).trans hrel.untouched
      have hpu : s.Untouched (w.broughtUp b Bay.starting).requestPass ([] ++ ([] ++ [])) ((s.bay b).partner.toList ++ ([b] ++ [])) :=
        hwu.trans ((w.broughtUp_untouched b Bay.starting).trans (.tables (s := w.broughtUp b Bay.starting) rfl rfl))
      have huv : s.Untouched (w.broughtUp b Bay.starting).requestPass [] (b :: (s.bay b).partner.toList) :=
        hpu.mono (by simp) (by simp)
      have hsp : ∀ p, b ≠ p → w.Spares (w.broughtUp b Bay.starting).requestPass p := fun p hp =>
        (w.broughtUp_spares b Bay.starting hp).trans (.of_eq rfl rfl rfl)
      generalize (w.broughtUp b Bay.starting).requestPass = v at hb hs huv hsp
      have k := hk v
      have ku := hu v huv
      have ks := ht v hs
      have kp := hq v
      generalize v.closeChange.respond .accepted [] = t at k ku ks kp
      rw [hb] at k
      refine ⟨ks, fun g => absurd hf g, fun _ => nofun, fun _ _ => ⟨k.state, k.faultReason, k.reportedId, k.partner,
        k.foreignCause, k.recovery, fun hne p hp => ?_, ku⟩⟩
      have hbp : b ≠ p := fun e => hne (e ▸ hp)
      have g : s.PartnerReleased w p := hrel.released p hp (Bay.partnered_of_fault hf hp)
      exact (g.spares (hsp p hbp)).spares (kp p)

end Sys2Proof.Machine
end

section
/-! SUPPORT. A record held by a link failure, and its release ended (R37, R149). -/

namespace Sys2Proof.Machine

set_option Elab.async false

/-! ### Latch requests dropped and placed again -/

section
variable {s : State} {b : BayNo} {d : Direction} {q : LatchRequest}

theorem queueRequest_of_ne {l : List LatchRequest} (h : q ∈ queueRequest b d l) (hq : q ≠ ⟨b, d⟩) : q ∈ l := by
  unfold queueRequest at h
  split at h
  · obtain ⟨r, hr, e⟩ := List.mem_map.mp h
    split at e
    · exact absurd e.symm hq
    · exact e ▸ hr
  · exact (List.mem_append.mp h).elim id fun g => absurd (List.mem_singleton.mp g) hq

/-- A request placed is none of another bay or direction. -/
theorem State.Lacks.placeRequest (h : s.Lacks q) (hq : q ≠ ⟨b, d⟩) : (s.placeRequest b d).Lacks q := by
  unfold State.placeRequest
  split
  · next k _ =>
    split
    · have hf : (s.freeReserving k).Lacks q := (h.setSlot k (x := .free) nofun).of_latches .of_bays
      exact (hf.of_latches (State.LatchesKept.latchSuccess _ b d)).slotService
    · exact (h.setSlot k fun e => hq (DriveSlot.reserving.inj e).symm).slotService
  · have hf : State.Lacks { s with latchQueue := queueRequest b d s.latchQueue } q :=
      ⟨fun g => h.queue (queueRequest_of_ne g hq), h.slots⟩
    exact hf.slotService

theorem State.dropReserving_of_none (h : s.reservingSlot b = none) : s.dropReserving b d = s := by
  unfold State.dropReserving
  rw [h]

theorem State.dropReserving_bays : (s.dropReserving b d).bays = s.bays := by
  unfold State.dropReserving
  split
  · split
    · exact State.slotService_bays _
    · rfl
  · rfl

theorem State.LatchIdle.reserving (h : s.LatchIdle b) : s.reservingSlot b = none :=
  State.reservingSlot_eq_none.mpr fun k q hk => State.slotHolds_eq_false.mp h.1 k q (by rw [hk]; rfl)

theorem State.LatchIdle.dropQueued (h : s.LatchIdle b) : (s.dropQueued b d).LatchIdle b :=
  ⟨State.slotHolds_eq_false.mpr fun k q hk => State.slotHolds_eq_false.mp h.1 k q hk,
    fun r hr => h.2 r (List.mem_filter.mp hr).1⟩

theorem State.dropRequests_orderly (h : s.LatchOrderly b) : ((s.dropQueued b d).dropReserving b d).LatchOrderly b := by
  obtain h | h := h
  · rw [State.dropReserving_of_none (State.LatchIdle.dropQueued h).reserving]
    exact .inl (State.LatchIdle.dropQueued h)
  · exact .inr (((State.Carries.dropQueued (E := View.All) b d).trans (State.Carries.dropReserving b d)).latches h)

/-- A drive of a bay goes on while the bay's requests are dropped. -/
theorem State.dropRequests_driving (h : s.LatchOrderly b) {k : SlotNo} (hk : s.slot k = .driving q) (hb : q.bay = b) :
    (s.dropQueued b d).dropReserving b d = s.dropQueued b d := by
  refine State.dropReserving_of_none (s := s.dropQueued b d) ?_
  obtain h | h := h
  · exact absurd hb (State.slotHolds_eq_false.mp h.1 k q (by rw [hk]; rfl))
  · obtain ⟨-, -, one, -⟩ := State.latchLaw_iff.mp h
    refine State.reservingSlot_eq_none.mpr fun j r hj e => ?_
    have hj' : s.slot j = .reserving r := hj
    obtain rfl := one j k r q (by rw [hj']; rfl) (by rw [hk]; rfl) (e.trans hb.symm)
    rw [hj'] at hk
    cases hk

/-- A record held is LOCKed again, unless its latch stands LOCKED or the service window is open (R149). -/
theorem State.relockAfterHold_asks (hs : s.service = none) (hm : (s.bay b).latch ≠ .locked ∨ ∃ k q, s.slot k = .driving q ∧ q.bay = b)
    (ho : s.LatchOrderly b) : (s.relockAfterHold b).Asks b .lock := by
  have hp := s.placeCustodyOrder_untouched b .lock
  have hl := State.LatchesKept.placeCustodyOrder s b .lock
  have hc : ((s.placeCustodyOrder b .lock).serviceOpen || (((s.placeCustodyOrder b .lock).bay b).latch == .locked &&
      ((s.placeCustodyOrder b .lock).drivingSlot b).isNone)) = false := by
    unfold State.serviceOpen
    rw [hp.windows.2.1, hs, State.drivingSlot_congr hl.slots, hl.latch]
    obtain h | h := hm
    · simp [h]
    · have := State.drivingSlot_isSome.mpr h
      simp [this]
  unfold State.relockAfterHold
  simp only
  rw [hc]
  exact State.placeRequest_asks (hl.orderly ho) .lock

theorem State.relockAfterHold_follows (s : State) (b : BayNo) : (s.placeCustodyOrder b .lock).Follows (s.relockAfterHold b) := by
  unfold State.relockAfterHold
  simp only
  split
  · exact .refl _
  · exact .placeRequest _ b .lock

theorem State.relockAfterHold_lacks (h : s.Lacks ⟨b, .unlock⟩) : (s.relockAfterHold b).Lacks ⟨b, .unlock⟩ := by
  have hl := h.of_latches (State.LatchesKept.placeCustodyOrder s b .lock)
  unfold State.relockAfterHold
  simp only
  split
  · exact hl
  · exact hl.placeRequest nofun

end

/-! ### A record held -/

section
variable {s : State} {b : BayNo} {i : RecordIx}

/-- A record held by a link failure, its session ended and, where it was releasing, its release (R37, R149). -/
structure State.HeldByLink (s t : State) (b : BayNo) (i : RecordIx) : Prop where
  frame : s.Untouched t [i] []
  spares : ∀ p, s.Spares t p
  record : ((s.record i).held .link).SameButUnsecured (t.record i)
  lane : ∀ m, (s.lane m).session = none → t.lane m = s.lane m
  release : (s.record i).custody = .releasing → t.release b = none
  order : (s.record i).custody = .releasing → (s.link b).state = .failed → (t.link b).custody.Newest .lock
  lacks : (s.record i).custody = .releasing → s.LatchLaw → t.Lacks ⟨b, .unlock⟩
  asks : (s.record i).custody = .releasing → s.service = none →
    ((s.bay b).latch ≠ .locked ∨ ∃ k q, s.slot k = .driving q ∧ q.bay = b) → s.LatchOrderly b → t.Asks b .lock

/-- The record as its session has ended and it is held. -/
def State.heldUp (s : State) (i : RecordIx) : State := (s.endSessionOf i .aborted).editRecord i (Record.held .link)

theorem State.holdByLink_eq (s : State) (b : BayNo) (i : RecordIx) : s.holdByLink b i =
    if (s.record i).custody = .releasing then ((s.heldUp i).endReleaseByHold b).relockAfterHold b else s.heldUp i := rfl

theorem State.heldUp_record (s : State) (i : RecordIx) : (s.heldUp i).record i = (s.record i).held .link := by
  have h := s.endSessionOf_unseats i (r := .aborted) rfl nofun
  have e := State.record_putRecord (s := s.endSessionOf i .aborted) i i (((s.endSessionOf i .aborted).record i).held .link)
  rw [if_pos rfl] at e
  exact e.trans (congrArg (Record.held .link) (h.record i))

theorem State.heldUp_untouched (s : State) (i : RecordIx) : s.Untouched (s.heldUp i) [i] [] :=
  (s.endSessionOf_unseats i (r := .aborted) rfl nofun).frame.trans (State.putRecord_untouched _ i _)

theorem State.heldUp_spares (s : State) (i : RecordIx) (p : BayNo) : s.Spares (s.heldUp i) p :=
  ((s.endSessionOf_unseats i (r := .aborted) rfl nofun).spares p).trans (.of_eq rfl rfl rfl)

theorem State.heldUp_latches (s : State) (i : RecordIx) : s.LatchesKept (s.heldUp i) :=
  (s.endSessionOf_unseats i (r := .aborted) rfl nofun).latches.trans .of_bays

theorem State.heldUp_lane (s : State) (i : RecordIx) {m : LaneNo} (h : (s.lane m).session = none) : (s.heldUp i).lane m = s.lane m := by
  obtain e | ⟨e, -⟩ := (s.endSessionOf_unseats i (r := .aborted) rfl nofun).lane m
  · exact e
  · obtain ⟨x, hx, -⟩ := State.Carries.laneOf_eq_some e
    rw [h] at hx
    cases hx

theorem State.Follows.lane_of_none {t : State} (h : s.Follows t) {m : LaneNo} (hm : (s.lane m).session = none) : t.lane m = s.lane m := by
  obtain e | ⟨y, hy, -⟩ := h.lane m
  · exact e
  · rw [hm] at hy
    cases hy

theorem State.holdByLink_holds (s : State) (b : BayNo) (i : RecordIx) : s.HeldByLink (s.holdByLink b i) b i := by
  have h1 := s.heldUp_untouched i
  have h2 := s.heldUp_spares i
  have h3 := s.heldUp_record i
  have h4 := s.heldUp_latches i
  have h5 := fun m => s.heldUp_lane i (m := m)
  rw [State.holdByLink_eq]
  generalize s.heldUp i = v at h1 h2 h3 h4 h5
  have hrec : ((s.record i).held .link).SameButUnsecured (v.record i) := by
    rw [h3]
  split
  swap
  · next hn => exact ⟨h1, h2, hrec, h5, fun g => absurd g hn, fun g => absurd g hn, fun g => absurd g hn, fun g => absurd g hn⟩
  let w := v.setRelease b none
  have hw : v.Untouched w [] [] := .tables rfl rfl
  have hwr : w.release b = none := (State.release_setRelease ..).trans (if_pos rfl)
  have hwl : v.LatchesKept w := .of_bays
  have hwm : ∀ m, w.lane m = v.lane m := fun _ => rfl
  have hwp : ∀ p, v.Spares w p := fun p => .of_eq rfl rfl rfl
  have he : v.endReleaseByHold b = (w.dropQueued b .unlock).dropReserving b .unlock := rfl
  rw [he]
  generalize w = w at hw hwr hwl hwm hwp he
  have hd : w.Follows ((w.dropQueued b .unlock).dropReserving b .unlock) :=
    (State.Follows.dropQueued w b .unlock).trans (State.Follows.dropReserving _ b .unlock)
  have hlk := h4.trans hwl
  have hla : s.LatchLaw → ((w.dropQueued b .unlock).dropReserving b .unlock).Lacks ⟨b, .unlock⟩ := fun g =>
    State.dropRequests_lacks (hlk.latchLaw g)
  have hor : s.LatchOrderly b → ((w.dropQueued b .unlock).dropReserving b .unlock).LatchOrderly b := fun g =>
    State.dropRequests_orderly (hlk.orderly g)
  have hlt : (((w.dropQueued b .unlock).dropReserving b .unlock).bay b).latch = (s.bay b).latch := by
    rw [State.bay_congr State.dropReserving_bays, ← hlk.latch b]
    rfl
  have hdr : s.LatchOrderly b → (∃ k q, s.slot k = .driving q ∧ q.bay = b) →
      ∃ k q, ((w.dropQueued b .unlock).dropReserving b .unlock).slot k = .driving q ∧ q.bay = b := by
    rintro g ⟨k, q, hk, hq⟩
    have hk' : w.slot k = .driving q := (hlk.slot k).trans hk
    rw [State.dropRequests_driving (hlk.orderly g) hk' hq]
    exact ⟨k, q, hk', hq⟩
  generalize (w.dropQueued b .unlock).dropReserving b .unlock = x at hd hla hor hlt hdr
  have hx := hd.release_of_none hwr
  have hf := x.relockAfterHold_follows b
  have hxr : (x.placeCustodyOrder b .lock).release b = none := (State.release_placeCustodyOrder _ b).trans hx
  have hu : s.Untouched (x.relockAfterHold b) [i] [] :=
    (((h1.trans hw).trans hd.frame).trans ((x.placeCustodyOrder_untouched b .lock).trans hf.frame)).mono (by simp) (by simp)
  have hsx : ∀ p, s.Spares x p := fun p => ((h2 p).trans (hwp p)).trans (hd.spares p)
  refine ⟨hu, fun p => ((hsx p).trans (x.placeCustodyOrder_spares b .lock p)).trans (hf.spares p), ?_, fun m hm => ?_,
    fun _ => hf.release_of_none hxr, fun _ hs => ?_, fun _ g => State.relockAfterHold_lacks (hla g), fun _ hs hm ho => ?_⟩
  · exact hrec.trans (((hw.trans hd.frame).trans ((x.placeCustodyOrder_untouched b .lock).trans hf.frame)).record i)
  · have e : x.lane m = s.lane m := (hd.lane_of_none (by rw [hwm, h5 m hm]; exact hm)).trans ((hwm m).trans (h5 m hm))
    have e' : (x.placeCustodyOrder b .lock).lane m = s.lane m := by
      rw [State.placeCustodyOrder_only]
      exact e
    exact (hf.lane_of_none (by rw [e']; exact hm)).trans e'
  · refine hf.custodyNewest (State.unlockingRecord_of_release hxr) (State.placeCustodyOrder_newest _ ?_)
    rw [(hsx b).link.of_busy (not_and_of_not_left _ (by rw [hs]; nofun))]
    show (s.link b).state ≠ .down
    rw [hs]
    nofun
  · refine State.relockAfterHold_asks ?_ (hm.imp (fun g => by rw [hlt]; exact g) (hdr ho)) (hor ho)
    exact (((h1.trans hw).trans hd.frame).windows.2.1).trans hs

end

end Sys2Proof.Machine
end

section
/-! SUPPORT. A link that fails (R37, R65, R121, R149). -/

namespace Sys2Proof.Machine

set_option Elab.async false

section
variable {s t : State} {b : BayNo} {i : RecordIx} {l : LaneNo} {x : Session} {g : Byte}

/-! ### A verification unanswered -/

theorem State.Ends.spares {r : SessionResult} (h : s.Ends t l x r) (p : BayNo) : s.Spares t p where
  settings := by rw [h.only]
  bay := by
    rw [h.bay]
    split
    · next e => subst e; rfl
    · rfl
  link := (h.link p).mono (fun _ _ => trivial) fun _ _ => trivial
  still _ _ := by
    refine ⟨by rw [h.only]; rfl, fun g => ?_⟩
    rw [h.bay]
    split
    · next e => subst e; exact g
    · exact g

theorem State.Ends.latches {r : SessionResult} (h : s.Ends t l x r) : s.LatchesKept t := by
  refine ⟨by rw [h.only], by rw [h.only], fun c => ?_⟩
  rw [h.bay]
  split
  · next e => subst e; rfl
  · rfl

theorem Record.afterSession_fields (n : Nat) (r : SessionResult) (x : Record) : ∃ k c,
    x.afterSession n r = { x with failureCount := k, provStuck := c } := by
  unfold Record.afterSession
  split
  · exact ⟨_, _, rfl⟩
  · split
    · exact ⟨_, _, rfl⟩
    · split <;> exact ⟨_, _, rfl⟩

/-- What a failed link, whose verification is pending where c says so, leaves of the session in its bay (R65, R121). -/
structure State.Unanswers (s t : State) (b : BayNo) (c : Bool) : Prop where
  spares : ∀ p, s.Spares t p
  record : ∀ i, ∃ k q, t.record i = { s.record i with failureCount := k, provStuck := q }
  latches : s.LatchesKept t
  release : ∀ p, t.release p = s.release p
  untouched : ∀ A, (c = true → ∀ l x, s.laneAt b = some l → (s.lane l).session = some x → x.record ∈ A) → s.Untouched t A []
  ended : c = true → ∀ l x g, s.laneAt b = some l → (s.lane l).session = some x → x.phase = .closing g →
    t.lane l = ⟨none, some ⟨.unverified, x.record, some g⟩, none⟩ ∧ t.Holds Source.laneEnd l.val ∧
      ((s.record x.record).custody ≠ .free → (t.record x.record).failureCount = min 7 ((s.record x.record).failureCount + 1))

theorem State.closingAt_eq_some (h : s.closingAt b = some (l, g)) :
    s.laneAt b = some l ∧ ∃ x, (s.lane l).session = some x ∧ x.phase = .closing g := by
  unfold State.closingAt at h
  split at h
  · next m hm =>
    split at h
    · next x hx =>
      obtain ⟨c, hc, e⟩ := Option.map_eq_some_iff.mp h
      obtain ⟨rfl, rfl⟩ := Prod.mk.inj e
      refine ⟨hm, x, hx, ?_⟩
      cases hp : x.phase <;> rw [hp] at hc <;> cases hc
      rfl
    · cases h
  · cases h

theorem State.closingAt_of_closing (hl : s.laneAt b = some l) (hx : (s.lane l).session = some x) (hp : x.phase = .closing g) :
    s.closingAt b = some (l, g) := by
  unfold State.closingAt
  simp only [hl, hx, hp]
  rfl

theorem State.Unanswers.refl (s : State) (b : BayNo) {c : Bool}
    (h : c = true → s.closingAt b = none) : s.Unanswers s b c where
  spares := .refl s
  record _ := ⟨_, _, rfl⟩
  latches := .refl s
  release _ := rfl
  untouched _ _ := (State.Untouched.refl s).mono (List.nil_subset _) (List.nil_subset _)
  ended hc _ _ _ hl hx hp := by
    have := h hc
    rw [State.closingAt_of_closing hl hx hp] at this
    cases this

theorem State.verificationUnanswered_unanswers (s : State) (b : BayNo) (c : Bool) :
    s.Unanswers (if c then s.verificationUnanswered b else s) b c := by
  cases c with
  | false => exact .refl s b nofun
  | true =>
    rw [if_pos rfl]
    unfold State.verificationUnanswered
    split
    · next l g hc =>
      obtain ⟨hl, x, hx, hp⟩ := State.closingAt_eq_some hc
      have h := State.endSession_ends .unverified hx
      generalize s.endSession l .unverified = t at h
      have hr := h.record
      refine ⟨h.spares, fun i => ?_, h.latches, fun p => by rw [h.only]; rfl, fun A hA => ?_, fun _ m y q hm hy hq => ?_⟩
      · rw [hr]
        split
        · exact Record.afterSession_fields _ _ _
        · exact ⟨_, _, rfl⟩
      · have hu := (s.putRecord_untouched x.record _).trans h.untouched
        exact hu.mono (by simpa using hA rfl l x hl hx) (by simp)
      · obtain rfl := Option.some.inj (hl.symm.trans hm)
        obtain rfl := Option.some.inj (hx.symm.trans hy)
        refine ⟨?_, h.ended, fun hf => ?_⟩
        · rw [h.lane, if_pos rfl, hq]
          rfl
        · rw [hr, if_pos rfl, Record.afterSession_of_failure rfl hf]
    · next hc => exact .refl s b fun _ => hc

/-! ### The link's failure -/

/-- A bay that goes to FAULT(LINK) (R37). -/
abbrev Bay.linkFault (x : Bay) : Bay := { x with state := .fault, faultReason := some .link, recovery := false }

theorem Bay.linkFault_faults : Bay.Faults Bay.linkFault :=
  ⟨fun _ => rfl, fun _ => rfl, fun _ => rfl, fun _ => rfl, fun _ => rfl, fun _ => rfl⟩

/-- The record a bay whose link failed names, if any, is held (R37). -/
def State.heldAt (s : State) (b : BayNo) : State := match (s.bay b).record with
  | some i => s.holdByLink b i
  | none => s

theorem State.faultLink_eq (s : State) (b : BayNo) : s.faultLink b = (s.heldAt b).faulted b Bay.linkFault Source.linkFault := rfl

/-- A link whose bring-up failed for the third time (R53, R65). -/
abbrev Link.failing (l : Link) : Link := { l with
  state := .failed, pollRunning := false, verify := false, verifyDue := false, exchange := none, sweep := none }

theorem State.linkFailed_eq (s : State) (b : BayNo) : s.linkFailed b =
    (if (s.link b).verify then (s.modLink b Link.failing).verificationUnanswered b else s.modLink b Link.failing).faultLink b := rfl

theorem State.heldAt_of_none (h : (s.bay b).record = none) : s.heldAt b = s := by
  unfold State.heldAt
  rw [h]

theorem State.heldAt_of_some (h : (s.bay b).record = some i) : s.HeldByLink (s.heldAt b) b i := by
  unfold State.heldAt
  rw [h]
  exact s.holdByLink_holds b i

theorem State.heldAt_spares (s : State) (b p : BayNo) : s.Spares (s.heldAt b) p := by
  cases h : (s.bay b).record with
  | none =>
    rw [State.heldAt_of_none h]
    exact .refl s p
  | some i => exact (State.heldAt_of_some h).spares p

theorem State.heldAt_untouched (s : State) (b : BayNo) : s.Untouched (s.heldAt b) (s.bay b).record.toList [] := by
  cases h : (s.bay b).record with
  | none =>
    rw [State.heldAt_of_none h]
    exact .refl s
  | some i => exact (State.heldAt_of_some h).frame

theorem State.heldAt_lane (h : (s.lane l).session = none) : (s.heldAt b).lane l = s.lane l := by
  cases hr : (s.bay b).record with
  | none => rw [State.heldAt_of_none hr]
  | some i => exact (State.heldAt_of_some hr).lane l h

theorem State.heldAt_failures (s : State) (b : BayNo) (i : RecordIx) : ((s.heldAt b).record i).failureCount = (s.record i).failureCount := by
  cases hr : (s.bay b).record with
  | none => rw [State.heldAt_of_none hr]
  | some j =>
    by_cases hj : i = j
    · subst hj
      have g := congrArg Record.failureCount (State.heldAt_of_some hr).record
      exact g
    · have g := congrArg Record.failureCount ((State.heldAt_of_some hr).frame.records i (by simpa using hj))
      exact g

/-- Latches as they were through what a fault writes. -/
theorem State.faulted_latches {f : Bay → Bay} {n : SourceNo} (hf : Bay.Faults f) : s.LatchesKept (s.faulted b f n) := by
  have hm : ∀ (u : State) (f : Bay → Bay), (∀ x, (f x).latch = x.latch) → u.LatchesKept (u.modBay b f) := fun u f h =>
    ⟨rfl, rfl, fun c => by
      rw [State.bay_modBay]
      split
      · next e => subst e; exact h _
      · rfl⟩
  have hi : s.LatchesKept (s.loseIdentity b) := by
    obtain ⟨-, e⟩ | ⟨-, e⟩ | ⟨-, e⟩ := s.loseIdentity_cases b <;> rw [e]
    · exact (s.releasePartner_releases b true).latches.trans (hm _ _ fun _ => rfl)
    · exact hm _ _ fun _ => rfl
    · exact .refl s
  have hd : ((s.loseIdentity b).modBay b f).LatchesKept (s.faulted b f n) := by
    refine ⟨rfl, rfl, fun c => ?_⟩
    have e : (s.faulted b f n).bay c = (((s.loseIdentity b).modBay b f).dropOutput b .cut).bay c := rfl
    rw [e, State.dropOutput_bay]
    split
    · next q => subst q; rfl
    · rfl
  exact (hi.trans (hm _ f hf.latch)).trans hd

theorem State.IdentityLost.source {r : State} (h : s.IdentityLost t b) (g : ∀ p, (r.bay p).IdentityKept (s.bay p)) :
    r.IdentityLost t b := by
  obtain ⟨h1, h2, h3, h4⟩ := h
  refine ⟨h1.trans (g b).record, fun hs => h2 ?_, fun hs p hp => ?_, fun ha hb => ?_⟩
  · rw [(g b).state]
    exact hs
  · exact (h3 ((g b).state.trans hs) p (by rw [(g b).partner]; exact hp)).source (g p)
  · obtain ⟨k1, k2, k3⟩ := h4 (by rw [(g b).state]; exact ha) (by rw [(g b).state]; exact hb)
    exact ⟨k1.trans (g b).reportedId, k2.trans (g b).foreignCause, k3.trans (g b).partner⟩

end

end Sys2Proof.Machine
end

section
/-! SUPPORT. Exchanges that fail (R47, R53, R61, R63, R65), and the settling of O32. -/

namespace Sys2Proof.Machine

set_option Elab.async false

/-! ### The change closed after an exchange -/

section
variable {s t : State} {b : BayNo}

theorem State.closed_pumped_spares (v : State) (b p : BayNo) : v.Spares (v.closeChange.pumpLink b) p := by
  have h := v.closeChange_spares p
  have hf := v.closeChange.pumpLink_fed (p := fun _ => True) (q := fun _ => True) b p
  have hs := h.settings
  generalize v.closeChange = w at h hf hs
  exact h.trans ⟨rfl, by rfl, hf, fun _ _ => ⟨rfl, id⟩⟩

theorem State.modLink_modLink (s : State) (b : BayNo) (f g : Link → Link) :
    (s.modLink b f).modLink b g = s.modLink b fun l => g (f l) := by
  have h : (s.modLink b f).link b = f (s.link b) := (s.link_modLink b b f).trans (if_pos rfl)
  have e : ∀ u : State, u.modLink b g = { u with links := u.links.set b.val (g (u.link b)) } := fun _ => rfl
  have e' : ∀ k : Link → Link, s.modLink b k = { s with links := s.links.set b.val (k (s.link b)) } := fun _ => rfl
  rw [e, h, e' f, e']
  simp only [Vector.set_set]

/-! ### Kinds of failure -/

theorem execReplyTimeout_of_some {x : Exchange} (h : (s.link b).exchange = some x) :
    exec (.replyTimeout b) s = .next (s.failExchange b) := by
  show execReplyTimeout b s = _
  unfold execReplyTimeout
  rw [h]

theorem State.takeReply_of_other {x : Exchange} {kind : Byte} {f : Exchange → State} (h : (s.link b).exchange = some x)
    (hx : x.calls kind = false) : s.takeReply b kind f = s.failExchange b := by
  unfold State.takeReply
  rw [h]
  exact if_neg (by simp [hx])

theorem execReplyTimeout_of_fails {x : Exchange} {v : State} (h : (s.link b).exchange = some x) (hv : s.exchangeFails b = v) :
    exec (.replyTimeout b) s = .next (v.closeChange.pumpLink b) := by
  rw [execReplyTimeout_of_some h, State.failExchange, hv]

/-- A QUERY or an ORDER in progress. -/
abbrev Link.Polls (l : Link) : Prop :=
  l.exchange = some .query ∨ l.exchange = some .custodyOrder ∨ l.exchange = some .laneOrder

theorem State.exchangeFails_of_polls (h : (s.link b).Polls) : s.exchangeFails b = s.modLink b Link.exchangeFailed := by
  unfold State.exchangeFails
  obtain e | e | e := h <;> rw [e]

theorem Link.exchangeFailed_of_few {l : Link} (h : l.failedExchanges + 1 < 3) : l.exchangeFailed = { l with
    exchange := none
    failedExchanges := l.failedExchanges + 1
    custody := if l.exchange = some .custodyOrder then l.custody.failed else l.custody
    lane := if l.exchange = some .laneOrder then l.lane.failed else l.lane } := by
  unfold Link.exchangeFailed
  exact if_neg (Nat.not_le.mpr h)

theorem State.exchangeFailed_starts (h : 3 ≤ (s.link b).failedExchanges + 1) :
    (s.modLink b Link.exchangeFailed).LinkStarts b (s.link b).failedBringups := by
  have e : (s.modLink b Link.exchangeFailed).link b = Link.beginBringup false { s.link b with
      exchange := none
      failedExchanges := (s.link b).failedExchanges + 1
      custody := if (s.link b).exchange = some .custodyOrder then (s.link b).custody.failed else (s.link b).custody
      lane := if (s.link b).exchange = some .laneOrder then (s.link b).lane.failed else (s.link b).lane } := by
    rw [State.link_modLink, if_pos rfl]
    unfold Link.exchangeFailed
    exact if_pos h
  unfold State.LinkStarts
  rw [e]
  exact ⟨rfl, rfl, rfl, rfl, rfl, rfl, rfl, rfl⟩

theorem Slot.failed_of_none {α : Type} {y : Slot α} {o : α} (h : y.waiting = none) (hf : y.inFlight = some o) :
    y.failed = ⟨some o, none, false⟩ := by
  unfold Slot.failed
  rw [h, hf]

theorem Slot.failed_newest {α : Type} {y : Slot α} {o : α} (h : y.waiting = some o) : y.failed.Newest o := by
  refine .inl ?_
  unfold Slot.failed
  rw [h]

/-! ### HELLO -/

/-- A HELLO that failed is tried again (R53). -/
abbrev Link.helloAgain (l : Link) : Link := { l with helloAttempts := l.helloAttempts + 1, exchange := none, state := .rest }

/-- A HELLO that failed for the third time (R53). -/
abbrev Link.helloSpent (l : Link) : Link := { l with helloAttempts := l.helloAttempts + 1, exchange := none }

/-- A bring-up that failed (R53). -/
abbrev Link.bringupSpent (l : Link) : Link :=
  { l with helloAttempts := l.helloAttempts + 1, failedBringups := l.failedBringups + 1, exchange := none }

/-- The link whose third bring-up failed (R65). -/
abbrev Link.fallen (l : Link) : Link := l.bringupSpent.failing

theorem State.helloFailed_again (h : (s.link b).helloAttempts < 2) : s.helloFailed b = s.modLink b Link.helloAgain := by
  have e : (s.modLink b Link.helloSpent).link b = (s.link b).helloSpent := (s.link_modLink b b Link.helloSpent).trans (if_pos rfl)
  have hc : ((s.modLink b Link.helloSpent).link b).helloAttempts < 3 := by
    rw [e]
    show (s.link b).helloAttempts + 1 < 3
    omega
  exact (if_pos hc).trans (s.modLink_modLink b Link.helloSpent fun l => { l with state := .rest })

theorem State.helloFailed_spent (h : 2 ≤ (s.link b).helloAttempts) : s.helloFailed b =
    if (s.link b).step = 0 then (s.modLink b Link.helloSpent).bringupFailed b
    else s.modLink b fun l => l.helloSpent.stepDown := by
  have e : (s.modLink b Link.helloSpent).link b = (s.link b).helloSpent := (s.link_modLink b b Link.helloSpent).trans (if_pos rfl)
  have hc : ¬((s.modLink b Link.helloSpent).link b).helloAttempts < 3 := by
    rw [e]
    show ¬(s.link b).helloAttempts + 1 < 3
    omega
  have hs : ((s.modLink b Link.helloSpent).link b).step = (s.link b).step := by rw [e]
  refine (if_neg hc).trans ?_
  rw [hs, State.modLink_modLink]

theorem State.bringupFailed_spent (s : State) (b : BayNo) : (s.modLink b Link.helloSpent).bringupFailed b =
    if 2 ≤ (s.link b).failedBringups then (s.modLink b Link.bringupSpent).linkFailed b
    else s.modLink b fun l => l.bringupSpent.beginBringup false := by
  have e : (s.modLink b Link.helloSpent).bringupFailed b = if 3 ≤ ((s.modLink b Link.bringupSpent).link b).failedBringups then
      (s.modLink b Link.bringupSpent).linkFailed b else (s.modLink b Link.bringupSpent).modLink b (Link.beginBringup false) := by
    rw [← s.modLink_modLink b Link.helloSpent fun l => { l with failedBringups := l.failedBringups + 1, exchange := none }]
    rfl
  have hb : ((s.modLink b Link.bringupSpent).link b).failedBringups = (s.link b).failedBringups + 1 := by
    rw [State.link_modLink, if_pos rfl]
  rw [e, hb, State.modLink_modLink]
  simp only [Nat.succ_le_succ_iff]

theorem State.linkFailed_fallen (s : State) (b : BayNo) : (s.modLink b Link.bringupSpent).linkFailed b =
    (if (s.link b).verify then (s.modLink b Link.fallen).verificationUnanswered b else s.modLink b Link.fallen).faultLink b := by
  have hv : ((s.modLink b Link.bringupSpent).link b).verify = (s.link b).verify := by
    rw [State.link_modLink, if_pos rfl]
  rw [State.linkFailed_eq, State.modLink_modLink, hv]

end

/-! ### A link fallen -/

/-- What the third failed bring-up of bay b's link leaves (R37, R65, R121, R149). -/
structure State.LinkFallen (s t : State) (b : BayNo) : Prop where
  link : (t.link b).state = .failed
  bay : (t.bay b).state = .fault ∧ (t.bay b).faultReason = some .link ∧ (t.bay b).recovery = false
  dropped : t.OutputDropped b .cut
  subject : t.Holds Source.linkFault b.val
  held : ∀ i : RecordIx, (s.bay b).record = some i → (t.record i).custody = .held ∧
    (t.record i).holdReason = some .link ∧ (t.record i).holder = none ∧ (t.record i).currentBay = (s.record i).currentBay
  identity : (s.bay b).partner ≠ some b → s.IdentityLost t b
  untouched : ∀ A, ((s.link b).verify = true → ∀ l x, s.laneAt b = some l → (s.lane l).session = some x → x.record ∈ A) →
    s.Untouched t (A ++ (s.bay b).record.toList) (b :: (s.bay b).partner.toList)
  ended : (s.link b).verify = true → ∀ l x g, s.laneAt b = some l → (s.lane l).session = some x → x.phase = .closing g →
    (t.lane l).last = some ⟨.unverified, x.record, some g⟩ ∧ t.Holds Source.laneEnd l.val ∧
      ((s.record x.record).custody ≠ .free → (t.record x.record).failureCount = min 7 ((s.record x.record).failureCount + 1))
  release : ∀ i : RecordIx, (s.bay b).record = some i → (s.record i).custody = .releasing → t.release b = none ∧
    t.CustodyOrdered b .lock ∧ (s.LatchLaw → t.Lacks ⟨b, .unlock⟩) ∧
    (s.service = none → ((s.bay b).latch ≠ .locked ∨ ∃ k q, s.slot k = .driving q ∧ q.bay = b) → s.LatchOrderly b →
      t.Asks b .lock)

section
variable {s : State} {b : BayNo}

theorem State.pumpLink_of_busy (h : ¬(s.link b).Idle) : s.pumpLink b = s := by
  have e : (s.link b).pump s.linkSettings = s.link b := if_neg h
  have g : s.pumpLink b = { s with links := s.links.set b.val ((s.link b).pump s.linkSettings) } := rfl
  rw [g, e]
  have k : s.links.set b.val (s.link b) = s.links := Vector.set_getElem_self _
  rw [k]

theorem State.faulted_link {f : Bay → Bay} {n : SourceNo} (hp : (s.bay b).partner ≠ some b) : (s.faulted b f n).link b = s.link b :=
  State.loseIdentity_own hp

theorem State.linkFallen_leaves (hp : (s.bay b).partner ≠ some b) :
    s.LinkFallen ((s.modLink b Link.bringupSpent).linkFailed b).closeChange b := by
  have h0 : s.Untouched (s.modLink b Link.fallen) [] [] := s.modLink_untouched b _
  have hl0 : ((s.modLink b Link.fallen).link b).state = .failed := by
    rw [State.link_modLink, if_pos rfl]
  have h1 := (s.modLink b Link.fallen).verificationUnanswered_unanswers b (s.link b).verify
  rw [State.linkFailed_fallen, State.faultLink_eq]
  generalize (if (s.link b).verify then (s.modLink b Link.fallen).verificationUnanswered b else s.modLink b Link.fallen) = v at h1
  have hlv : (v.link b).state = .failed := by
    rw [(h1.spares b).link.of_busy (not_and_of_not_left _ (by rw [hl0]; nofun))]
    exact hl0
  have hbv : ∀ p, (s.bay p).IdentityKept (v.bay p) := fun p => (h1.spares p).bay
  have h2 := v.heldAt_spares b
  have h3 := v.heldAt_untouched b
  have h4 := fun i => State.heldAt_of_some (s := v) (b := b) (i := i)
  have h5 := v.heldAt_failures b
  have h6 := fun l => State.heldAt_lane (s := v) (b := b) (l := l)
  generalize v.heldAt b = w at h2 h3 h4 h5 h6
  have hbw : ∀ p, (s.bay p).IdentityKept (w.bay p) := fun p => (hbv p).trans (h2 p).bay
  have hpw : (w.bay b).partner ≠ some b := by
    rw [(hbw b).partner]
    exact hp
  have hlw : (w.link b).state = .failed := by
    rw [(h2 b).link.of_busy (not_and_of_not_left _ (by rw [hlv]; nofun))]
    exact hlv
  obtain ⟨f1, f2, -, f4, f5⟩ := w.faulted_leaves b Source.linkFault Bay.linkFault_faults
  obtain ⟨o1, -, o3⟩ := w.faulted_only b Bay.linkFault Source.linkFault
  have hbf := w.faulted_bay b Bay.linkFault Source.linkFault
  have hlat := State.faulted_latches (s := w) (b := b) (n := Source.linkFault) Bay.linkFault_faults
  have hlk := State.faulted_link (s := w) (b := b) (f := Bay.linkFault) (n := Source.linkFault) hpw
  have hrl : ∀ p, (w.faulted b Bay.linkFault Source.linkFault).release p = w.release p := fun p => by rw [o1]; rfl
  have hln : ∀ l, (w.faulted b Bay.linkFault Source.linkFault).lane l = w.lane l := fun l => by rw [o1]; rfl
  have hrc : ∀ i, (w.faulted b Bay.linkFault Source.linkFault).record i = w.record i := fun i => by rw [o1]; rfl
  generalize w.faulted b Bay.linkFault Source.linkFault = z at f1 f2 f4 f5 o3 hbf hlat hlk hrl hln hrc
  have hz := z.closeChange_spares b
  have hlz : (z.link b).state = .failed := by rw [hlk]; exact hlw
  have hfr : (z.bay b).faultReason = some .link := by rw [hbf]
  have hrv : (z.bay b).recovery = false := by rw [hbf]
  have hpv : (v.bay b).partner = (s.bay b).partner := (hbv b).partner
  have hpq : (w.bay b).partner = (s.bay b).partner := (hbw b).partner
  constructor
  case link =>
    rw [hz.link.of_busy (not_and_of_not_left _ (by rw [hlz]; nofun))]
    exact hlz
  case bay => exact ⟨hz.bay.state.trans f2, hz.bay.faultReason.trans hfr, hz.bay.recovery.trans hrv⟩
  case dropped => exact f1.spares (.inr (.inr (.inr f2))) hz
  case subject => exact z.closeChange_holds o3
  case held =>
    intro i hi
    obtain ⟨k, q, hr⟩ := h1.record i
    have hh := (h4 i ((hbv b).record.trans hi)).record
    rw [hr, ← hrc] at hh
    have g := hh.trans (z.closeChange_record i)
    have e1 := congrArg Record.custody g
    have e2 := congrArg Record.holdReason g
    have e3 := congrArg Record.holder g
    have e4 := congrArg Record.currentBay g
    exact ⟨e1, e2, e3, e4⟩
  case identity => exact fun _ => ((f5 hpw).source hbw).spares hz fun p _ => z.closeChange_spares p
  case untouched =>
    intro A hA
    have hv : s.Untouched v A [] := (h0.trans (h1.untouched A hA)).mono (by simp) (by simp)
    have g := ((hv.trans h3).trans f4).closeChange
    rw [hpq, (hbv b).record] at g
    exact g.mono (by simp) (by simp)
  case ended =>
    intro hv l x q hl hx hq
    obtain ⟨e1, e2, e3⟩ := h1.ended hv l x q hl hx hq
    have e4 : w.lane l = v.lane l := h6 l (by rw [e1])
    refine ⟨?_, ?_, fun hc => ?_⟩
    · rw [z.closeChange_last, hln, e4, e1]
    · exact z.closeChange_holds (f4.events.holds (h3.events.holds e2))
    · have g := congrArg Record.failureCount (z.closeChange_record x.record)
      have g' : (z.closeChange.record x.record).failureCount = (z.record x.record).failureCount := g
      rw [g', hrc, h5]
      exact e3 hc
  case release =>
    intro i hi hc
    have hh := h4 i ((hbv b).record.trans hi)
    have hcv : (v.record i).custody = .releasing := by
      obtain ⟨k, q, hr⟩ := h1.record i
      rw [hr]
      exact hc
    have hlt : s.LatchesKept v := (State.LatchesKept.of_bays (s := s) (t := s.modLink b Link.fallen)).trans h1.latches
    have hzr : z.release b = none := (hrl b).trans (hh.release hcv)
    have hu := State.unlockingRecord_of_release hzr
    refine ⟨(z.closeChange_release_of_none hu).trans hzr, State.closeChange_custodyOrdered hu ?_, fun g => ?_, fun hs hm ho => ?_⟩
    · rw [hlk]
      exact hh.order hcv hlv
    · exact ((hh.lacks hcv (hlt.latchLaw g)).of_latches hlat).closeChange
    · have hvs : v.service = s.service := ((h0.trans (h1.untouched allRecords fun _ _ _ _ _ => List.mem_finRange _)).windows.2.1)
      have g := hh.asks hcv (hvs.trans hs) (by
        rw [hlt.latch]
        exact hm.imp id fun ⟨k, q, e, e'⟩ => ⟨k, q, (hlt.slot k).trans e, e'⟩) (hlt.orderly ho)
      exact (hlat.asks g).closeChange

end

end Sys2Proof.Machine
end

section
/-! SUPPORT. The settling of O32: failed exchanges are counted (R47, R53, R58, R61, R63). -/

namespace Sys2Proof.Machine

set_option Elab.async false

section
variable {x : Exchange}

theorem Exchange.not_calls_ident (h : x ≠ .hello) : x.calls 0x21 = false := by
  cases x with
  | hello => exact absurd rfl h
  | train | query | custodyOrder | laneOrder => rfl

theorem Exchange.not_calls_echo (h : x ≠ .train) : x.calls 0x22 = false := by
  cases x with
  | train => exact absurd rfl h
  | hello | query | custodyOrder | laneOrder => rfl

theorem Exchange.not_calls_telemetry (h : x ≠ .query) : x.calls 0x23 = false := by
  cases x with
  | query => exact absurd rfl h
  | hello | train | custodyOrder | laneOrder => rfl

theorem Exchange.not_calls_order (h1 : x ≠ .custodyOrder) (h2 : x ≠ .laneOrder) : x.calls 0x24 = false ∧ x.calls 0x25 = false := by
  cases x with
  | custodyOrder => exact absurd rfl h1
  | laneOrder => exact absurd rfl h2
  | hello | train | query => exact ⟨rfl, rfl⟩

end

section
variable {s : State} {b : BayNo}

/-- The link whose QUERY or ORDER failed as the change closes. -/
theorem exchangeFailed_closed (h : (s.link b).Polls) :
    exec (.replyTimeout b) s = .next ((s.modLink b Link.exchangeFailed).closeChange.pumpLink b) := by
  have hx := State.exchangeFails_of_polls h
  obtain e | e | e := h <;> exact execReplyTimeout_of_fails e hx

theorem State.exchangeFailed_link (h : (s.link b).failedExchanges + 1 < 3) : (s.modLink b Link.exchangeFailed).link b = { s.link b with
    exchange := none
    failedExchanges := (s.link b).failedExchanges + 1
    custody := if (s.link b).exchange = some .custodyOrder then (s.link b).custody.failed else (s.link b).custody
    lane := if (s.link b).exchange = some .laneOrder then (s.link b).lane.failed else (s.link b).lane } := by
  rw [State.link_modLink, if_pos rfl, Link.exchangeFailed_of_few h]

/-- The third clause: failures in a row. -/
theorem polls_counted (h : (s.link b).Polls) : ∃ t, exec (.replyTimeout b) s = .next t ∧ s.Untouched t [] [] ∧
    ((s.link b).failedExchanges + 1 < 3 → (t.link b).failedExchanges = (s.link b).failedExchanges + 1) ∧
    (3 ≤ (s.link b).failedExchanges + 1 → t.LinkStarts b (s.link b).failedBringups) := by
  refine ⟨_, exchangeFailed_closed h, (s.modLink_untouched b _).then (State.closed_pumped_untouched _ b), fun hf => ?_, fun hf => ?_⟩
  · have g := (State.closed_pumped_link (s.modLink b Link.exchangeFailed) b b).kept.failedExchanges
    rwa [State.exchangeFailed_link hf] at g
  · exact (State.exchangeFailed_starts hf).spares (State.closed_pumped_spares _ b b)

theorem custodyOrder_waits {o : CustodyOrder} (h : (s.link b).exchange = some .custodyOrder) (hf : (s.link b).custody.inFlight = some o)
    (hc : (s.link b).failedExchanges + 1 < 3) (hr : ∀ i : RecordIx, s.release b ≠ some ⟨i, .unlocking⟩) :
    ((s.link b).custody.waiting = none → (s.link b).instantPending = none →
        ∃ t, exec (.replyTimeout b) s = .next t ∧ (t.link b).custody = ⟨some o, none, false⟩) ∧
      ∀ q : CustodyOrder, (s.link b).custody.waiting = some q → ∃ t, exec (.replyTimeout b) s = .next t ∧ t.CustodyOrdered b q := by
  have hx := exchangeFailed_closed (.inr (.inl h))
  have hfed := State.closed_pumped_link (s.modLink b Link.exchangeFailed) b b
  have hu : (s.modLink b Link.exchangeFailed).unlockingRecord b = none := by
    refine Option.eq_none_iff_forall_ne_some.mpr fun i hi => ?_
    obtain ⟨-, -, e⟩ := State.unlockingRecord_eq_some.mp hi
    obtain ⟨r, e1, e2⟩ := Option.map_eq_some_iff.mp e
    have e3 : s.release b = some r := e1
    exact hr r.record (by rw [e3, ← e2])
  have hn := fun y => (s.modLink b Link.exchangeFailed).not_opensWith hu y
  have hl := State.exchangeFailed_link hc
  rw [if_pos h] at hl
  rw [hl] at hfed
  refine ⟨fun hw hp => ⟨_, hx, ?_⟩, fun q hw => ⟨_, hx, ?_⟩⟩
  · have e := Slot.failed_of_none hw hf
    exact (hfed.custody_undue hn hp (by rw [e])).trans e
  · exact hfed.custody_newest (fun y hy => absurd hy (hn y)) (Slot.failed_newest hw)

theorem laneOrder_waits {o : LaneOrder} (h : (s.link b).exchange = some .laneOrder) (hf : (s.link b).lane.inFlight = some o)
    (hc : (s.link b).failedExchanges + 1 < 3) (hr : s.NoWakeDue b) :
    ((s.link b).lane.waiting = none → (s.link b).instantPending = none →
        ∃ t, exec (.replyTimeout b) s = .next t ∧ (t.link b).lane = ⟨some o, none, false⟩) ∧
      ∀ q : LaneOrder, (s.link b).lane.waiting = some q → ∃ t, exec (.replyTimeout b) s = .next t ∧ t.LaneOrdered b q := by
  have hx := exchangeFailed_closed (.inr (.inr h))
  have hfed := State.closed_pumped_link (s.modLink b Link.exchangeFailed) b b
  have hr' : (s.modLink b Link.exchangeFailed).NoWakeDue b := hr
  have hn := fun y => hr'.not_wakesIn y
  have hl := State.exchangeFailed_link hc
  rw [if_pos h] at hl
  rw [hl] at hfed
  refine ⟨fun hw hp => ⟨_, hx, ?_⟩, fun q hw => ⟨_, hx, ?_⟩⟩
  · have e := Slot.failed_of_none hw hf
    exact (hfed.lane_undue hn hp (by rw [e])).trans e
  · exact hfed.lane_newest (fun y hy => absurd hy (hn y)) (Slot.failed_newest hw)

theorem reachPoll_link (s : State) (b : BayNo) : (s.reachPoll b).link b =
    ((s.link b).pollInstant s.linkSettings s.clk32).pump s.linkSettings := by
  have e := (s.link_modLink b b (Link.pollInstant s.linkSettings s.clk32)).trans (if_pos rfl)
  have g : (s.reachPoll b).link b = ((s.modLink b (Link.pollInstant s.linkSettings s.clk32)).link b).pump s.linkSettings :=
    (State.link_pumpLink ..).trans (if_pos rfl)
  rw [g, e]

/-- A poll instant on an idle UP link falls due at once (R58). -/
theorem Link.pollInstant_due {l : Link} {set : LinkSettings} {now : Nat} (h : l.state = .up) (hx : l.exchange = none) :
    (l.pollInstant set now).Idle ∧ (l.pollInstant set now).instantPending.isSome = true := by
  refine ⟨⟨h, hx⟩, ?_⟩
  unfold Link.pollInstant
  simp [h]

/-- A HELLO that failed, by the number of its attempts and of failed bring-ups (R53). -/
theorem hello_fails (h : (s.link b).exchange = some .hello) : exec (.replyTimeout b) s = .next ((s.helloFailed b).closeChange.pumpLink b) := by
  refine execReplyTimeout_of_fails h ?_
  unfold State.exchangeFails
  rw [h]

theorem State.modLink_rests {f : Link → Link} (h : (f (s.link b)).state = .rest) :
    ∃ c l, ((s.modLink b f).closeChange.pumpLink b).link b = { f (s.link b) with custody := c, lane := l } := by
  have hfed := State.closed_pumped_link (s.modLink b f) b b
  have e : (s.modLink b f).link b = f (s.link b) := (s.link_modLink b b f).trans (if_pos rfl)
  rw [e] at hfed
  exact ⟨_, _, hfed.of_busy (not_and_of_not_left _ (by rw [h]; nofun))⟩

end

/-- Settles O32: the link is written by the exchange that failed, and the change closes. -/
theorem failedExchangesAreCounted : Obligations.FailedExchangesAreCounted := by
  unfold Obligations.FailedExchangesAreCounted
  refine ⟨fun s b l x hx hl => ?_, fun s b x p q v reason hx => ⟨fun h => ?_, fun h => ?_, fun h => ?_, fun h1 h2 => ?_⟩,
    fun s b h => polls_counted h, fun s b o h hf hc hr => custodyOrder_waits h hf hc hr, fun s b o hu hp hx hw => ?_,
    fun s b o h hf hc hr => laneOrder_waits h hf hc hr, fun s b o hu hp hx hc hw => ?_, fun s b hx hp => ?_⟩
  · rw [execReplyTimeout_of_some hx]
    show execBadFrame b l s = _
    unfold execBadFrame
    rw [hx]
    exact if_neg (by simp [hl])
  · rw [execReplyTimeout_of_some hx]
    exact next_congr (State.takeReply_of_other hx (Exchange.not_calls_ident h))
  · rw [execReplyTimeout_of_some hx]
    exact next_congr (State.takeReply_of_other hx (Exchange.not_calls_echo h))
  · rw [execReplyTimeout_of_some hx]
    exact next_congr (State.takeReply_of_other hx (Exchange.not_calls_telemetry h))
  · rw [execReplyTimeout_of_some hx]
    obtain ⟨e1, e2⟩ := Exchange.not_calls_order h1 h2
    exact ⟨next_congr (State.takeReply_of_other hx e1), next_congr (State.takeReply_of_other hx e2)⟩
  · obtain ⟨hi, hd⟩ := Link.pollInstant_due (set := s.linkSettings) (now := s.clk32) hu hx
    obtain ⟨e1, e2, -⟩ := Link.pump_custody _ s.linkSettings hi (o := o) hw (.inr hd)
    refine ⟨_, execPollInstant_of_running hp, s.reachPoll_onlyLink b, ?_⟩
    rw [reachPoll_link]
    exact ⟨e1, e2⟩
  · obtain ⟨hi, hd⟩ := Link.pollInstant_due (set := s.linkSettings) (now := s.clk32) hu hx
    obtain ⟨e1, e2⟩ := Link.pump_lane _ s.linkSettings hi hc (o := o) hw (.inr hd)
    refine ⟨_, execPollInstant_of_running hp, s.reachPoll_onlyLink b, ?_⟩
    rw [reachPoll_link]
    exact ⟨e1, e2⟩
  · have hexec := hello_fails hx
    have hun : ∀ f, s.Untouched ((s.modLink b f).closeChange.pumpLink b) [] [] := fun f =>
      (s.modLink_untouched b f).then (State.closed_pumped_untouched _ b)
    refine ⟨_, hexec, fun ha => ?_, fun ha hs => ?_, fun ha hs hb => ?_, fun ha hs hb => ?_⟩
    · rw [State.helloFailed_again ha]
      obtain ⟨c, l, e⟩ := State.modLink_rests (s := s) (b := b) (f := Link.helloAgain) rfl
      have hu := hun Link.helloAgain
      rw [e]
      exact ⟨rfl, rfl, rfl, hu⟩
    · have hs0 : (s.link b).step ≠ 0 := fun e => by rw [e] at hs; exact absurd hs (lt_irrefl 0)
      rw [State.helloFailed_spent ha, if_neg hs0]
      obtain ⟨c, l, e⟩ := State.modLink_rests (s := s) (b := b) (f := fun l => l.helloSpent.stepDown) rfl
      have hu := hun fun l => l.helloSpent.stepDown
      rw [e]
      exact ⟨rfl, rfl, rfl, rfl, rfl, rfl, hu⟩
    · rw [State.helloFailed_spent ha, if_pos hs, State.bringupFailed_spent, if_neg (Nat.not_le.mpr hb)]
      refine ⟨?_, hun _⟩
      have g : (s.modLink b fun l => l.bringupSpent.beginBringup false).LinkStarts b ((s.link b).failedBringups + 1) := by
        have e : (s.modLink b fun l => l.bringupSpent.beginBringup false).link b = (s.link b).bringupSpent.beginBringup false :=
          (s.link_modLink b b _).trans (if_pos rfl)
        unfold State.LinkStarts
        rw [e]
        exact ⟨rfl, rfl, rfl, rfl, rfl, rfl, rfl, rfl⟩
      exact g.spares (State.closed_pumped_spares _ b b)
    · rw [State.helloFailed_spent ha, if_pos hs, State.bringupFailed_spent, if_pos hb]
      have h := State.linkFallen_leaves hp
      generalize ((s.modLink b Link.bringupSpent).linkFailed b).closeChange = t at h
      rw [State.pumpLink_of_busy (not_and_of_not_left _ (by rw [h.link]; nofun))]
      obtain ⟨b1, b2, b3⟩ := h.bay
      refine ⟨h.link, b1, b2, b3, h.dropped, h.subject, h.held, h.identity hp, fun hv => ?_, fun l x g hv hl hy hg => ?_,
        fun i hi hc => ?_⟩
      · obtain hv | ⟨hn, hl⟩ := hv
        · exact (h.untouched [] fun g => by rw [hv] at g; cases g).mono (by simp) (by simp)
        · refine (h.untouched (s.bay b).record.toList fun _ l x hm hx => ?_).mono (by simp) (by simp)
          obtain ⟨-, hcb, -⟩ := hl.1 l x hx
          have hb : x.bay = b := by
            have := List.find?_some hm
            rw [hx] at this
            simpa using this
          exact Option.mem_toList.mpr ((hn.1 x.record b).mp (hb ▸ hcb))
      · obtain ⟨e1, e2, e3⟩ := h.ended hv l x g hl hy hg
        exact ⟨e1, e2, fun hc _ => e3 hc⟩
      · obtain ⟨e1, e2, e3, e4⟩ := h.release i hi hc
        exact ⟨e1, e2, fun hl => ⟨(e3 hl).queue, (e3 hl).slots⟩, fun hm hs ho =>
          (e4 hs (hm.imp id fun ⟨k, d, e⟩ => ⟨k, _, e, rfl⟩) ho).asked⟩

end Sys2Proof.Machine
end

section
/-! SUPPORT. What a dock, a FOREIGN bay and a collision write (R8, R31 to R33, R140). -/

namespace Sys2Proof.Machine

set_option Elab.async false

theorem State.Untouched.requestPass {s t : State} {A : List RecordIx} {B : List BayNo} (h : s.Untouched t A B) :
    s.Untouched t.requestPass A B := by
  have g := h.trans (.tables (s := t) (t := t.requestPass) rfl rfl)
  rwa [List.append_nil, List.append_nil] at g

/-- What follows touches no more. -/
theorem State.Untouched.still {s t u : State} {A : List RecordIx} {B : List BayNo} (h : s.Untouched t A B) (g : t.Untouched u [] []) :
    s.Untouched u A B := by
  have k := h.trans g
  rwa [List.append_nil, List.append_nil] at k

/-! ### Rates kept -/

/-- Bay b's link keeps its rate step and its ceiling, and the settings and the time stay. -/
structure State.Paces (s t : State) (b : BayNo) : Prop where
  settings : t.linkSettings = s.linkSettings
  clock : t.clk32 = s.clk32
  step : (t.link b).step = (s.link b).step
  ceiling : (t.link b).ceiling = (s.link b).ceiling

section
variable {s t u : State} {b : BayNo}

theorem State.Paces.refl (s : State) (b : BayNo) : s.Paces s b := ⟨rfl, rfl, rfl, rfl⟩

theorem State.Paces.trans (h : s.Paces t b) (g : t.Paces u b) : s.Paces u b :=
  ⟨g.settings.trans h.settings, g.clock.trans h.clock, g.step.trans h.step, g.ceiling.trans h.ceiling⟩

theorem State.Paces.of_link (hl : t.link b = s.link b) (hs : t.linkSettings = s.linkSettings := by rfl)
    (hc : t.clk32 = s.clk32 := by rfl) : s.Paces t b := ⟨hs, hc, by rw [hl], by rw [hl]⟩

theorem State.Paces.of_fed {A : List RecordIx} {B : List BayNo} {set : LinkSettings} {p : CustodyOrder → Prop} {q : LaneOrder → Prop}
    {l : Link} (hu : s.Untouched t A B) (h : Link.Fed set p q l (t.link b)) (hs : l.step = (s.link b).step)
    (hc : l.ceiling = (s.link b).ceiling) : s.Paces t b :=
  ⟨hu.settings.1, hu.time.2.2, h.kept.step.trans hs, h.kept.ceiling.trans hc⟩

theorem State.Follows.paces (h : s.Follows t) (b : BayNo) : s.Paces t b := .of_fed h.frame (h.link b) rfl rfl

theorem State.Unseats.paces {i : RecordIx} {r : SessionResult} (h : s.Unseats t i r) (b : BayNo) : s.Paces t b :=
  .of_fed h.frame (h.link b) rfl rfl

end

/-! ### Docks -/

/-- What a dock of record i into bay b leaves before the change closes (R8, R31, R140). -/
structure State.Docks (s t : State) (b : BayNo) (i : RecordIx) : Prop where
  untouched : s.Untouched t [i] [b]
  bay : ({ (s.bay b).strip with state := .identified, record := some i } : Bay).IdentityKept (t.bay b)
  spares : ∀ c, b ≠ c → s.Spares t c
  record : (Record.enterBay b (s.record i)).remark.SameButUnsecured (t.record i)
  returned : (s.record i).custody = .loaned ∨ (s.record i).custody = .overdue → t.Holds Source.returned i.val
  link : Link.Fed s.linkSettings (fun _ => True) (fun _ => True) (s.link b) (t.link b)
  order : (Record.enterBay b (s.record i)).custody = .inCart → (s.link b).state ≠ .down → (t.link b).custody.Newest .lock
  asks : (Record.enterBay b (s.record i)).custody = .inCart → s.custodySettings.autoLock = true → s.service = none →
    s.LatchOrderly b → t.Asks b .lock
  last : ∀ l, (t.lane l).last = (s.lane l).last
  response : t.port.response = s.port.response

/-- Bay b names record i and the record is written, before what the Custody Controller does (R31). -/
def State.docking (s : State) (b : BayNo) (i : RecordIx) : State :=
  (((s.modBay b fun x => { x.strip with state := .identified, record := some i }).modEntry b AllocEntry.forget).modOutput b
    fun o => { o with remainder := 0 }).modRecord i (Record.enterBay b)

/-- The docked record returns from a loan (R8). -/
def State.docked (s : State) (b : BayNo) (i : RecordIx) : State :=
  if (s.record i).custody = .loaned ∨ (s.record i).custody = .overdue then (s.docking b i).addSubject Source.returned i.val
  else s.docking b i

theorem State.dock_eq (s : State) (b : BayNo) (i : RecordIx) : s.dock b i =
    (if ((s.docked b i).record i).custody = .inCart then (s.docked b i).receiveInCart b else s.docked b i).requestPass := rfl

section
variable {s t : State} {b : BayNo} {i : RecordIx}

theorem State.docked_only (s : State) (b : BayNo) (i : RecordIx) : s.docked b i = { s.docking b i with port := (s.docked b i).port } ∧
    (s.docked b i).port.response = s.port.response ∧ (s.docking b i).EventsGrow (s.docked b i) := by
  unfold State.docked
  split
  · exact ⟨rfl, rfl, (State.addSubject_untouched (s.docking b i) _ _).events⟩
  · exact ⟨rfl, rfl, (State.Untouched.refl (s.docking b i)).events⟩

theorem State.docked_record (s : State) (b : BayNo) (i : RecordIx) : (s.docked b i).record i = (Record.enterBay b (s.record i)).remark := by
  rw [(s.docked_only b i).1]
  exact (State.record_modRecord _ i i (Record.enterBay b)).trans (if_pos rfl)

theorem State.docked_bay (s : State) (b : BayNo) (i : RecordIx) (c : BayNo) : (s.docked b i).bay c =
    if b = c then { (s.bay b).strip with state := .identified, record := some i } else s.bay c := by
  rw [(s.docked_only b i).1]
  exact State.bay_modBay s b c fun x => { x.strip with state := .identified, record := some i }

theorem State.docked_output (s : State) (b : BayNo) (i : RecordIx) {c : BayNo} (h : b ≠ c) : (s.docked b i).output c = s.output c := by
  have e := (State.output_modOutput s b c fun o => { o with remainder := 0 }).trans (if_neg h)
  rw [(s.docked_only b i).1]
  exact e

theorem State.docked_untouched (s : State) (b : BayNo) (i : RecordIx) : s.Untouched (s.docked b i) [i] [b] := by
  have h1 := s.modBay_untouched b fun x => { x.strip with state := .identified, record := some i }
  generalize hu : (s.modBay b fun x => { x.strip with state := .identified, record := some i }) = u at h1
  have h2 : u.Untouched ((u.modEntry b AllocEntry.forget).modOutput b fun o => { o with remainder := 0 }) [] [] := .tables rfl rfl
  have e : s.docking b i = ((u.modEntry b AllocEntry.forget).modOutput b fun o => { o with remainder := 0 }).modRecord i
      (Record.enterBay b) := by rw [← hu]; rfl
  have h4 : (s.docking b i).Untouched (s.docked b i) [] [] := by
    unfold State.docked
    split
    · exact State.addSubject_untouched _ _ _
    · exact .refl _
  rw [e] at h4
  exact (((h1.trans h2).trans (State.putRecord_untouched _ i _)).trans h4).mono (by simp) (by simp)

theorem Record.enterBay_custody (b : BayNo) (r : Record) : (Record.enterBay b r).custody =
    if r.custody = .away ∨ r.custody = .loaned ∨ r.custody = .overdue ∨ r.custody = .adrift then .inCart else r.custody := by
  unfold Record.enterBay
  cases h : r.custody <;> simp

theorem State.docked_latches (s : State) (b : BayNo) (i : RecordIx) : s.LatchesKept (s.docked b i) := by
  refine ⟨by rw [(s.docked_only b i).1]; rfl, by rw [(s.docked_only b i).1]; rfl, fun c => ?_⟩
  rw [State.docked_bay]
  split
  · next e => subst e; rfl
  · rfl

theorem State.dock_docks (s : State) (b : BayNo) (i : RecordIx) : s.Docks (s.dock b i) b i := by
  have h1 := s.docked_untouched b i
  have h2 := s.docked_record b i
  have h3 := s.docked_bay b i
  have h4 := fun c => s.docked_output b i (c := c)
  have h5 := s.docked_latches b i
  obtain ⟨h6, h7, -⟩ := s.docked_only b i
  have h8 : ∀ l, (s.docked b i).lane l = s.lane l := fun l => by rw [h6]; rfl
  have h9 : ∀ c, (s.docked b i).link c = s.link c := fun c => by rw [h6]; rfl
  have h10 : (s.record i).custody = .loaned ∨ (s.record i).custody = .overdue → (s.docked b i).Holds Source.returned i.val := fun g => by
    unfold State.docked
    rw [if_pos g]
    exact State.addSubject_holds _ _ (by omega)
  rw [State.dock_eq]
  generalize s.docked b i = v at h1 h2 h3 h4 h5 h6 h7 h8 h9 h10
  have hb : v.bay b = { (s.bay b).strip with state := .identified, record := some i } := (h3 b).trans (if_pos rfl)
  have hset : v.linkSettings = s.linkSettings := h1.settings.1
  have hsp : ∀ c, b ≠ c → s.Spares v c := fun c hc => .of_eq ((h3 c).trans (if_neg hc)) (h9 c) (h4 c hc) hset
  have hcc : (v.record i).custody = (Record.enterBay b (s.record i)).custody := by rw [h2]; rfl
  rw [hcc]
  split
  swap
  · next hn =>
    refine ⟨h1.requestPass, ?_, fun c hc => (hsp c hc).trans (.of_eq rfl rfl rfl), ?_, h10, ?_, fun g => absurd g hn,
      fun g => absurd g hn, fun l => congrArg Lane.last (h8 l), h7⟩
    · exact hb ▸ rfl
    · exact h2 ▸ rfl
    · have g : Link.Fed s.linkSettings (fun _ => True) (fun _ => True) (s.link b) (v.link b) := by
        rw [h9]
        exact .refl
      exact g
  · next hin =>
    have hf := v.receiveInCart_follows b
    have hp := v.placeCustodyOrder_untouched b .lock
    have hspp := fun c => v.placeCustodyOrder_spares b .lock c
    have hun : (v.placeCustodyOrder b .lock).unlockingRecord b = none := by
      refine Option.eq_none_iff_forall_ne_some.mpr fun j hj => ?_
      obtain ⟨e1, e2, -⟩ := State.unlockingRecord_eq_some.mp hj
      rw [State.placeCustodyOrder_only] at e1 e2
      have e1' : (v.bay b).record = some j := e1
      have e2' : (v.record j).custody = .releasing := e2
      rw [hb] at e1'
      obtain rfl := Option.some.inj e1'
      rw [hcc, hin] at e2'
      cases e2'
    have hnew : (v.link b).state ≠ .down → ((v.placeCustodyOrder b .lock).link b).custody.Newest .lock :=
      fun g => State.placeCustodyOrder_newest _ g
    have hlast : ∀ l, (v.placeCustodyOrder b .lock).lane l = v.lane l := fun l => by rw [State.placeCustodyOrder_only]; rfl
    have hresp : (v.placeCustodyOrder b .lock).port.response = v.port.response := by rw [State.placeCustodyOrder_only]
    have hask := State.receiveInCart_asks (s := v) (b := b)
    have hlin : (v.placeCustodyOrder b .lock).linkSettings = v.linkSettings := hp.settings.1
    generalize v.placeCustodyOrder b .lock = w at hf hp hspp hun hnew hlast hresp hlin
    generalize v.receiveInCart b = x at hf hask
    constructor
    case untouched => exact ((h1.still hp).still hf.frame).requestPass
    case bay =>
      have g : (v.bay b).IdentityKept (x.bay b) := (hp.bay b).trans (hf.frame.bay b)
      rw [hb] at g
      exact g
    case spares => exact fun c hc => (((hsp c hc).trans (hspp c)).trans (hf.spares c)).trans (.of_eq rfl rfl rfl)
    case record =>
      have g : (v.record i).SameButUnsecured (x.record i) := (hp.trans hf.frame).record i
      rw [h2] at g
      exact g
    case returned => exact fun g => hf.frame.events.holds (hp.events.holds (h10 g))
    case link =>
      have g := ((hspp b).trans (hf.spares b)).link
      rw [hset, h9] at g
      exact g
    case order => exact fun _ g => hf.custodyNewest hun (hnew (by rw [h9]; exact g))
    case asks =>
      intro _ ha hs ho
      have g := hask (by rw [h1.settings.2.2.2]; exact ha) (h1.windows.2.1.trans hs) (h5.orderly ho)
      exact (State.LatchesKept.of_bays (s := x)).asks g
    case last =>
      intro l
      have e : (x.lane l).last = (w.lane l).last := by
        obtain e | ⟨y, -, -, e⟩ := hf.lane l <;> rw [e]
      exact e.trans (congrArg Lane.last ((hlast l).trans (h8 l)))
    case response => exact hf.response.trans (hresp.trans h7)

end

end Sys2Proof.Machine
end

section
/-! SUPPORT. Links to which nothing is sent, FOREIGN bays and collisions (R32, R33, R64). -/

namespace Sys2Proof.Machine

set_option Elab.async false

/-! ### A bay to which no order goes -/

/-- No release of bay b waits to open, and no session there waits for its WAKE. -/
structure State.Still (s : State) (b : BayNo) : Prop where
  release : s.unlockingRecord b = none
  lanes : ∀ l y, (s.lane l).session = some y → y.phase = .admitting → y.bay ≠ b

section
variable {s t : State} {b c : BayNo}

theorem State.Follows.unlocking_none (h : s.Follows t) (hs : s.unlockingRecord c = none) : t.unlockingRecord c = none :=
  Option.eq_none_iff_forall_ne_some.mpr fun i hi => by
    have := (h.unlockingRecord hi).1
    rw [hs] at this
    cases this

theorem State.Follows.keepsStill (h : s.Follows t) (hs : s.Still c) : t.Still c :=
  ⟨h.unlocking_none hs.release, fun _ _ hy hp => hs.lanes _ _ (h.admitting hy hp) hp⟩

theorem State.latchSuccess_link (d : Direction) (h : s.unlockingRecord c = none) : (s.latchSuccess b d).link c = s.link c := by
  cases d with
  | lock =>
    simp only [State.latchSuccess]
    split <;> rfl
  | unlock =>
    simp only [State.latchSuccess]
    split
    · next i hi =>
      have hbc : b ≠ c := fun e => by rw [e, h] at hi; cases hi
      exact (State.link_placeCustodyOrder ..).trans (if_neg fun g => hbc g.1)
    · rfl

theorem State.serviceOne_link (q : LatchRequest) (h : s.unlockingRecord c = none) : (s.serviceOne q).link c = s.link c := by
  unfold State.serviceOne
  split
  · rfl
  · split
    · exact State.latchSuccess_link (s := { s with latchQueue := s.latchQueue.erase q }) q.direction h
    · split <;> rfl

theorem State.slotService_link (h : s.unlockingRecord c = none) : s.slotService.link c = s.link c := by
  have all : ∀ (l : List LatchRequest) (s : State), s.unlockingRecord c = none → (l.foldl State.serviceOne s).link c = s.link c := fun l => by
    induction l with
    | nil => exact fun _ _ => rfl
    | cons q l ih => exact fun s h => (ih _ ((State.Follows.serviceOne s (q := q)).unlocking_none h)).trans (State.serviceOne_link q h)
  exact all _ s h

theorem State.dropReserving_link (d : Direction) (h : s.unlockingRecord c = none) : (s.dropReserving b d).link c = s.link c := by
  unfold State.dropReserving
  split
  · next k _ =>
    split
    · exact State.slotService_link (s := s.freeReserving k) h
    · rfl
  · rfl

theorem State.driveSuccess_link (k : SlotNo) (q : LatchRequest) (h : s.unlockingRecord c = none) :
    (s.driveSuccess k q).link c = s.link c := by
  let u := (s.endSlot k).setLatch q.bay q.direction.target
  have hf : s.Follows u := .trans (t := s.endSlot k) (.of_same (.tables rfl rfl)) (.setLatch _ _ _)
  have hu := hf.unlocking_none h
  exact (State.slotService_link ((State.Follows.latchSuccess u q.bay q.direction).unlocking_none hu)).trans
    (State.latchSuccess_link (s := u) q.direction hu)

theorem State.startDrive_link (k : SlotNo) (h : s.unlockingRecord c = none) : (s.startDrive k).link c = s.link c := by
  unfold State.startDrive
  split
  · next q _ =>
    split
    · exact State.driveSuccess_link k q h
    · rfl
  · rfl
  · rfl

theorem State.wakeLane_link (l : LaneNo) (h : s.Still c) : (s.wakeLane l).link c = s.link c := by
  unfold State.wakeLane
  split
  · next x hx =>
    split
    · next hp => exact (State.link_placeLaneOrder ..).trans (if_neg fun g => h.lanes l x hx hp g.1)
    · rfl
  · rfl

theorem State.tellActive_link (o : Owner) (h : s.Still c) : (s.tellActive o).link c = s.link c := by
  cases o with
  | latch k => exact State.startDrive_link k h.release
  | lane l => exact State.wakeLane_link l h

/-- The close of a change leaves the link of a bay alone to which no order goes. -/
theorem State.closeChange_link_of_still (h : s.granted.Still c) : s.closeChange.link c = s.link c := by
  have g : s.closeChange.link c = s.granted.link c ∧ s.closeChange.Still c :=
    State.closeChange_keeps (P := fun t => t.link c = s.granted.link c ∧ t.Still c)
      (fun t x y hp => ⟨hp.1, (State.Follows.marks t x y).keepsStill hp.2⟩)
      (fun t hp => ⟨(congrArg (fun v : Vector Link 36 => v[c.val]) t.takePass_links).trans hp.1, (State.Follows.takePass t).keepsStill hp.2⟩)
      (fun t hp => ⟨hp.1, (State.Follows.increased t).keepsStill hp.2⟩)
      (fun t o hp => ⟨(State.tellActive_link o hp.2).trans hp.1, (State.Follows.tellActive t o).keepsStill hp.2⟩)
      (fun t hp => ⟨hp.1, (State.Follows.endPass t).keepsStill hp.2⟩)
      (fun t hp => ⟨(congrArg (fun v : Vector Link 36 => v[c.val]) t.relamp_links).trans hp.1, (State.Follows.relamp t).keepsStill hp.2⟩)
      (fun t hp => ⟨hp.1, (State.Follows.reAttn t).keepsStill hp.2⟩) s ⟨rfl, h⟩
  rw [g.1, s.granted_grants.only]
  rfl

end

end Sys2Proof.Machine
end

section
/-! SUPPORT. FOREIGN bays and collisions (R9, R32, R33, R64). -/

namespace Sys2Proof.Machine

set_option Elab.async false

section
variable {s t u : State} {b c : BayNo} {i : RecordIx}

/-! ### Sessions that end elsewhere -/

theorem State.quietFor_link {x : Session} (h : (s.bay c).record ≠ some x.record) : (s.quietFor x).link c = s.link c := by
  unfold State.quietFor
  split
  · next hq =>
    refine (State.link_placeLaneOrder ..).trans (if_neg fun g => h ?_)
    obtain ⟨rfl, -⟩ := g
    have g := (Bool.and_eq_true _ _ ▸ hq).2
    exact eq_of_beq g
  · rfl

theorem State.endSessionOf_link (r : SessionResult) (h : (s.bay c).record ≠ some i) : (s.endSessionOf i r).link c = s.link c := by
  unfold State.endSessionOf
  split
  · next l hl =>
    obtain ⟨x, hx, rfl⟩ := State.Carries.laneOf_eq_some hl
    unfold State.endSession
    rw [hx]
    exact State.quietFor_link (s := s.setLane l _) h
  · rfl

/-! ### A bay that becomes FOREIGN -/

/-- A bay as it becomes FOREIGN (R32). -/
abbrev Bay.foreigned (x : TabletId) (cause : ForeignCause) (y : Bay) : Bay :=
  { y.strip with state := .foreign, reportedId := some x, foreignCause := some cause }

theorem State.becomeForeign_only (s : State) (b : BayNo) (x : TabletId) (cause : ForeignCause) :
    s.becomeForeign b x cause = { s with
      bays := (s.becomeForeign b x cause).bays, port := (s.becomeForeign b x cause).port
      reallocRequest := (s.becomeForeign b x cause).reallocRequest } ∧
    (s.becomeForeign b x cause).port.response = s.port.response := ⟨rfl, rfl⟩

theorem State.becomeForeign_bay (s : State) (b c : BayNo) (x : TabletId) (cause : ForeignCause) :
    (s.becomeForeign b x cause).bay c = if b = c then (s.bay b).foreigned x cause else s.bay c :=
  State.bay_modBay s b c (Bay.foreigned x cause)

theorem State.becomeForeign_untouched (s : State) (b : BayNo) (x : TabletId) (cause : ForeignCause) :
    s.Untouched (s.becomeForeign b x cause) [] [b] :=
  ((s.modBay_untouched b (Bay.foreigned x cause)).still (State.addSubject_untouched _ Source.foreign b.val)).requestPass

theorem State.becomeForeign_holds (s : State) (b : BayNo) (x : TabletId) (cause : ForeignCause) :
    (s.becomeForeign b x cause).Holds Source.foreign b.val :=
  State.addSubject_holds (s.modBay b (Bay.foreigned x cause)) Source.foreign (by omega)

theorem State.becomeForeign_spares (s : State) {b c : BayNo} (x : TabletId) (cause : ForeignCause) (h : b ≠ c) :
    s.Spares (s.becomeForeign b x cause) c :=
  .of_eq ((s.becomeForeign_bay b c x cause).trans (if_neg h)) rfl rfl

/-! ### A record struck by a collision -/

/-- A record that a collision strikes (R9, R33). -/
abbrev Record.struck (r : Record) : Record := { r.held .collision with currentBay := none }

/-- What a collision leaves of the record of bay c and of its bonds with that bay (R9, R33, R64). -/
structure State.Strikes (s t : State) (c : BayNo) (i : RecordIx) : Prop where
  untouched : s.Untouched t [i] [c]
  bay : ({ s.bay c with record := none } : Bay).IdentityKept (t.bay c)
  spares : ∀ d, c ≠ d → s.Spares t d
  record : (s.record i).struck.remark.SameButUnsecured (t.record i)
  link : t.link c = (s.link c).emptySlots
  session : s.SessionEnded t i .aborted
  last : ∀ m, (t.lane m).last = (s.lane m).last ∨ s.laneOf i = some m
  response : t.port.response = s.port.response

/-- The session of a record that a collision strikes has ended, and the record is written. -/
def State.striking (s : State) (c : BayNo) (i : RecordIx) : State :=
  ((s.ceaseNaming c).endSessionOf i .aborted).modRecord i Record.struck

theorem State.collideRecord_eq (s : State) (c : BayNo) (i : RecordIx) : s.collideRecord c i =
    if (((s.ceaseNaming c).endSessionOf i .aborted).record i).custody = .releasing then (s.striking c i).endReleaseByHold c
    else s.striking c i := rfl

theorem State.ceaseNaming_lane (s : State) (c : BayNo) (m : LaneNo) : (s.ceaseNaming c).lane m = s.lane m := rfl

theorem State.striking_strikes (s : State) (c : BayNo) (i : RecordIx) : s.Strikes (s.striking c i) c i := by
  have h1 := s.ceaseNaming_untouched c
  have h2 := fun d => s.ceaseNaming_bay c d
  have h3 := fun d => s.ceaseNaming_spares c (c := d)
  have h4 := (s.ceaseNaming_link c c).trans (if_pos rfl)
  have h5 : ∀ j, (s.ceaseNaming c).record j = s.record j := fun _ => rfl
  have h6 : (s.ceaseNaming c).port.response = s.port.response := rfl
  have h7 := s.ceaseNaming_lane c
  have h8 : (s.ceaseNaming c).laneOf i = s.laneOf i := rfl
  have e : s.striking c i = ((s.ceaseNaming c).endSessionOf i .aborted).modRecord i Record.struck := rfl
  rw [e]
  generalize s.ceaseNaming c = v at h1 h2 h3 h4 h5 h6 h7 h8
  have hv : v.Unseats (v.endSessionOf i .aborted) i .aborted := State.endSessionOf_unseats v i rfl nofun
  have hvc : (v.bay c).record = none := by rw [h2, if_pos rfl]
  have hl := State.endSessionOf_link (s := v) (c := c) (i := i) .aborted (by rw [hvc]; nofun)
  generalize v.endSessionOf i .aborted = w at hv hl
  have hw : w.Untouched (w.modRecord i Record.struck) [i] [] := w.putRecord_untouched i _
  constructor
  case untouched => exact ((h1.still hv.frame).trans hw).mono (by simp) (by simp)
  case bay =>
    have g := hv.frame.bay c
    rw [h2, if_pos rfl] at g
    exact g
  case spares => exact fun d hd => ((h3 d hd).trans (hv.spares d)).trans (.of_eq rfl rfl rfl)
  case record =>
    have g := (State.record_modRecord w i i Record.struck).trans (if_pos rfl)
    rw [g, hv.record, h5]
  case link => exact hl.trans h4
  case session =>
    have g : v.SessionEnded (w.modRecord i Record.struck) i .aborted := hv.ended.kept (fun _ => rfl) hw.events
    intro l x hl hx
    exact g l x (h8.trans hl) ((congrArg Lane.session (h7 l)).trans hx)
  case last =>
    intro m
    obtain g | ⟨g, -⟩ := hv.lane m
    · exact .inl ((congrArg Lane.last g).trans (congrArg Lane.last (h7 m)))
    · exact .inr (h8.symm.trans g)
  case response => exact hv.response.trans h6

theorem State.Strikes.nameless (h : s.Strikes t c i) : (t.bay c).record = none := h.bay.record

theorem State.unlockingRecord_of_nameless (h : (s.bay c).record = none) : s.unlockingRecord c = none := by
  unfold State.unlockingRecord
  rw [h]

theorem State.collideRecord_strikes (s : State) (c : BayNo) (i : RecordIx) : s.Strikes (s.collideRecord c i) c i := by
  have h := s.striking_strikes c i
  rw [State.collideRecord_eq]
  generalize s.striking c i = v at h
  split
  swap
  · exact h
  let w := v.setRelease c none
  have he : v.endReleaseByHold c = (w.dropQueued c .unlock).dropReserving c .unlock := rfl
  have hf : w.Follows ((w.dropQueued c .unlock).dropReserving c .unlock) :=
    (State.Follows.dropQueued w c .unlock).trans (State.Follows.dropReserving _ c .unlock)
  have hw : v.Untouched w [] [] := .tables rfl rfl
  have hl : ((w.dropQueued c .unlock).dropReserving c .unlock).link c = w.link c :=
    State.dropReserving_link (s := w.dropQueued c .unlock) .unlock (State.unlockingRecord_of_nameless h.nameless)
  have hvw : ∀ d, v.Spares w d := fun d => .of_eq rfl rfl rfl
  rw [he]
  generalize (w.dropQueued c .unlock).dropReserving c .unlock = x at hf hl
  have hlast : ∀ m, (x.lane m).last = (v.lane m).last := fun m => by
    obtain e | ⟨y, -, -, e⟩ := hf.lane m <;> rw [e]
    · rfl
    · rfl
  have hvx := hw.trans hf.frame
  constructor
  case untouched => exact (h.untouched.still hw).still hf.frame
  case bay => exact h.bay.trans (hvx.bay c)
  case spares => exact fun d hd => ((h.spares d hd).trans (hvw d)).trans (hf.spares d)
  case record => exact h.record.trans (hvx.record i)
  case link => exact hl.trans h.link
  case session => exact h.session.kept hlast hvx.events
  case last => exact fun m => (h.last m).imp (hlast m).trans id
  case response => exact hf.response.trans h.response

/-! ### Collisions -/

/-- What a collision at bay b over record i of ID x, which bay c names, leaves before the change closes (R9, R33, R64). -/
structure State.Collides (s t : State) (b c : BayNo) (i : RecordIx) (x : TabletId) : Prop where
  untouched : s.Untouched t [i] [b, c]
  bay : ({ (s.bay b).strip with state := .collided, reportedId := some x, partner := some c } : Bay).IdentityKept (t.bay b)
  other : ({ s.bay c with
    record := none, state := if (s.bay c).state = .fault then .fault else .collided, reportedId := some x
    partner := some b } : Bay).IdentityKept (t.bay c)
  spares : ∀ d, b ≠ d → c ≠ d → s.Spares t d
  record : (s.record i).struck.remark.SameButUnsecured (t.record i)
  link : t.link c = (s.link c).emptySlots
  linkB : Link.Fed s.linkSettings (fun _ => True) (fun _ => True) (s.link b) (t.link b)
  session : s.SessionEnded t i .aborted
  last : ∀ m, (t.lane m).last = (s.lane m).last ∨ s.laneOf i = some m
  subjects : t.Holds Source.collision b.val ∧ t.Holds Source.collision c.val
  response : t.port.response = s.port.response

/-- The bay at which a collision strikes. -/
abbrev Bay.clashed (c : BayNo) (x : TabletId) (y : Bay) : Bay :=
  { y.strip with state := .collided, reportedId := some x, partner := some c }

/-- The bay whose record a collision has struck. -/
abbrev Bay.clashing (b : BayNo) (x : TabletId) (y : Bay) : Bay :=
  { y with state := if y.state = .fault then .fault else .collided, reportedId := some x, partner := some b }

theorem State.markCollision_only (s : State) (b c : BayNo) (x : TabletId) : s.markCollision b c x = { s with
    bays := ((s.modBay b (Bay.clashed c x)).modBay c (Bay.clashing b x)).bays, port := (s.markCollision b c x).port
    reallocRequest := (s.markCollision b c x).reallocRequest } ∧ (s.markCollision b c x).port.response = s.port.response := ⟨rfl, rfl⟩

theorem State.markCollision_untouched (s : State) (b c : BayNo) (x : TabletId) : s.Untouched (s.markCollision b c x) [] [b, c] := by
  let u := (s.modBay b (Bay.clashed c x)).modBay c (Bay.clashing b x)
  have h : s.Untouched u [] [b, c] := (s.modBay_untouched b _).trans (State.modBay_untouched _ c _)
  exact ((h.still (State.addSubject_untouched u Source.collision b.val)).still
    (State.addSubject_untouched (u.addSubject Source.collision b.val) Source.collision c.val)).requestPass

theorem State.markCollision_holds (s : State) (b c : BayNo) (x : TabletId) :
    (s.markCollision b c x).Holds Source.collision b.val ∧ (s.markCollision b c x).Holds Source.collision c.val := by
  let u := (s.modBay b (Bay.clashed c x)).modBay c (Bay.clashing b x)
  have h1 : (u.addSubject Source.collision b.val).Holds Source.collision b.val := State.addSubject_holds _ _ (by omega)
  exact ⟨(State.addSubject_untouched (u.addSubject Source.collision b.val) Source.collision c.val).events.holds h1,
    State.addSubject_holds (u.addSubject Source.collision b.val) _ (by omega)⟩

theorem State.collide_collides (s : State) {b c : BayNo} (i : RecordIx) (x : TabletId) (hbc : b ≠ c) :
    s.Collides (s.collide b c i x) b c i x := by
  have h := s.collideRecord_strikes c i
  unfold State.collide
  generalize s.collideRecord c i = v at h
  obtain ⟨m1, m2⟩ := v.markCollision_only b c x
  have m3 := v.markCollision_untouched b c x
  have m4 := v.markCollision_holds b c x
  have mb : ∀ d, (v.markCollision b c x).bay d = ((v.modBay b (Bay.clashed c x)).modBay c (Bay.clashing b x)).bay d := fun _ => rfl
  have ml : ∀ d, (v.markCollision b c x).link d = v.link d := fun _ => rfl
  have mo : ∀ d, (v.markCollision b c x).output d = v.output d := fun _ => rfl
  have mn : ∀ l, (v.markCollision b c x).lane l = v.lane l := fun _ => rfl
  generalize v.markCollision b c x = w at m1 m2 m3 m4 mb ml mo mn
  have mset : w.linkSettings = v.linkSettings := m3.settings.1
  have mbb : w.bay b = (v.bay b).clashed c x := by
    rw [mb, State.bay_modBay, if_neg (Ne.symm hbc), State.bay_modBay, if_pos rfl]
  have mbc : w.bay c = (v.bay c).clashing b x := by
    rw [mb, State.bay_modBay, if_pos rfl, State.bay_modBay, if_neg hbc]
  have mbd : ∀ d, b ≠ d → c ≠ d → w.bay d = v.bay d := fun d h1 h2 => by
    rw [mb, State.bay_modBay, if_neg h2, State.bay_modBay, if_neg h1]
  have hb := (h.spares b (Ne.symm hbc)).bay
  constructor
  case untouched => exact (h.untouched.trans m3).mono (by simp) (by simp)
  case bay =>
    rw [mbb]
    have g := congrArg (fun y : Bay => Bay.clashed c x y) hb
    exact g
  case other =>
    rw [mbc]
    have g := congrArg (fun y : Bay => Bay.clashing b x y) h.bay
    exact g
  case spares => exact fun d h1 h2 => (h.spares d h2).trans (.of_eq (mbd d h1 h2) (ml d) (mo d) mset)
  case record => exact h.record.trans (m3.records i nofun)
  case link => exact (ml c).trans h.link
  case linkB =>
    rw [ml]
    exact (h.spares b (Ne.symm hbc)).link
  case session => exact h.session.kept (fun l => congrArg Lane.last (mn l)) m3.events
  case last => exact fun l => (h.last l).imp (congrArg Lane.last (mn l)).trans id
  case subjects => exact m4
  case response => exact m2.trans h.response

end

end Sys2Proof.Machine
end

section
/-! SUPPORT. An IDENT matched (R30, R36), and the rate step after it (R54, R57): the settling of O28. -/

namespace Sys2Proof.Machine

set_option Elab.async false

section
variable {s t u : State} {b c : BayNo} {i : RecordIx}

/-! ### A bay made ready to be matched afresh -/

theorem State.undock_lane (s : State) (b : BayNo) (m : LaneNo) : (s.undock b false).lane m = s.lane m ∨
    (∃ j, (s.bay b).record = some j ∧ s.laneOf j = some m) ∧ ((s.undock b false).lane m).session = none := by
  cases h : (s.bay b).record with
  | none =>
    rw [State.undock_of_none h]
    exact .inl rfl
  | some i =>
    rw [State.undock_of_some h]
    have hv := State.endSessionOf_unseats (s.ceaseNaming b) i (r := .aborted) rfl nofun
    have e : ((s.undocking b i).requestPass).lane m = ((s.ceaseNaming b).endSessionOf i .aborted).lane m := by
      have g := congrArg State.lanes (State.undockRecord_only ((s.ceaseNaming b).endSessionOf i .aborted) b i
        (s.link b).custody.holdsRelease).1
      exact congrArg (fun v : Vector Lane 4 => v[m.val]) g
    rw [if_neg nofun, e]
    exact (hv.lane m).imp id fun ⟨h1, h2, _⟩ => ⟨⟨i, rfl, h1⟩, h2⟩

/-- Bay b as undocked for an IDENT of another identity (R36). -/
def State.readied (s : State) (b : BayNo) : State :=
  ((if (s.bay b).partnered then (s.undock b false).releasePartner b else s.undock b false).modBay b Bay.strip).addSubject
    Source.undock b.val

theorem State.otherIdentity_eq (s : State) (b : BayNo) (id : Ident) : s.otherIdentity b id = (s.readied b).matchIdent b id := rfl

/-- What the undock of bay b leaves where an IDENT of another identity is taken (R36). -/
structure State.Readies (s t : State) (b : BayNo) : Prop where
  untouched : s.Untouched t (s.bay b).record.toList (b :: (s.bay b).partner.toList)
  bay : ({ (s.bay b).strip with record := none } : Bay).IdentityKept (t.bay b)
  spares : ∀ c, b ≠ c → (s.bay b).partner ≠ some c → s.Spares t c
  undocked : ∀ i ∈ (s.bay b).record, s.Undocked t i
  session : ∀ i ∈ (s.bay b).record, s.SessionEnded t i .aborted
  partner : ∀ p ∈ (s.bay b).partner, (s.bay b).partnered = true → s.PartnerReleased t p
  subject : t.Holds Source.undock b.val
  latches : s.LatchesKept t
  lane : ∀ m, t.lane m = s.lane m ∨ (∃ j, (s.bay b).record = some j ∧ s.laneOf j = some m) ∧ (t.lane m).session = none
  link : Link.Fed s.linkSettings (fun _ => True) (fun _ => True)
    (if (s.bay b).record.isSome then (s.link b).emptySlots else s.link b) (t.link b)
  response : t.port.response = s.port.response

theorem State.readied_readies (hp : (s.bay b).partner ≠ some b) : s.Readies (s.readied b) b := by
  have h := s.undock_leaves b
  have hl := s.undock_lane b
  have hr := (s.undock b false).releasePartner_releases b (s.bay b).partnered
  unfold State.readied
  generalize s.undock b false = v at h hl hr
  have hvp : (v.bay b).partner = (s.bay b).partner := h.bay.partner
  generalize (if (s.bay b).partnered then v.releasePartner b else v) = w at hr
  obtain ⟨o1, o2, -⟩ := hr.other b (hvp ▸ hp)
  have hw : w.Untouched (w.modBay b Bay.strip) [] [b] := w.modBay_untouched b _
  let x := (w.modBay b Bay.strip).addSubject Source.undock b.val
  have hx : (w.modBay b Bay.strip).Untouched x [] [] := State.addSubject_untouched _ _ _
  have hxb : ∀ d, x.bay d = if b = d then (w.bay b).strip else w.bay d := fun d => State.bay_modBay w b d Bay.strip
  have hxl : ∀ d, x.link d = w.link d := fun _ => rfl
  have hwn : ∀ m, x.lane m = v.lane m := fun m => by
    have e : x.lane m = w.lane m := rfl
    rw [e, hr.only]
    rfl
  have hwr : ∀ j, x.record j = v.record j := fun j => by
    have e : x.record j = w.record j := rfl
    rw [e, hr.only]
    rfl
  have hvx : v.EventsGrow x := (hr.untouched.trans (hw.trans hx)).events
  have hsp : ∀ d, b ≠ d → w.Spares x d := fun d hd => .of_eq ((hxb d).trans (if_neg hd)) (hxl d) rfl
  constructor
  case untouched =>
    have g := (h.untouched.trans hr.untouched).trans (hw.trans hx)
    rw [hvp] at g
    exact g.mono (by simp) (by simp)
  case bay =>
    have e : x.bay b = (w.bay b).strip := (hxb b).trans (if_pos rfl)
    rw [e, o1]
    have g := congrArg Bay.strip h.bay
    exact g
  case spares =>
    intro d hd hpd
    obtain ⟨k1, k2, k3⟩ := hr.other d (hvp ▸ hpd)
    exact ((h.spares d hd).trans (.of_eq k1 k2 k3 hr.untouched.settings.1)).trans (hsp d hd)
  case undocked => exact fun i hi => (h.undocked i hi).kept (by rw [hwr]) hvx
  case session => exact fun i hi => (h.session i hi).kept (fun l => congrArg Lane.last (hwn l)) hvx
  case partner =>
    intro p hpp hc
    have hne : b ≠ p := fun e => hp (e ▸ hpp)
    exact ((hr.released p (hvp ▸ hpp) hc).source (h.spares p hne).bay).spares (hsp p hne)
  case subject => exact State.addSubject_holds _ _ (by omega)
  case latches =>
    refine ((h.latches rfl).trans hr.latches).trans ⟨rfl, rfl, fun d => ?_⟩
    have e := hxb d
    have e' : (x.bay d).latch = (w.bay d).latch := by
      rw [e]
      split
      · next q => subst q; rfl
      · rfl
    exact e'
  case lane =>
    intro m
    have e := hwn m
    rw [e]
    exact hl m
  case link =>
    have g := (h.link rfl).mono (c' := fun _ => True) (o' := fun _ => True) (fun _ _ => trivial) fun _ _ => trivial
    rw [hxl, o2]
    exact g
  case response =>
    have e : x.port.response = w.port.response := rfl
    rw [e, hr.only]
    exact h.response

/-! ### Rates kept while an IDENT is matched -/

theorem State.releasePartner_paces (s : State) (b : BayNo) {c : BayNo} (hp : (s.bay b).partner ≠ some c) :
    s.Paces (s.releasePartner b) c :=
  .of_link (s.releasePartner_other b hp).2.1 (s.releasePartner_untouched b).settings.1 (s.releasePartner_untouched b).time.2.2

theorem State.Readies.paces (h : s.Readies t b) : s.Paces t b := by
  refine .of_fed h.untouched h.link ?_ ?_ <;> split <;> rfl

theorem State.dock_paces (s : State) (b : BayNo) (i : RecordIx) : s.Paces (s.dock b i) b :=
  have h := s.dock_docks b i
  .of_fed h.untouched h.link rfl rfl

theorem State.writeIdent_paces (s : State) (b c : BayNo) (id : Ident) : s.Paces (s.writeIdent b id) c := by
  unfold State.writeIdent
  split <;> exact .of_link rfl

theorem State.collide_paces (s : State) (b c : BayNo) (i : RecordIx) (x : TabletId) : s.Paces (s.collide b c i x) b := by
  have h := s.collideRecord_strikes c i
  have g : s.Paces (s.collideRecord c i) b := by
    by_cases hb : c = b
    · subst hb
      exact ⟨h.untouched.settings.1, h.untouched.time.2.2, by rw [h.link]; rfl, by rw [h.link]; rfl⟩
    · exact .of_fed h.untouched (h.spares b hb).link rfl rfl
  unfold State.collide
  generalize s.collideRecord c i = v at g
  exact g.trans (.of_link rfl)

theorem State.matchId_paces (s : State) (b : BayNo) (x : TabletId) : s.Paces (s.matchId b x) b := by
  unfold State.matchId
  split
  · exact .of_link rfl
  · split
    · exact State.dock_paces ..
    · exact State.collide_paces ..

theorem State.matchIdent_paces (s : State) (b : BayNo) (id : Ident) : s.Paces (s.matchIdent b id) b := by
  have g : s.Paces (if id.cartClass then (s.matchId b id.tabletId).writeIdent b id else s.becomeForeign b id.tabletId .badClass) b := by
    split
    · exact (s.matchId_paces b id.tabletId).trans (State.writeIdent_paces ..)
    · exact .of_link rfl
  unfold State.matchIdent
  generalize (if id.cartClass then (s.matchId b id.tabletId).writeIdent b id else s.becomeForeign b id.tabletId .badClass) = v at g
  exact g.trans (.of_link rfl)

theorem State.recover_paces (hp : (s.bay b).partner ≠ some b) : s.Paces (s.recover b) b := by
  have g : s.Paces (if (s.bay b).partnered then s.releasePartner b else s) b := by
    split
    · exact s.releasePartner_paces b hp
    · exact .refl s b
  unfold State.recover
  simp only
  generalize (if (s.bay b).partnered then s.releasePartner b else s) = v at g
  exact g.trans (.of_link rfl)

theorem State.sameIdentity_paces (id : Ident) (hp : (s.bay b).partner ≠ some b) : s.Paces (s.sameIdentity b id) b := by
  have g := s.writeIdent_paces b b id
  have hb : (s.writeIdent b id).bay b = s.bay b := by
    unfold State.writeIdent
    split <;> rfl
  unfold State.sameIdentity
  simp only
  generalize s.writeIdent b id = v at g hb
  split
  · exact g.trans (State.recover_paces (by rw [hb]; exact hp))
  · split
    · exact g.trans (v.matchIdent_paces b id)
    · exact g

/-- The states in which an IDENT is compared with the bay's identity (R36). -/
abbrev BayState.Occupied (x : BayState) : Prop := x = .identified ∨ x = .foreign ∨ x = .collided ∨ x = .fault

theorem State.superviseIdent_of_bringup (id : Ident) (h : (s.bay b).state = .bringup) : s.superviseIdent b id = s.matchIdent b id := by
  unfold State.superviseIdent
  rw [h]

theorem State.superviseIdent_of_off (id : Ident) (h : (s.bay b).state = .disabled ∨ (s.bay b).state = .empty) :
    s.superviseIdent b id = s := by
  unfold State.superviseIdent
  obtain e | e := h <;> rw [e]

/-- What an IDENT does in a bay that is occupied, by how it compares (R36). -/
def State.compared (s : State) (b : BayNo) (id : Ident) : Comparison → State
  | .same => (s.sameIdentity b id).requestPass
  | .other => s.otherIdentity b id
  | .noIdentity => s.requestPass

theorem State.superviseIdent_of_occupied (id : Ident) (h : (s.bay b).state.Occupied) :
    s.superviseIdent b id = s.compared b id (s.compare b id) := by
  unfold State.superviseIdent State.compared
  obtain e | e | e | e := h <;> simp only [e] <;> rfl

theorem State.compared_paces (id : Ident) (x : Comparison) (hp : (s.bay b).partner ≠ some b) : s.Paces (s.compared b id x) b := by
  cases x with
  | same => exact (State.sameIdentity_paces id hp).trans (.of_link rfl)
  | other =>
    have h := (State.readied_readies hp).paces.trans (State.matchIdent_paces (s.readied b) b id)
    rwa [← State.otherIdentity_eq] at h
  | noIdentity => exact .of_link rfl

theorem State.superviseIdent_paces (id : Ident) (hp : (s.bay b).partner ≠ some b) : s.Paces (s.superviseIdent b id) b := by
  cases e : (s.bay b).state with
  | bringup =>
    rw [State.superviseIdent_of_bringup id e]
    exact s.matchIdent_paces b id
  | disabled =>
    rw [State.superviseIdent_of_off id (.inl e)]
    exact .refl s b
  | empty =>
    rw [State.superviseIdent_of_off id (.inr e)]
    exact .refl s b
  | identified =>
    rw [State.superviseIdent_of_occupied id (.inl e)]
    exact State.compared_paces id _ hp
  | foreign =>
    rw [State.superviseIdent_of_occupied id (.inr (.inl e))]
    exact State.compared_paces id _ hp
  | collided =>
    rw [State.superviseIdent_of_occupied id (.inr (.inr (.inl e)))]
    exact State.compared_paces id _ hp
  | fault =>
    rw [State.superviseIdent_of_occupied id (.inr (.inr (.inr e)))]
    exact State.compared_paces id _ hp

end

/-! ### The link after an IDENT -/

section
variable {set : LinkSettings} {l : Link} {adv : RateStep} {now : Nat}

theorem Link.afterIdent_moves (h : l.targetStep set.maxStep adv ≠ l.step) : l.afterIdent set adv now =
    ({ l with advertised := some adv, exchange := none } : Link).restAt (l.targetStep set.maxStep adv) := if_pos h

theorem Link.afterIdent_trains (h : l.targetStep set.maxStep adv = l.step) (hs : 2 ≤ l.step.val) : l.afterIdent set adv now =
    ({ l with advertised := some adv, exchange := none } : Link).beginSweep set false :=
  (if_neg (not_not.mpr h)).trans (if_pos hs)

theorem Link.afterIdent_up (h : l.targetStep set.maxStep adv = l.step) (hs : ¬2 ≤ l.step.val) : l.afterIdent set adv now =
    ({ l with advertised := some adv, exchange := none, tap := Config.middleTap, window := none } : Link).enterUp now :=
  (if_neg (not_not.mpr h)).trans (if_neg hs)

/-- An UP link that owes a QUERY, or has an exchange in progress, stays UP at its tap whatever it is given. -/
theorem Link.Fed.stays_up {c : CustodyOrder → Prop} {o : LaneOrder → Prop} {k : Link} (h : Link.Fed set c o l k)
    (hu : l.state = .up) (hq : l.queryDue = true) : k.state = .up ∧ k.tap = l.tap := by
  have g : k.state = .up ∧ k.tap = l.tap ∧ (k.exchange = none → k.queryDue = true) := by
    refine h.keeps (P := fun j => j.state = .up ∧ j.tap = l.tap ∧ (j.exchange = none → j.queryDue = true)) ⟨hu, rfl, fun _ => hq⟩
      (fun _ _ hp _ => hp) (fun _ _ hp _ => hp) fun j ⟨h1, h2, h3⟩ => ?_
    unfold Link.pump
    split
    swap
    · exact ⟨h1, h2, h3⟩
    · next hi =>
      have ht : j.takeInstant.state = .up ∧ j.takeInstant.tap = l.tap ∧ j.takeInstant.queryDue = true := by
        unfold Link.takeInstant
        split
        · exact ⟨h1, h2, h3 hi.2⟩
        · exact ⟨h1, h2, h3 hi.2⟩
      obtain ⟨t1, t2, t3⟩ := ht
      unfold Link.next
      split
      · exact ⟨t1, t2, nofun⟩
      · split
        · exact ⟨t1, t2, nofun⟩
        · split
          · next hn => simp [t3] at hn
          · split
            · exact ⟨t1, t2, nofun⟩
            · next hn => simp [t3] at hn
  exact ⟨g.1, g.2.1⟩

theorem Link.targetStep_val (m a : RateStep) (l : Link) : (l.targetStep m a).val = min m.val (min a.val l.ceiling.val) := by
  have e : ∀ x y : RateStep, (min x y).val = min x.val y.val := fun x y => Fin.coe_min x y
  unfold Link.targetStep
  rw [e, e]

end

theorem execIdentTaken_of_hello {s : State} {b : BayNo} (p : IdentReply) (h : (s.link b).exchange = some .hello) :
    exec (.identTaken b p) s = .next ((s.identTaken b (Ident.ofReply p)).closeChange.pumpLink b) := by
  refine next_congr ?_
  unfold State.takeReply
  rw [h]
  exact (if_pos rfl).trans (s.takeIdent_eq b (Ident.ofReply p))

/-- Settles O28: the step after an IDENT is chosen from the link's ceiling, which the matching leaves. -/
theorem identSetsTheRateStep : Obligations.IdentSetsTheRateStep := by
  unfold Obligations.IdentSetsTheRateStep
  intro s b p v hx hp hv
  have h0 := State.superviseIdent_paces (s := s.modLink b fun l => { l with exchange := none }) (Ident.ofReply p) hp
  have he : s.identTaken b (Ident.ofReply p) =
      ((s.modLink b fun l => { l with exchange := none }).superviseIdent b (Ident.ofReply p)).modLink b
        (Link.afterIdent ((s.modLink b fun l => { l with exchange := none }).superviseIdent b (Ident.ofReply p)).linkSettings
          (Ident.ofReply p).maxStep ((s.modLink b fun l => { l with exchange := none }).superviseIdent b (Ident.ofReply p)).clk32) := rfl
  refine ⟨_, execIdentTaken_of_hello p hx, ?_⟩
  rw [he]
  have hl0 : (s.modLink b fun l => { l with exchange := none }).link b = { s.link b with exchange := none } :=
    (s.link_modLink b b _).trans (if_pos rfl)
  generalize (s.modLink b fun l => { l with exchange := none }).superviseIdent b (Ident.ofReply p) = w at h0
  obtain ⟨h1, h2, h3, h4⟩ := h0
  rw [hl0] at h3 h4
  have hs : w.linkSettings = s.linkSettings := h1
  have hc : w.clk32 = s.clk32 := h2
  rw [hs, hc]
  have hfed := State.closed_pumped_link (w.modLink b (Link.afterIdent s.linkSettings (Ident.ofReply p).maxStep s.clk32)) b b
  have hl : (w.modLink b (Link.afterIdent s.linkSettings (Ident.ofReply p).maxStep s.clk32)).link b =
      (w.link b).afterIdent s.linkSettings (Ident.ofReply p).maxStep s.clk32 := (w.link_modLink b b _).trans (if_pos rfl)
  rw [hl] at hfed
  have hm : (Ident.ofReply p).maxStep.val = min p.maxStep.toNat 3 := rfl
  have ht : ((w.link b).targetStep s.linkSettings.maxStep (Ident.ofReply p).maxStep).val = v := by
    rw [Link.targetStep_val, hm, h4, hv]
  generalize ((w.modLink b (Link.afterIdent s.linkSettings (Ident.ofReply p).maxStep s.clk32)).closeChange.pumpLink b).link b = k at hfed
  have hk := hfed.kept
  have hadv : ((w.link b).afterIdent s.linkSettings (Ident.ofReply p).maxStep s.clk32).advertised = some (Ident.ofReply p).maxStep ∧
      ((w.link b).afterIdent s.linkSettings (Ident.ofReply p).maxStep s.clk32).step.val = v := by
    by_cases e : (w.link b).targetStep s.linkSettings.maxStep (Ident.ofReply p).maxStep = (w.link b).step
    · by_cases e2 : 2 ≤ (w.link b).step.val
      · rw [Link.afterIdent_trains e e2]
        exact ⟨rfl, e ▸ ht⟩
      · rw [Link.afterIdent_up e e2]
        exact ⟨rfl, e ▸ ht⟩
    · rw [Link.afterIdent_moves e]
      exact ⟨rfl, ht⟩
  have hsame : v = (s.link b).step.val → (w.link b).targetStep s.linkSettings.maxStep (Ident.ofReply p).maxStep = (w.link b).step :=
    fun e => Fin.ext (ht.trans (e.trans (congrArg Fin.val h3.symm)))
  have h3v : (w.link b).step.val = (s.link b).step.val := congrArg Fin.val h3
  refine ⟨?_, ?_, fun hn => ?_, fun e h2v => ?_, fun e h2v => ?_⟩
  · rw [hk.advertised, hadv.1]
    exact congrArg some hm
  · rw [hk.step, hadv.2]
  · have e : (w.link b).targetStep s.linkSettings.maxStep (Ident.ofReply p).maxStep ≠ (w.link b).step := fun e =>
      hn (ht.symm.trans ((congrArg Fin.val e).trans h3v))
    rw [Link.afterIdent_moves e] at hfed
    rw [hfed.of_busy (not_and_of_not_left _ nofun)]
    exact ⟨rfl, rfl, rfl, rfl⟩
  · rw [Link.afterIdent_trains (hsame e) (by rw [h3v, ← e]; exact h2v)] at hfed
    rw [hfed.of_busy (not_and_of_not_left _ nofun)]
    exact ⟨rfl, rfl, rfl, rfl, rfl⟩
  · rw [Link.afterIdent_up (hsame e) (by rw [h3v, ← e]; omega)] at hfed hk
    obtain ⟨u1, u2⟩ := hfed.stays_up rfl rfl
    exact ⟨u1, u2, hk.window, hk.failedBringups, hk.pollRunning, hk.pollLast⟩

end Sys2Proof.Machine
end

section
/-! SUPPORT. An IDENT matched afresh, from the bay made ready to the change closed (R30, R36). -/

namespace Sys2Proof.Machine

set_option Elab.async false

section
variable {s t u : State} {b c : BayNo} {i j : RecordIx}

/-! ### Records that stay enrolled -/

/-- Record j of a later state, where it is enrolled, was so and held its ID. -/
def State.EnrolsNone (s t : State) : Prop :=
  ∀ j, (t.record j).enrolled = true → (s.record j).enrolled = true ∧ (t.record j).tabletId = (s.record j).tabletId

theorem State.EnrolsNone.of_records (h : ∀ j, (s.record j).SameButUnsecured (t.record j)) : s.EnrolsNone t := fun j hj => by
  have h1 := congrArg Record.custody (h j)
  have h2 := congrArg Record.tabletId (h j)
  have e1 : (t.record j).custody = (s.record j).custody := h1
  refine ⟨?_, h2⟩
  unfold Record.enrolled at hj ⊢
  rwa [e1] at hj

theorem State.EnrolsNone.trans (h : s.EnrolsNone t) (g : t.EnrolsNone u) : s.EnrolsNone u := fun j hj => by
  obtain ⟨g1, g2⟩ := g j hj
  obtain ⟨h1, h2⟩ := h j g1
  exact ⟨h1, g2.trans h2⟩

theorem State.EnrolsNone.put {r : Record}
    (h : r.enrolled = true → (s.record i).enrolled = true ∧ r.tabletId = (s.record i).tabletId) : s.EnrolsNone (s.putRecord i r) := by
  intro j hj
  rw [State.record_putRecord] at hj ⊢
  split at hj
  · next e =>
    subst e
    rw [if_pos rfl]
    exact h hj
  · next e =>
    rw [if_neg e]
    exact ⟨hj, rfl⟩

theorem Record.enrolled_of_custody {r : Record} {c : CustodyState} (h : r.custody = c) (hc : c ≠ .free) : r.enrolled = true := by
  unfold Record.enrolled
  rw [h]
  exact bne_iff_ne.mpr hc

theorem State.undockRecord_enrolsNone (s : State) (b : BayNo) (i : RecordIx) (x : Bool) : s.EnrolsNone (s.undockRecord b i x) := by
  have h1 : s.EnrolsNone (s.modRecord i (Record.leaveBay x)) := .put fun g => ⟨g, rfl⟩
  have he : s.undockRecord b i x = (s.modRecord i (Record.leaveBay x)).undockTransition b i := rfl
  rw [he]
  generalize s.modRecord i (Record.leaveBay x) = v at h1
  refine h1.trans ?_
  have same : ∀ {a w : State}, (∀ j, w.record j = a.record j) → a.EnrolsNone w := fun h => .of_records fun j => by rw [h]
  unfold State.undockTransition
  cases hc : (v.record i).custody with
  | inCart =>
    have hw : v.EnrolsNone (v.editRecord i fun r => { r with
      custody := .adrift, adriftReason := some (if v.serviceOpen then .service else .forced) }) :=
      .put fun _ => ⟨Record.enrolled_of_custody hc nofun, rfl⟩
    exact fun j hj => hw j hj
  | releasing =>
    have hw : v.EnrolsNone (v.editRecord i fun r => { r with custody := .loaned }) :=
      .put fun _ => ⟨Record.enrolled_of_custody hc nofun, rfl⟩
    exact fun j hj => hw j hj
  | retiring => exact State.EnrolsNone.put fun g => absurd g nofun
  | held | free | away | loaned | overdue | adrift => exact same fun _ => rfl

theorem State.undock_enrolsNone (s : State) (b : BayNo) : s.EnrolsNone (s.undock b false) := by
  cases h : (s.bay b).record with
  | none =>
    rw [State.undock_of_none h]
    exact fun _ g => ⟨g, rfl⟩
  | some i =>
    rw [State.undock_of_some h]
    have hv := State.endSessionOf_unseats (s.ceaseNaming b) i (r := .aborted) rfl nofun
    have h1 : s.EnrolsNone ((s.ceaseNaming b).endSessionOf i .aborted) := fun j hj => by
      rw [hv.record] at hj ⊢
      exact ⟨hj, rfl⟩
    exact h1.trans (State.undockRecord_enrolsNone _ b i _)

theorem State.readied_enrolsNone (s : State) (b : BayNo) : s.EnrolsNone (s.readied b) := by
  have h1 := s.undock_enrolsNone b
  have hr := (s.undock b false).releasePartner_releases b (s.bay b).partnered
  unfold State.readied
  generalize s.undock b false = v at h1 hr
  generalize (if (s.bay b).partnered then v.releasePartner b else v) = w at hr
  refine h1.trans (.of_records fun j => ?_)
  have e : ((w.modBay b Bay.strip).addSubject Source.undock b.val).record j = w.record j := rfl
  rw [e, hr.only]
  rfl

/-! ### A bay primed for a fresh match -/

theorem Link.Fed.not_down {set : LinkSettings} {p : CustodyOrder → Prop} {q : LaneOrder → Prop} {l k : Link}
    (h : Link.Fed set p q l k) (hl : l.state ≠ .down) : k.state ≠ .down := by
  by_cases hi : l.state = .up
  swap
  · rw [h.of_busy fun g => hi g.1]
    have e : ({ l with custody := k.custody, lane := k.lane } : Link).state = l.state := rfl
    rwa [e]
  · refine h.keeps (P := fun j => j.state ≠ .down) hl (fun _ _ hp _ => hp) (fun _ _ hp _ => hp) fun j hp => ?_
    obtain g | g : (j.pump set).state = j.state ∨ (j.pump set).state = .training := by
      unfold Link.pump
      split
      swap
      · exact .inl rfl
      · have ht : j.takeInstant.state = j.state := by
          unfold Link.takeInstant
          split <;> rfl
        unfold Link.next
        split
        · exact .inl ht
        · split
          · exact .inl ht
          · split
            · exact .inr rfl
            · split
              · exact .inl ht
              · exact .inl ht
    · rw [g]
      exact hp
    · rw [g]
      nofun

/-- Bay b made ready in u, from s, to have an IDENT matched afresh (R30, R36). -/
structure State.Primed (s u : State) (b : BayNo) : Prop where
  untouched : s.Untouched u (s.bay b).record.toList (b :: (s.bay b).partner.toList)
  nameless : (u.bay b).record = none
  spares : ∀ c, b ≠ c → (s.bay b).partner ≠ some c → s.Spares u c
  first : s.UndocksFirst u b
  gone : ∀ j ∈ (s.bay b).record, (u.record j).currentBay = none
  latches : s.LatchesKept u
  lane : ∀ m, u.lane m = s.lane m ∨ (∃ j, (s.bay b).record = some j ∧ s.laneOf j = some m) ∧ (u.lane m).session = none
  awake : (s.link b).state ≠ .down → (u.link b).state ≠ .down
  enrolled : s.EnrolsNone u
  response : u.port.response = s.port.response

/-- The exchange in progress on bay b's link ends (R54). -/
def State.heard (s : State) (b : BayNo) : State := s.modLink b fun l => { l with exchange := none }

theorem State.heard_link (s : State) (b : BayNo) : (s.heard b).link b = { s.link b with exchange := none } :=
  (s.link_modLink b b _).trans (if_pos rfl)

theorem State.heard_spares (s : State) {b c : BayNo} (h : b ≠ c) : s.Spares (s.heard b) c := s.modLink_spares _ h

theorem State.heard_primed (hr : (s.bay b).record = none) (hb : (s.bay b).state = .bringup) : s.Primed (s.heard b) b where
  untouched := (s.modLink_untouched b _).mono (List.nil_subset _) (List.nil_subset _)
  nameless := hr
  spares _ hc _ := s.heard_spares hc
  first h := absurd hb h
  gone j hj := by
    rw [hr] at hj
    cases hj
  latches := .of_bays
  lane _ := .inl rfl
  awake h := by
    rw [State.heard_link]
    exact h
  enrolled _ h := ⟨h, rfl⟩
  response := rfl

theorem State.readied_primed (hp : (s.bay b).partner ≠ some b) : s.Primed ((s.heard b).readied b) b := by
  have hp' : ((s.heard b).bay b).partner ≠ some b := hp
  have h := State.readied_readies hp'
  have he := (s.heard b).readied_enrolsNone b
  have hl := s.heard_link b
  generalize (s.heard b).readied b = u at h he
  have hsub : s.Untouched (s.heard b) [] [] := s.modLink_untouched b _
  constructor
  case untouched =>
    have g := hsub.trans h.untouched
    exact g
  case nameless => exact h.bay.record
  case spares => exact fun c hc hpc => (s.heard_spares hc).trans (h.spares c hc hpc)
  case first => exact fun _ => ⟨h.subject, fun i hi => ⟨h.undocked i hi, h.session i hi⟩, h.partner⟩
  case gone => exact fun i hi => (h.undocked i hi).1
  case latches => exact (State.LatchesKept.of_bays (s := s) (t := s.heard b)).trans h.latches
  case lane => exact h.lane
  case awake =>
    intro hs
    refine h.link.not_down ?_
    rw [hl]
    split <;> exact hs
  case enrolled => exact he
  case response => exact h.response

/-! ### How an IDENT compares -/

theorem Ident.cartClass_ofReply (p : IdentReply) : (Ident.ofReply p).cartClass = decide (p.classMarker = 0xD7) := rfl

theorem State.compare_of_record {p : IdentReply} (h : (s.bay b).record = some i) : s.compare b (Ident.ofReply p) =
    if p.classMarker = 0xD7 ∧ p.tabletId = (s.record i).tabletId then .same else .other := by
  unfold State.compare
  simp only [h, Ident.cartClass_ofReply, Bool.and_eq_true, decide_eq_true_eq, beq_iff_eq]
  rfl

theorem State.compare_of_reported {p : IdentReply} {x : TabletId} (h : (s.bay b).record = none) (hx : (s.bay b).reportedId = some x) :
    s.compare b (Ident.ofReply p) =
      if p.tabletId = x ∧ (p.classMarker = 0xD7 ↔ (s.bay b).foreignCause ≠ some .badClass) then .same else .other := by
  have ht : (Ident.ofReply p).tabletId = p.tabletId := rfl
  unfold State.compare
  simp only [h, hx, Ident.cartClass_ofReply, ht]
  by_cases hc : (s.bay b).foreignCause = some .badClass <;> by_cases hm : p.classMarker = 0xD7 <;>
    by_cases hi : p.tabletId = x <;> simp [hc, hm, hi]

theorem State.SameIdentity.compare {p : IdentReply} (h : s.SameIdentity b p) : s.compare b (Ident.ofReply p) = .same := by
  obtain ⟨h1, h2⟩ := h
  cases hr : (s.bay b).record with
  | some i =>
    rw [State.compare_of_record hr]
    exact if_pos (h1 i hr)
  | none =>
    obtain ⟨e, hc⟩ := h2 hr
    rw [State.compare_of_reported hr e]
    exact if_pos ⟨rfl, hc⟩

theorem State.compare_other {p : IdentReply} (hid : (s.bay b).record.isSome = true ∨ (s.bay b).reportedId.isSome = true)
    (h : ¬s.SameIdentity b p) : s.compare b (Ident.ofReply p) = .other := by
  cases hr : (s.bay b).record with
  | some i =>
    rw [State.compare_of_record hr]
    refine if_neg fun g => h ⟨fun j hj => ?_, fun e => ?_⟩
    · obtain rfl := Option.some.inj (hr.symm.trans hj)
      exact g
    · rw [hr] at e
      cases e
  | none =>
    obtain ⟨x, hx⟩ := Option.isSome_iff_exists.mp (hid.resolve_left (by rw [hr]; nofun))
    rw [State.compare_of_reported hr hx]
    refine if_neg fun ⟨g1, g2⟩ => h ⟨fun j hj => ?_, fun _ => ⟨hx.trans (congrArg some g1.symm), g2⟩⟩
    rw [hr] at hj
    cases hj

/-- An IDENT that a bay takes afresh is matched in the bay made ready (R30, R36). -/
theorem State.TakesAfresh.primed {p : IdentReply} (h : s.TakesAfresh b p) :
    ∃ u, s.Primed u b ∧ (s.heard b).superviseIdent b (Ident.ofReply p) = u.matchIdent b (Ident.ofReply p) := by
  obtain ⟨hs, hr⟩ | ⟨hs, hid, hne, hp⟩ := h
  · exact ⟨_, State.heard_primed hr hs, State.superviseIdent_of_bringup (s := s.heard b) _ hs⟩
  · refine ⟨_, State.readied_primed hp, (State.superviseIdent_of_occupied (s := s.heard b) _ hs).trans ?_⟩
    have hc : (s.heard b).compare b (Ident.ofReply p) = .other :=
      State.compare_other (s := s.heard b) hid hne
    rw [hc]
    exact State.otherIdentity_eq (s.heard b) b _

end

end Sys2Proof.Machine
end

section
/-! SUPPORT. The change closed after an IDENT, and tablets of one ID that collide (R9, R33, R36, R64): the settling of O26. -/

namespace Sys2Proof.Machine

set_option Elab.async false

section
variable {s t u x : State} {b c : BayNo} {i j : RecordIx}

/-! ### The change closed -/

/-- The link of bay b after the IDENT has been handed on (R54). -/
def State.answered (x : State) (b : BayNo) (id : Ident) : State := x.modLink b (Link.afterIdent x.linkSettings id.maxStep x.clk32)

theorem State.identTaken_eq (s : State) (b : BayNo) (id : Ident) : s.identTaken b id = ((s.heard b).superviseIdent b id).answered b id := rfl

theorem Link.afterIdent_custody {set : LinkSettings} {l : Link} {adv : RateStep} {now : Nat} {y : CustodyOrder}
    (h : l.custody.Newest y) : (l.afterIdent set adv now).custody.Newest y := by
  by_cases e : l.targetStep set.maxStep adv = l.step
  · by_cases e2 : 2 ≤ l.step.val
    · rw [Link.afterIdent_trains e e2]
      exact h
    · rw [Link.afterIdent_up e e2]
      exact h
  · rw [Link.afterIdent_moves e]
    exact h

/-- What the close of the change leaves after an IDENT has been handed on. -/
structure State.Concludes (x t : State) (b : BayNo) : Prop where
  frame : x.Untouched t [] []
  spares : ∀ p, b ≠ p → x.Spares t p
  last : ∀ l, (t.lane l).last = (x.lane l).last
  response : t.port.response = x.port.response
  order : ∀ y, x.unlockingRecord b = none → (x.link b).custody.Newest y → t.CustodyOrdered b y
  asks : ∀ d, x.Asks b d → t.LatchAsked b d
  link : ∀ p, b ≠ p → x.unlockingRecord p = none →
    Link.Fed x.linkSettings (fun _ => False) (fun _ => True) (x.link p) (t.link p)

theorem State.answered_concludes (x : State) (b : BayNo) (id : Ident) :
    x.Concludes ((x.answered b id).closeChange.pumpLink b) b := by
  have h1 : x.Untouched (x.answered b id) [] [] := x.modLink_untouched b _
  have h2 : ∀ p, b ≠ p → x.Spares (x.answered b id) p := fun p hp => x.modLink_spares _ hp
  have h3 : (x.answered b id).link b = (x.link b).afterIdent x.linkSettings id.maxStep x.clk32 :=
    (x.link_modLink b b _).trans (if_pos rfl)
  have h4 : ∀ p, b ≠ p → (x.answered b id).link p = x.link p := fun p hp => (x.link_modLink b p _).trans (if_neg hp)
  have h5 : ∀ l, (x.answered b id).lane l = x.lane l := fun _ => rfl
  have h6 : (x.answered b id).port.response = x.port.response := rfl
  have h7 : x.LatchesKept (x.answered b id) := .of_bays
  have h8 : ∀ p, (x.answered b id).unlockingRecord p = x.unlockingRecord p := fun _ => rfl
  generalize x.answered b id = v at h1 h2 h3 h4 h5 h6 h7 h8
  have hset : v.linkSettings = x.linkSettings := h1.settings.1
  have hfed := fun p => v.closed_pumped_link b p
  constructor
  case frame => exact h1.still (v.closed_pumped_untouched b)
  case spares => exact fun p hp => (h2 p hp).trans (v.closed_pumped_spares b p)
  case last =>
    intro l
    have g := (v.closeChange_last l).trans (congrArg Lane.last (h5 l))
    generalize v.closeChange = w at g
    exact g
  case response =>
    have g := v.closeChange_response.trans h6
    generalize v.closeChange = w at g
    exact g
  case order =>
    intro y hu hy
    have hn := v.not_opensWith ((h8 b).trans hu)
    have g : (v.link b).custody.Newest y := by
      rw [h3]
      exact Link.afterIdent_custody hy
    exact (hfed b).custody_newest (fun z hz => absurd hz (hn z)) g
  case asks =>
    intro d hd
    have g := (h7.asks hd).closeChange.asked
    generalize v.closeChange = w at g
    exact g
  case link =>
    intro p hp hu
    have hn := v.not_opensWith ((h8 p).trans hu)
    have g := (hfed p).mono (c' := fun _ => False) (o' := fun _ => True) (fun y hy => hn y hy) fun _ _ => trivial
    rw [hset, h4 p hp] at g
    exact g

/-- The link of another bay to which no order goes is as it was. -/
theorem State.answered_link (id : Ident) (hp : b ≠ c) (h : (x.answered b id).granted.Still c) :
    ((x.answered b id).closeChange.pumpLink b).link c = x.link c := by
  have h1 := State.closeChange_link_of_still h
  have h2 : (x.answered b id).link c = x.link c := (x.link_modLink b c _).trans (if_neg hp)
  generalize (x.answered b id).closeChange = w at h1
  exact ((State.link_pumpLink ..).trans (if_neg hp)).trans (h1.trans h2)

theorem State.Vacant.still (h : s.Vacant c) (hn : (s.bay c).record = none) : s.granted.Still c := by
  have hg : s.granted.Vacant c := State.Vacant.grantLanes 4 (s := s.requeue) ⟨h.docked, h.lanes, h.switches, h.mark⟩
  refine ⟨State.unlockingRecord_of_nameless ?_, fun l y hy _ => hg.lanes l y hy⟩
  rw [s.granted_grants.bay]
  exact hn

/-! ### What an undock first leaves -/

theorem State.UndocksFirst.kept (h : s.UndocksFirst u b) (he : u.EventsGrow t)
    (hr : ∀ j ∈ (s.bay b).record, (u.record j).SameButUnsecured (t.record j))
    (hl : ∀ j ∈ (s.bay b).record, ∀ l, s.laneOf j = some l → (t.lane l).last = (u.lane l).last)
    (hs : (s.bay b).state ≠ .bringup → ∀ p ∈ (s.bay b).partner, u.Spares t p) : s.UndocksFirst t b := by
  intro hb
  obtain ⟨h1, h2, h3⟩ := h hb
  refine ⟨he.holds h1, fun j hj => ⟨(h2 j hj).1.kept (hr j hj) he, fun l y hly hy => ?_⟩, fun p hp hc => (h3 p hp hc).spares (hs hb p hp)⟩
  obtain ⟨g1, g2⟩ := (h2 j hj).2 l y hly hy
  exact ⟨(hl j hj l hly).trans g1, he.holds g2⟩

theorem State.TakesAfresh.not_own {p : IdentReply} (h : s.TakesAfresh b p) (hb : (s.bay b).state ≠ .bringup) :
    (s.bay b).partner ≠ some b := by
  obtain ⟨e, -⟩ | ⟨-, -, -, h⟩ := h
  · exact absurd e hb
  · exact h

theorem State.TakesAfresh.on {p : IdentReply} (h : s.TakesAfresh b p) : ¬(s.bay b).state.off := by
  obtain ⟨e, -⟩ | ⟨e, -⟩ := h
  · rw [e]
    nofun
  · obtain e | e | e | e := e <;> rw [e] <;> nofun

theorem State.laneOf_record {l : LaneNo} {y : Session} (h : s.laneOf i = some l) (hy : (s.lane l).session = some y) : y.record = i := by
  obtain ⟨z, hz, e⟩ := State.Carries.laneOf_eq_some h
  obtain rfl := Option.some.inj (hy.symm.trans hz)
  exact e

/-- The lane of a record is the same where the sessions of others alone have ended. -/
theorem State.laneOf_of_others
    (h : ∀ m, u.lane m = s.lane m ∨ (∃ j, j ≠ i ∧ s.laneOf j = some m) ∧ (u.lane m).session = none) : u.laneOf i = s.laneOf i := by
  unfold State.laneOf
  refine congrArg (fun f => allLanes.find? f) (funext fun m => ?_)
  obtain e | ⟨⟨j, hj, hm⟩, e⟩ := h m
  · rw [e]
  · obtain ⟨z, hz, hzj⟩ := State.Carries.laneOf_eq_some hm
    rw [e, hz]
    simp [hzj, hj]

theorem State.Primed.lane_of (h : s.Primed u b) (hi : (s.bay b).record ≠ some i) :
    u.laneOf i = s.laneOf i ∧ ∀ l, s.laneOf i = some l → u.lane l = s.lane l := by
  have hl : ∀ m, u.lane m = s.lane m ∨ (∃ j, j ≠ i ∧ s.laneOf j = some m) ∧ (u.lane m).session = none := fun m =>
    (h.lane m).imp id fun ⟨⟨j, hj, hm⟩, e⟩ => ⟨⟨j, fun q => hi (q ▸ hj), hm⟩, e⟩
  refine ⟨State.laneOf_of_others hl, fun l hly => ?_⟩
  obtain e | ⟨⟨j, hj, hm⟩, -⟩ := hl l
  · exact e
  · obtain ⟨z, hz, hzj⟩ := State.Carries.laneOf_eq_some hm
    exact absurd (hzj.symm.trans (State.laneOf_record hly hz)) hj

theorem State.Primed.record (h : s.Primed u b) (hi : (s.bay b).record ≠ some i) : (s.record i).SameButUnsecured (u.record i) :=
  h.untouched.records i fun q => hi (Option.mem_toList.mp q)

/-- The one enrolled record of an ID is found in a bay made ready. -/
theorem State.Primed.find (h : s.Primed u b) {y : TabletId} (he : (s.record i).enrolled = true) (hx : (s.record i).tabletId = y)
    (hu : ∀ j : RecordIx, (s.record j).enrolled = true → (s.record j).tabletId = y → j = i) (hi : (s.bay b).record ≠ some i) :
    u.findTablet y = some i := by
  have g := h.record hi
  have e1 : (u.record i).custody = (s.record i).custody := by
    have k := congrArg Record.custody g
    exact k
  have e2 : (u.record i).tabletId = (s.record i).tabletId := by
    have k := congrArg Record.tabletId g
    exact k
  refine State.findTablet_of_unique ?_ (e2.trans hx) fun j hj hy => ?_
  · unfold Record.enrolled at he ⊢
    rwa [e1]
  · obtain ⟨k1, k2⟩ := h.enrolled j hj
    exact hu j k1 (k2.symm.trans hy)

/-! ### A collision -/

theorem State.writeIdent_of_nameless {id : Ident} (h : (s.bay b).record = none) : s.writeIdent b id = s := by
  unfold State.writeIdent
  rw [h]

theorem State.matchIdent_collides {id : Ident} (hc : id.cartClass = true) (hf : u.findTablet id.tabletId = some i)
    (hb : (u.record i).currentBay = some c) (hbc : b ≠ c) (hn : (u.bay b).record = none) :
    u.matchIdent b id = ((u.collide b c i id.tabletId).addSubject Source.dock b.val).requestPass := by
  have h := u.collide_collides i id.tabletId hbc
  unfold State.matchIdent State.matchId
  rw [if_pos hc]
  simp only [hf, hb]
  rw [State.writeIdent_of_nameless (h.bay.record.trans hn)]

theorem Link.Fed.verifyDue {set : LinkSettings} {p : CustodyOrder → Prop} {q : LaneOrder → Prop} {l k : Link}
    (h : Link.Fed set p q l k) (hv : l.verifyDue = false) : k.verifyDue = false := by
  refine h.keeps (P := fun j => j.verifyDue = false) hv (fun _ _ hp _ => hp) (fun _ _ hp _ => hp) fun j hp => ?_
  unfold Link.pump
  split
  swap
  · exact hp
  · have ht : j.takeInstant.verifyDue = false := by
      unfold Link.takeInstant
      split <;> exact hp
    unfold Link.next
    split
    · exact ht
    · split
      · exact ht
      · split
        · exact ht
        · split
          · rfl
          · exact ht

end

end Sys2Proof.Machine
end

section
/-! SUPPORT. The settling of O26: two tablets of one ID collide (R9, R33, R36, R64). -/

namespace Sys2Proof.Machine

set_option Elab.async false

section
variable {s t u x : State} {b c : BayNo} {i j : RecordIx} {y : TabletId}

/-- A collision that an IDENT brings at bay b against bay c (R30, R33). -/
def State.met (u : State) (b c : BayNo) (i : RecordIx) (y : TabletId) : State :=
  ((u.collide b c i y).addSubject Source.dock b.val).requestPass

theorem State.answered_bay (x : State) (b : BayNo) (d : Ident) (c : BayNo) : (x.answered b d).bay c = x.bay c := rfl

theorem State.answered_record (x : State) (b : BayNo) (d : Ident) (i : RecordIx) : (x.answered b d).record i = x.record i := rfl

theorem State.docked_requestPass_bay (v : State) (b c : BayNo) : ((v.addSubject Source.dock b.val).requestPass).bay c = v.bay c := rfl

theorem State.docked_requestPass_record (v : State) (b : BayNo) (i : RecordIx) :
    ((v.addSubject Source.dock b.val).requestPass).record i = v.record i := rfl

theorem State.met_bay (u : State) (b c : BayNo) (i : RecordIx) (y : TabletId) (p : BayNo) :
    (u.met b c i y).bay p = (u.collide b c i y).bay p := State.docked_requestPass_bay _ b p

theorem State.met_record (u : State) (b c : BayNo) (i : RecordIx) (y : TabletId) (j : RecordIx) :
    (u.met b c i y).record j = (u.collide b c i y).record j := State.docked_requestPass_record _ b j

/-- What a collision that an IDENT brings leaves as the change closes, before the undock that came first is looked at. -/
structure State.Clashes (u t : State) (b c : BayNo) (i : RecordIx) (y : TabletId) : Prop where
  untouched : u.Untouched t [i] [b, c]
  bay : (t.bay b).state = .collided ∧ (t.bay b).partner = some c ∧ (t.bay b).reportedId = some y ∧
    (t.bay b).record = (u.bay b).record
  other : (t.bay c).state = (if (u.bay c).state = .fault then .fault else .collided) ∧ (t.bay c).partner = some b ∧
    (t.bay c).reportedId = some y ∧ (t.bay c).record = none
  spares : ∀ p, b ≠ p → c ≠ p → u.Spares t p
  record : (t.record i).custody = .held ∧ (t.record i).holdReason = some .collision ∧ (t.record i).currentBay = none ∧
    (t.record i).holder = none
  emptied : (t.link c).custody.waiting = none ∧ (t.link c).custody.inFlight = none ∧ (t.link c).verify = false ∧
    (t.link c).verifyDue = false
  session : u.SessionEnded t i .aborted
  last : ∀ m, (t.lane m).last = (u.lane m).last ∨ u.laneOf i = some m
  subjects : t.Holds Source.collision b.val ∧ t.Holds Source.collision c.val ∧ t.Holds Source.dock b.val
  response : t.port.response = u.port.response

theorem State.collided_closed (u : State) (d : Ident) (hbc : b ≠ c) :
    u.Clashes (((u.met b c i y).answered b d).closeChange.pumpLink b) b c i y := by
  have h := u.collide_collides i y hbc
  unfold State.met
  generalize u.collide b c i y = v at h
  let x := (v.addSubject Source.dock b.val).requestPass
  have hx : v.Untouched x [] [] := (State.addSubject_untouched v _ _).requestPass
  have hd : (v.addSubject Source.dock b.val).Holds Source.dock b.val := State.addSubject_holds _ _ (by omega)
  have hd' : x.Holds Source.dock b.val := hd
  have hxb : ∀ p, x.bay p = v.bay p := fun _ => rfl
  have hxr : ∀ j, x.record j = v.record j := fun _ => rfl
  have hxl : ∀ p, x.link p = v.link p := fun _ => rfl
  have hxn : ∀ l, x.lane l = v.lane l := fun _ => rfl
  have hxs : ∀ p, v.Spares x p := fun p => .of_eq rfl rfl rfl
  have hxp : x.port.response = v.port.response := rfl
  have e : (v.addSubject Source.dock b.val).requestPass = x := rfl
  rw [e]
  generalize x = x at hx hd' hxb hxr hxl hxn hxs hxp
  have g := x.answered_concludes b d
  generalize (x.answered b d).closeChange.pumpLink b = t at g
  have hbb := ((h.bay.trans (hx.bay b)).trans (g.frame.bay b))
  have hcc := ((h.other.trans (hx.bay c)).trans (g.frame.bay c))
  have hun : x.unlockingRecord c = none := State.unlockingRecord_of_nameless (by
    rw [hxb]
    exact h.other.record)
  have hlink := g.link c hbc hun
  have hlc : x.link c = (u.link c).emptySlots := (hxl c).trans h.link
  rw [hlc] at hlink
  constructor
  case untouched => exact (h.untouched.still hx).still g.frame
  case bay => exact ⟨hbb.state, hbb.partner, hbb.reportedId, hbb.record⟩
  case other => exact ⟨hcc.state, hcc.partner, hcc.reportedId, hcc.record⟩
  case spares => exact fun p h1 h2 => ((h.spares p h1 h2).trans (hxs p)).trans (g.spares p h1)
  case record =>
    have k := (h.record.trans (hx.record i)).trans (g.frame.record i)
    have k1 := congrArg Record.custody k
    have k2 := congrArg Record.holdReason k
    have k3 := congrArg Record.currentBay k
    have k4 := congrArg Record.holder k
    exact ⟨k1, k2, k3, k4⟩
  case emptied =>
    obtain ⟨e1, e2⟩ := (hlink.custody_moved fun _ => id).idle rfl rfl
    exact ⟨e1, e2, hlink.kept.verify, hlink.verifyDue rfl⟩
  case session => exact h.session.kept (fun l => (g.last l).trans (congrArg Lane.last (hxn l))) (hx.trans g.frame).events
  case last => exact fun m => (h.last m).imp (((g.last m).trans (congrArg Lane.last (hxn m))).trans) id
  case subjects =>
    have k := (hx.trans g.frame).events
    exact ⟨k.holds h.subjects.1, k.holds h.subjects.2, g.frame.events.holds hd'⟩
  case response => exact g.response.trans (hxp.trans h.response)

theorem State.collided_link (u : State) (d : Ident) (hbc : b ≠ c) (hv : ((u.met b c i y).answered b d).Vacant c) :
    (((u.met b c i y).answered b d).closeChange.pumpLink b).link c = (u.link c).emptySlots := by
  have h := u.collide_collides i y hbc
  have hn : (((u.met b c i y).answered b d).bay c).record = none := by
    rw [State.answered_bay, State.met_bay]
    exact h.other.record
  have hs := hv.still hn
  have hl : (u.met b c i y).link c = (u.link c).emptySlots := by
    unfold State.met
    generalize u.collide b c i y = v at h
    exact h.link
  generalize u.met b c i y = x at hs hl ⊢
  exact (State.answered_link d hbc hs).trans hl

end

/-- Settles O26: the bay is made ready, and the collision strikes the record of the other. -/
theorem twoTabletsOfOneIdCollide : Obligations.TwoTabletsOfOneIdCollide := by
  unfold Obligations.TwoTabletsOfOneIdCollide
  intro s b c p i hx ht hm he hid huniq hcur hcb hnb hpc
  obtain ⟨u, hu, hsup⟩ := ht.primed
  have hbc : b ≠ c := Ne.symm hcb
  have hrec := hu.record hnb
  have hcur' : (u.record i).currentBay = some c := by
    have k := congrArg Record.currentBay hrec
    exact k.trans hcur
  have hfind := hu.find he hid huniq hnb
  have hmatch := State.matchIdent_collides (u := u) (id := Ident.ofReply p) (decide_eq_true hm) hfind hcur' hbc hu.nameless
  have heq : s.identTaken b (Ident.ofReply p) = (u.met b c i p.tabletId).answered b (Ident.ofReply p) := by
    rw [State.identTaken_eq, hsup, hmatch]
    rfl
  have hcl := u.collided_closed (i := i) (y := p.tabletId) (Ident.ofReply p) hbc
  have hlaws : s.LaneLaw → (s.identTaken b (Ident.ofReply p)).LaneLaw := (State.Carries.identTaken ht.on _).lanes
  have hvac := u.collided_link (i := i) (y := p.tabletId) (Ident.ofReply p) hbc
  have hcol := u.collide_collides i p.tabletId hbc
  have hmet := u.met_record b c i p.tabletId
  refine ⟨_, execIdentTaken_of_hello p hx, ?_⟩
  rw [heq] at hlaws ⊢
  have hfar : s.NamingLaw → ∀ j, (((u.met b c i p.tabletId).answered b (Ident.ofReply p)).record j).currentBay ≠ some c := by
    intro hn j hj
    rw [State.answered_record, hmet] at hj
    by_cases hji : j = i
    · subst hji
      have k := congrArg Record.currentBay hcol.record
      have k' : ((u.collide b c j p.tabletId).record j).currentBay = none := k
      rw [k'] at hj
      cases hj
    · have k := congrArg Record.currentBay (hcol.untouched.records j (by simpa using hji))
      have k' : ((u.collide b c i p.tabletId).record j).currentBay = (u.record j).currentBay := k
      rw [k'] at hj
      by_cases hjb : (s.bay b).record = some j
      · rw [hu.gone j hjb] at hj
        cases hj
      · have q := congrArg Record.currentBay (hu.record hjb)
        have q' : (u.record j).currentBay = (s.record j).currentBay := q
        rw [q'] at hj
        exact hji (Option.some.inj (((hn.1 j c).mp hj).symm.trans ((hn.1 i c).mp hcur)))
  have hvac' := fun hn hl => hvac ((hlaws hl).vacant (hfar hn))
  generalize (((u.met b c i p.tabletId).answered b (Ident.ofReply p)).closeChange.pumpLink b) = t at hcl hvac'
  obtain ⟨b1, b2, b3, -⟩ := hcl.bay
  obtain ⟨c1, c2, c3, c4⟩ := hcl.other
  obtain ⟨r1, r2, r3, r4⟩ := hcl.record
  obtain ⟨e1, e2, e3, e4⟩ := hcl.emptied
  obtain ⟨q1, q2, q3⟩ := hcl.subjects
  obtain ⟨l1, l2⟩ := hu.lane_of hnb
  rw [(hu.spares c hbc hpc).bay.state] at c1
  refine ⟨b1, b2, b3, c1, c2, c3, c4, r1, r2, r3, r4, e1, e2, fun hn hl => ?_, e3, e4, fun l z hl hz => ?_, q1, q2, q3, ?_, ?_⟩
  · rw [hvac' hn hl]
    exact ⟨rfl, rfl⟩
  · exact hcl.session l z (l1.trans hl) (by rw [l2 l hl]; exact hz)
  · refine hu.first.kept hcl.untouched.events (fun j hj => hcl.untouched.records j ?_) (fun j hj l hl => ?_) fun hb d hd => ?_
    · intro g
      exact hnb (List.mem_singleton.mp g ▸ hj)
    · obtain g | g := hcl.last l
      · exact g
      · rw [l1] at g
        obtain ⟨z, hz, hzj⟩ := State.Carries.laneOf_eq_some hl
        have := State.laneOf_record g hz
        exact absurd (this.symm.trans hzj ▸ hj) hnb
    · exact hcl.spares d (fun e => ht.not_own hb (e ▸ hd)) fun e => hpc (e ▸ hd)
  · exact (hu.untouched.trans hcl.untouched).mono (by simp) (by simp)

end Sys2Proof.Machine
end

section
/-! SUPPORT. Docks and FOREIGN bays that an IDENT brings (R5, R31, R32), and bays of the same identity (R36, R39). -/

namespace Sys2Proof.Machine

set_option Elab.async false

section
variable {s t u x : State} {b c : BayNo} {i j : RecordIx} {y : TabletId} {d : Ident}

/-! ### A dock that an IDENT brings -/

/-- Record i docked into bay b and given the figures of an IDENT (R5, R30, R31). -/
def State.housed (u : State) (b : BayNo) (i : RecordIx) (d : Ident) : State :=
  (((u.dock b i).editRecord i (Record.takeIdent d)).addSubject Source.dock b.val).requestPass

/-- What a dock that an IDENT brings leaves as the change closes (R5, R8, R31, R140). -/
structure State.Houses (u t : State) (b : BayNo) (i : RecordIx) (d : Ident) : Prop where
  untouched : u.Untouched t [i] [b]
  bay : (t.bay b).state = .identified ∧ (t.bay b).record = some i ∧ (t.bay b).faultReason = none ∧ (t.bay b).recovery = false ∧
    (t.bay b).partner = none ∧ (t.bay b).reportedId = none ∧ (t.bay b).foreignCause = none
  spares : ∀ p, b ≠ p → u.Spares t p
  record : (Record.takeIdent d (Record.enterBay b (u.record i)).remark).SameButUnsecured (t.record i)
  returned : (u.record i).custody = .loaned ∨ (u.record i).custody = .overdue → t.Holds Source.returned i.val
  order : (Record.enterBay b (u.record i)).custody = .inCart → (u.link b).state ≠ .down → t.CustodyOrdered b .lock
  asks : (Record.enterBay b (u.record i)).custody = .inCart → u.custodySettings.autoLock = true → u.service = none →
    u.LatchOrderly b → t.LatchAsked b .lock
  subject : t.Holds Source.dock b.val
  last : ∀ l, (t.lane l).last = (u.lane l).last

theorem State.housed_closed (u : State) (b : BayNo) (i : RecordIx) (d : Ident) :
    u.Houses (((u.housed b i d).answered b d).closeChange.pumpLink b) b i d := by
  have h := u.dock_docks b i
  unfold State.housed
  generalize u.dock b i = v at h
  let w := v.editRecord i (Record.takeIdent d)
  have hvw : v.Untouched w [i] [] := v.putRecord_untouched i _
  have hwr : w.record i = Record.takeIdent d (v.record i) := (State.record_editRecord v i i _).trans (if_pos rfl)
  have hwx : w.Untouched ((w.addSubject Source.dock b.val).requestPass) [] [] := (State.addSubject_untouched w _ _).requestPass
  have hd : (w.addSubject Source.dock b.val).Holds Source.dock b.val := State.addSubject_holds _ _ (by omega)
  have hxd : ((w.addSubject Source.dock b.val).requestPass).Holds Source.dock b.val := hd
  have hxb : ∀ p, ((w.addSubject Source.dock b.val).requestPass).bay p = v.bay p := fun _ => rfl
  have hxr : ((w.addSubject Source.dock b.val).requestPass).record i = w.record i := rfl
  have hxl : ∀ p, ((w.addSubject Source.dock b.val).requestPass).link p = v.link p := fun _ => rfl
  have hxn : ∀ l, ((w.addSubject Source.dock b.val).requestPass).lane l = v.lane l := fun _ => rfl
  have hxs : ∀ p, v.Spares ((w.addSubject Source.dock b.val).requestPass) p := fun p => .of_eq rfl rfl rfl
  have hxk : v.LatchesKept ((w.addSubject Source.dock b.val).requestPass) := .of_bays
  have e : ((v.editRecord i (Record.takeIdent d)).addSubject Source.dock b.val).requestPass =
    (w.addSubject Source.dock b.val).requestPass := rfl
  rw [e]
  generalize (w.addSubject Source.dock b.val).requestPass = x at hwx hxd hxb hxr hxl hxn hxs hxk
  have g := x.answered_concludes b d
  generalize (x.answered b d).closeChange.pumpLink b = t at g
  have hk : (v.bay b).IdentityKept (t.bay b) := by
    have k := g.frame.bay b
    rwa [hxb] at k
  have hbb := h.bay.trans hk
  have hxrec : (Record.takeIdent d (Record.enterBay b (u.record i)).remark).SameButUnsecured (x.record i) := by
    rw [hxr, hwr]
    have k := congrArg (Record.takeIdent d) h.record
    exact k
  constructor
  case untouched => exact (((h.untouched.trans hvw).still hwx).still g.frame).mono (by simp) (by simp)
  case bay => exact ⟨hbb.state, hbb.record, hbb.faultReason, hbb.recovery, hbb.partner, hbb.reportedId, hbb.foreignCause⟩
  case spares => exact fun p hp => ((h.spares p hp).trans (hxs p)).trans (g.spares p hp)
  case record => exact hxrec.trans (g.frame.record i)
  case returned => exact fun k => (((hvw.still hwx).still g.frame).events).holds (h.returned k)
  case order =>
    intro hc hs
    refine g.order .lock (Option.eq_none_iff_forall_ne_some.mpr fun j hj => ?_) (by rw [hxl]; exact h.order hc hs)
    obtain ⟨e1, e2, -⟩ := State.unlockingRecord_eq_some.mp hj
    rw [hxb, h.bay.record] at e1
    obtain rfl := Option.some.inj e1
    have k := congrArg Record.custody hxrec
    have k' : (x.record i).custody = (Record.enterBay b (u.record i)).custody := k
    rw [k', hc] at e2
    cases e2
  case asks => exact fun h1 h2 h3 h4 => g.asks .lock (hxk.asks (h.asks h1 h2 h3 h4))
  case subject => exact g.frame.events.holds hxd
  case last => exact fun l => (g.last l).trans ((congrArg Lane.last (hxn l)).trans (h.last l))

theorem State.writeIdent_of_some (h : (s.bay b).record = some i) : s.writeIdent b d = s.editRecord i (Record.takeIdent d) := by
  unfold State.writeIdent
  rw [h]

theorem State.matchIdent_houses (hc : d.cartClass = true) (hf : u.findTablet d.tabletId = some i)
    (hb : (u.record i).currentBay = none) : u.matchIdent b d = u.housed b i d := by
  have h := u.dock_docks b i
  unfold State.matchIdent State.matchId
  rw [if_pos hc]
  simp only [hf, hb]
  rw [State.writeIdent_of_some h.bay.record]
  rfl

/-- The custody states in which an undocked record is docked (R31). -/
abbrev CustodyState.Afield (x : CustodyState) : Prop := x = .away ∨ x = .loaned ∨ x = .overdue ∨ x = .adrift ∨ x = .held

theorem Record.enterBay_afield {r : Record} (b : BayNo) (h : r.custody.Afield) :
    (Record.enterBay b r).custody = if r.custody = .held then .held else .inCart := by
  rw [Record.enterBay_custody]
  obtain e | e | e | e | e := h <;> rw [e] <;> rfl

theorem Record.enterBay_inCart {r : Record} (b : BayNo) (h : r.custody.Afield) (hn : r.custody ≠ .held) :
    (Record.enterBay b r).custody = .inCart ∧ (Record.enterBay b r).holder = none ∧ (Record.enterBay b r).adriftReason = none := by
  refine ⟨(Record.enterBay_afield b h).trans (if_neg hn), ?_⟩
  obtain e | e | e | e | e := h
  case inr.inr.inr.inr => exact absurd e hn
  all_goals simp [Record.enterBay, e]

theorem Record.enterBay_fields (b : BayNo) (r : Record) : (Record.enterBay b r).currentBay = some b ∧
    (Record.enterBay b r).lastCharge = none ∧ (Record.enterBay b r).lastTemp = none ∧ (Record.enterBay b r).energy = 0 ∧
    (Record.enterBay b r).orderUndelivered = false := by
  unfold Record.enterBay
  cases r.custody <;> exact ⟨rfl, rfl, rfl, rfl, rfl⟩

/-! ### A FOREIGN bay that an IDENT brings -/

/-- Bay b as an IDENT makes it FOREIGN (R30, R32). -/
def State.estranged (u : State) (b : BayNo) (y : TabletId) (cause : ForeignCause) : State :=
  ((u.becomeForeign b y cause).addSubject Source.dock b.val).requestPass

/-- What an IDENT that makes bay b FOREIGN leaves as the change closes (R32). -/
structure State.Estranges (u t : State) (b : BayNo) (y : TabletId) (cause : ForeignCause) : Prop where
  untouched : u.Untouched t [] [b]
  response : t.port.response = u.port.response
  bay : (t.bay b).state = .foreign ∧ (t.bay b).reportedId = some y ∧ (t.bay b).record = (u.bay b).record ∧
    (t.bay b).partner = none ∧ (t.bay b).foreignCause = some cause
  subjects : t.Holds Source.foreign b.val ∧ t.Holds Source.dock b.val
  spares : ∀ p, b ≠ p → u.Spares t p
  last : ∀ l, (t.lane l).last = (u.lane l).last

theorem State.estranged_closed (u : State) (b : BayNo) (y : TabletId) (cause : ForeignCause) (d : Ident) :
    u.Estranges (((u.estranged b y cause).answered b d).closeChange.pumpLink b) b y cause := by
  have h1 := (u.becomeForeign_bay b b y cause).trans (if_pos rfl)
  have h2 := u.becomeForeign_untouched b y cause
  have h3 := u.becomeForeign_holds b y cause
  have h4 := fun p => u.becomeForeign_spares (b := b) (c := p) y cause
  have h5 : ∀ l, (u.becomeForeign b y cause).lane l = u.lane l := fun _ => rfl
  have h6 : (u.becomeForeign b y cause).port.response = u.port.response := rfl
  unfold State.estranged
  generalize u.becomeForeign b y cause = v at h1 h2 h3 h4 h5 h6
  have hx : v.Untouched ((v.addSubject Source.dock b.val).requestPass) [] [] := (State.addSubject_untouched v _ _).requestPass
  have hd : (v.addSubject Source.dock b.val).Holds Source.dock b.val := State.addSubject_holds _ _ (by omega)
  have hxd : ((v.addSubject Source.dock b.val).requestPass).Holds Source.dock b.val := hd
  have hxn : ∀ l, ((v.addSubject Source.dock b.val).requestPass).lane l = v.lane l := fun _ => rfl
  have hxs : ∀ p, v.Spares ((v.addSubject Source.dock b.val).requestPass) p := fun p => .of_eq rfl rfl rfl
  have hxp : ((v.addSubject Source.dock b.val).requestPass).port.response = v.port.response := rfl
  generalize (v.addSubject Source.dock b.val).requestPass = x at hx hxd hxn hxs hxp
  have g := x.answered_concludes b d
  generalize (x.answered b d).closeChange.pumpLink b = t at g
  have hbb := (hx.bay b).trans (g.frame.bay b)
  rw [h1] at hbb
  exact ⟨(h2.still hx).still g.frame, g.response.trans (hxp.trans h6),
    ⟨hbb.state, hbb.reportedId, hbb.record, hbb.partner, hbb.foreignCause⟩,
    ⟨(hx.still g.frame).events.holds h3, g.frame.events.holds hxd⟩,
    fun p hp => ((h4 p hp).trans (hxs p)).trans (g.spares p hp),
    fun l => (g.last l).trans (congrArg Lane.last ((hxn l).trans (h5 l)))⟩

theorem State.matchIdent_estranges (hn : (u.bay b).record = none) (h : d.cartClass = false ∨ u.findTablet d.tabletId = none) :
    u.matchIdent b d = u.estranged b d.tabletId (if d.cartClass then .unknownId else .badClass) := by
  unfold State.matchIdent State.matchId
  cases hc : d.cartClass with
  | false => rfl
  | true =>
    have hf := h.resolve_left (by rw [hc]; nofun)
    have hb := (u.becomeForeign_bay b b d.tabletId .unknownId).trans (if_pos rfl)
    have hr : ((u.becomeForeign b d.tabletId .unknownId).bay b).record = none := by
      rw [hb]
      exact hn
    simp only [hf, if_pos]
    rw [State.writeIdent_of_nameless hr]
    rfl

/-! ### The same identity -/

theorem State.sameIdentity_writes (hr : (s.bay b).record = some i)
    (hs : (s.bay b).state = .identified ∨ (s.bay b).state = .fault ∧ (s.bay b).recovery = false) :
    s.sameIdentity b d = s.editRecord i (Record.takeIdent d) := by
  unfold State.sameIdentity
  simp only
  rw [State.writeIdent_of_some hr, if_neg, if_neg]
  · obtain e | ⟨e, -⟩ := hs <;> rw [e] <;> nofun
  · rintro ⟨h1, h2, -⟩
    obtain e | ⟨-, e⟩ := hs
    · rw [e] at h1
      cases h1
    · rw [e] at h2
      cases h2

theorem State.sameIdentity_recovers (hr : (s.bay b).record = some i) (hs : (s.bay b).state = .fault) (hv : (s.bay b).recovery = true) :
    s.sameIdentity b d = (s.editRecord i (Record.takeIdent d)).recover b := by
  unfold State.sameIdentity
  simp only
  rw [State.writeIdent_of_some hr, if_pos ⟨hs, hv, by rw [hr]; rfl⟩]

theorem State.sameIdentity_idle (hr : (s.bay b).record = none) (h : (s.bay b).state = .collided ∨ (s.bay b).state = .fault ∨
    (s.bay b).state = .foreign ∧ ((s.bay b).foreignCause = some .badClass ∨ s.findTablet d.tabletId = none)) :
    s.sameIdentity b d = s := by
  unfold State.sameIdentity
  simp only
  rw [State.writeIdent_of_nameless hr, if_neg, if_neg]
  · rintro ⟨h1, h2, h3⟩
    obtain e | e | ⟨-, e | e⟩ := h
    · rw [e] at h1
      cases h1
    · rw [e] at h1
      cases h1
    · rw [e] at h2
      cases h2
    · rw [e] at h3
      cases h3
  · rintro ⟨-, -, h3⟩
    rw [hr] at h3
    cases h3

theorem State.sameIdentity_rematches (hr : (s.bay b).record = none) (hs : (s.bay b).state = .foreign)
    (hc : (s.bay b).foreignCause = some .unknownId) (hf : (s.findTablet d.tabletId).isSome = true) :
    s.sameIdentity b d = s.matchIdent b d := by
  unfold State.sameIdentity
  simp only
  rw [State.writeIdent_of_nameless hr, if_neg, if_pos ⟨hs, hc, hf⟩]
  rintro ⟨h1, -, -⟩
  rw [hs] at h1
  cases h1

end

end Sys2Proof.Machine
end

section
/-! SUPPORT. The settling of O25: an IDENT makes a FOREIGN bay, docks its record, or writes its figures (R30 to R36, R39). -/

namespace Sys2Proof.Machine

set_option Elab.async false

section
variable {s t u x : State} {b c : BayNo} {i j : RecordIx} {p : IdentReply} {d : Ident}

theorem State.identTaken_of_supervised (h : (s.heard b).superviseIdent b d = x) : s.identTaken b d = x.answered b d := by
  rw [State.identTaken_eq, h]

theorem State.identTaken_of_same (hs : (s.bay b).state.Occupied) (h : (s.heard b).compare b d = .same)
    (hx : (s.heard b).sameIdentity b d = x) : s.identTaken b d = x.requestPass.answered b d := by
  refine State.identTaken_of_supervised ((State.superviseIdent_of_occupied (s := s.heard b) d hs).trans ?_)
  rw [h, ← hx]
  rfl

/-- The undock that came first, where what follows touches no other record and no lane. -/
theorem State.Primed.first_kept (h : s.Primed u b) (ht : s.TakesAfresh b p) (hi : ∀ j ∈ (s.bay b).record, (u.record j).SameButUnsecured (t.record j))
    (he : u.EventsGrow t) (hl : ∀ l, (t.lane l).last = (u.lane l).last) (hs : ∀ q, b ≠ q → u.Spares t q) : s.UndocksFirst t b :=
  h.first.kept he hi (fun _ _ l _ => hl l) fun hb q hq => hs q fun e => ht.not_own hb (e ▸ hq)

/-- The first clause: an IDENT that makes the bay FOREIGN. -/
theorem ident_estranges (hx : (s.link b).exchange = some .hello) (ht : s.TakesAfresh b p)
    (hm : p.classMarker ≠ 0xD7 ∨ ∀ i : RecordIx, (s.record i).enrolled = true → (s.record i).tabletId ≠ p.tabletId) :
    ∃ t, exec (.identTaken b p) s = .next t ∧ t.port.response = s.port.response ∧ (t.bay b).state = .foreign ∧
      (t.bay b).reportedId = some p.tabletId ∧ (t.bay b).record = none ∧ (t.bay b).partner = none ∧
      (t.bay b).foreignCause = some (if p.classMarker = 0xD7 then .unknownId else .badClass) ∧
      t.Holds Source.foreign b.val ∧ t.Holds Source.dock b.val ∧ s.UndocksFirst t b ∧
      s.Untouched t (s.bay b).record.toList (b :: (s.bay b).partner.toList) := by
  obtain ⟨u, hu, hsup⟩ := ht.primed
  have hf : (Ident.ofReply p).cartClass = false ∨ u.findTablet (Ident.ofReply p).tabletId = none := by
    refine hm.imp (fun h => decide_eq_false h) fun h => State.findTablet_eq_none_iff.mpr fun j hj e => ?_
    obtain ⟨k1, k2⟩ := hu.enrolled j hj
    exact h j k1 (k2.symm.trans e)
  have hmatch := State.matchIdent_estranges hu.nameless hf
  refine ⟨_, execIdentTaken_of_hello p hx, ?_⟩
  rw [State.identTaken_of_supervised (hsup.trans hmatch)]
  have g := u.estranged_closed b (Ident.ofReply p).tabletId (if (Ident.ofReply p).cartClass then .unknownId else .badClass) (Ident.ofReply p)
  generalize (((u.estranged b (Ident.ofReply p).tabletId (if (Ident.ofReply p).cartClass then .unknownId else .badClass)).answered b
    (Ident.ofReply p)).closeChange.pumpLink b) = t at g
  obtain ⟨b1, b2, b3, b4, b5⟩ := g.bay
  refine ⟨g.response.trans hu.response, b1, b2, b3.trans hu.nameless, b4, b5.trans ?_, g.subjects.1, g.subjects.2,
    hu.first_kept ht (fun j _ => g.untouched.records j nofun) g.untouched.events g.last g.spares, ?_⟩
  · rw [Ident.cartClass_ofReply]
    simp only [decide_eq_true_eq]
  · exact (hu.untouched.trans g.untouched).mono (by simp) (by simp)

/-- The second clause: an IDENT that docks its record. -/
theorem ident_houses (hx : (s.link b).exchange = some .hello) (ht : s.TakesAfresh b p) (hm : p.classMarker = 0xD7)
    (he : (s.record i).enrolled = true) (hid : (s.record i).tabletId = p.tabletId)
    (huniq : ∀ j : RecordIx, (s.record j).enrolled = true → (s.record j).tabletId = p.tabletId → j = i)
    (hc : (s.record i).currentBay = none) (hn : (s.bay b).record ≠ some i) :
    ∃ u t, s.Primed u b ∧ exec (.identTaken b p) s = .next t ∧ u.Houses t b i (Ident.ofReply p) ∧
      s.UndocksFirst t b ∧ s.Untouched t (i :: (s.bay b).record.toList) (b :: (s.bay b).partner.toList) := by
  obtain ⟨u, hu, hsup⟩ := ht.primed
  have hfind := hu.find he hid huniq hn
  have hcur : (u.record i).currentBay = none := by
    have k := congrArg Record.currentBay (hu.record hn)
    exact k.trans hc
  have hmatch := State.matchIdent_houses (u := u) (b := b) (d := Ident.ofReply p) (decide_eq_true hm) hfind hcur
  have hex := execIdentTaken_of_hello p hx
  rw [State.identTaken_of_supervised (hsup.trans hmatch)] at hex
  have g := u.housed_closed b i (Ident.ofReply p)
  generalize ((u.housed b i (Ident.ofReply p)).answered b (Ident.ofReply p)).closeChange.pumpLink b = t at g hex
  refine ⟨u, t, hu, hex, g, hu.first_kept ht (fun j hj => g.untouched.records j ?_) g.untouched.events g.last g.spares, ?_⟩
  · exact fun q => hn (List.mem_singleton.mp q ▸ hj)
  · exact (hu.untouched.trans g.untouched).mono (by simp) (by simp)

/-! ### The same identity -/

/-- A FAULT bay b as it recovers, and what comes with it (R35, R39). -/
structure State.Recovers (s t : State) (b : BayNo) : Prop where
  untouched : s.Untouched t [] (b :: (s.bay b).partner.toList)
  bay : ({ (s.bay b).strip with state := .identified } : Bay).IdentityKept (t.bay b)
  record : ∀ j, t.record j = s.record j
  partner : ∀ q ∈ (s.bay b).partner, s.PartnerReleased t q

/-- A FAULT bay as it is IDENTIFIED again (R39). -/
abbrev Bay.restored (y : Bay) : Bay := { y.strip with state := .identified }

/-- Bay b, its partner released, is IDENTIFIED again and waits for charge (R39). -/
def State.restored (w : State) (b : BayNo) : State :=
  ((w.modBay b Bay.restored).modOutput b fun o => { o with charge := .waiting }).requestPass

theorem State.restored_bay (w : State) (b q : BayNo) : (w.restored b).bay q = if b = q then (w.bay b).restored else w.bay q :=
  State.bay_modBay w b q Bay.restored

theorem State.restored_output (w : State) {b q : BayNo} (h : b ≠ q) : (w.restored b).output q = w.output q :=
  (State.output_modOutput (w.modBay b Bay.restored) b q fun o => { o with charge := .waiting }).trans (if_neg h)

theorem State.restored_untouched (w : State) (b : BayNo) : w.Untouched (w.restored b) [] [b] := by
  have h := w.modBay_untouched b Bay.restored
  unfold State.restored
  generalize w.modBay b Bay.restored = v at h
  exact (h.still (.tables (s := v) (t := v.modOutput b fun o => { o with charge := .waiting }) rfl rfl)).requestPass

theorem State.recover_eq (s : State) (b : BayNo) : (s.recover b).requestPass =
    (if (s.bay b).partnered then s.releasePartner b else s).restored b := rfl

theorem State.recover_recovers (hs : (s.bay b).state = .fault) (hp : (s.bay b).partner ≠ some b) : s.Recovers (s.recover b).requestPass b := by
  have hr := s.releasePartner_releases b (s.bay b).partnered
  rw [State.recover_eq]
  generalize (if (s.bay b).partnered then s.releasePartner b else s) = w at hr
  obtain ⟨o1, -, -⟩ := hr.other b hp
  have hb := w.restored_bay b
  have ho := fun q => w.restored_output (b := b) (q := q)
  have hu := w.restored_untouched b
  have hl : ∀ q, (w.restored b).link q = w.link q := fun _ => rfl
  have hrec : ∀ j, (w.restored b).record j = w.record j := fun _ => rfl
  generalize w.restored b = x at hb ho hu hl hrec
  constructor
  case untouched => exact (hr.untouched.trans hu).mono (by simp) (by simp)
  case bay => rw [hb, if_pos rfl, o1]
  case record =>
    intro j
    rw [hrec, hr.only]
    rfl
  case partner =>
    intro q hq
    have hne : b ≠ q := fun k => hp (k ▸ hq)
    exact (hr.released q hq (Bay.partnered_of_fault hs hq)).spares (.of_eq ((hb q).trans (if_neg hne)) (hl q) (ho q hne) hu.settings.1)

theorem Record.takeIdent_ofReply (r : Record) : Record.takeIdent (Ident.ofReply p) r = r.withIdent p := by
  unfold Record.takeIdent Record.withIdent Ident.ofReply
  simp only [clampNat_eq_max (show 50 ≤ 1000 by omega), clampNat_eq_max (show 25 ≤ 1000 by omega)]

/-- What follows an IDENT that changes no bay and writes at most the figures. -/
theorem ident_same (hx : (s.link b).exchange = some .hello) (hs : (s.bay b).state.Occupied) (h : s.SameIdentity b p)
    (he : (s.heard b).sameIdentity b (Ident.ofReply p) = x) : exec (.identTaken b p) s =
      .next ((x.requestPass.answered b (Ident.ofReply p)).closeChange.pumpLink b) := by
  have hc : (s.heard b).compare b (Ident.ofReply p) = .same := State.SameIdentity.compare (s := s.heard b) h
  rw [execIdentTaken_of_hello p hx, State.identTaken_of_same hs hc he]

theorem State.heard_untouched (s : State) (b : BayNo) : s.Untouched (s.heard b) [] [] := s.modLink_untouched b _

theorem ident_writes (hx : (s.link b).exchange = some .hello) (h : s.SameIdentity b p) (hr : (s.bay b).record = some i)
    (hs : (s.bay b).state = .identified ∨ (s.bay b).state = .fault ∧ (s.bay b).recovery = false) :
    ∃ t, exec (.identTaken b p) s = .next t ∧ s.Writes t i ((s.record i).withIdent p) := by
  have hoc : (s.bay b).state.Occupied := hs.elim .inl fun g => .inr (.inr (.inr g.1))
  refine ⟨_, ident_same hx hoc h (State.sameIdentity_writes (s := s.heard b) hr hs), ?_⟩
  have hu := s.heard_untouched b
  have hr1 : ∀ j, (s.heard b).record j = s.record j := fun _ => rfl
  generalize s.heard b = v at hu hr1
  have h1 := v.putRecord_untouched i (Record.takeIdent (Ident.ofReply p) (v.record i))
  have h2 : (v.editRecord i (Record.takeIdent (Ident.ofReply p))).record i = (s.record i).withIdent p := by
    refine (State.record_editRecord v i i _).trans ((if_pos rfl).trans ?_)
    rw [hr1, Record.takeIdent_ofReply]
  have e : v.editRecord i (Record.takeIdent (Ident.ofReply p)) = v.putRecord i (Record.takeIdent (Ident.ofReply p) (v.record i)) := rfl
  rw [← e] at h1
  generalize v.editRecord i (Record.takeIdent (Ident.ofReply p)) = w at h1 h2
  have g := w.requestPass.answered_concludes b (Ident.ofReply p)
  have hw : w.Untouched w.requestPass [] [] := (State.Untouched.refl w).requestPass
  have k := hw.trans g.frame
  refine ⟨?_, ((hu.trans h1).still hw).still g.frame⟩
  have q := k.record i
  rw [h2] at q
  exact q

theorem ident_idles (hx : (s.link b).exchange = some .hello) (hs : (s.bay b).state.Occupied) (h : s.SameIdentity b p)
    (hr : (s.bay b).record = none) (hc : (s.bay b).state = .collided ∨ (s.bay b).state = .fault ∨
      (s.bay b).state = .foreign ∧ ((s.bay b).foreignCause = some .badClass ∨
        ∀ i : RecordIx, (s.record i).enrolled = true → (s.record i).tabletId ≠ p.tabletId)) :
    ∃ t, exec (.identTaken b p) s = .next t ∧ s.Untouched t [] [] := by
  have hi : (s.heard b).sameIdentity b (Ident.ofReply p) = s.heard b :=
    State.sameIdentity_idle (s := s.heard b) hr (hc.imp id fun k => k.imp id fun ⟨k1, k2⟩ => ⟨k1, k2.imp id fun k3 =>
      State.findTablet_eq_none_iff.mpr k3⟩)
  refine ⟨_, ident_same hx hs h hi, ?_⟩
  have hu := s.heard_untouched b
  generalize s.heard b = v at hu
  exact hu.requestPass.still (v.requestPass.answered_concludes b (Ident.ofReply p)).frame

theorem ident_recovers (hx : (s.link b).exchange = some .hello) (h : s.SameIdentity b p) (hr : (s.bay b).record = some i)
    (hs : (s.bay b).state = .fault) (hv : (s.bay b).recovery = true) (hp : (s.bay b).partner ≠ some b) :
    ∃ t, exec (.identTaken b p) s = .next t ∧ (t.bay b).state = .identified ∧ (t.bay b).record = some i ∧
      (t.bay b).faultReason = none ∧ (t.bay b).recovery = false ∧ (t.bay b).partner = none ∧
      (t.bay b).reportedId = none ∧ (t.bay b).foreignCause = none ∧
      ((s.record i).withIdent p).SameButUnsecured (t.record i) ∧
      (∀ c ∈ (s.bay b).partner, s.PartnerReleased t c) ∧ s.Untouched t [i] (b :: (s.bay b).partner.toList) := by
  refine ⟨_, ident_same hx (.inr (.inr (.inr hs))) h (State.sameIdentity_recovers (s := s.heard b) hr hs hv), ?_⟩
  have hu := s.heard_untouched b
  have hsp := fun q => s.heard_spares (b := b) (c := q)
  have hr1 : ∀ j, (s.heard b).record j = s.record j := fun _ => rfl
  have hb1 : ∀ q, (s.heard b).bay q = s.bay q := fun _ => rfl
  generalize s.heard b = v at hu hsp hr1 hb1
  have h1 := v.putRecord_untouched i (Record.takeIdent (Ident.ofReply p) (v.record i))
  have h2 : (v.editRecord i (Record.takeIdent (Ident.ofReply p))).record i = (s.record i).withIdent p := by
    refine (State.record_editRecord v i i _).trans ((if_pos rfl).trans ?_)
    rw [hr1, Record.takeIdent_ofReply]
  have e : v.editRecord i (Record.takeIdent (Ident.ofReply p)) = v.putRecord i (Record.takeIdent (Ident.ofReply p) (v.record i)) := rfl
  have h3 : ∀ q, v.Spares (v.editRecord i (Record.takeIdent (Ident.ofReply p))) q := fun q => .of_eq rfl rfl rfl
  have h4 : ∀ q, (v.editRecord i (Record.takeIdent (Ident.ofReply p))).bay q = s.bay q := fun q => (hb1 q).symm ▸ rfl
  rw [← e] at h1
  generalize v.editRecord i (Record.takeIdent (Ident.ofReply p)) = w at h1 h2 h3 h4
  have hrv := State.recover_recovers (s := w) (b := b) (by rw [h4]; exact hs) (by rw [h4]; exact hp)
  generalize (w.recover b).requestPass = x at hrv
  have g := x.answered_concludes b (Ident.ofReply p)
  generalize (x.answered b (Ident.ofReply p)).closeChange.pumpLink b = t at g
  have hbb := hrv.bay.trans (g.frame.bay b)
  rw [h4] at hbb
  refine ⟨hbb.state, hbb.record.trans hr, hbb.faultReason, hbb.recovery, hbb.partner, hbb.reportedId, hbb.foreignCause, ?_,
    fun q hq => ?_, ?_⟩
  · have k := g.frame.record i
    rwa [hrv.record, h2] at k
  · have hne : b ≠ q := fun k => hp (k ▸ hq)
    exact ((hrv.partner q (by rw [h4]; exact hq)).source ((hsp q hne).trans (h3 q)).bay).spares (g.spares q hne)
  · have k := (((hu.trans h1).trans hrv.untouched).still g.frame)
    rw [h4] at k
    exact k.mono (by simp) (by simp)

end

end Sys2Proof.Machine
end

section
/-! SUPPORT. The settling of O25, from what each kind of IDENT leaves (R30 to R36, R39). -/

namespace Sys2Proof.Machine

set_option Elab.async false

theorem State.requestPass_requestPass (s : State) : s.requestPass.requestPass = s.requestPass := rfl

section
variable {s t u : State} {b k : BayNo} {i : RecordIx} {p : IdentReply}

/-- The record of a dock that an IDENT brings, field by field (R5, R8, R31). -/
theorem State.Houses.fields (h : u.Houses t b i (Ident.ofReply p)) (hc : (u.record i).custody.Afield) :
    (t.record i).custody = (if (u.record i).custody = .held then .held else .inCart) ∧ (t.record i).currentBay = some b ∧
    (t.record i).lastCharge = none ∧ (t.record i).lastTemp = none ∧ (t.record i).energy = 0 ∧
    (t.record i).orderUndelivered = false ∧
    ((u.record i).custody ≠ .held → (t.record i).holder = none ∧ (t.record i).adriftReason = none) ∧
    (t.record i).capacity = some (max 50 (min 1000 p.capacity.toNat)) ∧
    (t.record i).acceptance = some (max 25 (min 1000 p.acceptance.toNat)) ∧ (t.record i).profileHeld = some p.profileHeld := by
  have g := h.record
  rw [Record.takeIdent_ofReply] at g
  obtain ⟨e1, e2, e3, e4, e5⟩ := Record.enterBay_fields b (u.record i)
  have g0 := congrArg Record.custody g
  have g1 := congrArg Record.currentBay g
  have g2 := congrArg Record.lastCharge g
  have g3 := congrArg Record.lastTemp g
  have g4 := congrArg Record.energy g
  have g5 := congrArg Record.orderUndelivered g
  have g6 := congrArg Record.holder g
  have g7 := congrArg Record.adriftReason g
  have g8 := congrArg Record.capacity g
  have g9 := congrArg Record.acceptance g
  have g10 := congrArg Record.profileHeld g
  refine ⟨g0.trans (Record.enterBay_afield b hc), g1.trans e1, g2.trans e2, g3.trans e3, g4.trans e4, g5.trans e5, fun hn => ?_,
    g8, g9, g10⟩
  obtain ⟨-, f1, f2⟩ := Record.enterBay_inCart b hc hn
  exact ⟨g6.trans f1, g7.trans f2⟩

/-- A FOREIGN bay whose ID is enrolled by now docks its record (R34). -/
theorem ident_rehouses (hx : (s.link b).exchange = some .hello) (h : s.SameIdentity b p) (hr : (s.bay b).record = none)
    (hs : (s.bay b).state = .foreign) (hc : (s.bay b).foreignCause = some .unknownId) (hf : s.findTablet p.tabletId = some i) :
    (∃ t, (s.record i).currentBay = none → exec (.identTaken b p) s = .next t ∧ s.Houses t b i (Ident.ofReply p)) ∧
      (k ≠ b → (s.record i).currentBay = some k →
        ∃ t, exec (.identTaken b p) s = .next t ∧ s.Clashes t b k i p.tabletId) := by
  have hm : p.classMarker = 0xD7 := ((h.2 hr).2).mpr (by rw [hc]; nofun)
  have hcl : (Ident.ofReply p).cartClass = true := decide_eq_true hm
  have hf' : (s.heard b).findTablet (Ident.ofReply p).tabletId = some i := hf
  have hx' := ident_same hx (.inr (.inl hs)) h
    (State.sameIdentity_rematches (s := s.heard b) hr hs hc (by rw [hf']; rfl))
  refine ⟨⟨_, fun hb => ⟨hx', ?_⟩⟩, fun hkb hk => ⟨_, hx', ?_⟩⟩
  · have hb' : ((s.heard b).record i).currentBay = none := hb
    rw [State.matchIdent_houses hcl hf' hb']
    have e : ((s.heard b).housed b i (Ident.ofReply p)).requestPass = (s.heard b).housed b i (Ident.ofReply p) := rfl
    rw [e]
    have g := (s.heard b).housed_closed b i (Ident.ofReply p)
    generalize (((s.heard b).housed b i (Ident.ofReply p)).answered b (Ident.ofReply p)).closeChange.pumpLink b = t at g
    have hu := s.heard_untouched b
    have hl : ((s.heard b).link b).state ≠ .down ↔ (s.link b).state ≠ .down := by rw [State.heard_link]
    exact ⟨(hu.trans g.untouched).mono (by simp) (by simp), g.bay, fun q hq => (s.heard_spares hq).trans (g.spares q hq), g.record,
      g.returned, fun h1 h2 => g.order h1 (hl.mpr h2), g.asks, g.subject, g.last⟩
  · have hk' : ((s.heard b).record i).currentBay = some k := hk
    rw [State.matchIdent_collides hcl hf' hk' (Ne.symm hkb) hr]
    have e : ((((s.heard b).collide b k i (Ident.ofReply p).tabletId).addSubject Source.dock b.val).requestPass).requestPass =
      (s.heard b).met b k i p.tabletId := by
      unfold State.met
      exact State.requestPass_requestPass _
    rw [e]
    have g := (s.heard b).collided_closed (i := i) (y := p.tabletId) (Ident.ofReply p) (Ne.symm hkb)
    generalize (((s.heard b).met b k i p.tabletId).answered b (Ident.ofReply p)).closeChange.pumpLink b = t at g
    have hu := s.heard_untouched b
    exact ⟨(hu.trans g.untouched).mono (by simp) (by simp), g.bay, g.other,
      fun q h1 h2 => (s.heard_spares h1).trans (g.spares q h1 h2), g.record, g.emptied, g.session, g.last, g.subjects, g.response⟩

end

/-- Settles O25, by the kind of IDENT: foreign, of an undocked record, of the same identity, or without one to compare. -/
theorem identsMakeForeignBaysOrDocks : Obligations.IdentsMakeForeignBaysOrDocks := by
  unfold Obligations.IdentsMakeForeignBaysOrDocks
  refine ⟨fun s b p hx ht hm => ident_estranges hx ht hm, fun s b p i hx ht hm he hid hu hc hn hcu => ?_, fun s b p hx h => ⟨?_, ?_, ?_⟩,
    fun s b p hx hs hr hi => ?_⟩
  · obtain ⟨u, t, hp, hex, g, hf, hut⟩ := ident_houses hx ht hm he hid hu hc hn
    have hrec := hp.record hn
    have hcus : (u.record i).custody = (s.record i).custody := by
      have q := congrArg Record.custody hrec
      exact q
    have haf : (u.record i).custody.Afield := by
      rw [hcus]
      exact hcu
    obtain ⟨b1, b2, b3, b4, b5, b6, b7⟩ := g.bay
    obtain ⟨f1, f2, f3, f4, f5, f6, f7, f8, f9, f10⟩ := g.fields haf
    rw [hcus] at f1 f7 haf
    have hin : (s.record i).custody ≠ .held → (Record.enterBay b (u.record i)).custody = .inCart := fun q =>
      (Record.enterBay_inCart b (hcus ▸ haf) (by rw [hcus]; exact q)).1
    refine ⟨t, hex, b1, b2, b3, b4, b5, b6, b7, f1, f2, f3, f4, f5, f6, f7, f8, f9, f10, g.subject, fun q => g.returned (by rw [hcus]; exact q),
      fun q1 q2 => g.order (hin q1) (hp.awake q2), fun q1 q2 q3 q4 => g.asks (hin q1) ?_ ?_ (hp.latches.orderly q4), hf, hut⟩
    · rw [hp.untouched.settings.2.2.2]
      exact q2
    · exact hp.untouched.windows.2.1.trans q3
  · exact fun i hr => ⟨fun hs => ident_writes hx h hr hs, fun hs hv hp => ident_recovers hx h hr hs hv hp⟩
  · intro hr hc
    have ho : (s.bay b).state.Occupied := by
      obtain e | e | ⟨e, -⟩ := hc
      · exact .inr (.inr (.inl e))
      · exact .inr (.inr (.inr e))
      · exact .inr (.inl e)
    exact ident_idles hx ho h hr hc
  · intro i hr hs hc he hid hu
    have hf := State.findTablet_of_unique he hid hu
    refine ⟨fun hn hcu => ?_, fun k hk hkb hst => ?_⟩
    · obtain ⟨⟨t, ht⟩, -⟩ := ident_rehouses (k := b) hx h hr hs hc hf
      obtain ⟨hex, g⟩ := ht hn
      obtain ⟨b1, b2, -, -, -, b6, b7⟩ := g.bay
      obtain ⟨f1, f2, -⟩ := g.fields hcu
      exact ⟨t, hex, b1, b2, b6, b7, f2, f1, g.subject, g.untouched⟩
    · obtain ⟨-, ht⟩ := ident_rehouses (k := k) hx h hr hs hc hf
      obtain ⟨t, hex, g⟩ := ht hkb hk
      obtain ⟨b1, b2, b3, b4⟩ := g.bay
      obtain ⟨c1, c2, c3, c4⟩ := g.other
      obtain ⟨r1, r2, r3, -⟩ := g.record
      obtain ⟨q1, q2, q3⟩ := g.subjects
      exact ⟨t, hex, ⟨⟨b1, b2, b3, b4.trans hr, q1⟩, c1.trans (if_neg hst), c2, c3, c4, q2⟩, r1, r2, r3, q3, g.untouched⟩
  · have hcmp : (s.heard b).compare b (Ident.ofReply p) = .noIdentity := by
      have hr' : ((s.heard b).bay b).record = none := hr
      have hi' : ((s.heard b).bay b).reportedId = none := hi
      unfold State.compare
      simp only [hr', hi']
    have hsup : (s.heard b).superviseIdent b (Ident.ofReply p) = (s.heard b).requestPass := by
      rw [State.superviseIdent_of_occupied (s := s.heard b) _ (.inr (.inr (.inr hs))), hcmp]
      rfl
    refine ⟨_, execIdentTaken_of_hello p hx, ?_⟩
    rw [State.identTaken_of_supervised hsup]
    have hu := s.heard_untouched b
    generalize s.heard b = v at hu
    exact hu.requestPass.still (v.requestPass.answered_concludes b (Ident.ofReply p)).frame

end Sys2Proof.Machine
end

section
/-! SUPPORT. The settling of O17: an accepted ENROL writes its record, which the FOREIGN bays may dock (R14, R15, R34). -/

namespace Sys2Proof.Machine

set_option Elab.async false

section
variable {s t u : State} {b k : BayNo} {i : RecordIx} {p : EnrolParams} {c : CustodyState} {r : Record} {x : TabletId}

/-! ### The checks passed -/

/-- ENROL's answer: the record's index and the state that results (R15). -/
abbrev State.enrolByte (i : RecordIx) (t : State) : List Byte := [byte i.val, byte (t.record i).custody.ctorIdx]

/-- The record an accepted ENROL writes, before its match (R14). -/
structure Record.Enrols (r : Record) (p : EnrolParams) (c : CustodyState) (d : Nat) : Prop where
  form : r = Record.enrolment p c r.homeBay r.target r.readyBy
  home : r.homeBay.map Fin.val = p.homeBay.map BitVec.toNat
  ready : r.readyBy.map Fin.val = p.readyBy.map BitVec.toNat
  target : r.target = (p.target.map BitVec.toNat).getD d

/-- A record field that a match leaves alone is as it was given (R14). -/
theorem Record.Enrols.fields {n : Nat} (h : r.Enrols p c n) : r.custody = c ∧ r.tabletId = p.tabletId ∧
    r.holder = (if c = .loaned then some p.holder.toNat else none) ∧
    r.holdReason = (if c = .held then some .host else none) ∧ r.profileTarget = p.profileTarget ∧ r.flags = p.flags ∧
    r.currentBay = none := by
  rw [h.form]
  exact ⟨rfl, rfl, rfl, rfl, rfl, rfl, rfl⟩

theorem State.lowestFree_eq_some (hf : (s.record i).custody = .free) (hl : ∀ j : RecordIx, j < i → (s.record j).custody ≠ .free) :
    s.lowestFree = some i := by
  unfold State.lowestFree
  refine List.find?_eq_some_iff_getElem.mpr ⟨by simp [Record.enrolled, hf], i.val, ?_, ?_, fun j hj => ?_⟩
  · simp [allRecords]
  · simp [allRecords]
  · simpa [allRecords, Record.enrolled] using hl ⟨j, hj.trans i.isLt⟩ hj

/-- An ENROL that passes its checks writes the record it is given and matches it (R14, R34). -/
theorem enrol_accepted (hc : p.initial.toNat = c.ctorIdx) (hs : c = .away ∨ c = .loaned ∨ c = .held)
    (hh : c = .loaned ↔ p.holder ≠ 0) (hr : s.EnrolInRange p)
    (hx : ∀ j : RecordIx, (s.record j).custody ≠ .free → (s.record j).tabletId ≠ p.tabletId)
    (hf : (s.record i).custody = .free) (hl : ∀ j : RecordIx, j < i → (s.record j).custody ≠ .free) :
    ∃ r, r.Enrols p c s.budget.defaultTarget ∧
      exec (.enrol p) s = .next (((s.setRecord i r).matchEnrol i p.tabletId).finish .done (State.enrolByte i)) := by
  obtain ⟨h1, h2, h3⟩ := s.enrolInRange_iff.mp hr
  obtain ⟨x, hx1⟩ := Option.isSome_iff_exists.mp h1
  obtain ⟨y, hy⟩ := Option.isSome_iff_exists.mp h2
  obtain ⟨z, hz⟩ := Option.isSome_iff_exists.mp h3
  have hn : s.findTablet p.tabletId = none :=
    State.findTablet_eq_none_iff.mpr fun j hj => hx j (by simpa [Record.enrolled] using hj)
  have he := s.enrol_eq (enrolState?_eq_some.mpr ⟨custody?_eq_some_iff.mpr hc, hs, hh⟩) hx1 hy hz
  rw [hn, State.lowestFree_eq_some hf hl] at he
  refine ⟨Record.enrolment p c z (x.getD s.budget.defaultTarget) y, ⟨rfl, ?_, ?_, ?_⟩, next_congr he⟩
  · exact optional?_map hz fun v w h => ((s.populatedBay?_eq_some _ _).mp h).1.symm
  · exact optional?_map hy fun v w h => (minute?_eq_some_iff.mp h).symm
  · have h := optional?_map (f := id) (g := BitVec.toNat) hx1 fun v w h => (target?_eq_some_iff.mp h).1.symm
    rw [Option.map_id] at h
    exact congrArg (Option.getD · s.budget.defaultTarget) h

/-! ### The bays that report the ID -/

theorem State.mem_foreignWith_iff : b ∈ s.foreignWith x ↔ s.ReportsUnknown b x := by
  simp [State.foreignWith, allBays, and_assoc]

theorem State.foreignWith_sorted : (s.foreignWith x).Pairwise (· < ·) := (List.pairwise_lt_finRange 36).filter _

theorem State.foreignWith_eq_nil (h : ∀ b, ¬s.ReportsUnknown b x) : s.foreignWith x = [] :=
  List.eq_nil_iff_forall_not_mem.mpr fun b hb => h b (State.mem_foreignWith_iff.mp hb)

/-- One bay reports the ID: the list names it alone. -/
theorem State.foreignWith_eq_single (h : ∀ a, a = b ↔ s.ReportsUnknown a x) : s.foreignWith x = [b] := by
  have hm : ∀ a, a ∈ s.foreignWith x ↔ a = b := fun a => State.mem_foreignWith_iff.trans (h a).symm
  refine List.Perm.eq_singleton ((List.perm_ext_iff_of_nodup ?_ (List.nodup_singleton b)).mpr fun a => ?_)
  · exact (List.nodup_finRange 36).filter _
  · rw [hm, List.mem_singleton]

/-- Two bays or more report the ID: the list begins with the two lowest. -/
theorem State.foreignWith_eq_cons (hb : s.ReportsUnknown b x) (hk : s.ReportsUnknown k x) (hbk : b < k)
    (h : ∀ a, s.ReportsUnknown a x → a = b ∨ k ≤ a) : ∃ l, s.foreignWith x = b :: k :: l := by
  have hs := s.foreignWith_sorted (x := x)
  have hmb := State.mem_foreignWith_iff.mpr hb
  have hmk := State.mem_foreignWith_iff.mpr hk
  have hle : ∀ a ∈ s.foreignWith x, a = b ∨ k ≤ a := fun a ha => h a (State.mem_foreignWith_iff.mp ha)
  generalize s.foreignWith x = m at hs hmb hmk hle
  match m with
  | [] => cases hmb
  | [a] => exact absurd ((List.mem_singleton.mp hmb).trans (List.mem_singleton.mp hmk).symm) (ne_of_lt hbk)
  | a :: d :: l =>
    obtain ⟨ha, hd⟩ := List.pairwise_cons.mp hs
    obtain ⟨hd, -⟩ := List.pairwise_cons.mp hd
    have ea : a = b := by
      obtain e | hm := List.mem_cons.mp hmb
      · exact e.symm
      · have hab := ha b hm
        exact (hle a List.mem_cons_self).resolve_right fun g => absurd (hab.trans hbk) (not_lt.mpr g)
    subst ea
    have hdk : k ≤ d := (hle d (by simp)).resolve_left (ne_of_gt (ha d (by simp)))
    obtain e | hm := List.mem_cons.mp hmk
    · exact absurd e.symm (ne_of_lt hbk)
    · obtain e | hm := List.mem_cons.mp hm
      · exact ⟨l, by rw [e]⟩
      · exact absurd (hd k hm) (not_lt.mpr hdk)

theorem State.matchEnrol_of_none (h : s.foreignWith x = []) : s.matchEnrol i x = s := by
  unfold State.matchEnrol
  rw [h]

theorem State.matchEnrol_of_one (h : s.foreignWith x = [b]) : s.matchEnrol i x = (s.dock b i).addSubject Source.dock b.val := by
  unfold State.matchEnrol
  rw [h]

theorem State.matchEnrol_of_two {l : List BayNo} (h : s.foreignWith x = b :: k :: l) : s.matchEnrol i x =
    (((s.dock b i).addSubject Source.dock b.val).collide k b i x).addSubject Source.dock k.val := by
  unfold State.matchEnrol
  rw [h]

end

end Sys2Proof.Machine
end

section
/-! SUPPORT. The settling of O17: no FOREIGN bay reports the ID, one docks the record, or two collide over it (R14, R31, R33, R34). -/

namespace Sys2Proof.Machine

set_option Elab.async false

section
variable {s t u : State} {b k : BayNo} {i : RecordIx} {p : EnrolParams} {c : CustodyState} {r q : Record} {x : TabletId} {n : Nat}

/-- What a new record keeps of what it was given, docked or not (R14). -/
structure Record.Bears (q : Record) (p : EnrolParams) (d : Nat) : Prop where
  tabletId : q.tabletId = p.tabletId
  home : q.homeBay.map Fin.val = p.homeBay.map BitVec.toNat
  ready : q.readyBy.map Fin.val = p.readyBy.map BitVec.toNat
  target : q.target = (p.target.map BitVec.toNat).getD d
  profileTarget : q.profileTarget = p.profileTarget
  flags : q.flags = p.flags

theorem Record.Enrols.bears (h : r.Enrols p c n) : r.Bears p n := by
  obtain ⟨-, h1, -, -, h2, h3, -⟩ := h.fields
  exact ⟨h1, h.home, h.ready, h.target, h2, h3⟩

theorem Record.Bears.kept (h : r.Bears p n) (g : r.SameButUnsecured q) : q.Bears p n := by
  have g1 := congrArg Record.tabletId g
  have g2 := congrArg Record.homeBay g
  have g3 := congrArg Record.readyBy g
  have g4 := congrArg Record.target g
  have g5 := congrArg Record.profileTarget g
  have g6 := congrArg Record.flags g
  exact ⟨g1.trans h.tabletId, (congrArg _ g2).trans h.home, (congrArg _ g3).trans h.ready, g4.trans h.target,
    g5.trans h.profileTarget, g6.trans h.flags⟩

theorem Record.Bears.entered (h : r.Bears p n) (b : BayNo) : (Record.enterBay b r).Bears p n := by
  unfold Record.enterBay
  cases r.custody <;> exact ⟨h.tabletId, h.home, h.ready, h.target, h.profileTarget, h.flags⟩

theorem Record.Bears.remarked (h : r.Bears p n) : r.remark.Bears p n :=
  ⟨h.tabletId, h.home, h.ready, h.target, h.profileTarget, h.flags⟩

theorem State.enrolled_untouched (s : State) (i : RecordIx) (r : Record) : s.Untouched (s.setRecord i r) [i] [] :=
  s.putRecord_untouched i r.remark

theorem State.enrolled_record (s : State) (i : RecordIx) (r : Record) : (s.setRecord i r).record i = r.remark :=
  (State.record_putRecord s i i r.remark).trans (if_pos rfl)

theorem State.foreignWith_setRecord (s : State) (i : RecordIx) (r : Record) : (s.setRecord i r).foreignWith x = s.foreignWith x := rfl

theorem Record.SameButUnsecured.eq (g : r.SameButUnsecured q) : q = { r with unsecured := q.unsecured } := by
  have h : ({ q with unsecured := r.unsecured } : Record) = r := g
  rw [← h]

/-- The record whose ID no bay reports is as it was given, with every other field that of a FREE record (R14). -/
theorem Record.Enrols.undocked (h : r.Enrols p c n) (g : r.remark.SameButUnsecured q) : q.currentBay = none ∧
    q.adriftReason = none ∧ q.lastCharge = none ∧ q.lastTemp = none ∧ q.capacity = none ∧ q.acceptance = none ∧
    q.profileHeld = none ∧ q.failureCount = 0 ∧ q.provStuck = false ∧ q.orderUndelivered = false ∧ q.misplaced = false ∧
    q.energy = 0 := by
  have hm : r.misplacedNow = false := by
    obtain ⟨-, -, -, -, -, -, hb⟩ := h.fields
    rw [Record.misplacedNow_eq, hb]
    simp
  have hf := h.form
  rw [g.eq, Record.remark, hm]
  generalize r.homeBay = z at hf
  generalize r.target = y at hf
  generalize r.readyBy = w at hf
  subst hf
  exact ⟨rfl, rfl, rfl, rfl, rfl, rfl, rfl, rfl, rfl, rfl, rfl, rfl⟩

/-! ### No bay reports the ID -/

theorem enrol_undocked (h : r.Enrols p c s.budget.defaultTarget) (hc : p.initial.toNat = c.ctorIdx)
    (hb : ∀ b : BayNo, ¬s.ReportsUnknown b p.tabletId) (he : exec (.enrol p) s =
      .next (((s.setRecord i r).matchEnrol i p.tabletId).finish .done (State.enrolByte i))) :
    ∃ t, exec (.enrol p) s = .next t ∧ t.Says .done [byte i.val, p.initial] ∧ s.Writes t i r.remark := by
  rw [State.matchEnrol_of_none (State.foreignWith_eq_nil (s := s.setRecord i r) hb)] at he
  have hw : s.Writes (s.setRecord i r) i r.remark := State.Untouched.writes (.refl _)
  refine ⟨_, he, ?_, hw.finish _ _⟩
  have g := (s.setRecord i r).finish_says .done (State.enrolByte i)
  have e : ((s.setRecord i r).closeChange.record i).custody = c :=
    (hw.1.trans ((s.setRecord i r).closeChange_record i)).custody.trans h.fields.1
  have e' : byte c.ctorIdx = p.initial := by
    rw [← hc]
    simp [byte]
  unfold State.enrolByte at g ⊢
  rwa [e, e'] at g

/-! ### One bay reports the ID -/

theorem Record.Enrols.afield (h : r.Enrols p c n) (hs : c = .away ∨ c = .loaned ∨ c = .held) : r.remark.custody.Afield := by
  have e : r.remark.custody = c := h.fields.1
  rw [e]
  obtain rfl | rfl | rfl := hs
  · exact .inl rfl
  · exact .inr (.inl rfl)
  · exact .inr (.inr (.inr (.inr rfl)))

/-- The record docked by its enrolment, field by field (R31, R34). -/
theorem Record.Enrols.docked (h : r.Enrols p c n) (hs : c = .away ∨ c = .loaned ∨ c = .held) :
    (Record.enterBay b r.remark).custody = (if c = .held then .held else .inCart) ∧
      (Record.enterBay b r.remark).holder = none ∧
      (Record.enterBay b r.remark).holdReason = (if c = .held then some .host else none) := by
  obtain ⟨f1, -, f3, f4, -⟩ := h.fields
  have e1 : r.remark.custody = c := f1
  have e3 : r.remark.holder = if c = .loaned then some p.holder.toNat else none := f3
  have e4 : r.remark.holdReason = if c = .held then some .host else none := f4
  unfold Record.enterBay
  generalize r.remark = q at e1 e3 e4
  obtain rfl | rfl | rfl := hs <;> simp [e1, e3, e4]

/-- A record in the bay is MISPLACED exactly if its home is strict and another bay (R7). -/
theorem Record.misplacedNow_of_home (hb : q.currentBay = some b) (h : q.Bears p n) :
    q.misplacedNow = true ↔ p.flags.getLsbD 4 = true ∧ ∃ v : Byte, p.homeBay = some v ∧ v.toNat ≠ b.val := by
  have hh := h.home
  rw [Record.misplacedNow_eq, hb, Record.homeStrict, h.flags]
  cases hq : q.homeBay with
  | none =>
    rw [hq] at hh
    cases hv : p.homeBay with
    | none => simp
    | some v => simp [hv] at hh
  | some a =>
    rw [hq] at hh
    cases hv : p.homeBay with
    | none => simp [hv] at hh
    | some v =>
      have e : a.val = v.toNat := by simpa [hv] using hh
      simp [← e, Fin.ext_iff]

/-- ENROL answers the state that the record has where the change has closed (R15). -/
theorem State.enrol_says (w : State) (i : RecordIx) :
    (w.finish .done (State.enrolByte i)).Says .done (State.enrolByte i (w.finish .done (State.enrolByte i))) := by
  rw [State.finish_eq]
  generalize w.closeChange = z
  exact z.respond_says _ _

theorem enrol_docked (h : r.Enrols p c s.budget.defaultTarget) (hs : c = .away ∨ c = .loaned ∨ c = .held)
    (hb : ∀ a : BayNo, a = b ↔ s.ReportsUnknown a p.tabletId) (he : exec (.enrol p) s =
      .next (((s.setRecord i r).matchEnrol i p.tabletId).finish .done (State.enrolByte i))) :
    ∃ t, exec (.enrol p) s = .next t ∧ t.Says .done (State.enrolByte i t) ∧ s.Untouched t [i] [b] ∧
      ({ ((s.bay b).strip) with state := .identified, record := some i } : Bay).IdentityKept (t.bay b) ∧
      (Record.enterBay b r.remark).remark.SameButUnsecured (t.record i) ∧
      t.Holds Source.dock b.val ∧ (c = .loaned → t.Holds Source.returned i.val) ∧
      (c ≠ .held → (s.link b).state ≠ .down → t.CustodyOrdered b .lock) ∧
      (c ≠ .held → s.custodySettings.autoLock = true → s.service = none → s.LatchOrderly b → t.LatchAsked b .lock) := by
  rw [State.matchEnrol_of_one (State.foreignWith_eq_single (s := s.setRecord i r) hb)] at he
  have hd := (s.setRecord i r).dock_docks b i
  have hr1 := s.enrolled_record i r
  have hu := s.enrolled_untouched i r
  have hcus : c ≠ .held → (Record.enterBay b r.remark).custody = .inCart := fun hn => (h.docked hs).1.trans (if_neg hn)
  have hlat : ∀ p, s.LatchOrderly p → (s.setRecord i r).LatchOrderly p := fun p =>
    State.LatchesKept.orderly (s := s) (t := s.setRecord i r) .of_bays
  have hbay : (s.setRecord i r).bay b = s.bay b := rfl
  have hlink : (s.setRecord i r).link b = s.link b := rfl
  have hset : (s.setRecord i r).custodySettings = s.custodySettings ∧ (s.setRecord i r).service = s.service := ⟨rfl, rfl⟩
  generalize s.setRecord i r = u at hd hr1 hu hlat hbay hlink hset he
  generalize u.dock b i = v at hd he
  have hw := State.addSubject_untouched v Source.dock b.val
  have hwd : (v.addSubject Source.dock b.val).Holds Source.dock b.val := State.addSubject_holds _ _ (by omega)
  have hwl : (v.addSubject Source.dock b.val).link b = v.link b := rfl
  have hwa : v.Asks b .lock → (v.addSubject Source.dock b.val).Asks b .lock := fun g => ⟨g.asked, g.queue, g.slots⟩
  generalize v.addSubject Source.dock b.val = w at hw hwd hwl hwa he
  have hrec : (Record.enterBay b r.remark).remark.SameButUnsecured (w.record i) := by
    have g := hd.record.trans (hw.record i)
    rwa [hr1] at g
  have hbw := hd.bay.trans (hw.bay b)
  rw [hbay] at hbw
  have g := State.record_finish w .done (State.enrolByte i) i
  have gu := (State.Untouched.refl w).finish .done (State.enrolByte i)
  refine ⟨_, he, ?_, ?_, hbw.trans (gu.bay b), hrec.trans g, ?_, fun e => ?_, fun e hl => ?_, fun e h1 h2 h3 => ?_⟩
  · exact State.enrol_says w i
  · exact (((hu.trans hd.untouched).still hw).finish _ _).mono (by simp) (by simp)
  · exact gu.events.holds hwd
  · refine (hw.finish .done (State.enrolByte i)).events.holds (hd.returned (.inl ?_))
    rw [hr1]
    exact h.fields.1.trans e
  · have hun : w.unlockingRecord b = none := Option.eq_none_iff_forall_ne_some.mpr fun j hj => by
      obtain ⟨e1, e2, -⟩ := State.unlockingRecord_eq_some.mp hj
      have ej : j = i := Option.some.inj (e1.symm.trans hbw.record)
      rw [ej, hrec.custody] at e2
      exact CustodyState.noConfusion ((hcus e).symm.trans e2)
    have k := State.closeChange_custodyOrdered hun (x := .lock) (by
      rw [hwl]
      exact hd.order (by rw [hr1]; exact hcus e) (by rw [hlink]; exact hl))
    rw [State.finish_eq]
    generalize w.closeChange = z at k ⊢
    exact k
  · exact (hwa (hd.asks (by rw [hr1]; exact hcus e) (hset.1 ▸ h1) (hset.2 ▸ h2) (hlat b h3))).finish .done _

/-! ### Two bays or more report the ID -/

theorem enrol_collides (h : r.Enrols p c s.budget.defaultTarget) (hl : s.BayLaw)
    (hb : s.ReportsUnknown b p.tabletId) (hk : s.ReportsUnknown k p.tabletId) (hbk : b < k)
    (ho : ∀ a : BayNo, s.ReportsUnknown a p.tabletId → a = b ∨ k ≤ a) (he : exec (.enrol p) s =
      .next (((s.setRecord i r).matchEnrol i p.tabletId).finish .done (State.enrolByte i))) :
    ∃ t, exec (.enrol p) s = .next t ∧ t.Says .done (State.enrolByte i t) ∧ s.Untouched t [i] [b, k] ∧
      t.CollidedPair b k p.tabletId ∧ (Record.enterBay b r.remark).remark.struck.remark.SameButUnsecured (t.record i) ∧
      t.Holds Source.dock b.val ∧ t.Holds Source.dock k.val ∧ (c = .loaned → t.Holds Source.returned i.val) := by
  obtain ⟨l, hf⟩ := State.foreignWith_eq_cons hb hk hbk ho
  rw [State.matchEnrol_of_two (s := s.setRecord i r) hf] at he
  have hd := (s.setRecord i r).dock_docks b i
  have hr1 := s.enrolled_record i r
  have hu := s.enrolled_untouched i r
  have hbay : ∀ a, (s.setRecord i r).bay a = s.bay a := fun _ => rfl
  generalize s.setRecord i r = u at hd hr1 hu hbay he
  generalize u.dock b i = v at hd he
  have hw := State.addSubject_untouched v Source.dock b.val
  have hwd : (v.addSubject Source.dock b.val).Holds Source.dock b.val := State.addSubject_holds _ _ (by omega)
  generalize v.addSubject Source.dock b.val = w at hw hwd he
  have hx := w.collide_collides i p.tabletId (ne_of_gt hbk)
  generalize w.collide k b i p.tabletId = x at hx he
  have hy := State.addSubject_untouched x Source.dock k.val
  have hyd : (x.addSubject Source.dock k.val).Holds Source.dock k.val := State.addSubject_holds _ _ (by omega)
  generalize x.addSubject Source.dock k.val = y at hy hyd he
  have gu := (State.Untouched.refl y).finish .done (State.enrolByte i)
  have hsay := y.enrol_says i
  generalize y.finish .done (State.enrolByte i) = t at gu hsay he
  have hwb : (w.bay b).state = .identified := by
    exact (hd.bay.trans (hw.bay b)).state
  have hwk : (w.bay k).record = none := by
    have e := (hd.untouched.bays k (by simpa using ne_of_gt hbk)).trans (hw.bay k)
    rw [hbay] at e
    refine e.record.trans (Option.not_isSome_iff_eq_none.mp fun g => ?_)
    obtain q | q := (hl k).1 g
    all_goals rw [hk.1] at q; cases q
  have hrec : (Record.enterBay b r.remark).remark.SameButUnsecured (w.record i) := by
    have g := hd.record.trans (hw.record i)
    rwa [hr1] at g
  have hstr : (Record.enterBay b r.remark).remark.struck.remark.SameButUnsecured (w.record i).struck.remark := by
    have g := congrArg (fun q : Record => q.struck.remark) hrec
    exact g
  have hat := (hx.bay.trans (hy.bay k)).trans (gu.bay k)
  have hother := (hx.other.trans (hy.bay b)).trans (gu.bay b)
  have hxt := (hy.trans gu).events
  have hwt := (hw.trans ((hx.untouched.still hy).still gu)).events
  refine ⟨t, he, hsay, ?_, ⟨⟨?_, hother.partner, hother.reportedId, hother.record, hxt.holds hx.subjects.2⟩, hat.state,
    hat.partner, hat.reportedId, hat.record.trans hwk, hxt.holds hx.subjects.1⟩,
    ((hstr.trans hx.record).trans (hy.record i)).trans (gu.record i), ?_, gu.events.holds hyd, fun e => ?_⟩
  · exact ((((hu.trans hd.untouched).still hw).trans hx.untouched).still (hy.trans gu)).mono (by simp) (by simp)
  · exact hother.state.trans (if_neg (by rw [hwb]; nofun))
  · exact (hx.untouched.still (hy.trans gu)).events.holds hwd
  · refine hwt.holds (hd.returned (.inl ?_))
    rw [hr1]
    exact h.fields.1.trans e

end

/-- Settles O17, by the number of FOREIGN bays that report the ID. -/
theorem enrolWritesTheLowestFreeRecord : Obligations.EnrolWritesTheLowestFreeRecord := by
  unfold Obligations.EnrolWritesTheLowestFreeRecord
  refine ⟨fun s p i c hc hs hh ht hr hb hx hf hl hn => ?_, fun s p i c b hc hs hh ht hr hb hx hf hl hn => ?_,
    fun s p i c b k hw hc hs hh hr hx hf hl hb hk hbk ho => ?_⟩
  · obtain ⟨r, hg, he⟩ := enrol_accepted hc hs hh ⟨ht, hr, hb⟩ hx hf hl
    obtain ⟨t, ht, hsay, hw⟩ := enrol_undocked hg hc hn he
    have g := hw.1
    obtain ⟨f1, -, f3, f4, -⟩ := hg.fields
    have hB := hg.bears.remarked.kept g
    obtain ⟨q1, q2, q3, q4, q5, q6, q7, q8, q9, q10, q11, q12⟩ := hg.undocked g
    exact ⟨t, ht, hsay, hw.2, g.custody.trans f1, hB.tabletId, g.holder.trans f3, (congrArg Record.holdReason g).trans f4, hB.home,
      hB.ready, hB.target, hB.profileTarget, hB.flags, q1, q2, q3, q4, q5, q6, q7, q8, q9, q10, q11, q12⟩
  · obtain ⟨r, hg, he⟩ := enrol_accepted hc hs hh ⟨ht, hr, hb⟩ hx hf hl
    obtain ⟨t, ht, hsay, hu, hbay, g, hd, hret, hord, hask⟩ := enrol_docked hg hs hn he
    obtain ⟨e1, e2, e3⟩ := hg.docked (b := b) hs
    have hcur : (Record.enterBay b r.remark).currentBay = some b := (Record.enterBay_fields b r.remark).1
    have hB := hg.bears.remarked.entered b
    have hC := hB.remarked.kept g
    have hmis := (congrArg Record.misplaced g)
    exact ⟨t, ht, hsay, hu, g.custody.trans e1, (congrArg Record.currentBay g).trans hcur, g.holder.trans e2,
      (congrArg Record.holdReason g).trans e3, hC.tabletId, hC.home, hC.ready, hC.target, hC.profileTarget, hC.flags,
      (Eq.to_iff (congrArg (· = true) hmis)).trans (Record.misplacedNow_of_home hcur hB), hbay.state, hbay.record, hbay.reportedId,
      hbay.foreignCause, hd, hret, hord, hask⟩
  · obtain ⟨r, hg, he⟩ := enrol_accepted hc hs hh hr hx hf hl
    obtain ⟨t, ht, hsay, hu, hp, g, hd1, hd2, hret⟩ := enrol_collides hg hw hb hk hbk ho he
    have hC := (hg.bears.remarked.entered b).remarked.kept (q := (Record.enterBay b r.remark).remark) rfl
    have g1 : (t.record i).custody = .held := congrArg Record.custody g
    have hid : (t.record i).tabletId = p.tabletId := (congrArg Record.tabletId g).trans hC.tabletId
    unfold State.enrolByte at hsay
    rw [g1] at hsay
    exact ⟨t, ht, hsay, hu, hp, g1, congrArg Record.holdReason g, congrArg Record.currentBay g, congrArg Record.holder g, hid, hd1, hd2,
      hret⟩

end Sys2Proof.Machine
end

section
/-! SUPPORT. The settling of O30: a TELEMETRY writes its figures and answers a verification (R5, R59, R74, R121, R125). -/

namespace Sys2Proof.Machine

set_option Elab.async false

section
variable {s t u : State} {b : BayNo} {i : RecordIx} {l : LaneNo} {x : Session} {g : Byte} {p : TelemetryReply}

/-- The record with the figures of a TELEMETRY (R5). -/
abbrev Record.withTelemetry (p : TelemetryReply) (r : Record) : Record := { r with
  lastCharge := some (min 1000 p.charge.toNat)
  lastTemp := some (max (-20) (min 85 p.temperature.toInt))
  profileHeld := some p.profileHeld }

theorem Telemetry.ofReply_eq (p : TelemetryReply) : Telemetry.ofReply p =
    ⟨min 1000 p.charge.toNat, max (-20) (min 85 p.temperature.toInt), p.profileHeld⟩ := by
  unfold Telemetry.ofReply
  rw [clampNat_eq_max (Nat.zero_le _), clampInt_eq_max (by omega), Nat.zero_max]

/-- The hot mark moves at 55 and 50 degrees, which the clamping leaves (R49, R74). -/
theorem hotAfter_clamped (hot : Bool) (v : Int) :
    hotAfter hot (max (-20) (min 85 v)) = if 55 ≤ v then true else if v < 50 then false else hot := by
  have h1 : 55 ≤ max (-20) (min 85 v) ↔ 55 ≤ v := by omega
  have h2 : max (-20) (min 85 v) < 50 ↔ v < 50 := by omega
  unfold hotAfter
  simp only [h1, h2]

theorem execTelemetryTaken_of_query (h : (s.link b).exchange = some .query) : exec (.telemetryTaken b p) s =
    .next ((s.telemetryTaken b (Telemetry.ofReply p)).closeChange.pumpLink b) := by
  refine next_congr ?_
  unfold State.takeReply
  rw [h]
  exact (if_pos rfl).trans (s.takeTelemetry_eq b (Telemetry.ofReply p))

/-! ### The figures written -/

/-- The link of a bay whose TELEMETRY has come (R59, R61). -/
abbrev Link.telemetered (k : Link) : Link := k.exchangeDone.countTelemetry

/-- The exchange of a TELEMETRY over and its figures written (R59). -/
def State.telemetered (s : State) (b : BayNo) (p : TelemetryReply) : State :=
  (s.modLink b Link.telemetered).telemetryWritten b (Telemetry.ofReply p)

theorem State.telemetryTaken_eq (s : State) (b : BayNo) (p : TelemetryReply) :
    s.telemetryTaken b (Telemetry.ofReply p) = (s.telemetered b p).answerVerify b p.profileHeld := rfl

theorem State.telemetered_of_none (h : (s.bay b).record = none) : s.telemetered b p = s.modLink b Link.telemetered := by
  have h' : ((s.modLink b Link.telemetered).bay b).record = none := h
  unfold State.telemetered State.telemetryWritten
  rw [h']

/-- The figures written into record i and the hot mark of bay b, with the pass that they may call for (R5, R74, R77). -/
theorem State.telemetered_of_some (h : (s.bay b).record = some i) : s.telemetered b p =
    ((((s.modLink b Link.telemetered).editRecord i (Record.withTelemetry p)).modEntry b fun e => { e with
      hot := hotAfter e.hot (max (-20) (min 85 p.temperature.toInt)) }).requestPassIf
        ((s.entry b).callsPass (Telemetry.ofReply p))) := by
  have h' : ((s.modLink b Link.telemetered).bay b).record = some i := h
  unfold State.telemetered State.telemetryWritten
  simp only [h', Telemetry.ofReply_eq]
  rfl

theorem State.requestPassIf_only (s : State) (c : Bool) : s.requestPassIf c = { s with
    reallocRequest := (s.requestPassIf c).reallocRequest } := by
  unfold State.requestPassIf
  split <;> rfl

/-- What a TELEMETRY writes: at most figures of the record that the bay names, its hot mark, its link and a request. -/
theorem State.telemetered_only (s : State) (b : BayNo) (p : TelemetryReply) : s.telemetered b p = { s with
    links := (s.modLink b Link.telemetered).links, roster := (s.telemetered b p).roster, entries := (s.telemetered b p).entries
    reallocRequest := (s.telemetered b p).reallocRequest } := by
  cases h : (s.bay b).record with
  | none => rw [State.telemetered_of_none h]; rfl
  | some i =>
    rw [State.telemetered_of_some h, State.requestPassIf_only]
    rfl

theorem State.telemetered_record (s : State) (b : BayNo) (p : TelemetryReply) (j : RecordIx) :
    (s.telemetered b p).record j = if (s.bay b).record = some j then (s.record j).withTelemetry p else s.record j := by
  cases h : (s.bay b).record with
  | none =>
    rw [State.telemetered_of_none h, if_neg nofun]
    rfl
  | some i =>
    rw [State.telemetered_of_some h, State.requestPassIf_only]
    refine (State.record_editRecord (s.modLink b Link.telemetered) i j (Record.withTelemetry p)).trans ?_
    by_cases e : i = j
    · subst e
      rw [if_pos rfl, if_pos rfl]
      rfl
    · rw [if_neg e, if_neg fun q => e (Option.some.inj q)]
      rfl

theorem State.telemetered_hot (s : State) (b : BayNo) (p : TelemetryReply) : ((s.telemetered b p).entry b).hot =
    if (s.bay b).record.isSome = true then hotAfter (s.entry b).hot (max (-20) (min 85 p.temperature.toInt))
    else (s.entry b).hot := by
  cases h : (s.bay b).record with
  | none =>
    rw [State.telemetered_of_none h]
    rfl
  | some i =>
    rw [State.telemetered_of_some h, State.requestPassIf_only]
    have e := State.entry_setEntry (s.modLink b Link.telemetered) b b { s.entry b with
      hot := hotAfter (s.entry b).hot (max (-20) (min 85 p.temperature.toInt)) }
    exact congrArg AllocEntry.hot (e.trans (if_pos rfl))

theorem State.telemetered_link (s : State) (b : BayNo) (p : TelemetryReply) :
    (s.telemetered b p).link b = (s.link b).telemetered := by
  rw [State.telemetered_only]
  exact (s.link_modLink b b Link.telemetered).trans (if_pos rfl)

theorem State.telemetered_untouched (s : State) (b : BayNo) (p : TelemetryReply) :
    s.Untouched (s.telemetered b p) (s.bay b).record.toList [] where
  records j hj := by
    rw [State.telemetered_record, if_neg fun e => hj (by rw [e]; simp)]
  bays c _ := by rw [State.telemetered_only]; rfl
  settings := by rw [State.telemetered_only]; exact ⟨rfl, rfl, rfl, rfl⟩
  time := by rw [State.telemetered_only]; exact ⟨rfl, rfl, rfl⟩
  windows := by rw [State.telemetered_only]; exact ⟨rfl, rfl, rfl, rfl⟩
  budget := by rw [State.telemetered_only]; exact ⟨rfl, rfl⟩
  keys := by rw [State.telemetered_only]
  events := by
    rw [State.telemetered_only]
    exact (State.Untouched.refl s).events

end

end Sys2Proof.Machine
end

section
/-! SUPPORT. The settling of O30: the figures alone, or the end of the CLOSING session that a TELEMETRY verifies (R59, R121, R125). -/

namespace Sys2Proof.Machine

set_option Elab.async false

section
variable {s t u : State} {b : BayNo} {i : RecordIx} {l : LaneNo} {x : Session} {g : Byte} {p : TelemetryReply}

theorem State.answerVerify_of_none (h : (s.link b).verify = false) : s.answerVerify b g = s := by
  unfold State.answerVerify
  rw [h]
  exact if_neg (by simp)

/-- A TELEMETRY with no verification pending: its figures are written and the link goes on (R59). -/
theorem telemetry_writes (hx : (s.link b).exchange = some .query) (hv : (s.link b).verify = false) :
    ∃ t, exec (.telemetryTaken b p) s = .next t ∧ t.port.response = s.port.response ∧
      (t.link b).failedExchanges = 0 ∧ (t.link b).retrain = (s.link b).telemetered.retrain ∧
      (∀ j, ((s.telemetered b p).record j).SameButUnsecured (t.record j)) ∧
      (t.entry b).hot = ((s.telemetered b p).entry b).hot ∧ s.Untouched t (s.bay b).record.toList [] := by
  have hl := s.telemetered_link b p
  have hu := s.telemetered_untouched b p
  have hp : (s.telemetered b p).port = s.port := by rw [State.telemetered_only]
  have he := execTelemetryTaken_of_query (p := p) hx
  have hv' : ((s.telemetered b p).link b).verify = false := by
    rw [hl]
    exact hv
  rw [State.telemetryTaken_eq, State.answerVerify_of_none hv'] at he
  generalize s.telemetered b p = v at hl hu hp he ⊢
  have hk := (v.closed_pumped_link b b).kept
  rw [hl] at hk
  have hr := v.closeChange_response
  have hh := v.closeChange_hot b
  have hrec := v.closeChange_record
  have hcu := v.closed_pumped_untouched b
  generalize v.closeChange = w at hk hr hh hrec hcu he
  have hw : (w.pumpLink b).port = w.port ∧ (∀ j, (w.pumpLink b).record j = w.record j) ∧ (w.pumpLink b).entry b = w.entry b :=
    ⟨rfl, fun _ => rfl, rfl⟩
  obtain ⟨hw1, hw2, hw3⟩ := hw
  refine ⟨_, he, ?_, hk.failedExchanges, hk.retrain, fun j => ?_, ?_, hu.still hcu⟩
  · rw [hw1, hr, hp]
  · rw [hw2]
    exact hrec j
  · rw [hw3, hh]

/-! ### A verification answered -/

theorem Record.withTelemetry_failureCount (p : TelemetryReply) (r : Record) : (r.withTelemetry p).custody = r.custody ∧
    (r.withTelemetry p).failureCount = r.failureCount := ⟨rfl, rfl⟩

/-- The failures of a record whose CLOSING session has been verified (R125). -/
theorem Record.afterSession_verified {r : Record} (hc : r.custody ≠ .free) (n : Nat) (c : Prop) [Decidable c] :
    (r.afterSession n (if c then .success else .mismatch)).failureCount = (if c then 0 else min 7 (r.failureCount + 1)) ∧
      (¬c → n ≤ min 7 (r.failureCount + 1) → (r.afterSession n (if c then .success else .mismatch)).provStuck = true) := by
  by_cases h : c
  · rw [if_pos h, if_pos h]
    refine ⟨?_, fun k => absurd h k⟩
    unfold Record.afterSession
    rw [if_neg hc, if_pos rfl]
  · rw [if_neg h, if_neg h, Record.afterSession_of_failure rfl hc]
    exact ⟨rfl, fun _ k => by simp [k]⟩

theorem telemetry_verifies (hx : (s.link b).exchange = some .query) (hv : (s.link b).verify = true) (hl : s.laneAt b = some l)
    (hs : (s.lane l).session = some x) (hp : x.phase = .closing g) (hc : (s.record x.record).custody ≠ .free) :
    ∃ t, exec (.telemetryTaken b p) s = .next t ∧ (t.link b).verify = false ∧ t.Holds Source.laneEnd l.val ∧
      (t.lane l).last = some ⟨if p.profileHeld = g then .success else .mismatch, x.record, some g⟩ ∧
      ∃ r : Record, r.custody ≠ .free ∧ r.failureCount = (s.record x.record).failureCount ∧
        (r.afterSession s.laneSettings.failureLimit (if p.profileHeld = g then .success else .mismatch)).SameButUnsecured
          (t.record x.record) := by
  have hk := s.telemetered_link b p
  have ho := s.telemetered_only b p
  have hr := s.telemetered_record b p x.record
  have he := execTelemetryTaken_of_query (p := p) hx
  rw [State.telemetryTaken_eq] at he
  generalize s.telemetered b p = v at hk ho hr he
  have hla : v.laneAt b = some l := by rw [ho]; exact hl
  have hsa : (v.lane l).session = some x := by rw [ho]; exact hs
  have hlim : v.laneSettings = s.laneSettings := by rw [ho]
  have hva : v.answerVerify b p.profileHeld = (v.modLink b Link.endVerify).endSession l
      (if p.profileHeld = g then .success else .mismatch) := by
    have hcl := State.closingAt_of_closing (s := v.modLink b Link.endVerify) hla hsa hp
    unfold State.answerVerify State.verificationAnswered
    rw [hk, hcl]
    exact if_pos hv
  rw [hva] at he
  have hends := State.endSession_ends (s := v.modLink b Link.endVerify) (if p.profileHeld = g then .success else .mismatch) hsa
  have hlink : (v.modLink b Link.endVerify).link b = (v.link b).endVerify := (v.link_modLink b b Link.endVerify).trans (if_pos rfl)
  have hrec : ∀ j, (v.modLink b Link.endVerify).record j = v.record j := fun _ => rfl
  have hlim' : (v.modLink b Link.endVerify).laneSettings = v.laneSettings := rfl
  generalize v.modLink b Link.endVerify = w at hends hlink hrec hlim' he
  generalize w.endSession l (if p.profileHeld = g then .success else .mismatch) = y at hends he
  obtain ⟨c1, c2⟩ := hends.closed
  have c3 := (y.closed_pumped_link b b).kept.verify
  have c4 := (hends.link b).kept.verify
  have c5 := y.closeChange_record x.record
  have hrr := hends.record x.record
  rw [if_pos rfl, hrec, hlim', hlim] at hrr
  rw [hrr] at c5
  generalize y.closeChange = z at c1 c2 c3 c5 he
  refine ⟨_, he, ?_, c2, ?_, v.record x.record, ?_, ?_, c5⟩
  · rw [c3, c4, hlink]
    rfl
  · rw [hp] at c1
    exact c1
  · rw [hr]
    split
    · exact hc
    · exact hc
  · rw [hr]
    split <;> rfl

end

/-- Settles O30, by whether the TELEMETRY answers a verification. -/
theorem telemetryWritesAndVerifies : Obligations.TelemetryWritesAndVerifies := by
  unfold Obligations.TelemetryWritesAndVerifies
  refine ⟨fun s b p hx hv => ?_, fun s b p l x g hx hv hl hs hp hc => ?_⟩
  · obtain ⟨t, ht, h1, h2, h3, h4, h5, h6⟩ := telemetry_writes (p := p) hx hv
    refine ⟨t, ht, h1, h2, h3, fun i hi => ⟨⟨?_, ?_⟩, ?_⟩, fun hn => ⟨?_, ?_⟩⟩
    · have k := h4 i
      rwa [State.telemetered_record, if_pos hi] at k
    · rw [hi] at h6
      exact h6
    · rw [h5, State.telemetered_hot, if_pos (by rw [hi]; rfl), hotAfter_clamped]
    · rw [hn] at h6
      exact h6
    · rw [h5, State.telemetered_hot, if_neg (by rw [hn]; nofun)]
  · obtain ⟨t, ht, h1, h2, h3, r, hr, hf, h4⟩ := telemetry_verifies (p := p) hx hv hl hs hp hc
    obtain ⟨k1, k2⟩ := Record.afterSession_verified hr s.laneSettings.failureLimit (p.profileHeld = g)
    have k3 := congrArg Record.failureCount h4
    have k4 := congrArg Record.provStuck h4
    rw [hf] at k1 k2
    exact ⟨t, ht, h1, h2, h3, k3.trans k1, fun q1 q2 => k4.trans (k2 q1 q2)⟩

end Sys2Proof.Machine
end

section
/-! SUPPORT. What follows a change at the custody slot of a bay: the release there opens with its order, or neither changes (R62, R145). -/

namespace Sys2Proof.Machine

set_option Elab.async false

/-! ### A release that opens or stays -/

theorem State.release_placeLaneOrder {s : State} (c : BayNo) (x : LaneOrder) (b : BayNo) :
    (s.placeLaneOrder c x).release b = s.release b := by
  unfold State.placeLaneOrder
  split
  · rfl
  · rfl

/-- The release of bay b opened on the way from s to t, with its order (R145). -/
def State.Opened (s t : State) (b : BayNo) : Prop :=
  ∃ i, s.unlockingRecord b = some i ∧
    t.release b = some ⟨i, .opened (s.clk32 + s.custodySettings.releaseLength) .waiting⟩ ∧
    ((s.link b).state ≠ .down → ∀ h : Nat, (s.record i).holder = some h → (t.link b).custody.Newest (.release h))

/-- On the way from s to t the release of bay b opens, or it stays and no order joins the custody slot (R62, R145). -/
structure State.Turns (s t : State) (b : BayNo) : Prop where
  follows : s.Follows t
  turn : t.release b = s.release b ∧ (s.link b).custody.Moved (t.link b).custody ∨ s.Opened t b

namespace State.Turns

variable {s t u : State} {b : BayNo}

/-- Where no release of the bay waits to open, none does. -/
theorem of_none (h : s.Follows t) (hn : s.unlockingRecord b = none) : s.Turns t b := by
  refine ⟨h, .inl ⟨?_, (h.link b).custody_moved fun x hx => s.not_opensWith hn x hx⟩⟩
  obtain e | ⟨i, hi, -⟩ := h.release b
  · exact e
  · rw [hn] at hi
    cases hi

theorem of_same (h : s.Follows t) (hr : t.release b = s.release b := by rfl) (hl : t.link b = s.link b := by rfl) : s.Turns t b :=
  ⟨h, .inl ⟨hr, by rw [hl]; exact .refl _⟩⟩

theorem refl (s : State) (b : BayNo) : s.Turns s b := of_same (.refl s)

theorem trans (h : s.Turns t b) (g : t.Turns u b) : s.Turns u b := by
  refine ⟨h.follows.trans g.follows, ?_⟩
  obtain ⟨h1, h2⟩ | ⟨i, h1, h2, h3⟩ := h.turn
  · obtain ⟨g1, g2⟩ | ⟨i, g1, g2, g3⟩ := g.turn
    · exact .inl ⟨g1.trans h1, h2.trans g2⟩
    · obtain ⟨k1, k2⟩ := h.follows.unlockingRecord g1
      obtain ⟨-, -, ht⟩ := h.follows.frame.time
      obtain ⟨-, -, -, hc⟩ := h.follows.frame.settings
      rw [ht, hc] at g2
      exact .inr ⟨i, k1, g2, fun hd n hn => g3 ((h.follows.link b).not_down hd) n (k2.trans hn)⟩
  · have hn := State.unlockingRecord_of_opened h2
    obtain ⟨g1, g2⟩ | ⟨j, g1, -⟩ := g.turn
    · exact .inr ⟨i, h1, g1.trans h2, fun hd n hn => g2.newest (h3 hd n hn)⟩
    · rw [hn] at g1
      cases g1

theorem foldl {α : Type} {f : State → α → State} (hf : ∀ s x, State.Turns s (f s x) b) :
    ∀ (l : List α) (s : State), s.Turns (l.foldl f s) b
  | [], s => refl s b
  | x :: l, s => (hf s x).trans (foldl hf l _)

theorem latchSuccess (s : State) (c : BayNo) (d : Direction) : s.Turns (s.latchSuccess c d) b := by
  have hf := State.Follows.latchSuccess s c d
  cases hu : s.unlockingRecord b with
  | none => exact of_none hf hu
  | some i =>
    cases d with
    | lock =>
      simp only [State.latchSuccess] at hf ⊢
      split at hf <;> exact of_same hf
    | unlock =>
      by_cases e : c = b
      · subst e
        simp only [State.latchSuccess, hu] at hf ⊢
        obtain ⟨h1, h2⟩ := s.openRelease_leaves c i
        exact ⟨hf, .inr ⟨i, hu, h1, h2⟩⟩
      · simp only [State.latchSuccess] at hf ⊢
        split
        · next j hj =>
          simp only [hj] at hf
          refine of_same hf ?_ ?_
          · refine (State.release_placeCustodyOrder _ b).trans ?_
            rw [State.release_setRelease, if_neg e]
          · exact (State.link_placeCustodyOrder ..).trans (if_neg fun g => e g.1)
        · exact refl s b

theorem serviceOne (s : State) (q : LatchRequest) : s.Turns (s.serviceOne q) b := by
  unfold State.serviceOne
  split
  · exact refl s b
  · split
    · have h : s.Turns { s with latchQueue := s.latchQueue.erase q } b := of_same (.of_same (.tables rfl rfl))
      exact h.trans (latchSuccess _ q.bay q.direction)
    · split
      · exact of_same (.of_same (.tables rfl rfl))
      · exact refl s b

theorem slotService (s : State) : s.Turns s.slotService b := foldl serviceOne _ s

theorem startDrive (s : State) (k : SlotNo) : s.Turns (s.startDrive k) b := by
  unfold State.startDrive
  split
  · next q _ =>
    split
    · have h1 : s.Turns ((s.endSlot k).setLatch q.bay q.direction.target) b :=
        of_same (.trans (t := s.endSlot k) (.of_same (.tables rfl rfl)) (.setLatch _ _ _))
      exact (h1.trans (latchSuccess _ q.bay q.direction)).trans (slotService _)
    · exact of_same (.trans (t := s.setSlot k (.driving q)) (.of_same (.tables rfl rfl)) (.setLatch _ _ _))
  · exact refl s b
  · exact refl s b

theorem wakeLane (s : State) (l : LaneNo) : s.Turns (s.wakeLane l) b := by
  have hf := State.Follows.wakeLane s l
  refine ⟨hf, .inl ?_⟩
  unfold State.wakeLane
  split
  · next x _ =>
    split
    · refine ⟨State.release_placeLaneOrder (s := s.setLane l ((s.lane l).woken x)) x.bay (.wake l) b, ?_⟩
      · exact (State.placeLaneOrder_fed (p := fun _ => False) (q := fun _ => True)
          (s.setLane l ((s.lane l).woken x)) x.bay b fun _ => trivial).custody_moved fun _ => id
    · exact ⟨rfl, .refl _⟩
  · exact ⟨rfl, .refl _⟩

theorem tellActive (s : State) (o : Owner) : s.Turns (s.tellActive o) b := by
  cases o with
  | latch k => exact startDrive s k
  | lane l => exact wakeLane s l

theorem closeChange (s : State) : s.granted.Turns s.closeChange b :=
  State.closeChange_keeps (P := fun t => s.granted.Turns t b)
    (fun t x y h => h.trans (of_same (State.Follows.marks t x y)))
    (fun t h => h.trans (of_same (State.Follows.takePass t) (by simp only [State.release, t.takePass_releases])
      (congrArg (fun v : Vector Link 36 => v[b.val]) t.takePass_links)))
    (fun t h => h.trans (of_same (State.Follows.increased t)))
    (fun t o h => h.trans (tellActive t o))
    (fun t h => h.trans (of_same (State.Follows.endPass t)))
    (fun t h => h.trans (of_same (State.Follows.relamp t) (by simp only [State.release, t.relamp_releases])
      (congrArg (fun v : Vector Link 36 => v[b.val]) t.relamp_links)))
    (fun t h => h.trans (of_same (State.Follows.reAttn t))) s (refl _ b)

end State.Turns

/-- Where a change closes and a link makes its next exchange, the release of bay b opens, or it stays with the custody slot. -/
theorem State.closed_pumped_turn (s : State) (b : BayNo) :
    ((s.closeChange.pumpLink b).release b = s.release b ∧
      (s.link b).custody.Moved ((s.closeChange.pumpLink b).link b).custody) ∨ s.Opened (s.closeChange.pumpLink b) b := by
  have h := (State.Turns.closeChange (b := b) s).turn
  have hg := s.granted_grants
  have hc : s.granted.clk32 = s.clk32 ∧ s.granted.custodySettings = s.custodySettings := by
    rw [hg.only]
    exact ⟨rfl, rfl⟩
  unfold State.Opened at h ⊢
  simp only [hg.release, hg.unlockingRecord, hg.link, hg.record, hc.1, hc.2] at h
  generalize s.closeChange = w at h
  have hr : (w.pumpLink b).release b = w.release b := rfl
  have hm : (w.link b).custody.Moved ((w.pumpLink b).link b).custody :=
    (w.pumpLink_fed (p := fun _ => False) (q := fun _ => True) b b).custody_moved fun _ => id
  rw [hr]
  obtain ⟨h1, h2⟩ | ⟨i, h1, h2, h3⟩ := h
  · exact .inl ⟨h1, h2.trans hm⟩
  · exact .inr ⟨i, h1, h2, fun hd n hn => hm.newest (h3 hd n hn)⟩

end Sys2Proof.Machine
end

section
/-! SUPPORT. The settling of O31: what ends an order, and what placing one leaves (R58, R62, R63, R68, R118, R145). -/

namespace Sys2Proof.Machine

set_option Elab.async false

/-! ### Commands that end an order -/

/-- A command that ends the order exchange of bay b, delivered or refused (R63). -/
inductive EndsOrder (b : BayNo) : Instr → Bool → Prop
  | ack : EndsOrder b (.ackTaken b) true
  | nak (reason : Byte) : EndsOrder b (.nakTaken b reason) false

/-- A custody order's exchange over (R61, R63). -/
abbrev Link.custodyEnded (k : Link) : Link := { k.exchangeDone with custody := k.custody.ended }

/-- A lane order's exchange over (R61, R63). -/
abbrev Link.laneEnded (k : Link) : Link := { k.exchangeDone with lane := k.lane.ended }

section
variable {s t u v : State} {b : BayNo} {i : RecordIx} {l : LaneNo} {x : Session} {c : Instr} {d : Bool}

theorem EndsOrder.of_or {reason : Byte} (h : c = .ackTaken b ∨ c = .nakTaken b reason) : ∃ d, EndsOrder b c d := by
  obtain rfl | rfl := h
  · exact ⟨true, .ack⟩
  · exact ⟨false, .nak reason⟩

theorem exec_of_custodyOrder (h : EndsOrder b c d) (hx : (s.link b).exchange = some .custodyOrder)
    (hu : (s.modLink b Link.custodyEnded).reportCustody b (if d then .delivered else .refused) (s.link b).custody.inFlight = u) :
    exec c s = .next (u.closeChange.pumpLink b) := by
  subst hu
  cases h
  all_goals
    refine next_congr ?_
    unfold State.takeReply
    rw [hx]
    exact if_pos rfl

theorem exec_of_laneOrder (h : EndsOrder b c d) (hx : (s.link b).exchange = some .laneOrder)
    (hu : (s.modLink b Link.laneEnded).reportLane b d (s.link b).lane.inFlight = u) :
    exec c s = .next (u.closeChange.pumpLink b) := by
  subst hu
  cases h
  all_goals
    refine next_congr ?_
    unfold State.takeReply
    rw [hx]
    exact if_pos rfl

/-! ### The custody order -/

/-- The end of a custody order at the link: nothing is left in flight, and what waited waits still or goes out (R61, R63). -/
theorem State.custodyOrderEnded {w : Option CustodyOrder} (hw : (u.link b).custody.waiting = w)
    (hi : (u.link b).custody.inFlight = none) (hf : (u.link b).failedExchanges = 0)
    (hm : (u.link b).custody.Moved (t.link b).custody) (hk : (u.link b).Kept (t.link b)) : t.CustodyOrderEnded b w := by
  subst hw
  exact ⟨hk.failedExchanges.trans hf, fun h => hm.idle h hi, fun q hq => hm.newest (.inl hq)⟩

/-- What follows the end of a custody order, where nothing but the release of the bay has been written. -/
theorem State.custodyOrder_ends (hs : s.Untouched u [] []) (hl : u.link b = (s.link b).custodyEnded) :
    s.Untouched (u.closeChange.pumpLink b) [] [] ∧
      ((u.closeChange.pumpLink b).release b = u.release b ∧
        (u.closeChange.pumpLink b).CustodyOrderEnded b (s.link b).custody.waiting ∨
      u.Opened (u.closeChange.pumpLink b) b) ∧ ((u.closeChange.pumpLink b).link b).failedExchanges = 0 := by
  have hk := (u.closed_pumped_link b b).kept
  have ht := u.closed_pumped_turn b
  have hu := u.closed_pumped_untouched b
  generalize u.closeChange.pumpLink b = t at hk ht hu ⊢
  have hw : (u.link b).custody.waiting = (s.link b).custody.waiting ∧ (u.link b).custody.inFlight = none ∧
      (u.link b).failedExchanges = 0 := by
    rw [hl]
    exact ⟨rfl, rfl, rfl⟩
  obtain ⟨h1, h2, h3⟩ := hw
  refine ⟨hs.still hu, ?_, hk.failedExchanges.trans h3⟩
  obtain ⟨g1, g2⟩ | g := ht
  · exact .inl ⟨g1, State.custodyOrderEnded h1 h2 h3 g2 hk⟩
  · exact .inr g

theorem State.link_custodyEnded (s : State) (b : BayNo) : (s.modLink b Link.custodyEnded).link b = (s.link b).custodyEnded :=
  (s.link_modLink b b Link.custodyEnded).trans (if_pos rfl)

theorem State.link_laneEnded (s : State) (b : BayNo) : (s.modLink b Link.laneEnded).link b = (s.link b).laneEnded :=
  (s.link_modLink b b Link.laneEnded).trans (if_pos rfl)

/-- The report of a RELEASE whose release is open and behind which no newer one waits (R145). -/
theorem State.releaseReported_open {e : Nat} {o q : OrderOutcome} (hr : s.release b = some ⟨i, .opened e o⟩)
    (hw : ∀ g : Nat, (s.link b).custody.waiting ≠ some (.release g)) :
    s.releaseReported b q = s.setRelease b (some ⟨i, .opened e q⟩) := by
  unfold State.releaseReported
  rw [hr]
  split
  · next g e1 e2 => exact absurd e2 (hw g)
  · next e1 e2 =>
    cases e1
    rfl
  · next h2 _ => exact (h2 _ _ _ rfl).elim

/-- The report of a RELEASE behind which a newer one waits, or whose release is not open, changes nothing (R145). -/
theorem State.releaseReported_idle {q : OrderOutcome} (h : (∃ g : Nat, (s.link b).custody.waiting = some (.release g)) ∨
    ∀ (i : RecordIx) (e : Nat) (o : OrderOutcome), s.release b ≠ some ⟨i, .opened e o⟩) : s.releaseReported b q = s := by
  unfold State.releaseReported
  split
  · rfl
  · next hr hw =>
    obtain ⟨g, hg⟩ | h := h
    · exact absurd hg (hw g)
    · exact absurd hr (h _ _ _)
  · rfl

/-- An order that ends, of which a release takes the outcome (R63, R145). -/
theorem releaseOrder_ends {w : Option CustodyOrder} {h e : Nat} {y : Bool} {o : OrderOutcome} (hc : EndsOrder b c d)
    (hx : (s.link b).exchange = some .custodyOrder) (hk : (s.link b).custody = ⟨w, some (.release h), y⟩)
    (hr : s.release b = some ⟨i, .opened e o⟩) (hw : ∀ g : Nat, w ≠ some (.release g)) :
    ∃ t, exec c s = .next t ∧ t.release b = some ⟨i, .opened e (if d then .delivered else .refused)⟩ ∧
      t.CustodyOrderEnded b w ∧ s.Untouched t [] [] := by
  have hl := s.link_custodyEnded b
  have hs := s.modLink_untouched b Link.custodyEnded
  have hrel : (s.modLink b Link.custodyEnded).release b = some ⟨i, .opened e o⟩ := hr
  have hrep : (s.modLink b Link.custodyEnded).reportCustody b (if d then .delivered else .refused) (s.link b).custody.inFlight =
      (s.modLink b Link.custodyEnded).setRelease b (some ⟨i, .opened e (if d then .delivered else .refused)⟩) := by
    rw [hk]
    refine State.releaseReported_open hrel fun g => ?_
    rw [hl]
    show (s.link b).custody.waiting ≠ _
    rw [hk]
    exact hw g
  refine ⟨_, exec_of_custodyOrder hc hx hrep, ?_⟩
  generalize s.modLink b Link.custodyEnded = v at hl hs
  have hv : v.Untouched (v.setRelease b (some ⟨i, .opened e (if d then .delivered else .refused)⟩)) [] [] := .tables rfl rfl
  have hvl : (v.setRelease b (some ⟨i, .opened e (if d then .delivered else .refused)⟩)).link b = v.link b := rfl
  have hvr := State.release_setRelease v b b (some ⟨i, .opened e (if d then .delivered else .refused)⟩)
  rw [if_pos rfl] at hvr
  generalize v.setRelease b (some ⟨i, .opened e (if d then .delivered else .refused)⟩) = u at hv hvl hvr
  obtain ⟨h1, h2 | ⟨j, hj, -⟩, -⟩ := State.custodyOrder_ends (hs.still hv) (hvl.trans hl)
  · rw [hk] at h2
    exact ⟨h2.1.trans hvr, h2.2, h1⟩
  · rw [State.unlockingRecord_of_opened hvr] at hj
    cases hj

/-- Any other custody order ends without effect, beside which a release may open where the change closes (R63, R145). -/
theorem custodyOrder_idles {w f : Option CustodyOrder} {y : Bool} (hc : EndsOrder b c d)
    (hx : (s.link b).exchange = some .custodyOrder) (hk : (s.link b).custody = ⟨w, f, y⟩)
    (hf : ∀ h : Nat, f = some (.release h) → (∃ g : Nat, w = some (.release g)) ∨
      ∀ (i : RecordIx) (e : Nat) (o : OrderOutcome), s.release b ≠ some ⟨i, .opened e o⟩) :
    ∃ t, exec c s = .next t ∧ s.Untouched t [] [] ∧
      (t.release b = s.release b ∧ t.CustodyOrderEnded b w ∨
        ∃ i j : RecordIx, s.release b = some ⟨i, .unlocking⟩ ∧
          t.release b = some ⟨j, .opened (s.clk32 + s.custodySettings.releaseLength) .waiting⟩ ∧
          (t.link b).failedExchanges = 0 ∧
          ((s.link b).state ≠ .down →
            ∀ h : Nat, (s.record j).holder = some h → t.CustodyOrdered b (.release h))) := by
  have hl := s.link_custodyEnded b
  have hs := s.modLink_untouched b Link.custodyEnded
  have hrep : (s.modLink b Link.custodyEnded).reportCustody b (if d then .delivered else .refused) (s.link b).custody.inFlight =
      s.modLink b Link.custodyEnded := by
    rw [hk]
    match f with
    | none => rfl
    | some .lock => rfl
    | some (.release h) =>
      refine State.releaseReported_idle ((hf h rfl).imp (fun ⟨g, hg⟩ => ⟨g, ?_⟩) fun k => k)
      rw [hl]
      show (s.link b).custody.waiting = _
      rw [hk]
      exact hg
  refine ⟨_, exec_of_custodyOrder hc hx hrep, ?_⟩
  have hsame : (s.modLink b Link.custodyEnded).release b = s.release b ∧
      (s.modLink b Link.custodyEnded).unlockingRecord b = s.unlockingRecord b ∧
      (∀ j, (s.modLink b Link.custodyEnded).record j = s.record j) ∧ (s.modLink b Link.custodyEnded).clk32 = s.clk32 ∧
      (s.modLink b Link.custodyEnded).custodySettings = s.custodySettings := ⟨rfl, rfl, fun _ => rfl, rfl, rfl⟩
  generalize s.modLink b Link.custodyEnded = u at hl hs hsame
  obtain ⟨e1, e2, e3, e4, e5⟩ := hsame
  obtain ⟨h1, h2, h3⟩ := State.custodyOrder_ends hs hl
  refine ⟨h1, ?_⟩
  obtain ⟨g1, g2⟩ | ⟨j, g1, g2, g3⟩ := h2
  · rw [hk] at g2
    exact .inl ⟨g1.trans e1, g2⟩
  · rw [e2] at g1
    rw [e4, e5] at g2
    rw [hl, e3] at g3
    obtain ⟨-, -, hp⟩ := State.unlockingRecord_eq_some.mp g1
    obtain ⟨⟨i, p⟩, hi, hp⟩ := Option.map_eq_some_iff.mp hp
    obtain rfl : p = .unlocking := hp
    exact .inr ⟨i, j, hi, g2, h3, g3⟩

end

end Sys2Proof.Machine
end

section
/-! SUPPORT. The settling of O31: the ends of lane orders, and orders placed (R58, R62, R63, R68, R118, R127). -/

namespace Sys2Proof.Machine

set_option Elab.async false

section
variable {s t u v : State} {b : BayNo} {i : RecordIx} {l : LaneNo} {x : Session} {c : Instr} {d : Bool}

/-! ### A WAKE delivered -/

/-- Lane l's session is CONNECTED (R118). -/
abbrev Lane.connect (n : Nat) (x : Session) (y : Lane) : Lane := { y with session := some { x with phase := .connected n } }

theorem State.wakingAt_of_waking (hx : (s.lane l).session = some x) (hp : x.phase = .waking) (hb : x.bay = b)
    (hw : (s.link b).lane.waiting ≠ some (.wake l)) : s.wakingAt b l = some x := by
  unfold State.wakingAt
  rw [hx]
  exact if_pos ⟨hp, hb, hw⟩

theorem State.wakingAt_of_other (h : (s.link b).lane.waiting = some (.wake l) ∨
    ∀ x : Session, (s.lane l).session = some x → x.phase = .waking → x.bay ≠ b) : s.wakingAt b l = none := by
  unfold State.wakingAt
  split
  · next x hx =>
    refine if_neg fun ⟨h1, h2, h3⟩ => ?_
    obtain h | h := h
    · exact h3 h
    · exact h x hx h1 h2
  · rfl

/-- Where every lane keeps the record of its session, and no record changes, the queue and the idle lanes are as right (R110). -/
theorem State.GrantsNone.of_seats (h : s.GrantsNone) (hm : ∀ m, (u.lane m).session.map Session.record = (s.lane m).session.map Session.record)
    (hr : ∀ j, u.record j = s.record j) (hq : u.queue = s.queue) (hp : u.grantsPermitted = s.grantsPermitted) : u.GrantsNone := by
  obtain h | ⟨⟨h1, h2⟩, h3⟩ := h
  · exact .inl (hp.trans h)
  · have hn : ∀ m, (u.lane m).session = none ↔ (s.lane m).session = none := fun m => by
      rw [← Option.map_eq_none_iff (f := Session.record), hm, Option.map_eq_none_iff]
    have hl : ∀ j, u.laneOf j = s.laneOf j := fun j => by
      unfold State.laneOf
      refine congrArg (fun f => allLanes.find? f) (funext fun m => ?_)
      have e := hm m
      cases hu : (u.lane m).session with
      | none => rw [(hn m).mp hu]
      | some y =>
        cases hs : (s.lane m).session with
        | none => rw [(hn m).mpr hs] at hu; cases hu
        | some z =>
          rw [hu, hs] at e
          have e' : y.record = z.record := Option.some.inj e
          simp only [e']
    have he : ∀ j, u.eligible j = s.eligible j := fun j => by
      unfold State.eligible
      rw [hr, hl]
    refine .inr ⟨⟨hq ▸ h1, fun j => ?_⟩, fun g1 ⟨m, g2⟩ => ?_⟩
    · rw [hq, he]
      exact h2 j
    · rw [hq]
      exact h3 (hp.symm.trans g1) ⟨m, (hn m).mp g2⟩

/-- The waking session's WAKE delivered: it is CONNECTED, and no other WAKE comes after (R118). -/
theorem wakeOrder_connects (hx : (s.link b).exchange = some .laneOrder) (hf : (s.link b).lane.inFlight = some (.wake l))
    (hw : (s.link b).lane.waiting ≠ some (.wake l)) (hs : (s.lane l).session = some x) (hp : x.phase = .waking) (hb : x.bay = b) :
    ∃ t, exec (.ackTaken b) s = .next t ∧
      (t.lane l).session = some { x with phase := .connected s.laneSettings.sessionLimit } ∧
      t.Holds Source.laneReady l.val ∧ s.Untouched t [] [] ∧
      (s.GrantsNone → s.LaneLaw → (s.link b).lane.waiting = none →
        (t.link b).lane.waiting = none ∧ (t.link b).lane.inFlight = none) := by
  have hl := s.link_laneEnded b
  have hu := s.modLink_untouched b Link.laneEnded
  have hwk : (s.modLink b Link.laneEnded).wakingAt b l = some x := State.wakingAt_of_waking hs hp hb (by
    rw [hl]
    exact hw)
  have hrep : (s.modLink b Link.laneEnded).reportLane b true (s.link b).lane.inFlight =
      ((s.modLink b Link.laneEnded).setLane l ((s.lane l).connect s.laneSettings.sessionLimit x)).addSubject Source.laneReady l.val := by
    rw [hf]
    show (s.modLink b Link.laneEnded).wakeDelivered b l = _
    unfold State.wakeDelivered
    simp only [hwk]
    rfl
  refine ⟨_, exec_of_laneOrder .ack hx hrep, ?_⟩
  have hlane := fun m => State.lane_setLane (s.modLink b Link.laneEnded) l m ((s.lane l).connect s.laneSettings.sessionLimit x)
  have hv1 : (s.modLink b Link.laneEnded).Untouched
      ((s.modLink b Link.laneEnded).setLane l ((s.lane l).connect s.laneSettings.sessionLimit x)) [] [] := .tables rfl rfl
  have hsame : ∀ m, (s.modLink b Link.laneEnded).lane m = s.lane m := fun _ => rfl
  have hrest : (∀ j, ((s.modLink b Link.laneEnded).setLane l ((s.lane l).connect s.laneSettings.sessionLimit x)).record j = s.record j) ∧
      ((s.modLink b Link.laneEnded).setLane l ((s.lane l).connect s.laneSettings.sessionLimit x)).queue = s.queue ∧
      ((s.modLink b Link.laneEnded).setLane l ((s.lane l).connect s.laneSettings.sessionLimit x)).grantsPermitted = s.grantsPermitted ∧
      ((s.modLink b Link.laneEnded).setLane l ((s.lane l).connect s.laneSettings.sessionLimit x)).link b =
        (s.modLink b Link.laneEnded).link b := ⟨fun _ => rfl, rfl, rfl, rfl⟩
  generalize (s.modLink b Link.laneEnded).setLane l ((s.lane l).connect s.laneSettings.sessionLimit x) = v at hlane hv1 hrest
  obtain ⟨r1, r2, r3, r4⟩ := hrest
  have hvu := State.addSubject_untouched v Source.laneReady l.val
  have hvh : (v.addSubject Source.laneReady l.val).Holds Source.laneReady l.val := State.addSubject_holds _ _ (by omega)
  have hkeep : (∀ m, (v.addSubject Source.laneReady l.val).lane m = v.lane m) ∧
      (∀ j, (v.addSubject Source.laneReady l.val).record j = v.record j) ∧ (v.addSubject Source.laneReady l.val).queue = v.queue ∧
      (v.addSubject Source.laneReady l.val).grantsPermitted = v.grantsPermitted ∧
      (v.addSubject Source.laneReady l.val).link b = v.link b := ⟨fun _ => rfl, fun _ => rfl, rfl, rfl, rfl⟩
  generalize v.addSubject Source.laneReady l.val = w at hvu hvh hkeep
  obtain ⟨k1, k2, k3, k4, k5⟩ := hkeep
  have hm : ∀ m, w.lane m = if l = m then (s.lane l).connect s.laneSettings.sessionLimit x else s.lane m := fun m => by
    rw [k1, hlane m, hsame]
  have hml : (w.lane l).session = some { x with phase := .connected s.laneSettings.sessionLimit } := by
    rw [hm, if_pos rfl]
  have hcl := w.closeChange_lane hml nofun
  have hfed := w.closed_pumped_link b b
  have hcu := w.closed_pumped_untouched b
  generalize hz : w.closeChange = z at hcl hfed hcu ⊢
  have hpl : (z.pumpLink b).lane l = z.lane l := rfl
  refine ⟨by rw [hpl, hcl, hml], hcu.events.holds hvh, ((hu.still hv1).still hvu).still hcu, fun hg hlw hn => ?_⟩
  have hnw : w.NoWakeDue b := by
    refine ⟨hg.of_seats (fun m => ?_) (fun j => (k2 j).trans (r1 j)) (k3.trans r2) (k4.trans r3), fun m y hy hpy hyb => ?_⟩
    · rw [hm]
      split
      · next e => subst e; rw [hs]; rfl
      · rfl
    · rw [hm] at hy
      split at hy
      · cases Option.some.inj hy
        cases hpy
      · next e =>
        obtain ⟨-, -, h3, -⟩ := hlw
        exact e (h3 l m x hs y hy (.inl (hb.trans hyb.symm)))
  have hmv := hfed.lane_moved fun y => hnw.not_wakesIn y
  rw [k5, r4, hl] at hmv
  exact hmv.idle hn rfl

/-- The waking session's WAKE refused: it ends WAKE_FAILED (R118, R125). -/
theorem wakeOrder_fails {reason : Byte} (hx : (s.link b).exchange = some .laneOrder) (hf : (s.link b).lane.inFlight = some (.wake l))
    (hw : (s.link b).lane.waiting ≠ some (.wake l)) (hs : (s.lane l).session = some x) (hp : x.phase = .waking) (hb : x.bay = b) :
    ∃ t, exec (.nakTaken b reason) s = .next t ∧ (t.lane l).last = some ⟨.wakeFailed, x.record, none⟩ ∧
      t.Holds Source.laneEnd l.val ∧ s.Untouched t [x.record] [] ∧ s.LaneFreed t l x := by
  have hl := s.link_laneEnded b
  have hu := s.modLink_untouched b Link.laneEnded
  have hwk : (s.modLink b Link.laneEnded).wakingAt b l = some x := State.wakingAt_of_waking hs hp hb (by
    rw [hl]
    exact hw)
  have hrep : (s.modLink b Link.laneEnded).reportLane b false (s.link b).lane.inFlight =
      (s.modLink b Link.laneEnded).endSession l .wakeFailed := by
    rw [hf]
    show (s.modLink b Link.laneEnded).wakeRefused b l = _
    unfold State.wakeRefused
    simp only [hwk]
  refine ⟨_, exec_of_laneOrder (.nak reason) hx hrep, ?_⟩
  have hs' : ((s.modLink b Link.laneEnded).lane l).session = some x := hs
  have he := State.endSession_ends (s := s.modLink b Link.laneEnded) .wakeFailed hs'
  have hst : ((s.modLink b Link.laneEnded).link x.bay).state = (s.link x.bay).state := by
    rw [State.link_modLink]
    split
    · next e => subst e; rfl
    · rfl
  have hfree : s.LaneFreed ((s.modLink b Link.laneEnded).endSession l .wakeFailed).closeChange l x := fun hg => by
    have k := he.freed hs' hg
    rwa [hst] at k
  generalize s.modLink b Link.laneEnded = v at hu he hfree
  generalize v.endSession l .wakeFailed = w at he hfree
  obtain ⟨c1, c2⟩ := he.closed
  rw [hp] at c1
  have hcu := w.closed_pumped_untouched b
  have hwu := (v.putRecord_untouched x.record ((v.record x.record).afterSession v.laneSettings.failureLimit .wakeFailed)).trans he.untouched
  generalize w.closeChange = z at c1 c2 hcu hfree ⊢
  have hsame : (z.pumpLink b).lane l = z.lane l ∧ (z.pumpLink b).bay x.bay = z.bay x.bay ∧ (z.pumpLink b).reservations = z.reservations ∧
      (∀ n m, z.Holds n m → (z.pumpLink b).Holds n m) := ⟨rfl, rfl, rfl, fun _ _ => id⟩
  have hmv := ((z.pumpLink_fed (p := fun _ => True) (q := fun _ => False) b x.bay).lane_moved fun _ => id)
  generalize z.pumpLink b = t at hsame hcu hmv ⊢
  obtain ⟨e1, e2, e3, e4⟩ := hsame
  refine ⟨by rw [e1, c1]; rfl, e4 _ _ c2, ?_, fun hg => ?_⟩
  · exact ((hu.trans hwu).still hcu).mono (by simp) (by simp)
  · obtain ⟨f1, f2, f3, f4, f5⟩ := hfree hg
    rw [e1, e2, e3]
    exact ⟨f1, f2, f3, f4, fun g1 g2 g3 g4 g5 => hmv.newest (f5 g1 g2 g3 g4 g5)⟩

/-- Any other lane order ends without effect (R63, R127). -/
theorem laneOrder_idles {w f : Option LaneOrder} {y : Bool} (hc : EndsOrder b c d) (hx : (s.link b).exchange = some .laneOrder)
    (hk : (s.link b).lane = ⟨w, f, y⟩) (hn : s.NoWakeDue b)
    (hf : f = none ∨ f = some .quiet ∨ ∃ l : LaneNo, f = some (.wake l) ∧ (w = some (.wake l) ∨
      ∀ x : Session, (s.lane l).session = some x → x.phase = .waking → x.bay ≠ b)) :
    ∃ t, exec c s = .next t ∧ (t.link b).failedExchanges = 0 ∧ s.Untouched t [] [] ∧
      (∀ (l : LaneNo) (x : Session), (s.lane l).session = some x → x.phase ≠ .admitting → t.lane l = s.lane l) ∧
      (w = none → (t.link b).lane.waiting = none ∧ (t.link b).lane.inFlight = none) ∧
      ∀ q : LaneOrder, w = some q → t.LaneOrdered b q := by
  have hl := s.link_laneEnded b
  have hrep : (s.modLink b Link.laneEnded).reportLane b d (s.link b).lane.inFlight = s.modLink b Link.laneEnded := by
    rw [hk]
    obtain rfl | rfl | ⟨l, rfl, h⟩ := hf
    · rfl
    · rfl
    · have hwk : (s.modLink b Link.laneEnded).wakingAt b l = none := State.wakingAt_of_other (h.imp (fun e => by
        rw [hl]
        show (s.link b).lane.waiting = _
        rw [hk]
        exact e) fun k => k)
      cases d with
      | true =>
        show (s.modLink b Link.laneEnded).wakeDelivered b l = _
        unfold State.wakeDelivered
        simp only [hwk]
      | false =>
        show (s.modLink b Link.laneEnded).wakeRefused b l = _
        unfold State.wakeRefused
        simp only [hwk]
  refine ⟨_, exec_of_laneOrder hc hx hrep, ?_⟩
  have hu := s.modLink_untouched b Link.laneEnded
  have hn' : (s.modLink b Link.laneEnded).NoWakeDue b := hn
  have hlane : ∀ m, (s.modLink b Link.laneEnded).lane m = s.lane m := fun _ => rfl
  have hw : (s.link b).laneEnded.lane.waiting = w ∧ (s.link b).laneEnded.lane.inFlight = none := by
    refine ⟨?_, rfl⟩
    show (s.link b).lane.waiting = _
    rw [hk]
  generalize s.modLink b Link.laneEnded = v at hl hu hn' hlane
  have hfed := v.closed_pumped_link b b
  have hmv := hfed.lane_moved fun z => hn'.not_wakesIn z
  have hcu := v.closed_pumped_untouched b
  have hcl := fun m z => v.closeChange_lane (l := m) (x := z)
  generalize v.closeChange = z at hfed hmv hcu hcl ⊢
  have hpl : ∀ m, (z.pumpLink b).lane m = z.lane m := fun _ => rfl
  have hkf := hfed.kept.failedExchanges
  rw [hl] at hmv hkf
  refine ⟨hkf, hu.still hcu, fun m y hy hp => ?_, fun e => hmv.idle (hw.1.trans e) hw.2, fun q e => hmv.newest (.inl (hw.1.trans e))⟩
  rw [hpl, hcl m y (by rw [hlane]; exact hy) hp, hlane]

/-! ### Orders placed -/

theorem State.placeCustodyOrder_places (s : State) (b : BayNo) (o : CustodyOrder) :
    ((s.link b).state = .down → s.placeCustodyOrder b o = s) ∧
    ((s.link b).state ≠ .down → s.OnlyLink (s.placeCustodyOrder b o) b ∧ (s.placeCustodyOrder b o).CustodyOrdered b o ∧
      ((s.placeCustodyOrder b o).link b).lane.waiting = (s.link b).lane.waiting ∧
      ((s.placeCustodyOrder b o).link b).lane.inFlight = (s.link b).lane.inFlight ∧
      (∀ x : Exchange, (s.link b).exchange = some x → (s.placeCustodyOrder b o).link b = { s.link b with
        custody := { (s.link b).custody with waiting := some o, due := true } }) ∧
      ((s.link b).state = .up → (s.link b).exchange = none →
        ((s.placeCustodyOrder b o).link b).exchange = some .custodyOrder ∧
          ((s.placeCustodyOrder b o).link b).custody = ⟨none, some o, false⟩)) := by
  refine ⟨fun h => if_pos h, fun h => ?_⟩
  have hl : (s.placeCustodyOrder b o).link b =
      ({ s.link b with custody := (s.link b).custody.place o } : Link).pump s.linkSettings := by
    rw [State.link_placeCustodyOrder, if_pos ⟨rfl, h⟩]
  have ho : s.OnlyLink (s.placeCustodyOrder b o) b := by
    refine ⟨?_, fun c hc => ?_⟩
    · unfold State.placeCustodyOrder
      split <;> rfl
    · rw [State.link_placeCustodyOrder, if_neg fun g => hc g.1.symm]
  have hn : (s.placeCustodyOrder b o).CustodyOrdered b o := State.placeCustodyOrder_newest o h
  refine ⟨ho, hn, ?_⟩
  rw [hl]
  by_cases hi : (s.link b).Idle
  · obtain ⟨p1, p2, p3, p4⟩ := Link.pump_custody ({ s.link b with custody := (s.link b).custody.place o } : Link)
      s.linkSettings hi (o := o) rfl (.inl rfl)
    exact ⟨p3, p4, fun x hx => absurd (hi.2.symm.trans hx) nofun, fun _ _ => ⟨p1, p2⟩⟩
  · rw [Link.pump_busy { s.link b with custody := (s.link b).custody.place o } _ hi]
    exact ⟨rfl, rfl, fun _ _ => rfl, fun h1 h2 => absurd ⟨h1, h2⟩ hi⟩

theorem State.placeLaneOrder_places (s : State) (b : BayNo) (o : LaneOrder) :
    ((s.link b).state = .down → s.placeLaneOrder b o = s) ∧
    ((s.link b).state ≠ .down → s.OnlyLink (s.placeLaneOrder b o) b ∧ (s.placeLaneOrder b o).LaneOrdered b o ∧
      (∀ x : Exchange, (s.link b).exchange = some x → (s.placeLaneOrder b o).link b = { s.link b with
        lane := { (s.link b).lane with waiting := some o, due := true } }) ∧
      ((s.link b).state = .up → (s.link b).exchange = none → (s.link b).custody.waiting = none →
        ((s.placeLaneOrder b o).link b).exchange = some .laneOrder ∧
          ((s.placeLaneOrder b o).link b).lane = ⟨none, some o, false⟩)) := by
  refine ⟨fun h => if_pos h, fun h => ?_⟩
  have hl : (s.placeLaneOrder b o).link b = ({ s.link b with lane := (s.link b).lane.place o } : Link).pump s.linkSettings := by
    rw [State.link_placeLaneOrder, if_pos ⟨rfl, h⟩]
  have ho : s.OnlyLink (s.placeLaneOrder b o) b := by
    refine ⟨?_, fun c hc => ?_⟩
    · unfold State.placeLaneOrder
      split <;> rfl
    · rw [State.link_placeLaneOrder, if_neg fun g => hc g.1.symm]
  have hn : (s.placeLaneOrder b o).LaneOrdered b o := by
    have k := (Link.pump_pumped ({ s.link b with lane := (s.link b).lane.place o } : Link) s.linkSettings).lane.newest
      (Slot.newest_place _ _)
    rw [← hl] at k
    exact k
  refine ⟨ho, hn, ?_⟩
  rw [hl]
  by_cases hi : (s.link b).Idle
  · refine ⟨fun x hx => absurd (hi.2.symm.trans hx) nofun, fun _ _ hw => ?_⟩
    exact Link.pump_lane ({ s.link b with lane := (s.link b).lane.place o } : Link) s.linkSettings hi hw (o := o) rfl (.inl rfl)
  · rw [Link.pump_busy { s.link b with lane := (s.link b).lane.place o } _ hi]
    exact ⟨fun _ _ => rfl, fun h1 h2 _ => absurd ⟨h1, h2⟩ hi⟩

end

/-- Settles O31, by the slot and the order that the exchange carried. -/
theorem ordersEndWithAckOrNak : Obligations.OrdersEndWithAckOrNak := by
  unfold Obligations.OrdersEndWithAckOrNak
  refine ⟨fun s b reason => ⟨fun w h d i e o hx hk hr hw => ⟨?_, ?_⟩, fun l x hx hf hw hs hp hb => ⟨?_, ?_⟩, fun c d hc => ⟨?_, ?_⟩⟩, ?_, ?_⟩
  · exact releaseOrder_ends .ack hx hk hr hw
  · exact releaseOrder_ends (.nak reason) hx hk hr hw
  · exact wakeOrder_connects hx hf hw hs hp hb
  · exact wakeOrder_fails hx hf hw hs hp hb
  · intro w f hx hk hf
    obtain ⟨a, ha⟩ := EndsOrder.of_or hc
    exact custodyOrder_idles ha hx hk hf
  · intro w f hx hk hn hf
    obtain ⟨a, ha⟩ := EndsOrder.of_or hc
    exact laneOrder_idles ha hx hk hn hf
  · rintro s _ b o rfl
    exact s.placeCustodyOrder_places b o
  · rintro s _ b o rfl
    exact s.placeLaneOrder_places b o

end Sys2Proof.Machine
end

section
/-! SUPPORT. A reallocation request served where its change closes: the pass taken, or one pending (R75, R78, R85). -/

namespace Sys2Proof.Machine

set_option Elab.async false

/-! ### What a pass reads -/

/-- Two states that agree in all that a pass reads (R78 to R84). -/
structure State.PassAlike (u v : State) : Prop where
  state : ∀ b, (v.bay b).state = (u.bay b).state
  names : ∀ b, (v.bay b).record = (u.bay b).record
  entry : ∀ b, v.entry b = u.entry b
  record : ∀ b i, (u.bay b).record = some i → v.record i = u.record i
  budget : v.budget = u.budget
  clock : v.clock = u.clock
  effective : v.effective = u.effective
  reservations : v.reservations = u.reservations

namespace State.PassAlike

variable {u v : State} (h : u.PassAlike v)
include h

theorem disposition (b : BayNo) : v.disposition b = u.disposition b := by
  unfold State.disposition
  rw [h.state, h.names, h.entry, h.budget]
  cases hr : (u.bay b).record with
  | none => rfl
  | some i => simp only [h.record b i hr]

theorem passBay (b : BayNo) : v.passBay b = u.passBay b := by
  unfold State.passBay
  rw [h.disposition, h.names, h.budget, h.clock]
  cases hr : (u.bay b).record with
  | none => rfl
  | some i =>
    have e := h.record b i hr
    simp only [Option.map_some, e]

theorem passBays : v.passBays = u.passBays := by
  unfold State.passBays
  rw [funext h.passBay]

theorem passRanked : v.passRanked = u.passRanked := by
  unfold State.passRanked
  rw [h.passBays]

theorem passBudget : v.passBudget = u.passBudget := by
  unfold State.passBudget State.passReservations
  rw [h.passBays, h.effective, h.budget, h.reservations]

theorem passShare : v.passShare = u.passShare := by
  unfold State.passShare
  rw [h.passRanked, h.passBudget, h.budget]

theorem seenAt (b : BayNo) : v.seenAt b = u.seenAt b := by
  unfold State.seenAt
  rw [h.names]
  cases hr : (u.bay b).record with
  | none => rfl
  | some i => simp only [h.record b i hr]

theorem toppedLimitAt (b : BayNo) : v.toppedLimitAt b = u.toppedLimitAt b := by
  unfold State.toppedLimitAt
  rw [h.names, h.budget]
  cases hr : (u.bay b).record with
  | none => rfl
  | some i => simp only [h.record b i hr]

/-- The pass taken at either is the same. -/
theorem takePass : u.PassTakenAt v.takePass := by
  refine ⟨?_, fun b => ⟨?_, ?_⟩⟩
  · rw [State.takePass_figures, State.takePass_figures, h.passBudget, h.passBays, h.passRanked, h.passShare]
  · rw [State.takePass_entry, State.takePass_entry, h.entry, h.disposition, h.passBay, h.passRanked, h.seenAt, h.toppedLimitAt]
  · rw [State.takePass_bay, State.takePass_bay, h.passShare]

end State.PassAlike

/-! ### Settling with nothing left to serve -/

/-- The latest pass, its pending mark and the port, which settling with nothing to serve keeps. -/
structure State.PassKept (s t : State) : Prop where
  figures : t.figures = s.figures
  entry : ∀ b, t.entry b = s.entry b
  grant : ∀ b, (t.bay b).grant = (s.bay b).grant
  pending : t.passPending = s.passPending
  port : ∀ n m, s.Holds n m → t.Holds n m

namespace State.PassKept

variable {r s t : State}

theorem refl (s : State) : s.PassKept s := ⟨rfl, fun _ => rfl, fun _ => rfl, rfl, fun _ _ => id⟩

theorem trans (h : r.PassKept s) (g : s.PassKept t) : r.PassKept t where
  figures := g.figures.trans h.figures
  entry b := (g.entry b).trans (h.entry b)
  grant b := (g.grant b).trans (h.grant b)
  pending := g.pending.trans h.pending
  port n m hm := g.port n m (h.port n m hm)

end State.PassKept

/-- No request stands, none is pending, and no reservation waits. -/
structure State.Settled (s : State) : Prop where
  request : s.reallocRequest = false
  pending : s.passPending = false
  reservations : s.reservations = []

section
variable {s u v : State}

theorem State.serveRequest_of_none (h : s.reallocRequest = false) : s.serveRequest = s := by
  unfold State.serveRequest
  rw [h]
  exact if_neg Bool.false_ne_true

theorem State.endDecreasing_of_empty (h : s.reservations = []) : s.endDecreasing = s.increased := by
  rw [State.endDecreasing_eq]
  unfold State.admittedOwners
  rw [h]
  rfl

theorem State.Settled.increased (h : s.Settled) : s.increased.Settled ∧ s.PassKept s.increased := by
  refine ⟨⟨h.request, h.pending, ?_⟩, ⟨rfl, fun _ => rfl, fun _ => rfl, rfl, fun _ _ => id⟩⟩
  unfold State.increased
  simp only [h.reservations]
  rfl

theorem State.Settled.endPass (h : s.Settled) : s.endPass.Settled ∧ s.PassKept s.endPass := by
  refine ⟨⟨?_, rfl, h.reservations⟩, ⟨rfl, fun _ => rfl, fun _ => rfl, h.pending.symm, fun _ _ => id⟩⟩
  unfold State.endPass
  simp only [h.request, h.pending]
  rfl

/-- With nothing to serve, settling ends the phases alone. -/
theorem State.Settled.settle (n : Nat) : ∀ {s : State}, s.Settled → s.PassKept (State.settle n s) := by
  induction n with
  | zero => exact fun _ => .refl _
  | succ n ih =>
    intro s h
    unfold State.settle
    rw [State.serveRequest_of_none h.request]
    simp only
    split
    · exact .refl s
    · split
      · exact .refl s
      · rw [State.endDecreasing_of_empty h.reservations]
        exact h.increased.2.trans (ih h.increased.1)
    · split
      · exact .refl s
      · exact h.endPass.2.trans (ih h.endPass.1)

/-- A state with no request and with its phase over or a bay in motion has settled. -/
theorem State.settle_of_rest (n : Nat) (hr : s.reallocRequest = false) (h : s.phase = .idle ∨ s.moving = true) :
    State.settle n s = s := by
  cases n with
  | zero => rfl
  | succ n =>
    unfold State.settle
    rw [State.serveRequest_of_none hr]
    simp only
    split
    · rfl
    · next e => rw [if_pos (h.resolve_left (by rw [e]; nofun))]
    · next e => rw [if_pos (h.resolve_left (by rw [e]; nofun))]

theorem State.moving_iff : s.moving = true ↔ ∃ b : BayNo, (s.output b).inMotion = true := by
  simp [State.moving, allBays]

/-- A request in IDLE takes a pass, which settling leaves (R75, R78). -/
theorem State.settle_takes (n : Nat) (hr : s.reallocRequest = true) (hp : s.phase = .idle) (hq : s.passPending = false)
    (he : s.reservations = []) : ({ s with reallocRequest := false } : State).takePass.PassKept (State.settle (n + 1) s) := by
  have hs : s.serveRequest = ({ s with reallocRequest := false } : State).takePass := by
    unfold State.serveRequest
    rw [if_pos hr]
    simp only
    rw [hp]
  have hset : ({ s with reallocRequest := false } : State).takePass.Settled := by
    refine ⟨State.takePass_reallocRequest _, (State.takePass_passPending _).trans hq, ?_⟩
    rw [State.takePass_reservations]
    unfold State.passReservations
    simp only [he]
    rfl
  have hph : ({ s with reallocRequest := false } : State).takePass.phase = .decreasing := State.takePass_phase _
  unfold State.settle
  rw [hs]
  generalize ({ s with reallocRequest := false } : State).takePass = w at hset hph
  simp only
  split
  · exact .refl w
  · split
    · exact .refl w
    · rw [State.endDecreasing_of_empty hset.reservations]
      exact hset.increased.2.trans (hset.increased.1.settle n)
  · next e =>
    rw [hph] at e
    cases e

/-- A request while a pass is applied and a bay is in motion becomes pending (R75). -/
theorem State.settle_awaits (n : Nat) (hr : s.reallocRequest = true) (hp : s.phase ≠ .idle) (hm : s.moving = true) :
    State.settle (n + 1) s = { s with reallocRequest := false, passPending := true } := by
  have hs : s.serveRequest = { s with reallocRequest := false, passPending := true } := by
    unfold State.serveRequest
    rw [if_pos hr]
    simp only
    split
    · next e => exact absurd e hp
    · rfl
    · rfl
  have hm' : ({ s with reallocRequest := false, passPending := true } : State).moving = true := hm
  unfold State.settle
  rw [hs]
  simp only
  split
  · rfl
  · exact if_pos hm'
  · exact if_pos hm'

/-! ### The close of a change that raises a request -/

theorem State.relamp_passKept (s : State) : s.PassKept s.relamp.reAttn ∧ s.relamp.reAttn.phase = s.phase := by
  have h1 : s.PassKept s.relamp := by
    refine ⟨s.relamp_figures, fun b => ?_, fun b => ?_, s.relamp_passPending, fun n m h => s.relamp_untouched.events.holds h⟩
    · exact congrArg (fun v : Vector AllocEntry 36 => v[b.val]) s.relamp_entries
    · rw [s.relamp_bay]
  have h2 := s.relamp_phase
  generalize s.relamp = r at h1 h2 ⊢
  exact ⟨h1.trans ⟨rfl, fun _ => rfl, fun _ => rfl, rfl, fun _ _ h => r.reAttn_untouched.events.holds h⟩, h2⟩

/-- What a pass reads where no lane is granted before the settling (R111, R116). -/
theorem State.PassAlike.granted (h : u.PassAlike v) (hg : v.GrantsNone) : u.PassAlike v.granted := by
  rw [(v.granted_of_none hg).1]
  exact ⟨h.state, h.names, h.entry, h.record, h.budget, h.clock, h.effective, h.reservations⟩

theorem State.PassTakenAt.kept {t w : State} (h : u.PassTakenAt t) (g : t.PassKept w) : u.PassTakenAt w :=
  ⟨g.figures.trans h.1, fun b => ⟨(g.entry b).trans (h.2 b).1, (g.grant b).trans (h.2 b).2⟩⟩

/-- A request served at the close of its change: v is the state that closes, u one that a pass reads alike (R75). -/
theorem State.closeChange_serves (h : u.PassAlike v) (hg : v.GrantsNone) (hr : v.reallocRequest = true) (he : v.reservations = []) :
    v.RequestServed u v.closeChange := by
  have hgr := (v.granted_of_none hg).1
  have ha := h.granted hg
  have hcl := v.closeChange_eq
  have hgd : State.grantLanes 4 v.requeue = v.granted := rfl
  rw [hgd] at hcl
  have hsame : v.granted.reallocRequest = true ∧ v.granted.reservations = [] ∧ v.granted.phase = v.phase ∧
      v.granted.passPending = v.passPending ∧ v.granted.figures = v.figures ∧ v.granted.moving = v.moving := by
    rw [hgr]
    exact ⟨hr, he, rfl, rfl, rfl, rfl⟩
  generalize v.closeChange = t at hcl ⊢
  generalize v.granted = w at ha hsame hcl
  obtain ⟨w1, w2, w3, w4, w5, w6⟩ := hsame
  have hf : w.settleFuel = 3 * w.latchQueue.length + 14 + 1 := rfl
  rw [hf] at hcl
  generalize 3 * w.latchQueue.length + 14 = n at hcl
  obtain ⟨hk, hph⟩ := (State.settle (n + 1) w).relamp_passKept
  rw [← hcl] at hk hph
  refine ⟨fun hi hp => ?_, fun hi hm => ?_⟩
  · have hs := State.settle_takes n w1 (w3.trans hi) (w4.trans hp) w2
    have ha' : u.PassAlike ({ w with reallocRequest := false } : State) :=
      ⟨ha.state, ha.names, ha.entry, ha.record, ha.budget, ha.clock, ha.effective, ha.reservations⟩
    have ht := ha'.takePass
    have hb : ({ w with reallocRequest := false } : State).takePass.figures.result = .floorsShort →
        ({ w with reallocRequest := false } : State).takePass.Holds Source.budgetShort 0 := fun e => by
      rw [State.takePass_figures] at e
      unfold State.takePass
      simp only
      rw [if_pos e]
      exact State.addSubject_holds _ _ (by omega)
    generalize ({ w with reallocRequest := false } : State).takePass = x at hs ht hb
    refine ⟨(ht.kept hs).kept hk, fun e => hk.port _ _ (hs.port _ _ (hb ?_))⟩
    rw [ht.1]
    exact e
  · have hs := State.settle_awaits n w1 (fun e => hi (w3.symm.trans e)) (w6.trans (State.moving_iff.mpr hm))
    rw [hs] at hk hph
    exact ⟨hk.pending, hph.trans w3, hk.figures.trans w5⟩

/-- A change that raises no request, with no reservation and no phase to end, leaves the pass as it is (R75). -/
theorem State.closeChange_rests (hg : v.GrantsNone) (hr : v.reallocRequest = false) (hi : v.phase = .idle ∨ v.moving = true) :
    v.PassKept v.closeChange ∧ v.closeChange.phase = v.phase := by
  have hcl := v.closeChange_eq
  have hgd : State.grantLanes 4 v.requeue = v.granted := rfl
  rw [hgd, State.settle_of_rest] at hcl
  · obtain ⟨hk, hph⟩ := v.granted.relamp_passKept
    rw [← hcl] at hk hph
    rw [(v.granted_of_none hg).1] at hk hph
    exact ⟨⟨hk.figures, hk.entry, hk.grant, hk.pending, hk.port⟩, hph⟩
  · rw [(v.granted_of_none hg).1]
    exact hr
  · rw [(v.granted_of_none hg).1]
    exact hi

/-- A request served carries over to a state in which the command began, and to one that its answer leaves. -/
theorem State.RequestServed.of_start {s t w : State} (h : v.RequestServed u t) (hp : s.phase = v.phase)
    (hq : s.passPending = v.passPending) (hf : s.figures = v.figures) (hm : ∀ b, (s.output b).inMotion = (v.output b).inMotion)
    (hk : t.PassKept w) (hw : w.phase = t.phase) : s.RequestServed u w := by
  obtain ⟨h1, h2⟩ := h
  refine ⟨fun e1 e2 => ?_, fun e1 ⟨b, e2⟩ => ?_⟩
  · obtain ⟨g1, g2⟩ := h1 (hp.symm.trans e1) (hq.symm.trans e2)
    exact ⟨g1.kept hk, fun e => hk.port _ _ (g2 e)⟩
  · obtain ⟨g1, g2, g3⟩ := h2 (fun e => e1 (hp.trans e)) ⟨b, (hm b).symm.trans e2⟩
    exact ⟨hk.pending.trans g1, (hw.trans g2).trans hp.symm, (hk.figures.trans g3).trans hf.symm⟩

theorem State.respond_passKept (s : State) (x : Status) (d : List Byte) : s.PassKept (s.respond x d) ∧ (s.respond x d).phase = s.phase :=
  ⟨⟨rfl, fun _ => rfl, fun _ => rfl, rfl, fun _ _ => id⟩, rfl⟩

theorem State.pumpLink_passKept (s : State) (b : BayNo) : s.PassKept (s.pumpLink b) ∧ (s.pumpLink b).phase = s.phase :=
  ⟨⟨rfl, fun _ => rfl, fun _ => rfl, rfl, fun _ _ => id⟩, rfl⟩

end

end Sys2Proof.Machine
end

section
/-! SUPPORT. The settling of O52: the clock set, its table written, the window recomputed and a pass asked for (R169, R171, R173). -/

namespace Sys2Proof.Machine

set_option Elab.async false

/-! ### The window by the timetable -/

section
variable {c : DayClock} {kind : PeriodKind}

theorem DayClock.occurredAgo_iff {k : Nat} : c.occurredAgo kind k = true ↔ c.OccursAt kind (c.ago k) := DayClock.occurs_iff

/-- The look back finds a PROV_OPEN that no PROV_CLOSE follows, at its minute or later (R173). -/
theorem DayClock.lookBack_iff (n : Nat) : ∀ t : Nat, c.lookBack n t = true ↔ ∃ k : Nat, t ≤ k ∧ k < t + n ∧
    c.occurredAgo .provOpen k = true ∧ ∀ j : Nat, t ≤ j → j ≤ k → ¬c.occurredAgo .provClose j = true := by
  induction n with
  | zero => exact fun t => ⟨nofun, fun ⟨k, _, h2, _⟩ => absurd h2 (by omega)⟩
  | succ n ih =>
    intro t
    unfold DayClock.lookBack
    split
    · next hc => exact ⟨nofun, fun ⟨k, h1, _, _, h4⟩ => absurd hc (h4 t le_rfl h1)⟩
    · next hc =>
      split
      · next ho =>
        refine ⟨fun _ => ⟨t, le_rfl, by omega, ho, fun j h1 h2 => ?_⟩, fun _ => rfl⟩
        obtain rfl : j = t := by omega
        exact hc
      · next ho =>
        rw [ih]
        constructor
        · rintro ⟨k, h1, h2, h3, h4⟩
          refine ⟨k, by omega, by omega, h3, fun j g1 g2 => ?_⟩
          obtain rfl | g := Nat.eq_or_lt_of_le g1
          · exact hc
          · exact h4 j g g2
        · rintro ⟨k, h1, h2, h3, h4⟩
          obtain rfl | g := Nat.eq_or_lt_of_le h1
          · exact absurd h3 ho
          · exact ⟨k, g, by omega, h3, fun j g1 g2 => h4 j (by omega) g2⟩

/-- A window recomputed is what the timetable says (R173). -/
theorem DayClock.rewindow_right (c : DayClock) : c.rewindow.WindowRight := by
  have e : ∀ k, c.rewindow.ago k = c.ago k := fun _ => rfl
  have hk : ∀ k, c.OccursAt .provOpen k → c.hasKind .provOpen = true := fun k ⟨i, x, h1, h2, _⟩ =>
    DayClock.hasKind_iff.mpr ⟨i, x, h1, h2⟩
  have hw : c.rewindow.windowOpen = (c.timeValid && c.hasKind .provOpen && c.lookBack Config.weekMinutes 0) := rfl
  have hweek : Config.weekMinutes = 10080 := rfl
  unfold DayClock.WindowRight
  rw [hw, Bool.and_eq_true, Bool.and_eq_true, DayClock.lookBack_iff, hweek]
  simp only [DayClock.occurredAgo_iff, Nat.zero_add, Nat.zero_le, true_and, forall_const, e]
  constructor
  · rintro ⟨⟨h1, -⟩, k, h3, h4, h5⟩
    exact ⟨h1, k, h3, h4, h5⟩
  · rintro ⟨h1, k, h3, h4, h5⟩
    exact ⟨⟨h1, hk _ h4⟩, k, h3, h4, h5⟩

end

/-! ### The clock changed -/

/-- The clock and the window as they are to be, with the pass asked for (R113, R169, R171). -/
def State.reclocked (s : State) (c : DayClock) : State := (State.handWindow { s with clock := c }).requestPass

/-- What a change of the clock leaves, answered (R169, R171). -/
structure State.Reclocks (s t : State) (c : DayClock) : Prop where
  clock : t.clock = c
  window : t.laneWindow = c.windowOpen
  records : s.RecordsKept t []
  bays : s.BaysKept t []
  settings : s.SettingsKept t
  windows : s.WindowsKept t
  seconds : t.clk32 = s.clk32
  keys : t.keys = s.keys
  events : s.EventsGrow t
  served : s.ClockRequestServed t

section
variable {s : State} {c : DayClock}

theorem State.reclocked_only (s : State) (c : DayClock) : s.reclocked c = { s with
    clock := c, laneWindow := c.windowOpen, reallocRequest := true } := rfl

theorem State.reclocked_reclocks (s : State) (c : DayClock) (d : State → List Byte) :
    s.Reclocks ((s.reclocked c).finish .done d) c ∧ ((s.reclocked c).finish .done d).Says .done (d (s.reclocked c).closeChange) := by
  refine ⟨?_, State.finish_says _ _ _⟩
  have hv := s.reclocked_only c
  generalize s.reclocked c = v at hv ⊢
  have hu := (State.Untouched.refl v).finish .done d
  have hserve : ∀ u : State, u = { s with clock := c, laneWindow := c.windowOpen } → u.GrantsNone → s.reservations = [] →
      v.RequestServed u v.closeChange := fun u he hg hr => by
    have ha : u.PassAlike v := by
      rw [hv, he]
      exact ⟨fun _ => rfl, fun _ => rfl, fun _ => rfl, fun _ _ _ => rfl, rfl, rfl, rfl, rfl⟩
    have hgv : v.GrantsNone := by
      exact hg.of_seats (fun m => by rw [hv, he]; rfl) (fun j => by rw [hv, he]; rfl) (by rw [hv, he]) (by rw [hv, he]; rfl)
    exact State.closeChange_serves ha hgv (by rw [hv]) (by rw [hv]; exact hr)
  have hk := fun z => State.respond_passKept z .done (d v.closeChange)
  rw [State.finish_eq] at hu ⊢
  generalize d v.closeChange = y at hu hk ⊢
  generalize v.closeChange = z at hu hserve ⊢
  obtain ⟨k1, k2⟩ := hk z
  generalize z.respond .done y = t at hu k1 k2 ⊢
  obtain ⟨e1, e2, e3⟩ := hu.time
  have hsame : (∀ i, v.record i = s.record i) ∧ (∀ b, v.bay b = s.bay b) ∧ s.SettingsKept v ∧ s.WindowsKept v ∧ v.clk32 = s.clk32 ∧
      v.keys = s.keys ∧ v.port = s.port ∧ v.clock = c ∧ v.laneWindow = c.windowOpen ∧ s.phase = v.phase ∧
      s.passPending = v.passPending ∧ s.figures = v.figures ∧ (∀ b, s.output b = v.output b) := by
    rw [hv]
    exact ⟨fun _ => rfl, fun _ => rfl, ⟨rfl, rfl, rfl, rfl⟩, ⟨rfl, rfl, rfl, rfl⟩, rfl, rfl, rfl, rfl, rfl, rfl, rfl, rfl, fun _ => rfl⟩
  obtain ⟨h1, h2, h3, h4, h5, h6, h7, h8, h9, h10, h11, h12, h13⟩ := hsame
  have hset := hu.settings
  have hwin := hu.windows
  have hev := hu.events
  constructor
  case clock => exact e1.trans h8
  case window => exact e2.trans h9
  case records =>
    intro i _
    have k := hu.record i
    rwa [h1] at k
  case bays =>
    intro b _
    have k := hu.bay b
    rwa [h2] at k
  case settings => exact ⟨hset.1.trans h3.1, hset.2.1.trans h3.2.1, hset.2.2.1.trans h3.2.2.1, hset.2.2.2.trans h3.2.2.2⟩
  case windows => exact ⟨hwin.1.trans h4.1, hwin.2.1.trans h4.2.1, hwin.2.2.1.trans h4.2.2.1, hwin.2.2.2.trans h4.2.2.2⟩
  case seconds => exact e3.trans h5
  case keys => exact hu.keys.trans h6
  case events =>
    obtain ⟨g1, g2⟩ := hev
    refine ⟨g1.trans (by rw [h7]), fun n => ?_⟩
    have e : v.subjectsOf n = s.subjectsOf n := by
      unfold State.subjectsOf
      rw [h7]
    rw [← e]
    exact g2 n
  case served =>
    intro u he hg hr
    rw [e1, e2, h8, h9] at he
    exact (hserve u he hg hr).of_start h10 h11 h12 (fun b => by rw [h13]) k1 k2

end

end Sys2Proof.Machine
end

section
/-! SUPPORT. The settling of O52, from the operands of SET_TIME and SET_PERIOD (R169, R171). -/

namespace Sys2Proof.Machine

set_option Elab.async false

section
variable {s : State} {v : Half} {f n op : Byte} {m : Minute} {d : Day} {e : PeriodIx} {p : PeriodParams} {k : PeriodKind}

/-! ### SET_TIME -/

theorem setTime_accepted (hv : v.toNat = m.val) (hf : f.toNat = d.val) :
    exec (.setTime v f) s = .next ((s.reclocked (s.clock.set m d)).finish .done fun t => t.clock.image) := by
  refine next_congr ?_
  unfold State.setTime
  rw [minute?_eq_some_iff.mpr hv, show day? f = some d from index?_eq_some_iff.mpr hf]
  rfl

theorem setTime_refused (h : 1440 ≤ v.toNat ∨ 7 ≤ f.toNat) : Replies (.setTime v f) s .outOfRange [] := by
  refine next_congr ?_
  unfold State.setTime
  obtain h | h := h
  · have e : minute? v = none := dif_neg (by omega)
    rw [e]
    rfl
  · rw [show day? f = none from index?_eq_none_iff.mpr h]
    cases minute? v <;> rfl

/-! ### SET_PERIOD -/

theorem periodKind?_eq_some (h : p.kind.toNat = k.ctorIdx) : periodKind? p.kind = some k := by
  unfold periodKind? enum?
  rw [h]
  cases k <;> rfl

/-- A day mask in range names days 0 to 6 alone, at least one (R171, check 3). -/
theorem dayMask?_eq (b : Byte) : dayMask? b = if b = 0 ∨ 128 ≤ b.toNat then none else some (b.extractLsb' 0 7) := by
  have h : b.getLsbD 7 = true ↔ 128 ≤ b.toNat := by
    rw [BitVec.getLsbD, Nat.testBit_eq_decide_div_mod_eq, decide_eq_true_eq]
    have := b.isLt
    omega
  unfold dayMask?
  simp only [h]

theorem periodWrite_accepted (hm : p.minute.toNat = m.val) (hd : p.days ≠ 0) (hb : p.days.toNat < 128)
    (hk : p.kind.toNat = k.ctorIdx) : periodChange 0 (some p) = .ok (some ⟨m, p.days.extractLsb' 0 7, k⟩) := by
  have h : periodWrite p = .ok ⟨m, p.days.extractLsb' 0 7, k⟩ := by
    unfold periodWrite
    rw [periodKind?_eq_some hk, minute?_eq_some_iff.mpr hm, dayMask?_eq, if_neg (by simp only [not_or, not_le]; exact ⟨hd, hb⟩)]
  show (periodWrite p).map some = _
  rw [h]
  rfl

theorem periodWrite_badRequest (hk : 4 ≤ p.kind.toNat) : periodChange 0 (some p) = .error .badRequest := by
  have h : periodWrite p = .error .badRequest := by
    unfold periodWrite
    rw [show periodKind? p.kind = none from enum?_of_ge hk]
  show (periodWrite p).map some = _
  rw [h]
  rfl

theorem periodWrite_outOfRange (hk : p.kind.toNat < 4) (h : 1440 ≤ p.minute.toNat ∨ p.days = 0 ∨ 128 ≤ p.days.toNat) :
    periodChange 0 (some p) = .error .outOfRange := by
  obtain ⟨k, hk⟩ := enum?_of_lt (values := [PeriodKind.deadline, .provOpen, .provClose, .loanDue]) (b := p.kind) hk
  have hw : periodWrite p = .error .outOfRange := by
    unfold periodWrite
    rw [show periodKind? p.kind = some k from hk]
    obtain h | h := h
    · rw [show minute? p.minute = none from dif_neg (by omega)]
    · rw [dayMask?_eq, if_pos h]
      cases minute? p.minute <;> rfl
  show (periodWrite p).map some = _
  rw [hw]
  rfl

/-- An operation that names nothing (R171, check 2). -/
theorem periodChange_badOperation (h : 2 ≤ op.toNat) : periodChange op (some p) = .error .badRequest := by
  have h0 : op ≠ 0 := fun e => by
    subst e
    cases h
  unfold periodChange
  simp only [if_neg h0]
  split
  · rfl
  · rfl

theorem setPeriod_badIndex {x : Option PeriodParams} (h : 16 ≤ n.toNat) : Replies (.setPeriod n op x) s .badIndex [] := by
  refine next_congr ?_
  unfold State.setPeriod
  rw [show periodIx? n = none from index?_eq_none_iff.mpr h]
  rfl

theorem setPeriod_refused {x : Option PeriodParams} {status : Status} (h : n.toNat < 16)
    (hx : periodChange op x = .error status) : Replies (.setPeriod n op x) s status [] := by
  refine next_congr ?_
  unfold State.setPeriod
  rw [show periodIx? n = some ⟨n.toNat, h⟩ from index?_eq_some_iff.mpr rfl]
  simp only [hx]
  rfl

/-- The clock with entry e of its table written and its window recomputed (R171, R173). -/
abbrev DayClock.withPeriod (c : DayClock) (e : PeriodIx) (y : Option PeriodEntry) : DayClock :=
  { c with periods := c.periods.set e.val y }.rewindow

theorem setPeriod_accepted {x : Option PeriodParams} {y : Option PeriodEntry} (hn : n.toNat = e.val)
    (hx : periodChange op x = .ok y) : exec (.setPeriod n op x) s =
      .next ((s.reclocked (s.clock.withPeriod e y)).finish .done fun t => periodBytes (t.period e)) := by
  refine next_congr ?_
  unfold State.setPeriod
  rw [show periodIx? n = some e from index?_eq_some_iff.mpr hn]
  simp only [hx]
  rfl

theorem DayClock.withPeriod_periods (c : DayClock) (e : PeriodIx) (y : Option PeriodEntry) (a : PeriodIx) :
    (c.withPeriod e y).periods[a.val] = if e = a then y else c.periods[a.val] := by
  show (c.periods.set e.val y)[a.val] = _
  rw [Vector.getElem_set]
  simp only [Fin.ext_iff]

theorem State.period_of_clock {t : State} {c : DayClock} {y : Option PeriodEntry} (h : t.clock = c.withPeriod e y) (a : PeriodIx) :
    t.period a = if e = a then y else c.periods[a.val] := by
  unfold State.period
  rw [h]
  exact c.withPeriod_periods e y a

/-- What a SET_PERIOD that is accepted answers and leaves (R171, R173). -/
theorem setPeriod_reclocks {x : Option PeriodParams} {y : Option PeriodEntry} (hn : n.toNat = e.val)
    (hx : periodChange op x = .ok y) : ∃ t, exec (.setPeriod n op x) s = .next t ∧ t.Says .done (periodBytes y) ∧
      s.Reclocks t (s.clock.withPeriod e y) ∧ t.period e = y ∧ ∀ a : PeriodIx, a ≠ e → t.period a = s.period a := by
  obtain ⟨h1, h2⟩ := s.reclocked_reclocks (s.clock.withPeriod e y) fun t => periodBytes (t.period e)
  have hc := State.period_of_clock (State.closeChange_untouched (s.reclocked (s.clock.withPeriod e y))).time.1 e
  rw [if_pos rfl] at hc
  rw [hc] at h2
  have ht := fun a => State.period_of_clock h1.clock a
  exact ⟨_, setPeriod_accepted hn hx, h2, h1, (ht e).trans (if_pos rfl), fun a ha => (ht a).trans (if_neg (Ne.symm ha))⟩

end

/-- Settles O52, by the checks of each request and by the clock it leaves. -/
theorem clockRequestsSetTimeAndPeriods : Obligations.ClockRequestsSetTimeAndPeriods := by
  unfold Obligations.ClockRequestsSetTimeAndPeriods
  refine fun s v f n op m d e p k => ⟨fun hv hf => ?_, fun h => setTime_refused h, fun hn hx => ?_, fun hn ho => ?_,
    fun h => setPeriod_badIndex h, fun h ho => ?_, fun h ho hk hr => ?_⟩
  · obtain ⟨h, hs⟩ := s.reclocked_reclocks (s.clock.set m d) fun t => t.clock.image
    have hc : (s.reclocked (s.clock.set m d)).closeChange.clock = s.clock.set m d :=
      (State.closeChange_untouched (s.reclocked (s.clock.set m d))).time.1
    have he := setTime_accepted (s := s) hv hf
    rw [hc] at hs
    generalize (s.reclocked (s.clock.set m d)).finish .done (fun t => t.clock.image) = t at h hs he
    have hw := DayClock.rewindow_right { s.clock with seconds := 0, minute := m, day := d, timeValid := true }
    have e := h.clock
    rw [← e] at hs
    exact ⟨t, he, hs, congrArg DayClock.minute e, congrArg DayClock.day e, congrArg DayClock.seconds e, congrArg DayClock.timeValid e,
      (congrArg DayClock.periods e).trans rfl, e ▸ hw, h.window.trans (congrArg DayClock.windowOpen e).symm, h.records, h.bays, h.settings, h.windows,
      h.seconds, h.keys, h.events, h.served⟩
  · obtain ⟨rfl, hm, hd, hb, hk⟩ := hx
    obtain ⟨t, ht, hs, h, h1, h2⟩ := setPeriod_reclocks (s := s) hn (periodWrite_accepted hm hd hb hk)
    rw [← h1] at hs
    have hw := DayClock.rewindow_right { s.clock with periods := s.clock.periods.set e.val (some ⟨m, p.days.extractLsb' 0 7, k⟩) }
    have e := h.clock
    exact ⟨t, ht, hs, h1, h2, (congrArg DayClock.minute e).trans rfl, (congrArg DayClock.day e).trans rfl, (congrArg DayClock.seconds e).trans rfl,
      (congrArg DayClock.timeValid e).trans rfl, e ▸ hw, h.window.trans (congrArg DayClock.windowOpen e).symm, h.records, h.bays, h.settings,
      h.windows, h.seconds, h.keys, h.events, h.served⟩
  · subst ho
    obtain ⟨t, ht, hs, h, h1, h2⟩ := setPeriod_reclocks (s := s) (op := 1) (x := none) (y := none) hn rfl
    have hw := DayClock.rewindow_right { s.clock with periods := s.clock.periods.set e.val none }
    exact ⟨t, ht, hs, h1, h2, h.clock ▸ hw, h.window.trans (congrArg DayClock.windowOpen h.clock).symm, h.records, h.bays, h.settings,
      h.windows, h.seconds, h.keys, h.events, h.served⟩
  · obtain ho | ⟨rfl, hk⟩ := ho
    · exact setPeriod_refused h (periodChange_badOperation ho)
    · exact setPeriod_refused h (periodWrite_badRequest hk)
  · subst ho
    exact setPeriod_refused h (periodWrite_outOfRange hk hr)

end Sys2Proof.Machine
end

section
/-! SUPPORT. The settling of O53: what a minute step fires and what the entries that fire leave (R150, R168, R172, R173). -/

namespace Sys2Proof.Machine

set_option Elab.async false

/-! ### The clock moves on -/

theorem DayClock.advance_minute (c : DayClock) : c.advance.minute.val = (c.minute.val + 1) % 1440 := by
  have hm := c.minute.isLt
  unfold DayClock.advance
  by_cases h : c.minute.val + 1 < 1440
  · simp only [dif_pos h]
    omega
  · simp only [dif_neg h]
    have e : c.minute.val + 1 = 1440 := by omega
    rw [e]
    rfl

theorem DayClock.advance_day (c : DayClock) : c.advance.day.val = (c.day.val + (c.minute.val + 1) / 1440) % 7 := by
  have hm := c.minute.isLt
  have hd := c.day.isLt
  unfold DayClock.advance
  by_cases h : c.minute.val + 1 < 1440
  · simp only [if_pos h]
    omega
  · simp only [if_neg h]
    by_cases g : c.day.val + 1 < 7
    · simp only [dif_pos g]
      omega
    · simp only [dif_neg g]
      have e : (c.day.val + (c.minute.val + 1) / 1440) = 7 := by omega
      rw [e]
      rfl

theorem DayClock.advance_rest (c : DayClock) : c.advance.seconds = 0 ∧ c.advance.timeValid = c.timeValid ∧
    c.advance.periods = c.periods ∧ c.advance.windowOpen = c.windowOpen := ⟨rfl, rfl, rfl, rfl⟩

/-! ### The entries that fire -/

section
variable {s t u : State} {e : PeriodIx} {k : PeriodKind} {fired : List (PeriodIx × PeriodKind)}

theorem State.mem_firing : (e, k) ∈ s.firing ↔ s.clock.timeValid = true ∧ ∃ x : PeriodEntry, s.period e = some x ∧ x.kind = k ∧
    x.minute.val = s.clock.minute.val ∧ x.days.getLsbD s.clock.day.val = true := by
  unfold State.firing
  cases hv : s.clock.timeValid with
  | false => simp
  | true =>
    simp only [if_true, List.mem_filterMap, allPeriods, List.mem_finRange, true_and]
    constructor
    · rintro ⟨a, ha⟩
      cases hp : s.period a with
      | none => simp [hp] at ha
      | some x =>
        by_cases ho : x.occursAt s.clock.minute.val s.clock.day.val = true
        · simp only [hp, ho, if_true, Option.some.injEq, Prod.mk.injEq] at ha
          obtain ⟨rfl, rfl⟩ := ha
          exact ⟨x, hp, rfl, by simpa [PeriodEntry.occursAt] using ho⟩
        · simp [hp, ho] at ha
    · rintro ⟨x, hp, rfl, ho⟩
      refine ⟨e, ?_⟩
      have ho' : x.occursAt s.clock.minute.val s.clock.day.val = true := by simpa [PeriodEntry.occursAt] using ho
      simp [hp, ho']

theorem firesKind_iff : firesKind fired k = true ↔ ∃ e, (e, k) ∈ fired := by
  unfold firesKind
  simp only [List.any_eq_true, beq_iff_eq, Prod.exists]
  exact ⟨fun ⟨e, _, h, rfl⟩ => ⟨e, h⟩, fun ⟨e, h⟩ => ⟨e, k, h, rfl⟩⟩

/-! ### Subjects of the entries that fire -/

/-- The port alone may differ, and no subject is gone. -/
structure State.Notes (s t : State) : Prop where
  only : t = { s with port := t.port }
  response : t.port.response = s.port.response
  events : s.EventsGrow t

theorem State.Notes.refl (s : State) : s.Notes s := ⟨rfl, rfl, (State.Untouched.refl s).events⟩

theorem State.addSubject_notes (s : State) (n : SourceNo) (m : Nat) : s.Notes (s.addSubject n m) :=
  ⟨rfl, rfl, (State.addSubject_untouched s n m).events⟩

theorem State.EventsGrow.trans (h : s.EventsGrow t) (g : t.EventsGrow u) : s.EventsGrow u := by
  obtain ⟨h1, h2⟩ := h
  obtain ⟨g1, g2⟩ := g
  refine ⟨g1.trans h1, fun n => ?_⟩
  rw [← h2 n, BitVec.and_assoc, g2 n]

theorem State.Notes.trans (h : s.Notes t) (g : t.Notes u) : s.Notes u := by
  refine ⟨?_, g.response.trans h.response, h.events.trans g.events⟩
  rw [g.only, h.only]

/-- The boundaries of a step, a subject each (R172). -/
def State.bound (s : State) (fired : List (PeriodIx × PeriodKind)) : State :=
  fired.foldl (fun t x => t.addSubject Source.boundary x.1.val) s

theorem State.bound_notes (l : List (PeriodIx × PeriodKind)) : ∀ s : State, s.Notes (s.bound l) ∧
    ∀ x ∈ l, (s.bound l).Holds Source.boundary x.1.val := by
  induction l with
  | nil => exact fun s => ⟨.refl s, nofun⟩
  | cons x l ih =>
    intro s
    have h1 := s.addSubject_notes Source.boundary x.1.val
    have h2 : (s.addSubject Source.boundary x.1.val).Holds Source.boundary x.1.val := State.addSubject_holds _ _ (by omega)
    have e : s.bound (x :: l) = (s.addSubject Source.boundary x.1.val).bound l := rfl
    rw [e]
    generalize s.addSubject Source.boundary x.1.val = w at h1 h2
    obtain ⟨g1, g2⟩ := ih w
    refine ⟨h1.trans g1, fun y hy => ?_⟩
    obtain rfl | hy := List.mem_cons.mp hy
    · exact g1.events.holds h2
    · exact g2 y hy

/-! ### Loans that fall due -/

/-- A record as a LOAN_DUE leaves it (R150). -/
def Record.fallDue (r : Record) : Record := if r.custody = .loaned then { r with custody := .overdue } else r

theorem Record.fallDue_of_not_loaned {r : Record} (h : r.custody ≠ .loaned) : r.fallDue = r := if_neg h

theorem Record.fallDue_fallDue (r : Record) : r.fallDue.fallDue = r.fallDue := by
  refine Record.fallDue_of_not_loaned fun h => ?_
  unfold Record.fallDue at h
  split at h
  · cases h
  · next g => exact g h

/-- What LOAN_DUE leaves of the records of a list (R150). -/
structure State.FallsDue (s t : State) (l : List RecordIx) : Prop where
  only : t = { s with roster := t.roster, port := t.port }
  record : ∀ i, t.record i = if i ∈ l then (s.record i).fallDue else s.record i
  events : s.EventsGrow t
  subjects : ∀ i ∈ l, (s.record i).custody = .loaned → t.Holds Source.overdue i.val

theorem State.overdueRecord_fallsDue (s : State) (i : RecordIx) : s.FallsDue (s.overdueRecord i) [i] := by
  unfold State.overdueRecord
  split
  · next h =>
    refine ⟨rfl, fun j => ?_, (State.addSubject_untouched _ _ _).events, fun j hj _ => ?_⟩
    · refine (State.record_editRecord s i j fun r => { r with custody := .overdue }).trans ?_
      by_cases e : i = j
      · subst e
        rw [if_pos rfl, if_pos List.mem_cons_self]
        exact (if_pos h).symm
      · rw [if_neg e, if_neg fun g => e (List.mem_singleton.mp g).symm]
    · rw [List.mem_singleton.mp hj]
      exact State.addSubject_holds _ _ (by omega)
  · next h =>
    refine ⟨rfl, fun j => ?_, (State.Untouched.refl s).events, fun j hj g => ?_⟩
    · split
      · next hj =>
        rw [List.mem_singleton.mp hj]
        exact (Record.fallDue_of_not_loaned h).symm
      · rfl
    · rw [List.mem_singleton.mp hj] at g
      exact absurd g h

theorem State.FallsDue.trans {l m : List RecordIx} (h : s.FallsDue t l) (g : t.FallsDue u m) : s.FallsDue u (l ++ m) where
  only := by rw [g.only, h.only]
  record i := by
    rw [g.record, h.record]
    by_cases hl : i ∈ l <;> by_cases hm : i ∈ m <;> simp [hl, hm, Record.fallDue_fallDue]
  events := h.events.trans g.events
  subjects i hi hc := by
    by_cases hl : i ∈ l
    · exact g.events.holds (h.subjects i hl hc)
    · refine g.subjects i ((List.mem_append.mp hi).resolve_left hl) ?_
      rw [h.record, if_neg hl]
      exact hc

theorem State.overdue_fallsDue (l : List RecordIx) : ∀ s : State, s.FallsDue (l.foldl State.overdueRecord s) l := by
  induction l with
  | nil => exact fun s => ⟨rfl, fun _ => (if_neg nofun).symm, (State.Untouched.refl s).events, nofun⟩
  | cons i l ih => exact fun s => (s.overdueRecord_fallsDue i).trans (ih _)

/-! ### A step that fires -/

/-- What the entries that fire write, before the change closes (R172, R173). -/
structure State.Fires (s t : State) (fired : List (PeriodIx × PeriodKind)) : Prop where
  only : t = { s with
    roster := t.roster, port := t.port, clock := { s.clock with windowOpen := windowAfter fired s.clock.windowOpen }
    laneWindow := windowAfter fired s.clock.windowOpen, reallocRequest := t.reallocRequest }
  record : ∀ i, t.record i = if firesKind fired .loanDue then (s.record i).fallDue else s.record i
  boundary : ∀ x ∈ fired, t.Holds Source.boundary x.1.val
  overdue : ∀ i, firesKind fired .loanDue = true → (s.record i).custody = .loaned → t.Holds Source.overdue i.val
  request : firesKind fired .deadline = true → t.reallocRequest = true
  events : s.EventsGrow t

theorem State.fire_fires (s : State) (fired : List (PeriodIx × PeriodKind)) : s.Fires (s.fire fired) fired := by
  obtain ⟨h1, h2⟩ := s.bound_notes fired
  have e : s.fire fired = (if firesKind fired .loanDue then allRecords.foldl State.overdueRecord (State.handWindow { s.bound fired with
      clock := { (s.bound fired).clock with windowOpen := windowAfter fired (s.bound fired).clock.windowOpen } })
    else State.handWindow { s.bound fired with
      clock := { (s.bound fired).clock with windowOpen := windowAfter fired (s.bound fired).clock.windowOpen } }).requestPassIf
        (firesKind fired .deadline) := rfl
  rw [e]
  generalize s.bound fired = v at h1 h2
  have hw : State.handWindow { v with clock := { v.clock with windowOpen := windowAfter fired v.clock.windowOpen } } = { v with
      clock := { v.clock with windowOpen := windowAfter fired v.clock.windowOpen }
      laneWindow := windowAfter fired v.clock.windowOpen } := rfl
  have hwe : v.EventsGrow (State.handWindow { v with clock := { v.clock with windowOpen := windowAfter fired v.clock.windowOpen } }) :=
    ⟨rfl, fun _ => BitVec.and_self⟩
  generalize State.handWindow { v with clock := { v.clock with windowOpen := windowAfter fired v.clock.windowOpen } } = w at hw hwe
  have hx : ∃ x, (if firesKind fired .loanDue then allRecords.foldl State.overdueRecord w else w) = x ∧
      w.FallsDue x (if firesKind fired .loanDue then allRecords else []) := by
    refine ⟨_, rfl, ?_⟩
    split
    · exact State.overdue_fallsDue allRecords w
    · exact State.overdue_fallsDue [] w
  obtain ⟨x, hx, hf⟩ := hx
  rw [hx]
  have hr := x.requestPassIf_only (firesKind fired .deadline)
  have hq : firesKind fired .deadline = true → (x.requestPassIf (firesKind fired .deadline)).reallocRequest = true := fun k => by
    rw [k]
    rfl
  have hxe : x.EventsGrow (x.requestPassIf (firesKind fired .deadline)) := (x.requestPassIf_untouched _).events
  generalize x.requestPassIf (firesKind fired .deadline) = t at hr hq hxe
  have hc : v.clock = s.clock := by rw [h1.only]
  have hxt := (hwe.trans hf.events).trans hxe
  constructor
  case only =>
    rw [hr, hf.only, hw, hc, h1.only]
  case record =>
    intro i
    have k1 : t.record i = x.record i := by rw [hr]; rfl
    have k2 : w.record i = s.record i := by rw [hw, h1.only]; rfl
    rw [k1, hf.record, k2]
    cases firesKind fired .loanDue with
    | true => exact if_pos (List.mem_finRange i)
    | false => rfl
  case boundary => exact fun y hy => hxt.holds (h2 y hy)
  case overdue =>
    intro i k hl
    have k2 : w.record i = s.record i := by rw [hw, h1.only]; rfl
    refine hxe.holds (hf.subjects i ?_ (by rw [k2]; exact hl))
    rw [if_pos k]
    exact List.mem_finRange i
  case request => exact hq
  case events => exact h1.events.trans hxt

end

end Sys2Proof.Machine
end

section
/-! SUPPORT. The settling of O53: the minute step closed, with the pass that a DEADLINE asks for (R168, R172, R173, R176). -/

namespace Sys2Proof.Machine

set_option Elab.async false

section
variable {s t u v : State} {fired : List (PeriodIx × PeriodKind)}

/-! ### The window after a step -/

theorem windowAfter_of_close (h : firesKind fired .provClose = true) (o : Bool) : windowAfter fired o = false := if_pos h

theorem windowAfter_of_open (h : firesKind fired .provClose = false) (g : firesKind fired .provOpen = true) (o : Bool) :
    windowAfter fired o = true := by
  unfold windowAfter
  rw [h, g]
  rfl

theorem windowAfter_of_neither (h : firesKind fired .provClose = false) (g : firesKind fired .provOpen = false) (o : Bool) :
    windowAfter fired o = o := by
  unfold windowAfter
  rw [h, g]
  rfl

/-! ### The lanes and the queue of a step -/

/-- A record that falls due waits for no lane, before or after (R110, R150). -/
theorem State.eligible_of_fallDue (hl : v.lanes = u.lanes) {i : RecordIx} (hr : v.record i = (u.record i).fallDue) :
    v.eligible i = u.eligible i := by
  have ho : v.laneOf i = u.laneOf i := by
    unfold State.laneOf State.lane
    rw [hl]
  unfold State.eligible
  rw [hr, ho]
  by_cases h : (u.record i).custody = .loaned
  · have e : (u.record i).fallDue.custody = .overdue := congrArg Record.custody (if_pos h)
    simp only [h, e]
    rfl
  · rw [Record.fallDue_of_not_loaned h]

theorem State.GrantsNone.of_eligible (h : u.GrantsNone) (hl : v.lanes = u.lanes) (he : ∀ i, v.eligible i = u.eligible i)
    (hq : v.queue = u.queue) (hp : v.grantsPermitted = u.grantsPermitted) : v.GrantsNone := by
  obtain h | ⟨⟨h1, h2⟩, h3⟩ := h
  · exact .inl (hp.trans h)
  · refine .inr ⟨⟨hq ▸ h1, fun i => ?_⟩, fun g1 g2 => ?_⟩
    · rw [hq, he]
      exact h2 i
    · rw [hq]
      refine h3 (hp.symm.trans g1) ?_
      obtain ⟨m, hm⟩ := g2
      exact ⟨m, by rwa [State.lane_congr hl] at hm⟩

/-- A bay names no record on loan where the custody laws hold (R4). -/
theorem State.Inv.not_loaned (h : s.Inv) {b : BayNo} {i : RecordIx} (hb : (s.bay b).record = some i) :
    (s.record i).custody ≠ .loaned := by
  obtain ⟨⟨⟨hn, -⟩, hp, -⟩, -⟩ := h
  intro hc
  have k := hp i
  unfold Record.PresenceLaw at k
  rw [hc] at k
  obtain ⟨k, -⟩ := k
  rw [(hn i b).mpr hb] at k
  cases k

/-! ### The step -/

/-- The clock after a step that fired these entries (R168, R173). -/
abbrev DayClock.stepped (c : DayClock) (fired : List (PeriodIx × PeriodKind)) : DayClock :=
  { c.advance with windowOpen := windowAfter fired c.windowOpen }

/-- What a minute step that fires leaves. -/
structure State.StepsMinute (s t : State) (fired : List (PeriodIx × PeriodKind)) : Prop where
  clock : t.clock = s.clock.stepped fired
  window : t.laneWindow = windowAfter fired s.clock.windowOpen
  boundary : ∀ x ∈ fired, t.Holds Source.boundary x.1.val
  overdue : ∀ i, firesKind fired .loanDue = true → (s.record i).custody = .loaned → t.Holds Source.overdue i.val
  record : ∀ i, (if firesKind fired .loanDue then (s.record i).fallDue else s.record i).SameButUnsecured (t.record i)
  bays : s.BaysKept t []
  settings : s.SettingsKept t
  windows : s.WindowsKept t
  seconds : t.clk32 = s.clk32
  keys : t.keys = s.keys
  events : s.EventsGrow t
  served : firesKind fired .deadline = true → firesKind fired .loanDue = false ∨ s.Inv → s.ClockRequestServed t

theorem State.fire_steps (s : State) (fired : List (PeriodIx × PeriodKind)) :
    s.StepsMinute ((State.fire { s with clock := s.clock.advance } fired).closeChange) fired := by
  have hf := State.fire_fires { s with clock := s.clock.advance } fired
  have hrec0 : ∀ i, State.record { s with clock := s.clock.advance } i = s.record i := fun _ => rfl
  generalize State.fire { s with clock := s.clock.advance } fired = v at hf ⊢
  have hv : v = { s with
    roster := v.roster, port := v.port, clock := s.clock.stepped fired, laneWindow := windowAfter fired s.clock.windowOpen
    reallocRequest := v.reallocRequest } := hf.only
  have hr := fun i => (hf.record i).trans (by rw [hrec0])
  have hu := v.closeChange_untouched
  have hb : ∀ b, v.bay b = s.bay b := fun b => by rw [hv]; rfl
  have hsame : s.SettingsKept v ∧ s.WindowsKept v ∧ v.clk32 = s.clk32 ∧ v.keys = s.keys ∧ v.clock = s.clock.stepped fired ∧
      v.laneWindow = windowAfter fired s.clock.windowOpen ∧ v.lanes = s.lanes ∧ v.queue = s.queue := by
    rw [hv]
    exact ⟨⟨rfl, rfl, rfl, rfl⟩, ⟨rfl, rfl, rfl, rfl⟩, rfl, rfl, rfl, rfl, rfl, rfl⟩
  obtain ⟨h1, h2, h3, h4, h5, h6, h7, h8⟩ := hsame
  have hserve : firesKind fired .deadline = true → firesKind fired .loanDue = false ∨ s.Inv → ∀ x : State,
      x = { s with clock := v.clock, laneWindow := v.laneWindow } → x.GrantsNone → s.reservations = [] →
      v.RequestServed x v.closeChange := fun hd hi x hx hg he => by
    have hxr : ∀ i, x.record i = s.record i := fun i => by rw [hx]; rfl
    have hxl : v.lanes = x.lanes := by rw [hx, h7]
    have hgv : v.GrantsNone := by
      refine hg.of_eligible hxl (fun i => ?_) (by rw [hx, h8]) ?_
      · cases hq : firesKind fired .loanDue with
        | true => exact State.eligible_of_fallDue hxl (by rw [hr, hq, hxr]; rfl)
        | false =>
          unfold State.eligible State.laneOf State.lane
          rw [hr, hq, hxr, hxl]
          rfl
      · rw [hx]
        unfold State.grantsPermitted
        rw [h1.2.2.1]
    have ha : x.PassAlike v := by
      refine ⟨fun b => ?_, fun b => ?_, fun b => ?_, fun b i hbi => ?_, ?_, ?_, ?_, ?_⟩
      · rw [hb, hx]
        rfl
      · rw [hb, hx]
        rfl
      · rw [hx, hv]
        rfl
      · rw [hr, hxr]
        have hbi' : (s.bay b).record = some i := by
          rw [hx] at hbi
          exact hbi
        obtain hq | hi := hi
        · rw [hq]
          rfl
        · split
          · exact Record.fallDue_of_not_loaned (hi.not_loaned hbi')
          · rfl
      · rw [hx]
        exact h1.2.1
      · rw [hx]
      · rw [hx, hv]
      · rw [hx, hv]
    exact State.closeChange_serves ha hgv (hf.request hd) (by rw [hv]; exact he)
  generalize v.closeChange = t at hu hserve ⊢
  obtain ⟨e1, e2, e3⟩ := hu.time
  have hset := hu.settings
  have hwin := hu.windows
  constructor
  case clock => exact e1.trans h5
  case window => exact e2.trans h6
  case boundary => exact fun x hx => hu.events.holds (hf.boundary x hx)
  case overdue => exact fun i hi hl => hu.events.holds (hf.overdue i hi hl)
  case record =>
    intro i
    have k := hu.record i
    rwa [hr] at k
  case bays =>
    intro b _
    have k := hu.bay b
    rwa [hb] at k
  case settings => exact ⟨hset.1.trans h1.1, hset.2.1.trans h1.2.1, hset.2.2.1.trans h1.2.2.1, hset.2.2.2.trans h1.2.2.2⟩
  case windows => exact ⟨hwin.1.trans h2.1, hwin.2.1.trans h2.2.1, hwin.2.2.1.trans h2.2.2.1, hwin.2.2.2.trans h2.2.2.2⟩
  case seconds => exact e3.trans h3
  case keys => exact hu.keys.trans h4
  case events => exact hf.events.trans hu.events
  case served =>
    intro hd hi x hx hg he
    rw [e1, e2] at hx
    refine (hserve hd hi x hx hg he).of_start ?_ ?_ ?_ (fun b => ?_) (.refl _) rfl
    all_goals rw [hv]
    rfl

end

/-- Settles O53, by whether the step fires an entry. -/
theorem minuteStepsFireTheirEntries : Obligations.MinuteStepsFireTheirEntries := by
  unfold Obligations.MinuteStepsFireTheirEntries
  refine ⟨fun s h => ?_, fun s h => ?_, fun s h => if_neg h, fun s fires minute day h hm hd hf => ?_⟩
  · have h' : s.clock.seconds.val + 1 < 60 := by omega
    exact ⟨_, dif_pos h', rfl, rfl⟩
  · have h' : ¬s.clock.seconds.val + 1 < 60 := by
      rw [h]
      decide
    exact (dif_neg h').trans (if_pos h).symm
  · have hmin : s.clock.advance.minute.val = minute := (DayClock.advance_minute _).trans hm.symm
    have hday : s.clock.advance.day.val = day := (DayClock.advance_day _).trans hd.symm
    have hfire : ∀ e k, (e, k) ∈ State.firing { s with clock := s.clock.advance } ↔ fires e k := fun e k => by
      rw [State.mem_firing, hf, hmin.symm, hday.symm]
      rfl
    have hstep : exec .minuteStep s = .next s.minuteStep := if_pos h
    have hfs := s.fire_steps (State.firing { s with clock := s.clock.advance })
    have hstepped : s.minuteStep = if (State.firing { s with clock := s.clock.advance }).isEmpty then { s with clock := s.clock.advance }
      else (State.fire { s with clock := s.clock.advance } (State.firing { s with clock := s.clock.advance })).closeChange := rfl
    generalize State.firing { s with clock := s.clock.advance } = fired at hfire hfs hstepped
    have hkind : ∀ k, firesKind fired k = true ↔ ∃ e, fires e k := fun k => by
      rw [firesKind_iff]
      exact exists_congr fun e => hfire e k
    have hnone : ∀ k, (∀ e, ¬fires e k) → firesKind fired k = false := fun k g => by
      rw [Bool.eq_false_iff]
      intro q
      obtain ⟨e, he⟩ := (hkind k).mp q
      exact g e he
    obtain ⟨a1, a2, a3, a4⟩ := s.clock.advance_rest
    rw [hstep, hstepped]
    cases fired with
    | nil =>
      have hno : ∀ e k, ¬fires e k := fun e k g => List.not_mem_nil ((hfire e k).mpr g)
      refine ⟨_, rfl, hmin, hday, a1, a2, a3, rfl, fun _ => rfl, fun e k g => absurd g (hno e k), fun ⟨e, g⟩ => absurd g (hno e _),
        fun ⟨e, g⟩ => absurd g (hno e _), fun _ _ => a4, ?_, fun i ⟨e, g⟩ => absurd g (hno e _), fun _ _ => rfl, fun _ _ => rfl,
        ⟨rfl, rfl, rfl, rfl⟩, ⟨rfl, rfl, rfl, rfl⟩, rfl, ⟨rfl, fun _ => BitVec.and_self⟩, fun ⟨e, g⟩ => absurd g (hno e _)⟩
      rintro (⟨e, k, g⟩ | g)
      · exact absurd g (hno e k)
      · exact g
    | cons x l =>
      rw [if_neg (by simp)]
      generalize State.closeChange _ = t at hfs ⊢
      have hc := hfs.clock
      refine ⟨t, rfl, ?_, ?_, ?_, ?_, ?_, hfs.seconds, fun g => ?_, fun e k g => hfs.boundary _ ((hfire e k).mpr g), fun g => ?_,
        fun g1 g2 => ?_, fun g1 g2 => ?_, fun _ => ?_, fun i g1 g2 => ⟨hfs.overdue i ((hkind _).mpr g1) g2, ?_⟩, fun i g => ?_,
        hfs.bays, hfs.settings, hfs.windows, hfs.keys, hfs.events, fun g1 g2 => hfs.served ((hkind _).mpr g1) (g2.imp (hnone _) id)⟩
      · rw [hc]; exact hmin
      · rw [hc]; exact hday
      · rw [hc]; exact a1
      · rw [hc]; exact a2
      · rw [hc]; exact a3
      · exact absurd ((hfire x.1 x.2).mp List.mem_cons_self) (g x.1 x.2)
      · rw [hc]; exact windowAfter_of_close ((hkind _).mpr g) _
      · rw [hc]; exact windowAfter_of_open (hnone _ g2) ((hkind _).mpr g1) _
      · rw [hc]; exact windowAfter_of_neither (hnone _ g2) (hnone _ g1) _
      · rw [hfs.window, hc]
      · have k := hfs.record i
        rw [if_pos ((hkind _).mpr g1)] at k
        have e : (s.record i).fallDue = { s.record i with custody := .overdue } := if_pos g2
        rwa [e] at k
      · have k := hfs.record i
        obtain g | g := g
        · rw [if_neg (by rw [hnone _ g]; nofun)] at k
          exact k
        · split at k
          · rwa [Record.fallDue_of_not_loaned g] at k
          · exact k

end Sys2Proof.Machine
end

section
/-! SUPPORT. The settling of O40: the grants of a pass, and the requests and reports that take one (R75 to R78, R85, R88). -/

namespace Sys2Proof.Machine

set_option Elab.async false

section
variable {s t u v : State} {b : BayNo} {i : RecordIx} {n f new : Byte} {p : TelemetryReply}

/-! ### The grants -/

/-- A bay of full class or of floor class is a bay of the pass (R79). -/
theorem State.passBay_of_class (h : s.disposition b = .full ∨ s.disposition b = .floor) : ∃ x, s.passBay b = some x := by
  obtain h | h := h
  · have hd := h
    unfold State.disposition at hd
    have hr : ∃ i, (s.bay b).record = some i ∧ dispositionOfRecord (s.entry b).hot s.budget.deliveryK (s.record i) = .full := by
      split at hd
      case h_7 =>
        split at hd
        · next i hi => exact ⟨i, hi, hd⟩
        · cases hd
      case h_5 => split at hd <;> cases hd
      case h_6 => split at hd <;> cases hd
      all_goals cases hd
    obtain ⟨i, hi, hf⟩ := hr
    have hc : ∃ c, (s.record i).chargeFields = some c := by
      cases hc : (s.record i).chargeFields with
      | some c => exact ⟨c, rfl⟩
      | none =>
        unfold dispositionOfRecord at hf
        rw [hc] at hf
        split at hf
        · cases hf
        · split at hf
          · cases hf
          · split at hf <;> cases hf
    obtain ⟨⟨x, y, z⟩, hc⟩ := hc
    unfold State.passBay
    simp only [h, hi, hc]
    exact ⟨_, rfl⟩
  · unfold State.passBay
    simp only [h]
    exact ⟨_, rfl⟩

theorem State.passRanked_length (s : State) : s.passRanked.length = s.passBays.length := (rankBays_perm s.passBays).length_eq

/-- The limit and the grant of a bay of the pass (R80, R88). -/
theorem State.takePass_granted (h : s.disposition b = .full ∨ s.disposition b = .floor) :
    (∃ a : Nat, (s.takePass.entry b).limit = some a ∧ (s.takePass.bay b).grant ≤ a) ∧
      (s.takePass.figures.count * s.budget.floorF ≤ s.takePass.figures.budget → s.budget.floorF ≤ (s.takePass.bay b).grant) := by
  obtain ⟨x, hx⟩ := State.passBay_of_class h
  have hl : (s.takePass.entry b).limit = some x.limit := by
    rw [s.takePass_entry, hx]
    obtain h | h := h <;> rw [h]
    all_goals rfl
  obtain ⟨g1, g2⟩ := mem_share s.passRanked_inOrder (s.takePass_grant_mem hx)
  refine ⟨⟨x.limit, hl, g1⟩, fun hb => g2 ?_⟩
  rw [s.takePass_figures] at hb
  rw [s.passRanked_length]
  exact hb

theorem State.takePass_sum (s : State) :
    (allBays.map fun b => (s.takePass.bay b).grant).sum ≤ s.takePass.figures.budget ∧
    (s.takePass.figures.result = .scaled → (allBays.map fun b => (s.takePass.bay b).grant).sum = s.takePass.figures.budget) ∧
    (s.takePass.figures.result = .floorsShort →
      (allBays.map fun b => (s.takePass.bay b).grant).sum ≤ s.takePass.figures.budget / s.budget.floorF * s.budget.floorF) := by
  rw [s.sum_grants, s.takePass_figures]
  exact ⟨grantSum_share_le s.passRanked_inOrder, fun h => grantSum_share_of_scaled s.passRanked_inOrder h,
    fun h => grantSum_share_of_floorsShort h⟩

/-! ### A request served -/

/-- A command that writes record i as r and asks for a pass (R75, R76). -/
theorem State.RequestServed.written {r : Record} {x : Status} {d : State → List Byte} (hu : u = s.putRecord i r) (hg : u.GrantsNone)
    (he : s.reservations = []) : s.RequestServed u (u.requestPass.finish x d) := by
  have hr : (u.requestPass).RequestServed u u.requestPass.closeChange :=
    State.closeChange_serves ⟨fun _ => rfl, fun _ => rfl, fun _ => rfl, fun _ _ _ => rfl, rfl, rfl, rfl, rfl⟩
      (hg.of_seats (fun _ => rfl) (fun _ => rfl) rfl rfl) rfl (by rw [hu]; exact he)
  have hsame : s.phase = u.requestPass.phase ∧ s.passPending = u.requestPass.passPending ∧ s.figures = u.requestPass.figures ∧
      ∀ b, (s.output b).inMotion = (u.requestPass.output b).inMotion := by
    rw [hu]
    exact ⟨rfl, rfl, rfl, fun _ => rfl⟩
  obtain ⟨h1, h2, h3, h4⟩ := hsame
  rw [State.finish_eq]
  generalize d u.requestPass.closeChange = y
  generalize u.requestPass.closeChange = z at hr ⊢
  obtain ⟨k1, k2⟩ := z.respond_passKept x y
  exact hr.of_start h1 h2 h3 h4 k1 k2

/-- AMEND of a field whose write asks for a pass (R18, R76). -/
theorem amend_eq {v : Option Half} {a : AmendField} {w : Record → Record} (hi : n.toNat = i.val)
    (hc : (s.record i).custody ≠ .free) (ha : amendField? f = some a) (hw : s.amendment a v = some w) (hh : a ≠ .holder)
    (hb : a ≠ .homeBay) : s.amend n f v = ((s.putRecord i (w (s.record i))).requestPassIf a.reallocates).finish .done fun _ => [] :=
  State.amend_writes hi hc ha hw (fun g => absurd g hh) (writeField_of_ne hb i w)

theorem flagsReallocate_of_changed {old : Byte}
    (h : new.getLsbD 0 ≠ old.getLsbD 0 ∨ new.getLsbD 1 ≠ old.getLsbD 1) : flagsReallocate old new = true := by
  unfold flagsReallocate
  rw [Bool.or_eq_true, bne_iff_ne, bne_iff_ne]
  exact h.imp Ne.symm Ne.symm

/-! ### TELEMETRY -/

/-- The bay's entry with the hot mark that a TELEMETRY leaves (R74). -/
abbrev AllocEntry.withHot (e : AllocEntry) (hot : Bool) : AllocEntry := { e with hot := hot }

theorem AllocEntry.callsPass_iff (e : AllocEntry) (t : Telemetry) : e.callsPass t = true ↔
    (∀ x ∈ e.chargeSeen, x + 10 ≤ t.charge ∨ t.charge + 10 ≤ x) ∨
      e.bandSeen ≠ some (if 45 ≤ t.temperature then .derated else .normal) ∨ hotAfter e.hot t.temperature ≠ e.hot := by
  have hb : bandOf (some t.temperature) = if 45 ≤ t.temperature then .derated else .normal := rfl
  have hc : chargeMoved e.chargeSeen t.charge = true ↔ ∀ x ∈ e.chargeSeen, x + 10 ≤ t.charge ∨ t.charge + 10 ≤ x := by
    cases e.chargeSeen with
    | none => simp [chargeMoved]
    | some c => simp [chargeMoved]
  unfold AllocEntry.callsPass
  rw [Bool.or_eq_true, Bool.or_eq_true, hc, hb, bne_iff_ne, bne_iff_ne, or_assoc]

/-- The record and the entry that a TELEMETRY leaves, where the bay names a record (R5, R74). -/
theorem State.telemetered_alike (hb : (s.bay b).record = some i)
    (hu : u = (s.putRecord i ((s.record i).withTelemetry p)).setEntry b ((s.entry b).withHot
      (hotAfter (s.entry b).hot (max (-20) (min 85 p.temperature.toInt))))) :
    u.PassAlike (s.telemetered b p) ∧ (u.GrantsNone → (s.telemetered b p).GrantsNone) := by
  have hv := State.telemetered_of_some (p := p) hb
  rw [State.requestPassIf_only] at hv
  generalize s.telemetered b p = v at hv ⊢
  have hx : v = { u with links := v.links, reallocRequest := v.reallocRequest } := by
    rw [hv, hu]
    rfl
  generalize v.links = k at hx
  generalize v.reallocRequest = r at hx
  subst hx
  exact ⟨⟨fun _ => rfl, fun _ => rfl, fun _ => rfl, fun _ _ _ => rfl, rfl, rfl, rfl, rfl⟩,
    fun hg => hg.of_seats (fun _ => rfl) (fun _ => rfl) rfl rfl⟩

/-- The request that a TELEMETRY raises stands where the change closes (R77). -/
theorem State.telemetered_request (hb : (s.bay b).record = some i) : (s.telemetered b p).reallocRequest =
    (s.reallocRequest || (s.entry b).callsPass (Telemetry.ofReply p)) := by
  rw [State.telemetered_of_some hb]
  unfold State.requestPassIf
  cases (s.entry b).callsPass (Telemetry.ofReply p) with
  | true => exact (Bool.or_true _).symm
  | false => exact (Bool.or_false _).symm

theorem telemetry_eq (hx : (s.link b).exchange = some .query) (hv : (s.link b).verify = false) :
    exec (.telemetryTaken b p) s = .next ((s.telemetered b p).closeChange.pumpLink b) := by
  have hv' : ((s.telemetered b p).link b).verify = false := by
    rw [State.telemetered_link]
    exact hv
  rw [execTelemetryTaken_of_query hx, State.telemetryTaken_eq, State.answerVerify_of_none hv']

/-- A TELEMETRY that passes the test takes a pass, one that does not takes none (R77). -/
theorem telemetry_serves (hx : (s.link b).exchange = some .query) (hv : (s.link b).verify = false) (hb : (s.bay b).record = some i)
    (hu : u = (s.putRecord i ((s.record i).withTelemetry p)).setEntry b ((s.entry b).withHot
      (hotAfter (s.entry b).hot (max (-20) (min 85 p.temperature.toInt))))) (hg : u.GrantsNone) (he : s.reservations = []) :
    ((s.entry b).callsPass (Telemetry.ofReply p) = true → ∃ t, exec (.telemetryTaken b p) s = .next t ∧ s.RequestServed u t) ∧
      ((s.entry b).callsPass (Telemetry.ofReply p) = false → s.reallocRequest = false →
        (s.phase = .idle ∨ ∃ c : BayNo, (s.output c).inMotion = true) →
        ∃ t, exec (.telemetryTaken b p) s = .next t ∧ t.figures = s.figures ∧ t.passPending = s.passPending ∧
          t.phase = s.phase) := by
  obtain ⟨ha, hgv⟩ := State.telemetered_alike hb hu
  have hq := State.telemetered_request (p := p) hb
  have ho := s.telemetered_only b p
  have hex := telemetry_eq (p := p) hx hv
  generalize s.telemetered b p = v at ha hgv hq ho hex
  have hsame : s.phase = v.phase ∧ s.passPending = v.passPending ∧ s.figures = v.figures ∧ v.reservations = s.reservations ∧
      ∀ c, s.output c = v.output c := by
    rw [ho]
    exact ⟨rfl, rfl, rfl, rfl, fun _ => rfl⟩
  obtain ⟨h1, h2, h3, h4, h5⟩ := hsame
  refine ⟨fun hc => ⟨_, hex, ?_⟩, fun hc hn hi => ⟨_, hex, ?_⟩⟩
  · rw [hc, Bool.or_true] at hq
    have hr := State.closeChange_serves ha (hgv hg) hq (h4.trans he)
    generalize v.closeChange = z at hr ⊢
    obtain ⟨k1, k2⟩ := z.pumpLink_passKept b
    exact hr.of_start h1 h2 h3 (fun c => by rw [h5]) k1 k2
  · rw [hc, hn, Bool.or_false] at hq
    have hi' : v.phase = .idle ∨ v.moving = true := hi.imp (fun e => h1.symm.trans e) fun ⟨c, e⟩ =>
      State.moving_iff.mpr ⟨c, by rw [← h5]; exact e⟩
    obtain ⟨g1, g2⟩ := State.closeChange_rests (hgv hg) hq hi'
    generalize v.closeChange = z at g1 g2 ⊢
    obtain ⟨k1, k2⟩ := z.pumpLink_passKept b
    exact ⟨(k1.figures.trans g1.figures).trans h3.symm, (k1.pending.trans g1.pending).trans h2.symm, (k2.trans g2).trans h1.symm⟩

end

/-- Settles O40, by the sharing out of a pass and by what each request leaves to be served. -/
theorem grantsOfAPassFitTheBudget : Obligations.GrantsOfAPassFitTheBudget := by
  unfold Obligations.GrantsOfAPassFitTheBudget
  refine ⟨?_, fun s u n f new v i c hi hc h hg he => ?_, fun s u b p i charge temp hot hx hv hb hch ht hh hu hg he => ?_⟩
  · rintro s _ rfl
    obtain ⟨h1, h2, h3⟩ := s.takePass_sum
    exact ⟨fun b k1 k2 => s.takePass_grant_of_none (s.passBay_eq_none k1 k2), fun b k => State.takePass_granted k, h1, h2, h3⟩
  · have key : ∀ (r : Record) (d : State → List Byte), u = s.putRecord i r →
        exec c s = .next (((s.putRecord i r).requestPass).finish .done d) → ∃ t, exec c s = .next t ∧ s.RequestServed u t := by
      intro r d hu hex
      have hs := State.RequestServed.written (x := .done) (d := d) hu hg he
      rw [← hu] at hex
      exact ⟨_, hex, hs⟩
    obtain ⟨rfl, h1, h2, hu⟩ | ⟨rfl, hu⟩ | ⟨m, rfl, hm, hu⟩ | ⟨hc', hn, hu⟩ := h
    · refine key _ (fun _ => []) hu (next_congr (amend_eq (a := .target) (w := fun r => { r with target := v.toNat }) hi hc rfl ?_ nofun nofun))
      rw [State.amendment, target?_eq_some_iff.mpr ⟨rfl, h1, h2⟩]
      rfl
    · exact key _ (fun _ => []) hu (next_congr (amend_eq (a := .readyBy) (w := fun r => { r with readyBy := none }) hi hc rfl rfl nofun nofun))
    · refine key _ (fun _ => []) hu (next_congr (amend_eq (a := .readyBy) (w := fun r => { r with readyBy := some m }) hi hc rfl ?_ nofun nofun))
      rw [State.amendment, minute?_eq_some_iff.mpr hm]
      rfl
    · have hex : exec c s = .next ((s.writeFlags i new).finish .done fun _ => [(s.record i).flags]) := by
        obtain ⟨rfl, rfl⟩ | ⟨rfl, rfl⟩ | ⟨rfl, rfl⟩ := hc' <;> exact next_congr (changeFlags_accepted hi hc _)
      rw [State.writeFlags_eq, flagsReallocate_of_changed hn] at hex
      exact key _ _ hu hex
  · have hh' : hot = hotAfter (s.entry b).hot (max (-20) (min 85 p.temperature.toInt)) := hh.trans (by rw [ht]; rfl)
    have hu' : u = (s.putRecord i ((s.record i).withTelemetry p)).setEntry b ((s.entry b).withHot
        (hotAfter (s.entry b).hot (max (-20) (min 85 p.temperature.toInt)))) := by
      rw [hu, hh', hch, ht]
    obtain ⟨g1, g2⟩ := telemetry_serves hx hv hb hu' hg he
    have hcall := (s.entry b).callsPass_iff (Telemetry.ofReply p)
    rw [Telemetry.ofReply_eq] at hcall g1 g2
    simp only [← hch, ← ht] at hcall g1 g2
    rw [ht, ← hh', ← ht] at hcall
    refine ⟨fun h => g1 (hcall.mpr h), fun ⟨x, hx1, hx2⟩ hband hhot hr hi => g2 (Bool.eq_false_iff.mpr fun k => ?_) hr hi⟩
    obtain k | k | k := hcall.mp k
    · have := k x hx1
      omega
    · exact k hband
    · exact k hhot

end Sys2Proof.Machine
end

section
/-! SUPPORT. The budget input changed, and the settling of O36 (R69 to R71, R91, R104). -/

namespace Sys2Proof.Machine

set_option Elab.async false

section
variable {s u v : State} {b : BayNo} {set : BudgetSettings} {x : Bool} {e : Nat}

/-! ### A pass that leaves a bay in motion -/

/-- A hand-off leaves a bay in motion where it is (R97). -/
theorem Output.handOff_inMotion {o : Output} (d : Disposition) (grant : Nat) (h : o.inMotion = true) :
    (o.handOff d grant).inMotion = true := by
  unfold Output.handOff
  split
  · exact h
  · simp only
    split
    · rfl
    · exact h

theorem State.takePass_moving (h : s.moving = true) : s.takePass.moving = true := by
  rw [State.moving_iff] at h ⊢
  obtain ⟨b, h⟩ := h
  exact ⟨b, by rw [State.takePass_output]; exact Output.handOff_inMotion _ _ h⟩

/-- Alike in the outputs too, two states take the same pass and hand it on alike (R78, R97). -/
theorem State.PassAlike.takePass_output (h : u.PassAlike v) (ho : ∀ b, v.output b = u.output b) (b : BayNo) :
    v.takePass.output b = u.takePass.output b := by
  rw [State.takePass_output, State.takePass_output, ho, h.disposition, h.passShare]

theorem State.PassAlike.takePass_reservations (h : u.PassAlike v) : v.takePass.reservations = u.takePass.reservations := by
  rw [State.takePass_reservations, State.takePass_reservations]
  unfold State.passReservations
  rw [h.effective, h.passBays, h.budget, h.reservations]

/-- A pass taken with a bay in motion waits for it (R75, R98). -/
theorem State.settle_takes_moving (n : Nat) (hr : s.reallocRequest = true) (hp : s.phase = .idle) (hm : s.moving = true) :
    State.settle (n + 1) s = ({ s with reallocRequest := false } : State).takePass := by
  have hs : s.serveRequest = ({ s with reallocRequest := false } : State).takePass := by
    unfold State.serveRequest
    rw [if_pos hr]
    simp only
    rw [hp]
  have hph : ({ s with reallocRequest := false } : State).takePass.phase = .decreasing := State.takePass_phase _
  have hmv : ({ s with reallocRequest := false } : State).takePass.moving = true := State.takePass_moving hm
  unfold State.settle
  rw [hs]
  generalize ({ s with reallocRequest := false } : State).takePass = w at hph hmv
  simp only
  rw [hph]
  exact if_pos hmv

/-! ### What the close of a change leaves of the sequencer -/

/-- The outputs, the reservations and the phase are kept. -/
structure State.SequencerKept (s t : State) : Prop where
  output : ∀ b, t.output b = s.output b
  reservations : t.reservations = s.reservations
  phase : t.phase = s.phase

theorem State.relamp_sequencerKept (s : State) : s.SequencerKept s.relamp.reAttn := by
  have h : s.SequencerKept s.relamp := ⟨fun b => by unfold State.output; rw [s.relamp_outputs], s.relamp_reservations, s.relamp_phase⟩
  generalize s.relamp = r at h ⊢
  exact ⟨h.output, h.reservations, h.phase⟩

/-- A change that asks for a pass in IDLE with a bay in motion: the pass is taken and waits (R75, R98). -/
theorem State.closeChange_restarts (h : u.PassAlike v) (ho : ∀ b, v.output b = u.output b) (hg : v.GrantsNone)
    (hr : v.reallocRequest = true) (hi : v.phase = .idle) (hm : v.moving = true) :
    u.PassTakenAt v.closeChange ∧ v.closeChange.passPending = v.passPending ∧ u.takePass.SequencerKept v.closeChange := by
  have hgr := (v.granted_of_none hg).1
  have ha := h.granted hg
  have hcl := v.closeChange_eq
  have hgd : State.grantLanes 4 v.requeue = v.granted := rfl
  rw [hgd] at hcl
  have hsame : v.granted.reallocRequest = true ∧ v.granted.phase = .idle ∧ v.granted.passPending = v.passPending ∧
      v.granted.moving = true ∧ ∀ b, v.granted.output b = u.output b := by
    rw [hgr]
    exact ⟨hr, hi, rfl, hm, ho⟩
  generalize v.closeChange = t at hcl ⊢
  generalize v.granted = w at ha hsame hcl
  obtain ⟨w1, w2, w3, w4, w5⟩ := hsame
  have hf : w.settleFuel = 3 * w.latchQueue.length + 14 + 1 := rfl
  rw [hf, State.settle_takes_moving _ w1 w2 w4] at hcl
  have ha' : u.PassAlike ({ w with reallocRequest := false } : State) :=
    ⟨ha.state, ha.names, ha.entry, ha.record, ha.budget, ha.clock, ha.effective, ha.reservations⟩
  have ho' := ha'.takePass_output w5
  have hq : ({ w with reallocRequest := false } : State).takePass.passPending = w.passPending := State.takePass_passPending _
  have ht := ha'.takePass
  have hr' := ha'.takePass_reservations
  have hp' : ({ w with reallocRequest := false } : State).takePass.phase = u.takePass.phase := by
    rw [State.takePass_phase, State.takePass_phase]
  generalize ({ w with reallocRequest := false } : State).takePass = y at hcl ho' hq ht hr' hp'
  have hk := y.relamp_passKept.1
  have hs := y.relamp_sequencerKept
  rw [← hcl] at hk hs
  exact ⟨ht.kept hk, (hk.pending.trans hq).trans w3,
    ⟨fun b => (hs.output b).trans (ho' b), hs.reservations.trans hr', hs.phase.trans hp'⟩⟩

/-- A change with nothing to settle leaves the sequencer as it is (R75). -/
theorem State.closeChange_rests_sequencer (hg : v.GrantsNone) (hr : v.reallocRequest = false)
    (hi : v.phase = .idle ∨ v.moving = true) : v.SequencerKept v.closeChange := by
  have hcl := v.closeChange_eq
  have hgd : State.grantLanes 4 v.requeue = v.granted := rfl
  have hgr := (v.granted_of_none hg).1
  have hs := v.granted.relamp_sequencerKept
  rw [hgd, State.settle_of_rest _ (by rw [hgr]; exact hr) (by rw [hgr]; exact hi)] at hcl
  rw [← hcl, hgr] at hs
  exact ⟨hs.output, hs.reservations, hs.phase⟩

/-! ### The budget input changed -/

/-- The change that other budget settings and another level of SUPPLY_LIMIT make (R70, R71). -/
def State.rebudget (s : State) (set : BudgetSettings) (x : Bool) : State :=
  (State.recomputeBudget { s with budget := set, supplyLimit := x }).requestPassIf (s.budget.reallocates set)

theorem BudgetSettings.reallocates_iff {old new : BudgetSettings} : old.reallocates new = true ↔
    new.floorF ≠ old.floorF ∨ new.deliveryK ≠ old.deliveryK ∨ new.bayCeiling ≠ old.bayCeiling ∨
      new.foreignPolicy ≠ old.foreignPolicy := by
  unfold BudgetSettings.reallocates
  simp only [Bool.or_eq_true, bne_iff_ne, or_assoc, ne_comm]

theorem BudgetSettings.reallocates_self (t : BudgetSettings) : t.reallocates t = false := by
  simp [BudgetSettings.reallocates]

theorem execSupplyLimitChange_eq (s : State) (x : Bool) : exec (.supplyLimitChange x) s = .next (s.rebudget s.budget x).closeChange := by
  unfold State.rebudget
  rw [BudgetSettings.reallocates_self]
  rfl

theorem execBudgetSettings_eq (s : State) {p : BudgetSettingsParams} {policy : ForeignPolicy}
    (h : foreignPolicy? p.foreignPolicy = some policy) : exec (.budgetSettings (some p)) s =
      .next ((s.rebudget (BudgetSettings.clamp p policy) s.supplyLimit).finish
        (if (BudgetSettings.clamp p policy).exact p then .done else .clamped) fun _ => (BudgetSettings.clamp p policy).bytes) := by
  show (.next (s.budgetSettingsRequest (some p)) : Result) = _
  unfold State.budgetSettingsRequest
  simp only [h]
  rfl

/-- What a change of the budget input writes (R70, R71, R91, R104). -/
theorem State.rebudget_only (s : State) (set : BudgetSettings) (x : Bool) : s.rebudget set x = { s with
    budget := set, supplyLimit := x, effective := effectiveBudget set x
    outputs := (s.rebudget set x).outputs, phase := (s.rebudget set x).phase, passPending := (s.rebudget set x).passPending
    reallocRequest := (s.rebudget set x).reallocRequest, reservations := (s.rebudget set x).reservations } := by
  have key : ∃ o p q r l, s.rebudget set x = { s with
      budget := set, supplyLimit := x, effective := effectiveBudget set x
      outputs := o, phase := p, passPending := q, reallocRequest := r, reservations := l } := by
    unfold State.rebudget
    rw [State.requestPassIf_only]
    unfold State.recomputeBudget
    simp only
    split
    · next h => exact ⟨_, _, _, _, _, by rw [h]⟩
    · split
      · rw [State.Carries.budgetFall_only]
        exact ⟨_, _, _, _, _, rfl⟩
      · exact ⟨_, _, _, _, _, rfl⟩
  obtain ⟨o, p, q, r, l, h⟩ := key
  rw [h]

/-- A change of B_eff that ends no pass: it may ask for one (R70, R71). -/
theorem State.rebudget_of_kept (hu : s.Rebudgeted u set x e) (he : e = effectiveBudget set x) (h : s.phase = .idle ∨ s.effective ≤ e) :
    s.rebudget set x = if e ≠ s.effective ∨ s.budget.reallocates set = true then { u with reallocRequest := true } else u := by
  subst he
  have hb : s.phase = .idle → ({ s with
      budget := set, supplyLimit := x, effective := effectiveBudget set x } : State).requestPass.budgetFall =
        ({ s with budget := set, supplyLimit := x, effective := effectiveBudget set x } : State).requestPass := fun h => by
    unfold State.budgetFall
    rw [show ({ s with
      budget := set, supplyLimit := x, effective := effectiveBudget set x } : State).requestPass.phase = .idle from h]
  unfold State.rebudget State.recomputeBudget
  simp only
  by_cases hk : effectiveBudget set x = s.effective
  · rw [if_pos hk]
    cases hc : s.budget.reallocates set with
    | false => rw [if_neg (by simp [hk]), hu, hk]; rfl
    | true => rw [if_pos (.inr rfl), hu, hk]; rfl
  · have hc : effectiveBudget set x ≠ s.effective ∨ s.budget.reallocates set = true := .inl hk
    rw [if_neg hk, if_pos hc]
    split
    · next hlt =>
      rw [hb (h.resolve_right (Nat.not_le.mpr hlt)), hu]
      cases s.budget.reallocates set <;> rfl
    · rw [hu]
      cases s.budget.reallocates set <;> rfl

/-- A restored output without its pass target (R99, R104). -/
theorem Output.restore_untargeted (o : Output) : { o.restore with target := none } = if o.inMotion = true then
    { o with issued := o.settled, closed := o.closed || decide (0 < o.settled), target := none }
    else { o with target := none } := by
  unfold Output.restore
  split
  · next h => simp only [Output.issue, h]
  · rfl

/-- What the end of an applying pass by a fall of B_eff writes (R91, R104). -/
theorem State.budgetFall_of_applying (h : s.phase ≠ .idle) : s.budgetFall.phase = .idle ∧ s.budgetFall.passPending = false ∧
    s.budgetFall.reallocRequest = (s.reallocRequest || s.passPending) ∧
    s.budgetFall.outputs = (Vector.ofFn fun b => s.RestoredOutput b) ∧
    s.budgetFall.reservations = if s.phase = .decreasing then s.reservations.map Reservation.readmit else s.reservations := by
  unfold State.budgetFall
  cases hp : s.phase with
  | idle => exact absurd hp h
  | decreasing =>
    refine ⟨rfl, rfl, rfl, ?_, rfl⟩
    show (Vector.ofFn fun b => ({ s.output b with target := none } : Output)) = _
    simp [State.RestoredOutput, hp]
  | increasing =>
    refine ⟨rfl, rfl, rfl, ?_, rfl⟩
    refine congrArg Vector.ofFn (funext fun b => ?_)
    have hb : (Vector.ofFn fun b => (s.output b).restore)[b.val] = (s.output b).restore := by simp
    refine (congrArg (fun o : Output => { o with target := none }) hb).trans ?_
    rw [Output.restore_untargeted]
    exact if_congr (by simp [hp]) rfl rfl

/-- A fall of B_eff that ends the applying pass asks for the next (R91, R104). -/
theorem State.rebudget_of_fall (hu : s.EndedEarly u set x e) (he : e = effectiveBudget set x) (hlt : e < s.effective)
    (hp : s.phase ≠ .idle) : s.rebudget set x = { u with reallocRequest := true } := by
  subst he
  obtain ⟨hw, h1, h2, h3, h4⟩ := hu
  have hu : u = { s with
      budget := set, supplyLimit := x, effective := effectiveBudget set x
      outputs := u.outputs, phase := .idle, passPending := false, reservations := u.reservations } := by
    rw [← h1, ← h2]
    exact congrArg (fun w : State => { w with
      outputs := u.outputs, phase := u.phase, passPending := u.passPending, reservations := u.reservations }) hw
  have hout : u.outputs = Vector.ofFn fun b => s.RestoredOutput b := Vector.ext fun i hi => by
    rw [Vector.getElem_ofFn]
    exact h3 ⟨i, hi⟩
  have hx : s.rebudget set x = (State.budgetFall
      { s with budget := set, supplyLimit := x, effective := effectiveBudget set x, reallocRequest := true }).requestPassIf
        (s.budget.reallocates set) := by
    unfold State.rebudget State.recomputeBudget
    simp only
    rw [if_neg (Nat.ne_of_lt hlt), if_pos hlt]
    rfl
  obtain ⟨g1, g2, g3, g4, g5⟩ := State.budgetFall_of_applying
    (s := { s with budget := set, supplyLimit := x, effective := effectiveBudget set x, reallocRequest := true }) hp
  rw [hx, State.Carries.budgetFall_only, g1, g2, g3, g4, g5, hu, hout, h4]
  cases s.budget.reallocates set <;> rfl

end

end Sys2Proof.Machine
end

section
/-! SUPPORT. The settling of O36: the budget settings written, the supply limit changed, and the pass each asks for (R69 to R71). -/

namespace Sys2Proof.Machine

set_option Elab.async false

section
variable {s u : State} {set : BudgetSettings} {x asks : Bool} {e : Nat}

/-! ### The settings written -/

theorem budgetSettingsWritten (s : State) (p : BudgetSettingsParams) (h : p.foreignPolicy.toNat < 2) :
    ∃ t, exec (.budgetSettings (some p)) s = .next t ∧
      t.budget.supplyRating = max 500 (min 20000 p.supplyRating.toNat) ∧
      t.budget.foldback = min t.budget.supplyRating p.foldback.toNat ∧
      t.budget.overhead = min 2000 p.overhead.toNat ∧ t.budget.floorF = max 5 (min 25 p.floorF.toNat) ∧
      t.budget.deliveryK = max 100 (min 150 p.deliveryK.toNat) ∧
      t.budget.bayCeiling = max 50 (min 1000 p.bayCeiling.toNat) ∧
      t.budget.defaultTarget = max 200 (min 1000 p.defaultTarget.toNat) ∧
      t.budget.checkoutMinimum = min 1000 p.checkoutMinimum.toNat ∧
      t.budget.wakeReserve = max 10 (min 100 p.wakeReserve.toNat) ∧
      t.budget.driveReserve = max 20 (min 100 p.driveReserve.toNat) ∧
      t.budget.foreignPolicy.ctorIdx = p.foreignPolicy.toNat ∧
      t.effective = (if s.supplyLimit then min t.budget.supplyRating t.budget.foldback else t.budget.supplyRating) -
        t.budget.overhead ∧
      t.Says (if t.budget.supplyRating = p.supplyRating.toNat ∧ t.budget.foldback = p.foldback.toNat ∧
        t.budget.overhead = p.overhead.toNat ∧ t.budget.floorF = p.floorF.toNat ∧
        t.budget.deliveryK = p.deliveryK.toNat ∧ t.budget.bayCeiling = p.bayCeiling.toNat ∧
        t.budget.defaultTarget = p.defaultTarget.toNat ∧ t.budget.checkoutMinimum = p.checkoutMinimum.toNat ∧
        t.budget.wakeReserve = p.wakeReserve.toNat ∧ t.budget.driveReserve = p.driveReserve.toNat
        then .done else .clamped) t.budget.bytes ∧
      s.RecordsKept t [] ∧ s.BaysKept t [] ∧ t.supplyLimit = s.supplyLimit ∧ t.linkSettings = s.linkSettings ∧
      t.laneSettings = s.laneSettings ∧ t.custodySettings = s.custodySettings ∧ t.keys = s.keys ∧ s.TimeKept t ∧
      s.WindowsKept t ∧ s.EventsGrow t := by
  obtain ⟨policy, hp, hi⟩ := foreignPolicy?_of_lt h
  have hu := (s.rebudget (BudgetSettings.clamp p policy) s.supplyLimit).closeChange_untouched
  rw [execBudgetSettings_eq s hp, State.finish]
  generalize State.closeChange _ = v at hu
  rw [State.rebudget_only] at hu
  obtain ⟨h1, h2, h3, h4⟩ := hu.settings
  obtain ⟨h5, h6⟩ := hu.budget
  refine ⟨_, rfl, ?_⟩
  have hb : ∀ (x : Status) (d : List Byte), (v.respond x d).budget = BudgetSettings.clamp p policy := fun _ _ => h2
  simp only [hb]
  have hz : ∀ hi n : Nat, clampNat 0 hi n = min hi n := fun hi n => by rw [clampNat_eq_max (Nat.zero_le _), Nat.zero_max]
  refine ⟨clampNat_eq_max (by decide), hz _ _, hz _ _, clampNat_eq_max (by decide), clampNat_eq_max (by decide),
    clampNat_eq_max (by decide), clampNat_eq_max (by decide), hz _ _, clampNat_eq_max (by decide), clampNat_eq_max (by decide), hi, h6,
    ⟨ite_status_congr ?_, rfl⟩, hu.records, hu.bays, h5, h1, h3, h4, hu.keys, hu.time, hu.windows, hu.events⟩
  simp [BudgetSettings.exact, and_assoc]

theorem budgetSettings_badRequest (s : State) (p : BudgetSettingsParams) (h : 2 ≤ p.foreignPolicy.toNat) :
    Replies (.budgetSettings (some p)) s .badRequest [] := by
  show (.next (s.budgetSettingsRequest (some p)) : Result) = _
  simp only [State.budgetSettingsRequest, foreignPolicy?_of_ge h]
  rfl

theorem supplyLimitChanged (s : State) (x : Bool) : ∃ t, exec (.supplyLimitChange x) s = .next t ∧ t.supplyLimit = x ∧
    t.effective = (if x then min s.budget.supplyRating s.budget.foldback else s.budget.supplyRating) - s.budget.overhead ∧
    s.RecordsKept t [] ∧ s.BaysKept t [] ∧ s.SettingsKept t ∧ t.keys = s.keys ∧ s.TimeKept t ∧ s.WindowsKept t ∧
    s.EventsGrow t ∧ t.port.response = s.port.response := by
  have hu := (s.rebudget s.budget x).closeChange_untouched
  have hr := (s.rebudget s.budget x).closeChange_response
  rw [execSupplyLimitChange_eq]
  generalize State.closeChange _ = v at hu hr
  rw [State.rebudget_only] at hu hr
  obtain ⟨h1, h2⟩ := hu.budget
  exact ⟨v, rfl, h1, h2, hu.records, hu.bays, hu.settings, hu.keys, hu.time, hu.windows, hu.events, hr⟩

/-! ### The pass asked for -/

/-- Both commands close the change of the budget input, and an answer leaves the pass as it is (R70, R71). -/
theorem exec_rebudgets {c : Instr} (h : c = .supplyLimitChange x ∧ set = s.budget ∨
      ∃ (p : BudgetSettingsParams) (policy : ForeignPolicy), c = .budgetSettings (some p) ∧
        p.foreignPolicy.toNat = policy.ctorIdx ∧ set = BudgetSettings.clamp p policy ∧ x = s.supplyLimit) :
    ∃ t, exec c s = .next t ∧ (s.rebudget set x).closeChange.PassKept t ∧ (s.rebudget set x).closeChange.SequencerKept t := by
  obtain ⟨rfl, rfl⟩ | ⟨p, policy, rfl, hp, rfl, rfl⟩ := h
  · exact ⟨_, execSupplyLimitChange_eq s x, .refl _, fun _ => rfl, rfl, rfl⟩
  · have hlt : p.foreignPolicy.toNat < 2 := by
      rw [hp]
      cases policy <;> decide
    obtain ⟨q, hq, hi⟩ := foreignPolicy?_of_lt hlt
    have hqp : q = policy := by
      rw [hp] at hi
      cases q <;> cases policy <;> simp_all [ForeignPolicy.ctorIdx]
    subst hqp
    rw [execBudgetSettings_eq s hq, State.finish]
    generalize State.closeChange _ = v
    exact ⟨_, rfl, (v.respond_passKept _ _).1, fun _ => rfl, rfl, rfl⟩

/-- Settles O36, the pass asked for by cases: a fall of B_eff that ends a pass, a request, and none. -/
theorem budgetFollowsItsSettingsAndTheSupply : Obligations.BudgetFollowsItsSettingsAndTheSupply := by
  unfold Obligations.BudgetFollowsItsSettingsAndTheSupply
  refine ⟨fun s p => ⟨budgetSettingsWritten s p, budgetSettings_badRequest s p⟩, supplyLimitChanged, ?_⟩
  intro s u c set x asks e hc he hasks hg
  obtain ⟨t, ht, hk, hs⟩ := exec_rebudgets hc
  refine ⟨fun hlt hp ⟨b, hm⟩ hu => ⟨t, ht, ?_⟩, fun ha hi hr hu => ⟨t, ht, ?_⟩, fun ha hr hi hu => ⟨t, ht, ?_⟩⟩
  · rw [State.rebudget_of_fall hu he hlt hp] at hk hs
    obtain ⟨-, hidle, hpend, hout, -⟩ := hu
    have hmv : u.moving = true := State.moving_iff.mpr ⟨b, by
      rw [hout]
      unfold State.RestoredOutput
      split
      · exact hm
      · exact hm⟩
    have hgv : ({ u with reallocRequest := true } : State).GrantsNone := hg.of_seats (fun _ => rfl) (fun _ => rfl) rfl rfl
    obtain ⟨k1, k2, k3⟩ := State.closeChange_restarts (u := u) (v := { u with reallocRequest := true })
      ⟨fun _ => rfl, fun _ => rfl, fun _ => rfl, fun _ _ _ => rfl, rfl, rfl, rfl, rfl⟩ (fun _ => rfl) hgv rfl hidle hmv
    exact ⟨k1.kept hk, hs.phase.trans (k3.phase.trans (State.takePass_phase _)), hk.pending.trans (k2.trans hpend),
      hs.reservations.trans k3.reservations, fun a => (hs.output a).trans (k3.output a)⟩
  · have hcond : e ≠ s.effective ∨ s.budget.reallocates set = true := (hasks.mp ha).imp id BudgetSettings.reallocates_iff.mpr
    rw [State.rebudget_of_kept hu he hi, if_pos hcond] at hk hs
    have hgv : ({ u with reallocRequest := true } : State).GrantsNone := hg.of_seats (fun _ => rfl) (fun _ => rfl) rfl rfl
    have hserved := State.closeChange_serves (u := u) (v := { u with reallocRequest := true })
      ⟨fun _ => rfl, fun _ => rfl, fun _ => rfl, fun _ _ _ => rfl, rfl, rfl, rfl, rfl⟩ hgv rfl (by rw [hu]; exact hr)
    refine hserved.of_start ?_ ?_ ?_ (fun b => by rw [hu]; rfl) hk hs.phase
    all_goals rw [hu]
  · have hcond : ¬(e ≠ s.effective ∨ s.budget.reallocates set = true) := fun h => by
      rw [hasks.mpr (h.imp id BudgetSettings.reallocates_iff.mp)] at ha
      cases ha
    have hphase : s.phase = .idle ∨ s.effective ≤ e := .inr (by
      have : e = s.effective := Classical.not_not.mp fun h => hcond (.inl h)
      exact this.ge)
    rw [State.rebudget_of_kept hu he hphase, if_neg hcond] at hk hs
    have hsame : u.reallocRequest = false ∧ (u.phase = .idle ∨ u.moving = true) ∧ u.figures = s.figures ∧
        u.passPending = s.passPending ∧ u.phase = s.phase ∧ ∀ b, u.output b = s.output b := by
      rw [hu]
      exact ⟨hr, hi.imp id State.moving_iff.mpr, rfl, rfl, rfl, fun _ => rfl⟩
    obtain ⟨u1, u2, u3, u4, u5, u6⟩ := hsame
    obtain ⟨k1, k2⟩ := State.closeChange_rests hg u1 u2
    have k3 := State.closeChange_rests_sequencer hg u1 u2
    exact ⟨(hk.figures.trans k1.figures).trans u3, (hk.pending.trans k1.pending).trans u4, (hs.phase.trans k2).trans u5,
      fun b => ((hs.output b).trans (k3.output b)).trans (u6 b)⟩

end

end Sys2Proof.Machine
end

section
/-! SUPPORT. The phases of a pass where a settled report closes a change: a wait, the end of the decreasing phase, the end of the pass
(R91, R96, R98, R99). -/

namespace Sys2Proof.Machine

set_option Elab.async false

section
variable {s t w : State} {b : BayNo} {v : Nat} {o : Owner}

/-! ### Settling, a phase at a time -/

/-- A request raised while a pass is applied becomes pending (R75). -/
theorem State.serveRequest_of_applying (h : s.phase ≠ .idle) : s.serveRequest =
    { s with reallocRequest := false, passPending := s.passPending || s.reallocRequest } := by
  unfold State.serveRequest
  cases hr : s.reallocRequest with
  | false =>
    rw [Bool.or_false, ← hr]
    exact if_neg (by simp [hr])
  | true =>
    rw [if_pos rfl, Bool.or_true]
    simp only
    split
    · next e => exact absurd e h
    · rfl
    · rfl

/-- A phase with a bay in motion goes on (R98, R99). -/
theorem State.settle_of_moving (n : Nat) (h : s.phase ≠ .idle) (hm : s.moving = true) :
    State.settle (n + 1) s = s.serveRequest := by
  unfold State.settle
  rw [State.serveRequest_of_applying h]
  simp only
  split
  · rfl
  · exact if_pos hm
  · exact if_pos hm

theorem State.settle_of_decreasing (n : Nat) (h : s.phase = .decreasing) (hm : s.moving = false) :
    State.settle (n + 1) s = State.settle n s.serveRequest.endDecreasing := by
  rw [State.settle, State.serveRequest_of_applying (by rw [h]; nofun)]
  simp only [h]
  exact if_neg (ne_of_eq_of_ne hm Bool.false_ne_true)

theorem State.settle_of_increasing (n : Nat) (h : s.phase = .increasing) (hm : s.moving = false) :
    State.settle (n + 1) s = State.settle n s.serveRequest.endPass := by
  rw [State.settle, State.serveRequest_of_applying (by rw [h]; nofun)]
  simp only [h]
  exact if_neg (ne_of_eq_of_ne hm Bool.false_ne_true)

/-- The sequencer after the close of a change is as settling leaves it. -/
theorem State.closeChange_sequencer (h : ∀ n, State.settle (n + 3) s.granted = w) : w.SequencerKept s.closeChange := by
  have hcl := s.closeChange_eq
  have hf : (State.grantLanes 4 s.requeue).settleFuel = 3 * (State.grantLanes 4 s.requeue).latchQueue.length + 12 + 3 := rfl
  rw [hf, show State.grantLanes 4 s.requeue = s.granted from rfl, h] at hcl
  rw [hcl]
  exact w.relamp_sequencerKept

/-! ### A report -/

theorem Output.report_of_confirmed {o : Output} (hm : o.inMotion = true) (hv : v = o.issued) :
    o.report v = { o with settled := v, inMotion := false } := by
  unfold Output.report
  rw [hm, hv]
  simp

theorem Output.report_of_other {o : Output} (h : o.inMotion = false ∨ v ≠ o.issued) : o.report v = o := by
  unfold Output.report
  rw [if_neg]
  intro g
  simp only [Bool.and_eq_true, beq_iff_eq] at g
  obtain h | h := h
  · rw [h] at g
    cases g.1
  · exact h g.2

theorem State.report_untouched (s : State) (b : BayNo) (v : Nat) : s.Untouched (s.modOutput b (Output.report v)) [] [] :=
  .tables rfl rfl

/-- The last report confirmed leaves no bay in motion. -/
theorem State.report_still (hm : (s.output b).inMotion = true) (hv : v = (s.output b).issued)
    (ho : ∀ c : BayNo, c ≠ b → (s.output c).inMotion = false) : (s.modOutput b (Output.report v)).moving = false := by
  rw [State.moving_eq_false]
  intro a
  rw [State.output_modOutput]
  split
  · rw [Output.report_of_confirmed hm hv]
  · exact ho a (Ne.symm ‹_›)

theorem State.Grants.moving (h : s.Grants t) : t.moving = s.moving := by
  unfold State.moving
  simp only [h.output]

/-! ### No reservation ADMITTED -/

/-- No reservation is ADMITTED (R91). -/
def State.NoneAdmitted (s : State) : Prop := ∀ e ∈ s.reservations, e.state ≠ .admitted

theorem State.latchSuccess_reservations (s : State) (b : BayNo) (d : Direction) : (s.latchSuccess b d).reservations = s.reservations := by
  cases d with
  | lock =>
    simp only [State.latchSuccess]
    split <;> rfl
  | unlock =>
    simp only [State.latchSuccess]
    split
    · unfold State.openRelease
      rw [State.placeCustodyOrder_only]
      rfl
    · rfl

theorem State.wakeLane_reservations (s : State) (l : LaneNo) : (s.wakeLane l).reservations = s.reservations := by
  unfold State.wakeLane
  split
  · split
    · simp only
      rw [State.placeLaneOrder_only]
      rfl
    · rfl
  · rfl

namespace State.NoneAdmitted

theorem congr (h : s.NoneAdmitted) (hr : t.reservations = s.reservations := by rfl) : t.NoneAdmitted := by
  unfold State.NoneAdmitted
  rwa [hr]

theorem increased (s : State) : s.increased.NoneAdmitted := fun e he => by
  obtain ⟨f, -, rfl⟩ := List.mem_map.mp he
  unfold Reservation.activate
  split
  · nofun
  · assumption

theorem drop (h : s.NoneAdmitted) (p : Owner) : (s.dropReservation p).NoneAdmitted :=
  fun e he => h e (List.mem_of_mem_filter he)

theorem raise (h : s.NoneAdmitted) (p : Owner) (a : Nat) : (s.raiseReservation p a).NoneAdmitted := fun e he => by
  obtain he | he := List.mem_append.mp he
  · exact h e he
  · rw [List.mem_singleton.mp he]
    nofun

theorem latchSuccess (h : s.NoneAdmitted) (b : BayNo) (d : Direction) : (s.latchSuccess b d).NoneAdmitted :=
  h.congr (State.latchSuccess_reservations s b d)

theorem serviceOne (h : s.NoneAdmitted) (q : LatchRequest) : (s.serviceOne q).NoneAdmitted := by
  unfold State.serviceOne
  split
  · exact h
  · split
    · exact State.NoneAdmitted.latchSuccess (s := { s with latchQueue := s.latchQueue.erase q }) h _ _
    · split
      · next k _ => exact State.NoneAdmitted.raise (s := State.setSlot { s with latchQueue := s.latchQueue.erase q } k (.reserving q)) h _ _
      · exact h

theorem slotService (h : s.NoneAdmitted) : s.slotService.NoneAdmitted :=
  List.foldlRecOn _ _ h fun _ h q _ => h.serviceOne q

theorem tellActive (h : s.NoneAdmitted) (o : Owner) : (s.tellActive o).NoneAdmitted := by
  cases o with
  | lane l => exact h.congr (State.wakeLane_reservations s l)
  | latch k =>
    show (s.startDrive k).NoneAdmitted
    unfold State.startDrive
    split
    · next q _ =>
      split
      · have h1 : ((s.endSlot k).setLatch q.bay q.direction.target).NoneAdmitted := (h.drop (.latch k)).congr
        exact (h1.latchSuccess _ _).slotService
      · exact h.congr
    · exact h
    · exact h

theorem endDecreasing (s : State) : s.endDecreasing.NoneAdmitted := by
  rw [State.endDecreasing_eq]
  exact List.foldlRecOn _ _ (increased s) fun _ h o _ => h.tellActive o

end State.NoneAdmitted

end

end Sys2Proof.Machine
end

section
/-! SUPPORT. The settled reports that wait, end the decreasing phase and end the pass (R91, R96, R98, R99). -/

namespace Sys2Proof.Machine

set_option Elab.async false

section
variable {s t u : State} {b : BayNo} {v : Nat}

/-! ### The phase that a change leaves -/

/-- A change that closes while a bay is in motion in an applied pass leaves the outputs and the phase (R98, R99). -/
theorem State.closeChange_waits (hp : u.phase ≠ .idle) (hm : u.moving = true) :
    (∀ a, u.closeChange.output a = u.output a) ∧ u.closeChange.phase = u.phase := by
  have hg := u.granted_grants
  have hph := hg.phase
  have hk := State.closeChange_sequencer fun n => State.settle_of_moving (n + 2) (hph ▸ hp) (hg.moving.trans hm)
  rw [State.serveRequest_of_applying (hph ▸ hp)] at hk
  exact ⟨fun a => (hk.output a).trans (hg.output a), hk.phase.trans hph⟩

/-- A change that closes with an increase to issue and no bay in motion issues it (R91, R98). -/
theorem State.closeChange_increases (hp : u.phase = .decreasing) (hm : u.moving = false)
    (hi : ∃ a, (u.output a).increase.inMotion = true) :
    (∀ a, u.closeChange.output a = (u.output a).increase) ∧ u.closeChange.phase = .increasing ∧ u.closeChange.NoneAdmitted := by
  have hg := u.granted_grants
  have hph := hg.phase.trans hp
  have hsr := State.serveRequest_of_applying (s := u.granted) (by rw [hph]; nofun)
  have hout : ∀ a, u.granted.serveRequest.endDecreasing.output a = (u.output a).increase := fun a => by
    rw [State.endDecreasing_output, hsr]
    exact congrArg Output.increase (hg.output a)
  have hpe := u.granted.serveRequest.endDecreasing_phase
  have hmv : u.granted.serveRequest.endDecreasing.moving = true := by
    obtain ⟨a, ha⟩ := hi
    exact State.moving_iff.mpr ⟨a, by rw [hout]; exact ha⟩
  have hno := State.NoneAdmitted.endDecreasing u.granted.serveRequest
  have hk : u.granted.serveRequest.endDecreasing.serveRequest.SequencerKept u.closeChange := State.closeChange_sequencer fun n => by
    rw [State.settle_of_decreasing _ hph (hg.moving.trans hm), State.settle_of_moving _ (by rw [hpe]; nofun) hmv]
  generalize u.granted.serveRequest.endDecreasing = w at hout hpe hno hk
  rw [State.serveRequest_of_applying (by rw [hpe]; nofun)] at hk
  refine ⟨fun a => (hk.output a).trans (hout a), hk.phase.trans hpe, ?_⟩
  exact State.NoneAdmitted.congr hno hk.reservations

/-- Nothing is asked of the allocator where the change closes, and no lane is granted (R75, R116). -/
structure State.Calm (s : State) : Prop where
  request : s.reallocRequest = false
  pending : s.passPending = false
  grants : s.GrantsNone

theorem State.Calm.granted (hu : u.Calm) : u.granted.reallocRequest = false ∧ u.granted.passPending = false := by
  rw [(u.granted_of_none hu.grants).1]
  exact ⟨hu.request, hu.pending⟩

/-- The end of a pass for which nothing was asked is where settling stops (R75, R99). -/
theorem State.settle_of_ended (n : Nat) (hr : s.reallocRequest = false) (hq : s.passPending = false) :
    State.settle n s.endPass = s.endPass := by
  refine State.settle_of_rest n ?_ (.inl rfl)
  show (s.reallocRequest || s.passPending) = false
  rw [hr, hq]
  rfl

/-- A pass whose increasing phase is over ends (R99). -/
theorem State.closeChange_endsPass (hu : u.Calm) (hp : u.phase = .increasing) (hm : u.moving = false) :
    (∀ a, u.closeChange.output a = { u.output a with target := none }) ∧ u.closeChange.phase = .idle := by
  obtain ⟨h1, h2⟩ := hu.granted
  have hk : u.granted.endPass.SequencerKept u.closeChange := State.closeChange_sequencer fun n => by
    rw [State.settle_of_increasing _ (u.granted_grants.phase.trans hp) (u.granted_grants.moving.trans hm),
      State.serveRequest_of_none h1, State.settle_of_ended _ h1 h2]
  refine ⟨fun a => ?_, hk.phase⟩
  rw [hk.output, State.endPass_output, u.granted_grants.output]

theorem Output.increase_of_le {o : Output} (h : ∀ w : Nat, o.target = some w → w ≤ o.settled) : o.increase = o := by
  unfold Output.increase
  split
  · next w hw => exact if_neg (Nat.not_lt.mpr (h w hw))
  · rfl

/-- A pass with no owner to tell and no increase to issue ends with its decreasing phase (R98, R99). -/
theorem State.closeChange_endsPass_at_once (hu : u.Calm) (hp : u.phase = .decreasing) (hm : u.moving = false)
    (ha : u.NoneAdmitted) (ht : ∀ a (w : Nat), (u.output a).target = some w → w ≤ (u.output a).settled) :
    (∀ a, u.closeChange.output a = { u.output a with target := none }) ∧ u.closeChange.phase = .idle := by
  have hg := (u.granted_of_none hu.grants).1
  have howners : u.granted.admittedOwners = [] := by
    rw [hg, List.eq_nil_iff_forall_not_mem]
    intro o ho
    obtain ⟨e, he, h, -⟩ := State.mem_admittedOwners.mp ho
    exact ha e he h
  have hsame : ∀ a, u.granted.increased.output a = u.output a := fun a => by
    rw [State.increased_output, u.granted_grants.output]
    exact Output.increase_of_le (ht a)
  have hend : u.granted.endDecreasing = u.granted.increased := by
    rw [State.endDecreasing_eq, howners]
    rfl
  have hmv : u.granted.increased.moving = false := by
    rw [State.moving_eq_false] at hm ⊢
    exact fun a => by rw [hsame]; exact hm a
  obtain ⟨h1, h2⟩ := hu.granted
  have h3 := u.granted_grants.phase.trans hp
  have h4 := u.granted_grants.moving.trans hm
  have hk : u.granted.increased.endPass.SequencerKept u.closeChange := State.closeChange_sequencer fun n => by
    rw [State.settle_of_decreasing _ h3 h4, State.serveRequest_of_none h1, hend, State.settle_of_increasing _ rfl hmv,
      State.serveRequest_of_none (s := u.granted.increased) h1]
    exact State.settle_of_ended (s := u.granted.increased) _ h1 h2
  refine ⟨fun a => ?_, hk.phase⟩
  rw [hk.output, State.endPass_output, hsame]

/-! ### The reports -/

/-- A report changes nothing that a grant reads (R96, R113). -/
theorem State.report_calm (hr : s.reallocRequest = false) (hq : s.passPending = false) (hg : s.GrantsNone) :
    (s.modOutput b (Output.report v)).Calm :=
  ⟨hr, hq, hg.of_seats (fun _ => rfl) (fun _ => rfl) rfl rfl⟩

theorem Output.increase_of_lt {o : Output} {w : Nat} (ht : o.target = some w) (h : o.settled < w) :
    o.increase = { o with issued := w, inMotion := true, closed := true } := by
  unfold Output.increase
  rw [ht]
  simp only
  rw [if_pos h]
  unfold Output.issue
  rw [show decide (0 < w) = true from decide_eq_true (by omega), Bool.or_true]
  cases o
  simp_all

end

end Sys2Proof.Machine
end

section
/-! SUPPORT. The owners told at the end of the decreasing phase: what each is told leaves, and what the others leave of it (R91, R117, R137). -/

namespace Sys2Proof.Machine

set_option Elab.async false

section
variable {s t u : State} {o : Owner} {k : SlotNo} {l : LaneNo} {p : LatchRequest} {e : Reservation}

/-! ### One owner among those told -/

/-- A change closes with the last decrease settled: what holds once the reservations are ACTIVE, and until owner o is told, is
followed by what the telling of o leaves, if nothing else undoes either (R91, R98). -/
theorem State.closeChange_tells {P Q : State → Prop} (hp : u.granted.phase = .decreasing) (hm : u.granted.moving = false)
    (ho : o ∈ u.granted.admittedOwners)
    (h0 : ∀ x y, P (State.increased { u.granted with reallocRequest := x, passPending := y }))
    (h1 : ∀ t o', o' ≠ o → P t → P (t.tellActive o')) (h2 : ∀ t, P t → Q (t.tellActive o))
    (km : ∀ (t : State) (x y : Bool), Q t → Q { t with reallocRequest := x, passPending := y }) (kp : ∀ t, Q t → Q t.takePass)
    (ki : ∀ t, Q t → Q t.increased) (kt : ∀ t o', Q t → Q (t.tellActive o')) (ke : ∀ t, Q t → Q t.endPass)
    (kl : ∀ t, Q t → Q t.relamp) (ka : ∀ t, Q t → Q t.reAttn) : Q u.closeChange := by
  have hcl := u.closeChange_eq
  have hf : (State.grantLanes 4 u.requeue).settleFuel = 3 * (State.grantLanes 4 u.requeue).latchQueue.length + 14 + 1 := rfl
  rw [hf, show State.grantLanes 4 u.requeue = u.granted from rfl, State.settle_of_decreasing _ hp hm,
    State.serveRequest_of_applying (by rw [hp]; nofun), State.endDecreasing_eq] at hcl
  rw [hcl]
  refine ka _ (kl _ (State.settle_keeps km kp ki kt ke _ _ ?_))
  have hown : ∀ x y, State.admittedOwners { u.granted with reallocRequest := x, passPending := y } = u.granted.admittedOwners :=
    fun _ _ => rfl
  obtain ⟨as, bs, hab, hna⟩ := List.eq_append_cons_of_mem ho
  rw [hown, hab, List.foldl_append, List.foldl_cons]
  have hP := List.foldlRecOn (motive := P) as State.tellActive (h0 false (u.granted.passPending || u.granted.reallocRequest))
    fun t ht o' ho' => h1 t o' (fun g => hna (g ▸ ho')) ht
  exact List.foldlRecOn (motive := Q) bs State.tellActive (h2 _ hP) fun t ht o' _ => kt t o' ht

/-! ### What an owner told leaves of the others -/

/-- A lane is woken by its own reservation alone (R117). -/
theorem State.tellActive_lane_of_ne (s : State) (h : o ≠ .lane l) : (s.tellActive o).lane l = s.lane l := by
  cases o with
  | latch k =>
    show (s.startDrive k).lane l = _
    unfold State.startDrive
    split
    · next q _ =>
      split
      · have hv : State.Serves ((s.endSlot k).setLatch q.bay q.direction.target) (s.driveSuccess k q) :=
          (State.Serves.latchSuccess _ _).trans .slotService
        exact State.lane_congr hv.lanes l
      · rfl
    · rfl
    · rfl
  | lane m =>
    have hne : m ≠ l := fun g => h (congrArg Owner.lane g)
    show (s.wakeLane m).lane l = _
    unfold State.wakeLane
    split
    · next x _ =>
      split
      · refine (State.lane_congr (State.placeLaneOrder_fields _ _ _).1 l).trans ?_
        rw [State.lane_setLane, if_neg hne]
      · rfl
    · rfl

theorem State.mem_serviceOne {q : LatchRequest} (h : e ∈ s.reservations) : e ∈ (s.serviceOne q).reservations := by
  unfold State.serviceOne
  split
  · exact h
  · split
    · rw [State.latchSuccess_reservations]
      exact h
    · split
      · exact List.mem_append_left _ h
      · exact h

theorem State.mem_slotService (h : e ∈ s.reservations) : e ∈ s.slotService.reservations :=
  List.foldlRecOn (motive := fun t : State => e ∈ t.reservations) _ _ h fun _ h _ _ => State.mem_serviceOne h

/-- A reservation leaves the list only by the drive of its own slot (R138). -/
theorem State.mem_startDrive (h : e ∈ s.reservations) (hk : e.owner = .latch k → ∀ q, s.slot k ≠ .reserving q) :
    e ∈ (s.startDrive k).reservations := by
  unfold State.startDrive
  split
  · next q hq =>
    have hne : e.owner ≠ .latch k := fun g => hk g q hq
    split
    · refine State.mem_slotService ?_
      rw [State.latchSuccess_reservations]
      exact List.mem_filter.mpr ⟨h, by simpa using hne⟩
    · exact h
  · exact h
  · exact h

theorem State.mem_tellActive (h : e ∈ s.reservations) (hk : ∀ k, o = .latch k → e.owner = .latch k → ∀ q, s.slot k ≠ .reserving q) :
    e ∈ (s.tellActive o).reservations := by
  cases o with
  | latch k => exact State.mem_startDrive h (hk k rfl)
  | lane l =>
    show e ∈ (s.wakeLane l).reservations
    rw [State.wakeLane_reservations]
    exact h

/-- Passes and phases keep an entry that is ACTIVE (R90, R91). -/
theorem State.mem_increased (h : e ∈ s.reservations) (ha : e.state = .active) : e ∈ s.increased.reservations :=
  List.mem_map.mpr ⟨e, h, by unfold Reservation.activate; rw [if_neg (by rw [ha]; nofun)]⟩

theorem mem_of_forall₂_admitted {a b : List Reservation}
    (h : List.Forall₂ (fun e f => f = e ∨ e.state = .pending ∧ f = { e with state := .admitted }) a b) (he : e ∈ a)
    (ha : e.state = .active) : e ∈ b := by
  induction h with
  | nil => exact he
  | @cons c d _ _ hcd _ ih =>
    obtain rfl | he := List.mem_cons.mp he
    · obtain rfl | ⟨hp, -⟩ := hcd
      · exact List.mem_cons_self
      · rw [ha] at hp
        cases hp
    · exact List.mem_cons_of_mem d (ih he)

theorem State.mem_takePass (h : e ∈ s.reservations) (ha : e.state = .active) : e ∈ s.takePass.reservations := by
  rw [State.takePass_reservations]
  exact mem_of_forall₂_admitted (admitWalk_forall₂ _ _ _ _ _) h ha

/-- Slot service leaves a slot that is not FREE, and every latch position (R136). -/
theorem State.serviceOne_slot (q : LatchRequest) (h : s.slot k ≠ .free) :
    (s.serviceOne q).slot k = s.slot k ∧ ∀ b, ((s.serviceOne q).bay b).latch = (s.bay b).latch := by
  unfold State.serviceOne
  split
  · exact ⟨rfl, fun _ => rfl⟩
  · split
    · have hl := State.LatchesKept.latchSuccess { s with latchQueue := s.latchQueue.erase q } q.bay q.direction
      exact ⟨hl.slot k, hl.latch⟩
    · split
      · next j hj =>
        refine ⟨(State.slot_setSlot _ j k _).trans (if_neg ?_), fun _ => rfl⟩
        rintro rfl
        exact h (State.freeSlot_eq_some hj)
      · exact ⟨rfl, fun _ => rfl⟩

theorem State.slotService_slot (h : s.slot k ≠ .free) :
    s.slotService.slot k = s.slot k ∧ ∀ b, (s.slotService.bay b).latch = (s.bay b).latch :=
  List.foldlRecOn (motive := fun t : State => t.slot k = s.slot k ∧ ∀ b, (t.bay b).latch = (s.bay b).latch) s.latchQueue
    State.serviceOne ⟨rfl, fun _ => rfl⟩ fun t ⟨h1, h2⟩ q _ => by
      obtain ⟨g1, g2⟩ := State.serviceOne_slot q (h1 ▸ h)
      exact ⟨g1.trans h1, fun b => (g2 b).trans (h2 b)⟩

/-- A drive of one slot leaves another slot with its request, and the latch of that request's bay (R136, R137). -/
theorem State.startDrive_slot {j : SlotNo} (hL : s.LatchLaw) (hk : (s.slot k).request = some p) (hj : j ≠ k) :
    (s.startDrive j).slot k = s.slot k ∧ ((s.startDrive j).bay p.bay).latch = (s.bay p.bay).latch := by
  unfold State.startDrive
  split
  · next q hq =>
    have hb : q.bay ≠ p.bay := fun g => hj (hL.2.1 j k q (by rw [hq]; rfl) p hk g)
    split
    · have hs : ((s.endSlot j).setLatch q.bay q.direction.target).slot k = s.slot k :=
        (s.slot_setSlot j k .free).trans (if_neg hj)
      have hl := State.Carries.bay_latch_setLatch (s.endSlot j) q.bay q.direction.target p.bay
      rw [if_neg hb] at hl
      have h1 := State.LatchesKept.latchSuccess ((s.endSlot j).setLatch q.bay q.direction.target) q.bay q.direction
      have hs1 := (h1.slot k).trans hs
      obtain ⟨h2, h3⟩ := State.slotService_slot (k := k) (s := ((s.endSlot j).setLatch q.bay q.direction.target).latchSuccess q.bay
        q.direction) (by rw [hs1]; intro g; rw [g] at hk; cases hk)
      exact ⟨h2.trans hs1, (h3 _).trans ((h1.latch _).trans hl)⟩
    · have hl := State.Carries.bay_latch_setLatch (s.setSlot j (.driving q)) q.bay .moving p.bay
      rw [if_neg hb] at hl
      exact ⟨(s.slot_setSlot j k _).trans (if_neg hj), hl⟩
  · exact ⟨rfl, rfl⟩
  · exact ⟨rfl, rfl⟩

theorem State.tellActive_slot (hL : s.LatchLaw) (hk : (s.slot k).request = some p) (ho : o ≠ .latch k) :
    (s.tellActive o).slot k = s.slot k ∧ ((s.tellActive o).bay p.bay).latch = (s.bay p.bay).latch := by
  cases o with
  | latch j => exact State.startDrive_slot hL hk fun g => ho (congrArg Owner.latch g)
  | lane m =>
    have hl := State.LatchesKept.wakeLane s m
    exact ⟨hl.slot k, hl.latch p.bay⟩

end

end Sys2Proof.Machine
end

section
/-! SUPPORT. A lane woken, a drive started and a drive done at once where the decreasing phase ends, and the settling of O37
(R91, R96, R98, R99, R117, R137). -/

namespace Sys2Proof.Machine

set_option Elab.async false

section
variable {s t u g : State} {k : SlotNo} {l : LaneNo} {x : Session} {p : LatchRequest} {e : Reservation}

/-! ### A lane woken -/

/-- On the way from g to t lane l still awaits its reservation, which is ACTIVE. -/
structure State.LaneReady (g : State) (l : LaneNo) (e : Reservation) (t : State) : Prop where
  follows : g.Follows t
  lane : t.lane l = g.lane l
  stands : e ∈ t.reservations

/-- On the way from g to t lane l has been woken, with its order (R117). -/
structure State.LaneWoken (g : State) (l : LaneNo) (x : Session) (e : Reservation) (t : State) : Prop where
  follows : g.Follows t
  lane : t.lane l = (g.lane l).woken x
  stands : e ∈ t.reservations
  order : (g.link x.bay).state ≠ .down → (t.link x.bay).lane.Newest (.wake l)

theorem State.LaneReady.tellActive (h : g.LaneReady l e t) (hl : e.owner = .lane l) {o : Owner} (ho : o ≠ .lane l) :
    g.LaneReady l e (t.tellActive o) where
  follows := h.follows.trans (.tellActive t o)
  lane := (t.tellActive_lane_of_ne ho).trans h.lane
  stands := State.mem_tellActive h.stands fun k _ g' => by rw [hl] at g'; cases g'

theorem State.LaneReady.wake (h : g.LaneReady l e t) (hx : (g.lane l).session = some x) (hp : x.phase = .admitting) :
    g.LaneWoken l x e (t.tellActive (.lane l)) := by
  have hw : t.wakeLane l = (t.setLane l ((g.lane l).woken x)).placeLaneOrder x.bay (.wake l) := by
    unfold State.wakeLane
    rw [h.lane, hx]
    exact if_pos hp
  refine ⟨h.follows.trans (.tellActive t _), ?_, ?_, fun hd => ?_⟩
  · show (t.wakeLane l).lane l = _
    rw [hw, State.lane_congr (State.placeLaneOrder_fields _ _ _).1, State.lane_setLane, if_pos rfl]
  · show e ∈ (t.wakeLane l).reservations
    rw [State.wakeLane_reservations]
    exact h.stands
  · show ((t.wakeLane l).link x.bay).lane.Newest _
    rw [hw]
    exact State.placeLaneOrder_newest (s := t.setLane l ((g.lane l).woken x)) _ ((h.follows.link x.bay).not_down hd)

/-- A woken lane stays so with its order, as no other lane has a session in its bay (R115, R117). -/
theorem State.LaneWoken.step (h : g.LaneWoken l x e t) (hs : ∀ m y, (g.lane m).session = some y → y.bay = x.bay → m = l)
    (hf : t.Follows u) (he : e ∈ u.reservations) : g.LaneWoken l x e u where
  follows := h.follows.trans hf
  lane := by
    obtain hl | ⟨y, hy, hp, -⟩ := hf.lane l
    · exact hl.trans h.lane
    · rw [h.lane] at hy
      cases hy
      cases hp
  stands := he
  order hd := (hf.link x.bay).lane_newest (fun y hy => by
    obtain ⟨m, z, rfl, hz, -, hb⟩ := h.follows.wakesIn hy
    rw [hs m z hz hb]) (h.order hd)

/-! ### A drive started -/

/-- On the way from g to t slot k still waits with request p, its reservation is ACTIVE, and the bay's latch stands as it did. -/
structure State.SlotReady (g : State) (k : SlotNo) (p : LatchRequest) (e : Reservation) (t : State) : Prop where
  frame : g.Untouched t [] []
  law : t.LatchLaw
  slot : t.slot k = .reserving p
  latch : (t.bay p.bay).latch = (g.bay p.bay).latch
  stands : e ∈ t.reservations

theorem State.SlotReady.tellActive (h : g.SlotReady k p e t) (hl : e.owner = .latch k) {o : Owner} (ho : o ≠ .latch k) :
    g.SlotReady k p e (t.tellActive o) := by
  obtain ⟨h1, h2⟩ := State.tellActive_slot (k := k) (p := p) h.law (by rw [h.slot]; rfl) ho
  exact ⟨h.frame.then (t.tellActive_untouched o), (t.tellActive_tells o).latches h.law, h1.trans h.slot, h2.trans h.latch,
    State.mem_tellActive h.stands fun j hj g' => by
      rw [hl] at g'
      exact absurd (hj.trans g'.symm) ho⟩

theorem State.SlotReady.targetClosed (h : g.SlotReady k p e t) (d : Direction) :
    (t.bay p.bay).targetClosed d = (g.bay p.bay).targetClosed d := by
  cases d with
  | lock => exact (h.frame.bay p.bay).lockedSwitch
  | unlock => exact (h.frame.bay p.bay).unlockedSwitch

/-- Slot k drives request p, and its reservation is ACTIVE (R137). -/
structure State.SlotDrives (k : SlotNo) (p : LatchRequest) (e : Reservation) (t : State) : Prop where
  law : t.LatchLaw
  slot : t.slot k = .driving p
  stands : e ∈ t.reservations

/-- The drive of a latch that stands elsewhere starts (R137). -/
theorem State.SlotReady.drive (h : g.SlotReady k p e t) (hl : (g.bay p.bay).latch ≠ p.direction.target)
    (hc : (g.bay p.bay).targetClosed p.direction = false) : State.SlotDrives k p e (t.tellActive (.latch k)) := by
  have hw : t.startDrive k = (t.setSlot k (.driving p)).setLatch p.bay .moving := by
    unfold State.startDrive
    rw [h.slot]
    exact if_neg fun g' => g'.elim (fun g' => hl (h.latch ▸ g')) fun g' => by rw [h.targetClosed, hc] at g'; cases g'
  refine ⟨(t.tellActive_tells _).latches h.law, ?_, ?_⟩
  · show (t.startDrive k).slot k = _
    rw [hw]
    exact (t.slot_setSlot k k _).trans (if_pos rfl)
  · show e ∈ (t.startDrive k).reservations
    rw [hw]
    exact h.stands

theorem State.SlotDrives.kept (h : State.SlotDrives k p e t) (hk : t.LatchesKept u) (he : e ∈ u.reservations) :
    State.SlotDrives k p e u := ⟨hk.latchLaw h.law, (hk.slot k).trans h.slot, he⟩

theorem State.SlotDrives.tellActive (h : State.SlotDrives k p e t) (hl : e.owner = .latch k) (o : Owner) :
    State.SlotDrives k p e (t.tellActive o) := by
  by_cases ho : o = .latch k
  · subst ho
    have hw : t.startDrive k = t := by
      unfold State.startDrive
      rw [h.slot]
    show State.SlotDrives k p e (t.startDrive k)
    rw [hw]
    exact h
  · exact ⟨(t.tellActive_tells o).latches h.law, (State.tellActive_slot h.law (by rw [h.slot]; rfl) ho).1.trans h.slot,
      State.mem_tellActive h.stands fun j hj g' => by
        rw [hl] at g'
        exact absurd (hj.trans g'.symm) ho⟩

/-- The latch that a slot drives is MOVING (R134). -/
theorem State.SlotDrives.moving (h : State.SlotDrives k p e t) : (t.bay p.bay).latch = .moving :=
  (h.law.2.2 p.bay).mpr (State.drivingSlot_isSome.mpr ⟨k, p, h.slot, rfl⟩)

/-! ### A drive done at once -/

/-- With no request waiting, none waits after an owner is told (R136). -/
theorem State.tellActive_queue (h : s.latchQueue = []) (o : Owner) : (s.tellActive o).latchQueue = [] := by
  cases o with
  | lane l => exact (State.LatchesKept.wakeLane s l).queue.trans h
  | latch k =>
    show (s.startDrive k).latchQueue = []
    unfold State.startDrive
    split
    · next q _ =>
      split
      · exact (((s.endSlot_rests k h).congr (t := (s.endSlot k).setLatch q.bay q.direction.target)).latchSuccess _ _).slotService.queue
      · exact h
    · exact h
    · exact h

/-- Slot k rests, and so does the latch at b, at a position (R138). -/
structure State.DriveDone (k : SlotNo) (b : BayNo) (y : LatchPosition) (t : State) : Prop where
  rests : t.SlotRests k
  idle : t.LatchIdle b
  latch : (t.bay b).latch = y

/-- The drive of a latch at its target is done at once (R137, R138). -/
theorem State.SlotReady.done (h : g.SlotReady k p e t) (hq : t.latchQueue = [])
    (ht : (g.bay p.bay).latch = p.direction.target ∨ (g.bay p.bay).targetClosed p.direction = true) :
    State.DriveDone k p.bay p.direction.target (t.tellActive (.latch k)) := by
  have hw : t.startDrive k = (((t.endSlot k).setLatch p.bay p.direction.target).latchSuccess p.bay p.direction).slotService := by
    unfold State.startDrive
    rw [h.slot]
    exact if_pos (ht.imp h.latch.trans (h.targetClosed _).trans)
  have hr := ((t.endSlot_rests k hq).congr (t := (t.endSlot k).setLatch p.bay p.direction.target)).latchSuccess p.bay p.direction
  have hk := State.LatchesKept.latchSuccess ((t.endSlot k).setLatch p.bay p.direction.target) p.bay p.direction
  have hi : ((t.endSlot k).setLatch p.bay p.direction.target).LatchIdle p.bay :=
    t.endSlot_idle (fun j hj g' => by
      obtain ⟨q, hq, hb⟩ := Option.map_eq_some_iff.mp g'
      exact hj (h.law.2.1 j k q hq p (by rw [h.slot]; rfl) hb)) (by rw [hq]; nofun)
  have hl : (((t.endSlot k).setLatch p.bay p.direction.target).bay p.bay).latch = p.direction.target :=
    (State.Carries.bay_latch_setLatch (t.endSlot k) p.bay p.direction.target p.bay).trans (if_pos rfl)
  have hi' := hk.idle hi
  have hl' := (hk.latch p.bay).trans hl
  show State.DriveDone k p.bay p.direction.target (t.startDrive k)
  rw [hw]
  generalize ((t.endSlot k).setLatch p.bay p.direction.target).latchSuccess p.bay p.direction = w at hr hi' hl'
  have hs : w.slotService = w := by
    unfold State.slotService
    rw [hr.queue]
    rfl
  rw [hs]
  exact ⟨hr, hi', hl'⟩

theorem State.DriveDone.kept {b : BayNo} {y : LatchPosition} (h : State.DriveDone k b y t) (hk : t.LatchesKept u)
    (hu : u.Unreserved (.latch k)) : State.DriveDone k b y u :=
  ⟨⟨hk.queue.trans h.rests.queue, (hk.slot k).trans h.rests.slot, hu⟩, hk.idle h.idle, (hk.latch b).trans h.latch⟩

theorem State.DriveDone.tellActive {b : BayNo} {y : LatchPosition} (h : State.DriveDone k b y t) (o : Owner) :
    State.DriveDone k b y (t.tellActive o) :=
  have hi := State.Idles.tellActive t b o
  ⟨h.rests.tellActive o, hi.idle h.idle, (hi.latch h.idle).trans h.latch⟩

end

end Sys2Proof.Machine
end

section
/-! SUPPORT. The settling of O37: settled reports, the ends of the phases, and the owners told (R91, R96, R98, R99, R117, R137). -/

namespace Sys2Proof.Machine

set_option Elab.async false

section
variable {s u : State} {b : BayNo} {k : SlotNo} {l : LaneNo} {x : Session} {p : LatchRequest} {e : Reservation}

/-! ### The owners told where the change closes -/

/-- The last decrease has settled, and e is ADMITTED (R91, R98). -/
structure State.Admits (u : State) (e : Reservation) : Prop where
  phase : u.phase = .decreasing
  still : u.moving = false
  mem : e ∈ u.reservations
  state : e.state = .admitted

/-- An entry with its reservation ACTIVE. -/
abbrev Reservation.activated (e : Reservation) : Reservation := { e with state := .active }

theorem State.Admits.granted (h : u.Admits e) : u.granted.Admits e where
  phase := u.granted_grants.phase.trans h.phase
  still := u.granted_grants.moving.trans h.still
  mem := by
    obtain ⟨m, hm, -⟩ := u.granted_grants.list
    rw [hm]
    exact List.mem_append_left m h.mem
  state := h.state

theorem State.Admits.owner (h : u.Admits e) : e.owner ∈ u.admittedOwners := State.mem_admittedOwners.mpr ⟨e, h.mem, h.state, rfl⟩

theorem State.Admits.activated (h : u.Admits e) : e.activated ∈ u.increased.reservations :=
  List.mem_map.mpr ⟨e, h.mem, by unfold Reservation.activate; rw [if_pos h.state]⟩

theorem State.Admits.wakes (h : u.Admits e) (hl : e.owner = .lane l) (hn : u.NamingLaw) (hw : u.LaneLaw)
    (hx : (u.lane l).session = some x) (hp : x.phase = .admitting) : u.granted.LaneWoken l x e.activated u.closeChange := by
  have hg := u.granted_grants
  have hgx : (u.granted.lane l).session = some x := by
    rw [hg.held l (by rw [hx]; rfl)]
    exact hx
  obtain ⟨h1, h2⟩ := hw.seat hn hx
  have hs := ((State.soleSeat hx h1 h2).grantLanes 4).1
  refine State.closeChange_tells (o := .lane l) (P := u.granted.LaneReady l e.activated)
    (Q := u.granted.LaneWoken l x e.activated) h.granted.phase h.granted.still (hl ▸ h.granted.owner)
    (fun y z => ⟨(State.Follows.marks _ y z).trans (.increased _), rfl, h.granted.activated⟩)
    (fun t o ho ht => ht.tellActive hl ho) (fun t ht => ht.wake hgx hp)
    (fun t y z ht => ht.step hs (.marks t y z) ht.stands)
    (fun t ht => ht.step hs (.takePass t) (State.mem_takePass ht.stands rfl))
    (fun t ht => ht.step hs (.increased t) (State.mem_increased ht.stands rfl))
    (fun t o ht => ht.step hs (.tellActive t o) (State.mem_tellActive ht.stands fun k _ g => ?_))
    (fun t ht => ht.step hs (.endPass t) ht.stands)
    (fun t ht => ht.step hs (.relamp t) (by rw [t.relamp_reservations]; exact ht.stands))
    (fun t ht => ht.step hs (.reAttn t) ht.stands)
  rw [show e.activated.owner = .lane l from hl] at g
  cases g

theorem State.Admits.ready (h : u.Admits e) (hL : u.LatchLaw) (hk : u.slot k = .reserving p) (y z : Bool) :
    u.granted.SlotReady k p e.activated (State.increased { u.granted with reallocRequest := y, passPending := z }) where
  frame := .tables rfl rfl
  law := (u.granted_grants.latches hL).congr rfl rfl fun _ => rfl
  slot := (State.slot_congr u.granted_grants.slots k).trans hk
  latch := rfl
  stands := h.granted.activated

theorem State.Admits.drives (h : u.Admits e) (hl : e.owner = .latch k) (hL : u.LatchLaw) (hk : u.slot k = .reserving p)
    (ht : (u.bay p.bay).latch ≠ p.direction.target) (hc : (u.bay p.bay).targetClosed p.direction = false) :
    State.SlotDrives k p e.activated u.closeChange := by
  have hb := u.granted_grants.bay p.bay
  refine State.closeChange_tells (o := .latch k) (P := u.granted.SlotReady k p e.activated) (Q := State.SlotDrives k p e.activated)
    h.granted.phase h.granted.still (hl ▸ h.granted.owner) (h.ready hL hk) (fun t o ho ht => ht.tellActive hl ho)
    (fun t hr => hr.drive (by rw [hb]; exact ht) (by rw [hb]; cases hd : p.direction <;> rw [hd] at hc <;> exact hc))
    (fun t y z ht => ht.kept .of_bays ht.stands)
    (fun t ht => ht.kept (.takePass t) (State.mem_takePass ht.stands rfl))
    (fun t ht => ht.kept .of_bays (State.mem_increased ht.stands rfl))
    (fun t o ht => ht.tellActive hl o) (fun t ht => ht.kept .of_bays ht.stands)
    (fun t ht => ht.kept (.relamp t) (by rw [t.relamp_reservations]; exact ht.stands))
    (fun t ht => ht.kept .of_bays ht.stands)

theorem State.Admits.completes (h : u.Admits e) (hl : e.owner = .latch k) (hL : u.LatchLaw) (hk : u.slot k = .reserving p)
    (hq : u.latchQueue = []) (ht : (u.bay p.bay).latch = p.direction.target ∨ (u.bay p.bay).targetClosed p.direction = true) :
    State.DriveDone k p.bay p.direction.target u.closeChange := by
  have hb := u.granted_grants.bay p.bay
  have ht' : (u.granted.bay p.bay).latch = p.direction.target ∨ (u.granted.bay p.bay).targetClosed p.direction = true := by
    rw [hb]
    cases hd : p.direction <;> rw [hd] at ht <;> exact ht
  exact State.closeChange_tells (o := .latch k) (P := fun t => u.granted.SlotReady k p e.activated t ∧ t.latchQueue = [])
    (Q := State.DriveDone k p.bay p.direction.target) h.granted.phase h.granted.still (hl ▸ h.granted.owner)
    (fun y z => ⟨h.ready hL hk y z, u.granted_grants.latchQueue.trans hq⟩)
    (fun t o ho ht => ⟨ht.1.tellActive hl ho, State.tellActive_queue ht.2 o⟩) (fun t hr => hr.1.done hr.2 ht')
    (fun t y z ht => ht.kept .of_bays ht.rests.unreserved)
    (fun t ht => ht.kept (.takePass t) ht.rests.unreserved.takePass)
    (fun t ht => ht.kept .of_bays ht.rests.unreserved.increased)
    (fun t o ht => ht.tellActive o) (fun t ht => ht.kept .of_bays ht.rests.unreserved)
    (fun t ht => ht.kept (.relamp t) (ht.rests.unreserved.congr t.relamp_reservations))
    (fun t ht => ht.kept .of_bays ht.rests.unreserved)

/-! ### The reports -/

theorem exec_settledReport (s : State) (b : BayNo) (v : Half) :
    exec (.settledReport b v) s = .next (s.modOutput b (Output.report v.toNat)).closeChange := rfl

/-- An output that the last report leaves, by its bay (R96). -/
theorem State.report_output {v : Nat} {o : BayNo → Output} (hm : (s.output b).inMotion = true) (hv : v = (s.output b).issued)
    (ho : ∀ a : BayNo, o a = if a = b then { s.output b with settled := v, inMotion := false } else s.output a) (a : BayNo) :
    (s.modOutput b (Output.report v)).output a = o a := by
  rw [State.output_modOutput, Output.report_of_confirmed hm hv, ho]
  exact if_congr eq_comm rfl rfl

/-- A report while another bay is in motion (R96, R98). -/
theorem settledReport_waits {c : BayNo} {v : Half} (hp : s.phase = .decreasing) (hc : c ≠ b) (hm : (s.output c).inMotion = true) :
    ∃ t, exec (.settledReport b v) s = .next t ∧ t.phase = .decreasing ∧ s.Untouched t [] [] ∧
      (∀ a : BayNo, a ≠ b → t.output a = s.output a) ∧
      ((s.output b).inMotion = true → v.toNat = (s.output b).issued →
        t.output b = { s.output b with settled := v.toNat, inMotion := false }) ∧
      ((s.output b).inMotion = false ∨ v.toNat ≠ (s.output b).issued → t.output b = s.output b) := by
  have ho : ∀ a, (s.modOutput b (Output.report v.toNat)).output a =
      if b = a then (s.output b).report v.toNat else s.output a := fun a => State.output_modOutput ..
  have hu := (s.report_untouched b v.toNat).closeChange
  obtain ⟨h1, h2⟩ := State.closeChange_waits (u := s.modOutput b (Output.report v.toNat)) (by
    show s.phase ≠ .idle
    rw [hp]
    nofun) (State.moving_iff.mpr ⟨c, by rw [ho, if_neg hc.symm]; exact hm⟩)
  refine ⟨_, exec_settledReport s b v, h2.trans hp, hu, fun a ha => ?_, fun g1 g2 => ?_, fun g => ?_⟩
  · rw [h1, ho, if_neg ha.symm]
  · rw [h1, ho, if_pos rfl, Output.report_of_confirmed g1 g2]
  · rw [h1, ho, if_pos rfl, Output.report_of_other g]

/-- The last report of the decreasing phase (R91, R98). -/
theorem settledReport_ends {v : Half} {o : BayNo → Output} (hp : s.phase = .decreasing) (hm : (s.output b).inMotion = true)
    (hv : v.toNat = (s.output b).issued) (hc : ∀ c : BayNo, c ≠ b → (s.output c).inMotion = false)
    (ho : ∀ a : BayNo, o a = if a = b then { s.output b with settled := v.toNat, inMotion := false } else s.output a) :
    ((∃ (a : BayNo) (w : Nat), (o a).target = some w ∧ (o a).settled < w) →
      ∃ t, exec (.settledReport b v) s = .next t ∧ t.phase = .increasing ∧ s.Untouched t [] [] ∧
        (∀ e ∈ t.reservations, e.state ≠ .admitted) ∧
        ∀ a : BayNo,
          (∀ w : Nat, (o a).target = some w → (o a).settled < w →
            t.output a = { o a with issued := w, inMotion := true, closed := true }) ∧
          ((∀ w : Nat, (o a).target = some w → w ≤ (o a).settled) → t.output a = o a)) ∧
    ((∀ (a : BayNo) (w : Nat), (o a).target = some w → w ≤ (o a).settled) → s.passPending = false →
      s.reallocRequest = false → (∀ e ∈ s.reservations, e.state ≠ .admitted) → s.GrantsNone →
        ∃ t, exec (.settledReport b v) s = .next t ∧ t.phase = .idle ∧ s.Untouched t [] [] ∧
          ∀ a : BayNo, t.output a = { o a with target := none }) := by
  have hout := State.report_output hm hv ho
  have hstill := State.report_still hm hv hc
  have hu := (s.report_untouched b v.toNat).closeChange
  refine ⟨fun ⟨a, w, ha, hlt⟩ => ?_, fun hle hq hr hn hg => ?_⟩
  · obtain ⟨h1, h2, h3⟩ := State.closeChange_increases (u := s.modOutput b (Output.report v.toNat)) hp hstill
      ⟨a, by rw [hout, Output.increase_of_lt ha hlt]⟩
    refine ⟨_, exec_settledReport s b v, h2, hu, h3, fun c => ⟨fun z hz hl => ?_, fun hz => ?_⟩⟩
    · rw [h1, hout, Output.increase_of_lt hz hl]
    · rw [h1, hout, Output.increase_of_le hz]
  · obtain ⟨h1, h2⟩ := State.closeChange_endsPass_at_once (u := s.modOutput b (Output.report v.toNat)) (State.report_calm hr hq hg) hp
      hstill hn fun a w => by rw [hout]; exact hle a w
    exact ⟨_, exec_settledReport s b v, h2, hu, fun a => by rw [h1, hout]⟩

/-- The owners told by the last report of the decreasing phase (R91, R117, R137). -/
theorem settledReport_tells {v : Half} (hp : s.phase = .decreasing) (hm : (s.output b).inMotion = true)
    (hv : v.toNat = (s.output b).issued) (hc : ∀ c : BayNo, c ≠ b → (s.output c).inMotion = false) (he : e ∈ s.reservations)
    (ha : e.state = .admitted) (hn : s.NamingLaw) (hw : s.LaneLaw) (hL : s.LatchLaw) :
    ∃ t, exec (.settledReport b v) s = .next t ∧
      (∀ (l : LaneNo) (x : Session), e.owner = .lane l → (s.lane l).session = some x → x.phase = .admitting →
        t.lane l = { s.lane l with session := some { x with phase := .waking }, switch := some x.bay } ∧
        { e with state := .active } ∈ t.reservations ∧
        ((s.link x.bay).state ≠ .down → t.LaneOrdered x.bay (.wake l))) ∧
      (∀ (k : SlotNo) (p : LatchRequest), e.owner = .latch k → s.slot k = .reserving p →
        ((s.bay p.bay).latch ≠ p.direction.target → (s.bay p.bay).targetClosed p.direction = false →
          t.slot k = .driving p ∧ (t.bay p.bay).latch = .moving ∧ { e with state := .active } ∈ t.reservations) ∧
        ((s.bay p.bay).latch = p.direction.target ∨ (s.bay p.bay).targetClosed p.direction = true →
          s.latchQueue = [] →
            t.slot k = .free ∧ (t.bay p.bay).latch = p.direction.target ∧
              ∀ f ∈ t.reservations, f.owner ≠ .latch k)) := by
  have hA : (s.modOutput b (Output.report v.toNat)).Admits e := ⟨hp, State.report_still hm hv hc, he, ha⟩
  refine ⟨_, exec_settledReport s b v, fun l x hl hx hpx => ?_, fun k p hl hk => ⟨fun h1 h2 => ?_, fun h1 h2 => ?_⟩⟩
  · have h := hA.wakes hl hn hw hx hpx
    have hg := (s.modOutput b (Output.report v.toNat)).granted_grants
    have hlane : (s.modOutput b (Output.report v.toNat)).granted.lane l = s.lane l := hg.held l (by
      show (s.lane l).session.isSome = true
      rw [hx]
      rfl)
    exact ⟨h.lane.trans (by rw [hlane]), h.stands, fun hd => h.order (by rw [hg.link]; exact hd)⟩
  · have h := hA.drives hl hL hk h1 h2
    exact ⟨h.slot, h.moving, h.stands⟩
  · have h := hA.completes hl hL hk h2 h1
    exact ⟨h.rests.slot, h.latch, h.rests.unreserved⟩

/-- Settles O37: a report that waits, one that ends the decreasing phase with the owners told, and one that ends the pass. -/
theorem settledReportsConfirmAndEndThePhase : Obligations.SettledReportsConfirmAndEndThePhase := by
  unfold Obligations.SettledReportsConfirmAndEndThePhase
  refine ⟨fun s b c v => settledReport_waits, fun s b v o => settledReport_ends, fun s b v e => settledReport_tells, ?_⟩
  intro s b v hp hm hv hc hq hr hg
  have hout := State.report_output hm hv fun _ => rfl
  obtain ⟨h1, h2⟩ := State.closeChange_endsPass (u := s.modOutput b (Output.report v.toNat)) (State.report_calm hr hq hg) hp
    (State.report_still hm hv hc)
  refine ⟨_, exec_settledReport s b v, h2, (s.report_untouched b v.toNat).closeChange, ?_, fun a ha => ?_⟩
  · rw [h1, hout, if_pos rfl]
  · rw [h1, hout, if_neg ha]

end

end Sys2Proof.Machine
end
